-- ==== Sys2Proof/Word.lean ====
section
/-!
DEFINITION. The byte type of the Lomela 8200 (spec/00_scope.md, R4, R5) and the number type of its
binary64 formulas. Everything computed on them stands in Machine/Bytes.lean and Machine/B64.lean.
-/
namespace Sys2Proof

/-- One byte of a register, a structure or a packet (R5). -/
abbrev Byte := BitVec 8

/-- A binary64 number m * 2^e (R194, R346, R352, R356), with at most 53 bits in m. -/
structure B64 where
  m : Int := 0
  e : Int := 0
deriving DecidableEq, Repr, Inhabited

end Sys2Proof
end

