-- ==== Sys2Proof/Machine/StateCmd.lean ====
section
/-!
DEFINITION. Commands as the device holds them, completions, and what the device puts out
(spec/03_command_interface.md). Field docstrings read: text | width | source | reset.
-/
namespace Sys2Proof.Machine

/-- A DMA descriptor as the device reads it from host memory (R59, Table 3-11). -/
structure Desc where
  /-- ADDR -/
  addr : Nat := 0
  /-- LEN -/
  len : Nat := 0
  /-- CTRL, bit 0 LAST -/
  ctrl : Nat := 0
deriving DecidableEq, Repr, Inhabited

/-- Where a command datagram came from, to which the answer goes (R77). -/
structure EthFrom where
  port : Nat := 0
  mac : Nat := 0
  ip : Nat := 0
  udp : Nat := 0
deriving DecidableEq, Repr, Inhabited

/-- A command as fetched: the slot of Table 3-9 with its inline parameters (LENGTH is their
count), its parameter block, and what a DMA of it reads from host memory (R55, R58, R59).
`dt` is the number of TB clocks that have passed since the row before (log 1). -/
structure Cmd where
  dt : Nat := 0
  ring : Nat := 0
  tag : Nat := 0
  seq : Nat := 0
  flags : Nat := 0
  params : List Byte := []
  pblk : List Byte := []
  descs : List Desc := []
  data : List Byte := []
  counter : Nat := 0
  src : Option EthFrom := none
deriving DecidableEq, Repr, Inhabited

/-- The ring and the TAG by which the device knows a command (R64). -/
abbrev CmdId := Nat × Nat

/-- Status codes (R71, Table 3-14). -/
inductive Status where
  | ok | badOpcode | badParam | badLength | version | denied | authFail | replay | state | busy
  | noSpace | scalerWidth | limit | verifyFail | cancelled | timeout | hwFault | retired | rejected
deriving DecidableEq, Repr, Inhabited

/-- What a completion says beside its TAG: STATUS, DETAIL, and the 16 bytes of RESULT or,
with another status, the fields of Table 3-13. `ext` is the structure the command writes to
its ADDR, or returns as the extended result on Ethernet (R77), with the address. -/
structure Reply where
  status : Status := .ok
  detail : Nat := 0
  result : List Byte := []
  loc : Nat := 0
  offset : Nat := 0
  unit : Nat := 0xFFFF
  aux : Nat := 0
  addr : Nat := 0
  ext : List Byte := []
deriving DecidableEq, Repr, Inhabited

/-- What an exclusive command holds (R66). -/
inductive Resource where
  | device | channel (n : Nat) | capture (n : Nat) | course (n : Nat) | pairLink | fwSlot (n : Nat)
  | camera (n : Nat) | bar (n : Nat) | gate (n : Nat) | i2c (n : Nat) | mgmt (n : Nat) | pmb0
  | encoder | unit (n : Nat) | memory
deriving DecidableEq, Repr, Inhabited

/-- A command in flight (R33): from its fetch until its completion entry is written. -/
structure InFlight where
  /-- the command as fetched -/
  cmd : Cmd := {}
  /-- OPCODE -/
  opcode : Nat := 0
  /-- it has started (R65, R67) -/
  started : Bool := false
  /-- its slot is held while a reservation of its counter is journalled (04 R94) -/
  parked : Bool := false
  /-- a point after which it is no longer abortable has passed (R476), or its chapter marks it so -/
  abortable : Bool := false
  /-- what it holds exclusively (R66) -/
  holds : List Resource := []
  /-- bits that its chapter keeps with it (two ledgers of its progress) -/
  note : Nat := 0
  /-- a result kept for its completion -/
  reply : Option Reply := none
  /-- what its transfer to the host writes at its end, and where (R59) -/
  out : Option (List Desc × List Byte) := none
  /-- the record it waits for is not yet acknowledged (R396): RECORD_SEQ -/
  recordWait : Option Nat := none
  /-- the status that the active obtained for it, of a record (R396) -/
  expect : Status := .ok
deriving DecidableEq, Repr, Inhabited

/-- Traffic classes of a course or the pair link (R295). -/
inductive Cls where
  | data | prio | ctrl
deriving DecidableEq, Repr, Inhabited

/-- Output pins the device drives (18 Table 18-3). -/
inductive Pin where
  | speedLimitN | faultN | pairActive | pairYieldN | gpio (n : Nat) | camTrig (n : Nat) (vc : Nat) | encCnv (n : Nat)
deriving DecidableEq, Repr, Inhabited

/-- What the device puts out on its interfaces. The log of it is the model's own field (log 4). -/
inductive Output where
  /-- a completion entry written at an index of a completion ring (R62) -/
  | completion (ring idx : Nat) (bytes : List Byte)
  /-- results written to host memory (R60) -/
  | hostWrite (addr : Nat) (bytes : List Byte)
  /-- bulk data moved to the host under a descriptor list (R59) -/
  | hostDma (descs : List Desc) (bytes : List Byte)
  /-- an MSI-X vector (R63, R421) -/
  | msix (vector : Nat)
  /-- an event entry written at an index of the event ring (R419) -/
  | eventEntry (idx : Nat) (bytes : List Byte)
  /-- a UDP datagram from the command port (R77) -/
  | datagram (port : Nat) (dst : EthFrom) (bytes : List Byte)
  /-- an ARP reply (R75) -/
  | arpReply (port mac ip : Nat)
  /-- an ICMP echo reply (R75) -/
  | icmpReply (port ip : Nat) (bytes : List Byte)
  /-- a PTP message sent: kind 0 Sync, 1 Announce, 2 Delay_Req, 3 Pdelay_Req, 4 Follow_Up, 5 Delay_Resp, 6 Pdelay_Resp, 7 Pdelay_Resp_Follow_Up, with its origin time in units of 2^-16 ns, and where to: group 0 stands for EtherType 0x88F7, else the IPv4 group and the UDP port (R139) -/
  | ptp (port kind seq : Nat) (time : Int) (group udp : Nat)
  /-- an Announce, with what the BMCA ranks (R139) -/
  | ptpAnnounce (port seq : Nat) (time : Int) (identity priority1 clockClass accuracy variance priority2 : Nat) (group udp : Nat)
  /-- an IGMPv2 membership report for a group (R75) -/
  | igmpReport (port group : Nat)
  /-- data returned by a BAR2 read, with the EP bit (R52) -/
  | windowData (bytes : List Byte) (ep : Bool)
  /-- a 66-bit block put on a lane (R285): its sync header and its 64 payload bits before the scrambler -/
  | block (lane hdr : Nat) (bytes : List Byte)
  /-- bits of a PRBS stream put on a lane (R290) -/
  | prbs (lane : Nat) (bits : List Bool)
  /-- a pin driven to a level -/
  | pin (p : Pin) (level : Bool)
  /-- a pulse on a pin, width in units of 8 ns -/
  | pulse (p : Pin) (width : Nat)
  /-- an I2C write or PMBus transaction: bus (5 is PMB0), address, bytes -/
  | i2c (bus addr : Nat) (bytes : List Byte)
  /-- a write to SPI NOR begun: region code and bytes (R433) -/
  | nor (region : Nat) (bytes : List Byte)
  /-- TAP data register made available (R99) -/
  | tap (dr : Nat)
deriving DecidableEq, Repr, Inhabited

end Sys2Proof.Machine
end

