-- ==== Sys2Proof/Machine/StateBar.lean ====
section
/-!
DEFINITION. State of the bars and the bar render engines (spec/09_bar_rendering.md), with the
colour loop's per-bar trims.
-/
namespace Sys2Proof.Machine

/-- BAR_CONFIG (Table 9-4). -/
structure BarCfg where
  kind : Nat := 0
  channel : Nat := 0
  bits : Nat := 1
  interleave : Nat := 1
  /-- ENGINE as given, 0xFF for the bar's own -/
  engine : Nat := 0xFF
  rle : Bool := false
  comp : Bool := false
  nearest : Bool := false
  colFirst : Nat := 0
  colLast : Nat := 0
  offset : Nat := 0
deriving DecidableEq, Repr, Inhabited

/-- A row of a head (R224). -/
structure RowCfg where
  d : Nat := 0
  nozzles : Nat := 0
  phase : Nat := 0
deriving DecidableEq, Repr, Inhabited

/-- A head place of a bar (R224). -/
structure Head where
  /-- head context | 8 | 09 R224 | none (R253) -/
  ctx : Option Nat := none
  /-- rows | at most 8 | 09 R224 | none (R253) -/
  rows : List RowCfg := []
  /-- STITCH_D | 32 | 09 R224 | DESIGN CHOICE 0, log 6 -/
  stitch : Int := 0
  /-- BRIDGE_SLOT | 5 | 09 Table 9-5 | DESIGN CHOICE 0, log 6 -/
  slot : Nat := 0
deriving DecidableEq, Repr, Inhabited

/-- A segment descriptor (R225, Table 9-7). -/
structure Seg where
  valid : Bool := false
  head : Nat := 0
  row : Nat := 0
  step : Int := 1
  nozzle0 : Nat := 0
  nozzles : Nat := 0
  col0 : Nat := 0
  lowA : Nat := 0
  lowB : Nat := 0
  highA : Nat := 0
  highB : Nat := 0
deriving DecidableEq, Repr, Inhabited

/-- BAR_DERIVE's settings (R235). -/
structure Derive where
  mask : Nat := 0
  sx : Nat := 0
  sy : Nat := 0
  /-- loaded tables: ink, 289 entries -/
  tables : List (Nat × List Nat) := []
deriving DecidableEq, Repr, Inhabited

/-- A nozzle's place and its map entry (Table 9-1). -/
structure NozzleEntry where
  head : Nat := 0
  row : Nat := 0
  nozzle : Nat := 0
  entry : Nat := 0x0300
deriving DecidableEq, Repr, Inhabited

/-- One copy of what a bar's line boundary switches (R244). -/
structure BarImage where
  /-- threshold planes T0, T1, T2 once loaded | 196,608 bytes | 09 R234 | every threshold 255 (R253) -/
  planes : Option (List Byte) := none
  /-- nozzle map entries that are not 0x0300 | 16 each | 09 R232 | 0x0300 (R253) -/
  nozzles : List NozzleEntry := []
  /-- derive tables | - | 09 R235 | zero (R253) -/
  derive : Derive := {}
  /-- trim curves that are not the identity: zone, 17 points Q1.14 | - | 09 R231 | identity (R253) -/
  trims : List (Nat × List Nat) := []
  /-- trim generation | 32 | 13 R347 | DESIGN CHOICE 0, log 6 -/
  gen : Nat := 0
deriving DecidableEq, Repr, Inhabited

/-- A catch-up front (R246, R247). -/
structure Front where
  dNear : Int := 0
  dFar : Int := 0
  /-- contone columns FW, as intervals -/
  cols : List (Nat × Nat) := []
  /-- next contone line to compose -/
  next : Nat := 0
  /-- the window is complete: from this press line tick on its rows' lines have what they need -/
  start : Option Nat := none
  /-- C_eff reaches it (R250) -/
  served : Bool := true
deriving DecidableEq, Repr, Inhabited

/-- A bar (R223). -/
structure Bar where
  /-- configuration | - | 09 R223 | unconfigured (R253) -/
  cfg : Option BarCfg := none
  /-- engine serving the bar | 4 | 09 R239 | own (R253) -/
  engine : Nat := 0
  /-- heads 0 to 31 | 32 x Head | 09 R224 | none (R253) -/
  heads : List Head := List.replicate 32 {}
  /-- segment entries | 128 x 32 bytes | 09 R225 | none (R253) -/
  segs : List Seg := List.replicate 128 {}
  /-- the set is committed | 1 | 09 R226 | 0 (R253) -/
  committed : Bool := false
  /-- what is active at the line boundary | - | 09 R244 | as above -/
  act : BarImage := {}
  /-- pending copy | - | 09 R244 | none -/
  pend : Option BarImage := none
  /-- commands that complete when the pending copy takes effect | - | 09 R244 | none -/
  pendCmds : List CmdId := []
  /-- BAR_ENABLE in force | 1 | 09 R242 | 0 (R253) -/
  enabled : Bool := false
  /-- BAR_DISABLE waiting for the line boundary: commands, FLUSH | - | 09 R243 | none -/
  disabling : Option (List CmdId × Bool) := none
  /-- heads to disable at the line boundary: head, command | - | 09 R245 | none -/
  headOff : List (Nat × Option CmdId) := []
  /-- heads to enable at the line boundary: head, command | - | 17 R441 | none -/
  headOn : List (Nat × CmdId) := []
  /-- first run line the bar prints | 64 | 09 R242 | 0 -/
  firstLine : Nat := 0
  /-- last run line pushed | 64 | 09 R243 | DESIGN CHOICE 0, log 6 -/
  lastPushed : Nat := 0
  /-- render load of the last line, per mille | 32 | 09 Table 9-10 | DESIGN CHOICE 0, log 6 -/
  load : Nat := 0
  /-- ALIGN_F in force | 16 | 10 R261 | 0 (R282) -/
  alignF : Int := 0
  /-- ALIGN_R in force | 16 | 10 R261 | 0 (R282) -/
  alignR : Int := 0
  /-- ALIGN targets with their command | - | 10 R263 | none -/
  alignTo : Option (Int × Int × List CmdId) := none
  /-- catch-up fronts | - | 09 R246 | none -/
  fronts : List Front := []
  /-- lead of the bar in catch-up | - | 09 R248 | none -/
  catchLead : Option Nat := none
  /-- TB1 at the bar's EV_CATCHUP_BEGIN, 2^-32 s | 96 | 09 R252 | 0 -/
  catchSince : Int := 0
  /-- engine swap under way: TB1 at the verdict, the unit retired, the criterion | - | 09 Table 9-3 | none -/
  swapping : Option (Int × Nat × Nat) := none
  /-- images superseded while lines of earlier ticks wait to be rendered: the tick from which the next one holds, oldest first | - | 09 R244 | none -/
  olds : List (Nat × BarImage) := []
deriving DecidableEq, Repr, Inhabited

/-- A head context (R224, R245, R278, R375). -/
structure HeadCtx where
  /-- bar and head it is assigned to | - | 09 R224 | none (R253) -/
  owner : Option (Nat × Nat) := none
  /-- enabled | 1 | 17 R441 | 0 -/
  enabled : Bool := false
  /-- retired | 1 | 02 R37 | 0 -/
  retired : Bool := false
  /-- halted from run line N_h on | - | 10 R278 | none (R282) -/
  halted : Option Nat := none
  /-- N_h is fixed and the bar's next line boundary has not come | - | 10 Table 10-6 | none -/
  haltAt : Option Nat := none
  /-- temperature, 1/16 degree C as reported | 16 | 14 R375 | none reported -/
  temp : Option Int := none
  /-- HFLAGS of the last report | 4 | 11 Table 11-6 | DESIGN CHOICE 0, log 6 -/
  hflags : Nat := 0
  /-- the temperature is stale | 1 | 14 R375 | DESIGN CHOICE 0, log 6 -/
  stale : Bool := false
  /-- at or above the warning level | 1 | 14 R375 | 0 -/
  warm : Bool := false
  /-- its module identity record is complete | 1 | 17 R440 | 0 -/
  complete : Bool := false
  /-- module identity record | 4,096 bytes | 17 R437 | none read -/
  mir : List Byte := []
deriving DecidableEq, Repr, Inhabited

/-- BRE (spec/09). -/
structure Bars where
  /-- bars B0 to B9 | 10 x Bar | 09 R223 | unconfigured, engine b (R253) -/
  bars : List Bar := (List.range 10).map fun b => ({ engine := b } : Bar)
  /-- head contexts | 256 x HeadCtx | 09 R224 | free (R253) -/
  ctxs : List HeadCtx := List.replicate 256 {}
  /-- claim under way: TB1 at the fault, 2^-32 s | - | 09 R246 | none -/
  catchUp : Option Int := none
deriving DecidableEq, Repr, Inhabited

end Sys2Proof.Machine
end

