-- ==== Sys2Proof/Machine/StateBoard.lean ====
section
/-!
DEFINITION. State of the pins, resets, boot, module records, JTAG TAP and self-tests
(spec/17_bring_up_and_discovery.md, spec/18_signals_and_electrical.md).
-/
namespace Sys2Proof.Machine

/-- A module identity record read (R438, R440). -/
structure Mir where
  /-- PATH: bus 0 to 4, or 0x80 + course -/
  path : Nat := 0
  slot : Nat := 0
  bytes : List Byte := []
  /-- 0 good, 1 bad, 2 incomplete -/
  st : Nat := 0
  /-- read since its course last came up (R441) -/
  fresh : Bool := true
deriving DecidableEq, Repr, Inhabited

/-- A HEAD_DISCOVER under way (R440). -/
structure Discover where
  cmd : CmdId := (0, 0)
  /-- paths still to be read: path, slot -/
  todo : List (Nat × Nat) := []
  found : List Mir := []
  changed : Nat := 0
deriving DecidableEq, Repr, Inhabited

/-- Why the device is held in reset (R430, R373, R456). -/
inductive Hold where
  | porst | sysRst | trip | supply
deriving DecidableEq, Repr, Inhabited

/-- Pins, resets and boot (spec/17, spec/18). -/
structure Board where
  /-- GPIO direction, 1 output | 16 | 17 R443 | 0 (R445) -/
  gpioDir : Nat := 0
  /-- GPIO open drain | 16 | 17 R443 | DESIGN CHOICE 0, log 6 -/
  gpioOd : Nat := 0
  /-- GPIO output levels | 16 | 17 R443 | DESIGN CHOICE 0, log 6 -/
  gpioOut : Nat := 0
  /-- GPIO input levels | 16 | 17 R443 | 0 (pull-down, 18 Table 18-3) -/
  gpioIn : Nat := 0
  /-- SPEED_LIMIT_N driven low | 1 | 01 R23 | 0 (10 R282) -/
  speedLimit : Bool := false
  /-- FAULT_N driven low | 1 | 18 Table 18-3 | 1 -/
  faultN : Bool := true
  /-- DEV_STATUS.FAULT | 1 | 03 Table 3-4 | 0 -/
  fault : Bool := false
  /-- reasons that hold the device in reset | - | 17 R430 | none -/
  holds : List Hold := []
  /-- boot under way with its cause | - | 17 Table 17-2 | DESIGN CHOICE power-on, cause 1, log 6 -/
  booting : Option Nat := some 1
  /-- strap BOOT_HOLD | 1 | 18 R453 | 0 (open) -/
  bootHold : Bool := false
  /-- strap PCIE_GEN3 | 1 | 18 R453 | 0 (open) -/
  gen3 : Bool := false
  /-- the saved configuration was refused at boot | 1 | 17 R435 | 0 -/
  configRefused : Bool := false
  /-- subsystem vendor ID, from the board record at boot | 16 | 03 Table 3-1, 17 R436 | 0 -/
  subsysVendor : Nat := 0
  /-- subsystem ID, from the board record at boot | 16 | 03 Table 3-1, 17 R436 | 0 -/
  subsysId : Nat := 0
  /-- module records held | - | 17 R440 | none (R445) -/
  mirs : List Mir := []
  /-- HEAD_DISCOVER under way | - | 17 R440 | none -/
  discover : Option Discover := none
  /-- TAP instruction register | 5 | 18 R469, 04 R99 | IDCODE: DESIGN CHOICE, log 6 -/
  tap : Nat := 0
  /-- the debug access instruction is the one in the TAP's instruction register | 1 | 04 R99 | 0 -/
  tapDebug : Bool := false
  /-- EXTEST, CLAMP or HIGHZ has been honoured: a device fault until a reset | 1 | 04 R99 | 0 -/
  scan : Bool := false
  /-- PLLs out of lock, by clock domain | 14 | 02 R35 | none -/
  pllLost : Nat := 0
  /-- configuration commands in force, in order, as SYS_CONFIG_SAVE stores them: opcode, parameters, block | - | 17 R434 | none -/
  inForce : List (Nat × List Byte × List Byte) := []
  /-- SYS_CONFIG_SAVE writing: slot, BOOT | - | 17 R434 | none -/
  saving : Option (Nat × Bool) := none
  /-- statuses of the commands replayed so far by SYS_CONFIG_LOAD or the boot | - | 17 R435 | none -/
  replayed : List Status := []
  /-- injections of DIAG_INJECT that still bear on what follows: unit, kind (2 an uncorrectable error has been, 4 a conversion result to be lost) | - | 17 Table 17-9 | none -/
  injects : List (Nat × Nat) := []
deriving DecidableEq, Repr, Inhabited

end Sys2Proof.Machine
end

