-- ==== Sys2Proof/Machine/StateFire.lean ====
section
/-!
DEFINITION. State of FIR: the run, line ticks, due lines, stamps (spec/10_firing.md and
spec/01_print_model.md).
-/
namespace Sys2Proof.Machine

/-- A line of a head that has fallen due (R264, R265). -/
structure DueLine where
  line : Nat := 0
  /-- blanked when it fell due: R22, or inhibit on a version 1 course -/
  blank : Bool := false
  /-- a packet for it is committed to the course queue -/
  committed : Bool := false
  /-- its packet has been sent completely -/
  sent : Bool := false
  /-- a blank packet was substituted (R265) -/
  late : Bool := false
  /-- its rows get SKIP in place of FIRE (R265, R274, R313, R314) -/
  skip : Bool := false
  /-- press line tick at which it fell due -/
  tick : Nat := 0
  /-- it fell due in catch-up before its rows' start line (09 R247) -/
  early : Bool := false
deriving DecidableEq, Repr, Inhabited

/-- A stamp sent and not yet past: run line and TB3 time, 2^-32 s (R267). -/
structure Stamp where
  line : Nat := 0
  time : Int := 0
deriving DecidableEq, Repr, Inhabited

/-- A row in the run (R266 to R270). -/
structure RowRun where
  row : Nat := 0
  /-- lines already stamped FIRE or SKIP and not cancelled are below this -/
  next : Nat := 0
  /-- FIREs sent whose time has not passed, oldest first -/
  ahead : List Stamp := []
  /-- lines cancelled and to be stamped again, rising -/
  again : List Nat := []
  /-- version 1: the last line whose packet was not blanked (R272, R273) -/
  lastSent : Option Nat := none
  /-- time of the last FIRE sent -/
  lastFire : Option Int := none
  /-- last line fired -/
  lastLine : Option Nat := none
deriving DecidableEq, Repr, Inhabited

/-- A head in the run. -/
structure HeadRun where
  bar : Nat := 0
  head : Nat := 0
  /-- next run line to fall due -/
  nextDue : Nat := 0
  due : List DueLine := []
  rows : List RowRun := []
deriving DecidableEq, Repr, Inhabited

/-- Where a frame starts in the run (R256). -/
structure FrameStart where
  frame : Nat := 0
  /-- run line of its line 0 -/
  line : Nat := 0
  capo : Int := 0
deriving DecidableEq, Repr, Inhabited

/-- A stop ordered (R258). -/
structure Stop where
  mode : Nat := 0
  /-- last run line that a mode of Table 10-1 has fixed; NOW and HALT fix none of their own -/
  last : Option Nat := none
  cmds : List CmdId := []
  reason : Nat := 1
deriving DecidableEq, Repr, Inhabited

/-- A run (R254). -/
structure Run where
  /-- RUN_ID | 32 | 10 R254 | no run (R282) -/
  id : Nat := 0
  /-- direction, true reverse | 1 | 10 R254 | no run -/
  reverse : Bool := false
  /-- line pitch p, frets | 8 | 10 R254 | no run -/
  pitch : Nat := 64
  /-- L | 32 | 10 R254 | no run -/
  frameLines : Nat := 16
  /-- FRAMES, 0 unlimited | 32 | 10 R257 | no run -/
  frames : Nat := 0
  /-- RUN_BARS | 10 | 10 R254 | no run -/
  bars : Nat := 0
  /-- MAX_SPEED of PRINT_START, mm/min | 32 | 10 Table 10-7, 15 R402 | no run -/
  maxSpeed : Nat := 0
  /-- RING_LINES and its pages | 2 x 32 | 09 R219 | no run -/
  ringLines : Nat := 0
  ringPages : Nat := 0
  /-- press line-rate ceiling at arming | 32 | 01 R23 | no run -/
  ceiling : Nat := 125000
  /-- frames started or decided, newest first | - | 10 R256 | no run -/
  starts : List FrameStart := []
  /-- run line of the next press line tick | 64 | 10 Table 10-8 | 0 -/
  nextTick : Nat := 0
  /-- frame of the next press line tick | 32 | 10 Table 10-8 | 0 -/
  frame : Nat := 0
  /-- the first tick has been raised | 1 | 10 Table 10-8 | 0 -/
  ticked : Bool := false
  /-- position of the last tick, frets | 64 | 01 R22 | none -/
  lastTick : Option Int := none
  /-- progress at the last tick, 2^-32 frets | 96 | 09 R242, 10 R264 | no run -/
  tickProgress : Int := 0
  /-- no line falls due any more (PRINT_STOP NOW and HALT) | 1 | 10 Table 10-1 | 0 -/
  dueOver : Bool := false
  /-- progress, D times 2^-32 frets: the furthest boundary of R26 | 96 | 10 R260, 01 R26 | no run -/
  progress : Int := 0
  /-- a reversal is recognised and ticks have not resumed: pos_q32 up to which the travel is counted | - | 10 R276 | none -/
  against : Option Int := none
  /-- travel against the run since the furthest boundary, 2^-32 frets | 96 | 01 R27 | none -/
  backQ : Int := 0
  /-- the web is moving against the run | 1 | 10 Table 10-8 | 0 -/
  backing : Bool := false
  /-- stop ordered | - | 10 R258 | none -/
  stop : Option Stop := none
  /-- heads in the run | - | 10 R264 | none -/
  heads : List HeadRun := []
  /-- handed over from this run line on (R408) | - | 15 R408 | none -/
  handover : Option Nat := none
  /-- it is a gate test's run flag TEST_RUN | 1 | 16 Table 16-5 | 0 -/
  test : Bool := false
deriving DecidableEq, Repr, Inhabited

/-- FIR (spec/10). -/
structure Fire where
  /-- the armed run | - | 10 R254 | none (R282) -/
  run : Option Run := none
  /-- next RUN_ID | 32 | 10 R282 | 1 (R282) -/
  nextRun : Nat := 1
  /-- lead in force, lines | 7 | 10 R268 | 32 (R282) -/
  lead : Nat := 32
  /-- lead ordered, with its commands | - | 10 R268 | none -/
  leadTo : Option (Nat × List CmdId) := none
  /-- press line ticks since the last lead step | 4 | 10 R268 | 0 -/
  leadTicks : Nat := 0
  /-- pending capo positions: frame, capo | at most 16 | 10 R256 | none (R282) -/
  capos : List (Nat × Int) := []
  /-- PRINT_INHIBIT_N asserted, as filtered | 1 | 10 R277 | 1: an open pin inhibits (18 Table 18-3), log 69 -/
  inhibit : Bool := true
  /-- SPEED_LIMIT_N asserted since TB1 | - | 01 R23 | released (R282) -/
  limitSince : Option Int := none
  /-- P_est, 2^-32 frets | 96 | 10 R260 | none -/
  est : Option Int := none
  /-- last run line fired by any row and frames begun of the last run | - | 10 Table 10-7 | 0 -/
  lastLine : Nat := 0
deriving DecidableEq, Repr, Inhabited

end Sys2Proof.Machine
end

