-- ==== Sys2Proof/Machine/StateCam.lean ====
section
/-!
DEFINITION. State of CAM: camera ports, exposures, frames, pipeline parameters, reports and the
archive (spec/12_inspection_camera.md).
-/
namespace Sys2Proof.Machine

/-- CAM_CONFIG (Table 12-5). -/
structure CamCfg where
  lanes : Nat := 1
  dataType : Nat := 0x2B
  wide : Bool := false
  cfa : Nat := 0
  exposures : Nat := 1
  trigger : Nat := 0
  sensorDelay : Nat := 0
  width : Nat := 64
  height : Nat := 2
  laneMbps : Nat := 80
  contClock : Bool := false
  i2cAddr : Nat := 0
  i2cFmt : Nat := 0
  stagger : Nat := 0
  expMidNs : Nat := 0
  timeoutMs : Nat := 1000
deriving DecidableEq, Repr, Inhabited

/-- The pipeline sections of a port but SENSOR (R335, Table 12-3). -/
structure CamParams where
  /-- BL | 4 x 16 | 12 R329 | 0 (R341) -/
  bl : List Nat := [0, 0, 0, 0]
  /-- BLG, Q2.14 | 4 x 16 | 12 R329 | 16,384 (R341) -/
  blg : List Nat := [16384, 16384, 16384, 16384]
  /-- K, Q0.16 | 4 x 16 | 12 R329 | 0 (R341) -/
  k : List Nat := [0, 0, 0, 0]
  /-- GI_THR | 16 | 12 R329 | 0 (R341) -/
  giThr : Nat := 0
  /-- LIN, none for the identity | 257 x 16 | 12 R330 | identity (R341) -/
  lin : Option (List Nat) := none
  /-- SAT | 16 | 12 R330 | 65,535 (R341) -/
  sat : Nat := 65535
  /-- G | 3 x 32 | 12 R330 | 65,536 (R341) -/
  g : List Nat := [65536, 65536, 65536]
  /-- A, Q3.12, row-major | 9 x 16 | 12 R331 | identity (R341) -/
  a : List Int := [4096, 0, 0, 0, 4096, 0, 0, 0, 4096]
  /-- OFF | 3 x 16 | 12 R331 | 0 (R341) -/
  off : List Int := [0, 0, 0]
  /-- MC, none for the identity | 3 x 257 x 16 | 12 R331 | identity (R341) -/
  mc : Option (List (List Nat)) := none
  /-- CAM_D, frets | 28 | 12 R332 | 0 (R341) -/
  camD : Nat := 0
  /-- COL_ORIGIN | 32 | 12 R332 | 0 (R341) -/
  colOrigin : Int := 0
  /-- COL_STEP, Q16.16 | 32 | 12 R332 | 0 (R341) -/
  colStep : Int := 0
  /-- ROW_ORIGIN | 32 | 12 R332 | 0 (R341) -/
  rowOrigin : Int := 0
  /-- ROW_STEP, Q16.16 | 32 | 12 R332 | 0 (R341) -/
  rowStep : Int := 0
  /-- MARGIN_N | 16 | 12 R332 | 0 (R341) -/
  marginN : Nat := 0
  /-- MARGIN_F | 32 | 12 R332 | 0 (R341) -/
  marginF : Nat := 0
  /-- CG entries that are not 16,384: column, Q2.14 | 4,096 x 16 | 12 R331 | 16,384 (R341) -/
  cg : List (Nat × Nat) := []
  /-- ROI: M_FIRST, M_LAST, R_FIRST, R_LAST | 4 x 16 | 12 R333 | 0 (R341) -/
  roi : List Nat := [0, 0, 0, 0]
deriving DecidableEq, Repr, Inhabited

/-- A CAM_PIPELINE waiting to apply (R336). -/
structure CamPend where
  cmd : Option CmdId := none
  params : CamParams := {}
  /-- sections changed -/
  sections : Nat := 0
  /-- SENSOR entries still to be written: register, value -/
  writes : List (Nat × Nat) := []
  /-- a write not acknowledged is being retried -/
  retried : Bool := false
  /-- SEQ of the first Frame Start after the last STOP, once seen -/
  start : Option Nat := none
  /-- frames to wait after it -/
  delay : Nat := 0
  /-- a calibration's result rides with it: its inline result -/
  calib : Option (List Byte) := none
deriving DecidableEq, Repr, Inhabited

/-- An exposure record (R326). -/
structure Exposure where
  vc : Nat := 0
  /-- TB0 at the firing, 2^-32 s -/
  tb0 : Int := 0
  /-- TB3 at the firing -/
  tb3 : Int := 0
  /-- t_mid in TB3 -/
  mid : Int := 0
  runId : Option Nat := none
  /-- P_mid, 2^-32 frets, once mid-exposure has come; with the marks NO_POSITION and AGAINST -/
  pMid : Option Int := none
  marks : Nat := 0
  /-- the run in force at mid-exposure, without its heads, and the capo positions then pending -/
  run : Option Run := none
  capos : List (Nat × Int) := []
deriving DecidableEq, Repr, Inhabited

/-- A line of a frame: its virtual channel, its index, its samples, raw. -/
structure CamLine where
  vc : Nat := 0
  y : Nat := 0
  px : List Nat := []
deriving DecidableEq, Repr, Inhabited

/-- A frame being received or processed (R324). -/
structure CamFrame where
  vc : Nat := 0
  seq : Nat := 0
  marks : Nat := 0
  exposure : Option Exposure := none
  /-- TB1 at its Frame Start (R326) -/
  opened : Int := 0
  /-- lines received of each exposure, with those discarded; a standard port has one exposure -/
  got : List Nat := [0, 0, 0]
  /-- exposures begun and ended, one bit each -/
  begun : Nat := 0
  ended : Nat := 0
  /-- lines delivered -/
  lines : Nat := 0
  /-- next line that the pipeline merges (R330) -/
  merged : Nat := 0
  /-- the archive's budget was positive at its Frame Start (R338) -/
  funded : Bool := false
  /-- lines waiting in the input buffer, oldest first -/
  buffered : List CamLine := []
  /-- lines the pipeline has taken, oldest first -/
  taken : List CamLine := []
  /-- parameters it is processed with and their generation -/
  params : CamParams := {}
  gen : Nat := 0
deriving DecidableEq, Repr, Inhabited

/-- A cell of a frame report (R333). -/
structure Cell where
  bandOff : Nat := 0
  zone : Nat := 0
  isPartial : Bool := false
  count : Nat := 0
  mean : List Nat := []
deriving DecidableEq, Repr, Inhabited

/-- A frame report (Table 12-2). -/
structure Report where
  port : Nat := 0
  vc : Nat := 0
  marks : Nat := 0
  seq : Nat := 0
  rows : Nat := 0
  cols : Nat := 0
  gen : Nat := 0
  /-- TB0 at mid-exposure, 2^-32 s -/
  tb0 : Int := 0
  lines : Nat := 0
  tb3 : Int := 0
  runId : Nat := 0
  pMid : Int := 0
  bandFirst : Nat := 0
  bands : Nat := 0
  cells : List Cell := []
  hist : List (List Nat) := []
  sharp : List Nat := []
deriving DecidableEq, Repr, Inhabited

/-- A calibration under way (R355). -/
structure CamCal where
  cmd : CmdId := (0, 0)
  frames : Nat := 4
  flat : Bool := false
  meanMax : Nat := 300
  maxMax : Nat := 800
  /-- patches: rectangle of four, reference of three -/
  patches : List (List Nat × List Nat) := []
  /-- red, green and blue before the column gain, and clipped, of each pixel of the frames taken, row by row -/
  taken : List (List (List (List Nat × Bool))) := []
  /-- TB1 at its start, 2^-32 s -/
  since : Int := 0
  /-- the hold of trim writes has ended -/
  released : Bool := false
deriving DecidableEq, Repr, Inhabited

/-- A CAM_ENABLE that waits on an enabled port for the frame boundary (02 R30): its commands and its fields; `after`: it came after an OP 0
that waits there too. -/
structure EnablePend where
  cmds : List CmdId := []
  mode : Nat := 0
  loop : Bool := false
  pulseW : Nat := 0
  spacing : Nat := 0
  x0 : Int := 0
  after : Bool := false
deriving DecidableEq, Repr, Inhabited

/-- A camera port (R321). -/
structure Port where
  /-- configuration | - | 12 Table 12-5 | unconfigured (R341) -/
  cfg : Option CamCfg := none
  /-- enabled | 1 | 12 R325 | 0 (R341) -/
  enable : Bool := false
  /-- MODE: 0 POSITION, 1 EXTERNAL, 2 FREE | 2 | 12 R325 | DESIGN CHOICE 0, log 6 -/
  mode : Nat := 0
  /-- LOOP | 1 | 12 Table 12-5 | DESIGN CHOICE 0, log 6 -/
  loop : Bool := false
  /-- PULSE_W | 16 | 12 Table 12-5 | DESIGN CHOICE 0, log 6 -/
  pulseW : Nat := 0
  /-- SPACING_F | 64 | 12 R325 | DESIGN CHOICE 0, log 6 -/
  spacing : Nat := 0
  /-- X0 | 64 | 12 R325 | DESIGN CHOICE 0, log 6 -/
  x0 : Int := 0
  /-- next exposure target, frets | 64 | 12 R325 | none -/
  next : Option Int := none
  /-- a CAM_ENABLE disabling, waiting for the frame boundary | - | 12 R339 | none -/
  disabling : Option CmdId := none
  /-- a CAM_ENABLE of an enabled port, waiting for the frame boundary | - | 02 R30 | none -/
  enabling : Option EnablePend := none
  /-- retired | 1 | 02 R37 | as journalled -/
  retired : Bool := false
  /-- SEQ of the next frame | 32 | 12 R324 | 0 -/
  seq : Nat := 0
  /-- exposure records, oldest first | at most 8 per virtual channel | 12 R326 | none -/
  records : List Exposure := []
  /-- frames open or in processing, oldest first | - | 12 R324 | none -/
  frames : List CamFrame := []
  /-- parameters in force | - | 12 R335 | identity (R341) -/
  params : CamParams := {}
  /-- PARAM_GEN | 32 | 12 R336 | 0 (R341) -/
  gen : Nat := 0
  /-- parameters waiting | - | 12 R336 | none -/
  pend : Option CamPend := none
  /-- the newest reports, newest first | at most 16 | 12 R334 | none (R341) -/
  reports : List Report := []
  /-- data lanes in HS sync | 4 | 12 Table 12-6 | DESIGN CHOICE 0, log 6 -/
  lanesOk : Nat := 0
  /-- BUFFER_PEAK since the last read | 7 | 12 Table 12-6 | 0 -/
  peak : Nat := 0
  /-- long packets discarded for their data type or virtual channel | 32 | 12 R321 | 0 -/
  stray : Nat := 0
  /-- last frame closed: SEQ, MARKS | - | 12 Table 12-6 | DESIGN CHOICE 0, log 6 -/
  lastSeq : Nat := 0
  lastMarks : Nat := 0
  /-- calibration under way | - | 13 R355 | none -/
  cal : Option CamCal := none
  /-- cells are kept from the loop until this PARAM_GEN | - | 13 R357 | none -/
  holdGen : Option Nat := none
deriving DecidableEq, Repr, Inhabited

/-- An archive entry (R337, Table 12-4). -/
structure ArchEntry where
  entry : Nat := 0
  header : List Byte := []
  image : List Byte := []
deriving DecidableEq, Repr, Inhabited

/-- The frame archive (R337, R338). -/
structure Archive where
  pages : Nat := 0
  stage : Nat := 0
  keepMarked : Bool := false
  portMask : Nat := 0
  keepEvery : Nat := 0
  /-- RATE_MBPS -/
  rate : Nat := 400
  /-- budget, 2^-32 bytes, with the TB1 at which it stood so -/
  budget : Int := 0
  budgetAt : Int := 0
  entries : List ArchEntry := []
  next : Nat := 0
  skipped : Nat := 0
deriving DecidableEq, Repr, Inhabited

/-- CAM (spec/12). -/
structure Cam where
  /-- ports CAM0 to CAM3 | 4 x Port | 12 R321 | disabled (R341) -/
  ports : List Port := List.replicate 4 {}
  /-- port the pipeline serves next | 2 | 12 R327 | DESIGN CHOICE 0, log 6 -/
  turn : Nat := 0
  /-- the archive | - | 12 R337 | none (R341) -/
  archive : Option Archive := none
deriving DecidableEq, Repr, Inhabited

end Sys2Proof.Machine
end

