-- ==== Sys2Proof/Machine/StateColour.lean ====
section
/-!
DEFINITION. State of CLP: the colour ledger, the loop, the strip, gate tests
(spec/13_colour_constancy_and_nozzle_health.md).
-/
namespace Sys2Proof.Machine

/-- A ledger entry (Table 13-1). -/
structure LedgerEntry where
  runId : Nat := 0
  flags : Nat := 1
  lines : Nat := 0
  band : Nat := 0
  w0 : Int := 0
  /-- TB0 at the close, 2^-32 s -/
  time : Int := 0
  /-- Q8.8 zone means, zone by ink -/
  mean : List (List Nat) := []
  /-- the guard covers the strip of this band: its strip cells are excluded (R351) -/
  guarded : Bool := false
deriving DecidableEq, Repr, Inhabited

/-- The loop's model (Table 13-2). -/
structure Profile where
  /-- WHITE, zone by channel -/
  white : List (List Nat) := []
  /-- SOLID, ink by channel, Q4.12 -/
  solid : List (List Nat) := []
  primary : List Nat := []
  /-- TONE, ink by point, Q1.15 -/
  tone : List (List Nat) := []
deriving DecidableEq, Repr, Inhabited

/-- COLOUR_LOOP_CONFIG (Table 13-6). -/
structure LoopCfg where
  bands : Nat := 24576
  bars : Nat := 0
  gain : Nat := 128
  maxStep : Nat := 512
  trimRange : Nat := 4096
  windowBands : Nat := 64
  minPx : Nat := 1000
  minCell : Nat := 16
  dominance : Nat := 154
  xMin : Nat := 8
deriving DecidableEq, Repr, Inhabited

/-- A node's sums (R346): zone, node, S, N. -/
structure NodeSum where
  zone : Nat := 0
  node : Nat := 0
  s : B64 := {}
  n : Nat := 0
deriving DecidableEq, Repr, Inhabited

/-- A bar's window (R347). -/
structure LoopBar where
  /-- START_W, frets, once the generation's first line is rendered -/
  startW : Option Int := none
  /-- W_START, frets -/
  wStart : Option Int := none
  sums : List NodeSum := []
  /-- distinct bands counted, with the W0 of the first -/
  bands : List Nat := []
  firstW : Option Int := none
deriving DecidableEq, Repr, Inhabited

/-- Loop states (R350). -/
inductive LoopState where
  | stopped | running | frozen
deriving DecidableEq, Repr, Inhabited

/-- A strip patch (Table 13-3). -/
structure Patch where
  ink : List Nat := []
  target : List Nat := []
deriving DecidableEq, Repr, Inhabited

/-- COLOUR_STRIP (Table 13-7). -/
structure Strip where
  patchesOn : Bool := false
  ladderOn : Bool := false
  mark : Bool := false
  zone0 : Nat := 0
  zones : Nat := 1
  patches : List Patch := []
  patchBands : Nat := 1
  deLimit : Nat := 300
  ladderEvery : Nat := 1
  ladderBars : Nat := 0
  ladderStep : Nat := 4
  ladderDrop : Nat := 1
  ladderPitch : Nat := 16
deriving DecidableEq, Repr, Inhabited

/-- Sums of a strip occurrence that a port sees (R352): its run, its number and patch, cells' sums and count. -/
structure Occurrence where
  port : Nat := 0
  runId : Nat := 0
  number : Nat := 0
  patch : Nat := 0
  sums : List Nat := [0, 0, 0]
  count : Nat := 0
deriving DecidableEq, Repr, Inhabited

/-- A nozzle's strikes (R354). -/
structure Strike where
  bar : Nat := 0
  column : Nat := 0
  strikes : Nat := 0
  suspect : Bool := false
deriving DecidableEq, Repr, Inhabited

/-- A ladder (R353): its frame, bar, first run line, count of lines, and the settings of the strip it comes from. -/
structure Ladder where
  runId : Nat := 0
  frame : Nat := 0
  bar : Nat := 0
  /-- first run line and count of ladder lines -/
  line : Nat := 0
  lines : Nat := 0
  /-- contone lines of the run that it covers: first, count -/
  firstCl : Nat := 0
  cls : Nat := 0
  /-- web coordinate at which its first line begins, direction and pitch of the run -/
  w0 : Int := 0
  reverse : Bool := false
  pitch : Nat := 64
  step : Nat := 4
  drop : Nat := 1
  linePitch : Nat := 16
  mark : Bool := false
deriving DecidableEq, Repr, Inhabited

/-- A nozzle fired in a gate test (R359): head, row, nozzle, hits, sum of deviations. -/
structure GateNozzle where
  head : Nat := 0
  row : Nat := 0
  nozzle : Nat := 0
  hits : Nat := 0
  dev : Int := 0
deriving DecidableEq, Repr, Inhabited

/-- A gate test under way (R358, R359). -/
structure GateTest where
  cmd : CmdId := (0, 0)
  bar : Nat := 0
  apply : Bool := false
  takeOut : Bool := false
  repeats : Nat := 3
  drop : Nat := 2
  shotNs : Nat := 2000
  flightNs : Nat := 0
  windowNs : Nat := 5000
  weakNs : Nat := 1000
  failLimit : Nat := 50
  /-- HEADS, 0 every placed head -/
  heads : Nat := 0
  addr : Nat := 0
  room : Nat := 0
  runId : Nat := 0
  /-- the bar was enabled before, to be enabled again -/
  again : Bool := false
  /-- TB1 at the command, 2^-32 s -/
  began : Int := 0
  /-- t_0 in TB3, 2^-32 s; none while the bar still leaves print -/
  t0 : Option Int := none
  nozzles : List GateNozzle := []
  /-- shots sent -/
  sent : Nat := 0
  /-- shots that have a hit -/
  hit : List Nat := []
  stray : Nat := 0
  spurious : Nat := 0
deriving DecidableEq, Repr, Inhabited

/-- CLP (spec/13). -/
structure Colour where
  /-- the ledger's entries reserved | 16 | 13 R342 | none (R365) -/
  ledgerBands : Option Nat := none
  /-- entries written: entry number, entry; all others are EMPTY | - | 13 R342 | none (R365) -/
  ledger : List (Nat × LedgerEntry) := []
  /-- the loop's configuration | - | 13 Table 13-6 | defaults (R365) -/
  cfg : LoopCfg := {}
  /-- the profile loaded | - | 13 R345 | none (R365) -/
  profile : Option Profile := none
  /-- the loop's state | 2 | 13 R350 | STOPPED (R365) -/
  st : LoopState := .stopped
  /-- windows of bars B0 to B9 | 10 x LoopBar | 13 R347 | empty (R365) -/
  bars : List LoopBar := List.replicate 10 {}
  /-- the strip | - | 13 R351 | off (R365) -/
  strip : Option Strip := none
  /-- the strip to come at the next readiness point, with its command | - | 13 R351 | none -/
  pendStrip : Option (Option Strip × List CmdId) := none
  /-- the occurrence being averaged, port by port | - | 13 R352 | none -/
  occ : List Occurrence := []
  /-- strikes and suspects | at most 1,024 suspects | 13 R354 | none (R365) -/
  strikes : List Strike := []
  /-- ladders printed and still in the ledger's reach, newest first | - | 13 R353 | none -/
  ladders : List Ladder := []
  /-- bar of the next ladder | 4 | 13 R353 | DESIGN CHOICE 0, log 6 -/
  ladderTurn : Nat := 0
  /-- gate tests under way | - | 13 R358 | none -/
  tests : List GateTest := []
  /-- test runs counted | 31 | 13 R359 | 0 -/
  testRuns : Nat := 0
  /-- SAVES since reset | 32 | 13 R363 | 0 -/
  saves : Nat := 0
  /-- TB1 at the last profile save, 2^-32 s | - | 13 R363 | none -/
  savedAt : Option Int := none
  /-- a COLOUR_PROFILE_SAVE held | - | 13 R363 | none -/
  saveHeld : List CmdId := []
deriving DecidableEq, Repr, Inhabited

end Sys2Proof.Machine
end

