-- ==== Sys2Proof/Machine/StateHif.lean ====
section
/-!
DEFINITION. State of HIF, the command rings, the event ring's registers and the BAR2 window
(spec/03_command_interface.md), and of the Ethernet ports' command transport.
-/
namespace Sys2Proof.Machine

/-- A completion datagram kept for a repeat (R78). -/
structure Kept where
  /-- COUNTER of the command | 64 | 03 R78 | none kept -/
  counter : Nat := 0
  /-- TAG of the command | 16 | 03 R78 | none kept -/
  tag : Nat := 0
  /-- the kept completion datagram | bytes | 03 R78 | none kept -/
  bytes : List Byte := []
deriving DecidableEq, Repr, Inhabited

/-- A slot held while a reservation is journalled (R94). -/
structure Held where
  /-- the held command | - | 04 R94 | none -/
  cmd : Cmd := {}
  /-- its OPCODE | 16 | 04 R94 | none -/
  opcode : Nat := 0
  /-- TB1 at the hold, 2^-32 s | 96 | 04 R108 | none -/
  since : Int := 0
  /-- the reserved bytes of the slot are at fault, which check 10 will say | - | 03 R56 | none -/
  pre : Option Reply := none
deriving DecidableEq, Repr, Inhabited

/-- One command ring (Tables 3-5 and 3-6). -/
structure Ring where
  /-- SQ_BASE | 64, bits 11:0 zero | 03 R48 Table 3-5 | DESIGN CHOICE 0, log 6 -/
  sqBase : BitVec 64 := 0
  /-- CQ_BASE | 64, bits 11:0 zero | 03 R48 Table 3-5 | DESIGN CHOICE 0, log 6 -/
  cqBase : BitVec 64 := 0
  /-- RING_SIZE.SQ_LOG2 | 4 | 03 Table 3-6 | 4 -/
  sqLog2 : Nat := 4
  /-- RING_SIZE.CQ_LOG2 | 4 | 03 Table 3-6 | 4 -/
  cqLog2 : Nat := 4
  /-- RING_CTRL.ENABLE | 1 | 03 Table 3-6 | 0 -/
  enable : Bool := false
  /-- RING_CTRL.TRANSPORT, true Ethernet | 1 | 03 Table 3-6 | 0 -/
  ethernet : Bool := false
  /-- RING_STATUS.HALTED | 1 | 03 Table 3-6 | 0 -/
  halted : Bool := false
  /-- RING_STATUS.CONFIG_ERR | 1 | 03 Table 3-6 | 0 -/
  configErr : Bool := false
  /-- RING_STATUS.HALT_REASON | 8 | 03 Tables 3-6, 3-7 | 0 -/
  haltReason : Nat := 0
  /-- SQ_HEAD | 32 | 03 Table 3-5 | DESIGN CHOICE 0, log 6 -/
  sqHead : Nat := 0
  /-- the submission tail last written to SQ_DB | 32 | 03 R53 | DESIGN CHOICE 0, log 6 -/
  sqTail : Nat := 0
  /-- CQ_TAIL | 32 | 03 Table 3-5 | DESIGN CHOICE 0, log 6 -/
  cqTail : Nat := 0
  /-- the completion head last written to CQ_DB | 32 | 03 R62 | DESIGN CHOICE 0, log 6 -/
  cqHead : Nat := 0
  /-- completion entries written and not yet passed with CQ_DB | 13 | 03 R54 | DESIGN CHOICE 0, log 6 -/
  cqUsed : Nat := 0
  /-- completion phase | 1 | 03 R50 | DESIGN CHOICE 1, log 6 -/
  cqPhase : Bool := true
  /-- expected SEQ | 32 | 03 R50 | DESIGN CHOICE 0, log 6 -/
  expSeq : Nat := 0
  /-- RING_COAL.COUNT | 8 | 03 Table 3-6 | 1 -/
  coalCount : Nat := 1
  /-- RING_COAL.TIME, us | 16 | 03 Table 3-6 | 0 -/
  coalTime : Nat := 0
  /-- RING_VEC | 6 | 03 Table 3-5 | n -/
  vec : Nat := 0
  /-- RING_STATUS.ROLE | 2 | 03 Table 3-6 | 3 -/
  role : Nat := 3
  /-- agreed command-protocol version | 4 | 03 R72 | 2 -/
  agreed : Nat := 2
  /-- FEAT_HOST of the last SYS_HELLO | 16 | 03 R82 | DESIGN CHOICE 0, log 6 -/
  featHost : Nat := 0
  /-- HOST_ID of the last SYS_HELLO | 32 | 03 R82 | DESIGN CHOICE 0, log 6 -/
  hostId : Nat := 0
  /-- interrupting completions pending | 8 | 03 R63 | 0 (none) -/
  irqPending : Nat := 0
  /-- TB1 at the first pending interrupt, 2^-32 s | 96 | 03 R63 | 0 (none) -/
  irqSince : Int := 0
  /-- a slot held for a reservation | - | 04 R94 | none -/
  held : Option Held := none
  /-- the last 64 completion datagrams | - | 03 R78 | none -/
  kept : List Kept := []
  /-- TAGs in flight when PCIE_PERST_N went low, whose completion writes are dropped | - | 17 R432 | none -/
  mute : List Nat := []
  /-- ST_AUTH_FAIL since the last EV_AUTH_REJECT | 16 | 04 R108 | 0 -/
  rejAuth : Nat := 0
  /-- ST_REPLAY since the last EV_AUTH_REJECT | 16 | 04 R108 | 0 -/
  rejReplay : Nat := 0
deriving DecidableEq, Repr, Inhabited

/-- An Ethernet port's command transport (Table 3-19a). -/
structure EthPort where
  /-- MODE bit 0, port enabled | 1 | 03 Table 3-19a | DESIGN CHOICE 0, log 6 -/
  enable : Bool := false
  /-- MODE bit 1, 25GBASE-R | 1 | 03 Table 3-19a | DESIGN CHOICE 0, log 6 -/
  is25 : Bool := false
  /-- MODE bit 2, Clause 74 FEC | 1 | 03 Table 3-19a | DESIGN CHOICE 0, log 6 -/
  fec : Bool := false
  /-- UDP_PORT | 16 | 03 R75 | 31,820 -/
  udp : Nat := 31820
  /-- IPV4 | 32 | 03 Table 3-19a | DESIGN CHOICE 0, log 6 -/
  ip : Nat := 0
  /-- VLAN field | 16 | 03 Table 3-19a | DESIGN CHOICE 0, log 6 -/
  vlan : Nat := 0
  /-- the port's link is up | 1 | 03 R79 | 0 (disabled) -/
  linkUp : Bool := false
  /-- a LINK_ETH_CONFIG waiting for the retraining | - | 03 R79 | none -/
  retrain : Option CmdId := none
  /-- answers waiting for the link | - | 03 R79 | none -/
  waiting : List (EthFrom × List Byte) := []
  /-- IP packets and datagrams dropped | 32 | 03 R75, R76 | DESIGN CHOICE 0, log 6 -/
  dropped : Nat := 0
  /-- TB1 times of answers to failed slots in the last second | - | 03 R77 | none -/
  failAnswers : List Int := []
deriving DecidableEq, Repr, Inhabited

/-- Why fetching stands still on a ring or on all (R74, R88, R92). -/
inductive FetchStop where
  | protect | floor | role (r : Nat)
deriving DecidableEq, Repr, Inhabited

/-- HIF and the registers of BAR0 (Table 3-2). -/
structure Hif where
  /-- DEV_STATUS.READY | 1 | 03 R49 Table 3-4 | 0 -/
  ready : Bool := false
  /-- WIN_BASE_HI and WIN_BASE_LO | 36, bits 25:0 zero | 03 Table 3-2 | DESIGN CHOICE 0, log 6 -/
  winBase : Nat := 0
  /-- WIN_CTRL.ENABLE | 1 | 03 Table 3-8 | 0 -/
  winEnable : Bool := false
  /-- WIN_CTRL.WRITE | 1 | 03 Table 3-8 | 0 -/
  winWrite : Bool := false
  /-- WIN_CTRL.DENIED | 1 | 03 Table 3-8 | 0 -/
  winDenied : Bool := false
  /-- EVQ_BASE | 64, bits 11:0 zero | 03 Table 3-2 | DESIGN CHOICE 0, log 6 -/
  evqBase : BitVec 64 := 0
  /-- EVQ_SIZE | 4 | 03 Table 3-2 | DESIGN CHOICE 0, log 6 -/
  evqSize : Nat := 0
  /-- DEV_STATUS.EVQ_ENABLE | 1 | 03 Table 3-4 | 0 -/
  evqEnable : Bool := false
  /-- EVQ_TAIL | 32 | 03 Table 3-2 | DESIGN CHOICE 0, log 6 -/
  evqTail : Nat := 0
  /-- event ring head, last EVQ_DB | 32 | 16 R419 | DESIGN CHOICE 0, log 6 -/
  evqHead : Nat := 0
  /-- event phase | 1 | 16 R419 | DESIGN CHOICE 1, log 6 -/
  evqPhase : Bool := true
  /-- EVQ_OVERFLOW, saturating at 65,535 on A1 | 32 | 03 Table 3-2, 19 A1-05 | 0 -/
  evqOverflow : Nat := 0
  /-- entries not written since the last EV_EVENTS_LOST | 32 | 16 R419, R478 | 0 -/
  unreported : Nat := 0
  /-- of those, ERROR and CRITICAL | 32 | 16 Table 16-3 | 0 -/
  unreportedErr : Nat := 0
  /-- LOST of the health report, saturating | 32 | 16 R419, R427 | 0 -/
  lost : Nat := 0
  /-- the eight command rings | 8 x Ring | 03 R44 | vec n, as above -/
  rings : List Ring := (List.range 8).map fun n => ({ vec := n } : Ring)
  /-- MSI-X table words | 256 x 32 | 03 Table 3-2 | PRESUMED every vector masked and the other words 0 (PCI Express), log 6 -/
  msixTable : List Nat := (List.range 256).map fun i => if i % 4 == 3 then 1 else 0
  /-- MSI-X pending bits | 64 | 03 Table 3-2 | DESIGN CHOICE 0, log 6 -/
  msixPending : BitVec 64 := 0
  /-- commands in flight, oldest first | at most 512 | 02 R33 | none -/
  inflight : List InFlight := []
  /-- reasons for which fetching is stopped | - | 03 R74, 04 R88, R92 | none -/
  stops : List FetchStop := []
  /-- feature floor in force | 16 | 03 R73, 15 R410 | the device's own level (17 Table 17-8) -/
  floor : Nat := 0
  /-- Ethernet ports 0 and 1 | 2 x EthPort | 03 R75 | disabled -/
  eth : List EthPort := [{}, {}]
  /-- PCIe endpoint out of PCIE_PERST_N reset | 1 | 17 R432 | DESIGN CHOICE 1, log 6 -/
  pcieUp : Bool := true
deriving DecidableEq, Repr, Inhabited

end Sys2Proof.Machine
end

