-- ==== Sys2Proof/Machine/StateLayer.lean ====
section
/-!
DEFINITION. State of CPS and RNG: layers, slots, fences, frames, the contone ring and the open
ledger band (spec/08_composition_and_colour.md, spec/09_bar_rendering.md R220, R221).
-/
namespace Sys2Proof.Machine

/-- Repeat descriptor (R174, Table 7-9). -/
structure Repeat where
  geometry : Nat := 0
  mirrorX : Bool := false
  mirrorY : Bool := false
  shift : Nat := 0
  originX : Int := 0
  originY : Int := 0
deriving DecidableEq, Repr, Inhabited

/-- A layer's configuration (Table 8-5), one copy of it (R30). -/
structure LayerCfg where
  /-- SOURCE: 0 OFF, 1 IMAGE, 2 SOLID | 8 | 08 Table 8-2 | OFF (R218) -/
  source : Nat := 0
  /-- FLAGS.SMOOTH | 1 | 08 R194 | DESIGN CHOICE 0, log 6 -/
  smooth : Bool := false
  /-- FLAGS.CONTINUOUS | 1 | 08 R193 | DESIGN CHOICE 0, log 6 -/
  continuous : Bool := false
  /-- POLICY | 2 | 08 R210 | DESIGN CHOICE 0, log 6 -/
  policy : Nat := 0
  /-- JOB_ID | 32 | 08 Table 8-5 | DESIGN CHOICE 0, log 6 -/
  job : Nat := 0
  /-- OBJ_ID | 32 | 08 Table 8-5 | DESIGN CHOICE 0, log 6 -/
  obj : Nat := 0
  /-- PALETTE | 4 | 08 Table 8-5 | DESIGN CHOICE 0, log 6 -/
  palette : Nat := 0
  /-- RECIPE | 8 | 08 Table 8-5 | DESIGN CHOICE 0, log 6 -/
  recipe : Nat := 0
  /-- TRANSFORM | 1 | 08 Table 8-5 | DESIGN CHOICE 0, log 6 -/
  transform : Nat := 0
  /-- WRITE_MASK | 8 | 08 R200 | DESIGN CHOICE 0, log 6 -/
  writeMask : Nat := 0
  /-- OPACITY | 16 | 08 R200 | DESIGN CHOICE 0, log 6 -/
  opacity : Nat := 0
  /-- CLIP_U0 | 16 | 08 R193 | DESIGN CHOICE 0, log 6 -/
  clip0 : Nat := 0
  /-- CLIP_U1 | 16 | 08 R193 | DESIGN CHOICE 49,152, log 6 -/
  clip1 : Nat := 49152
  /-- STEP_X, Q16.16 | 32 | 08 R193 | DESIGN CHOICE 65,536, log 6 -/
  stepX : Nat := 65536
  /-- STEP_Y, Q16.16 | 32 | 08 R193 | DESIGN CHOICE 65,536, log 6 -/
  stepY : Nat := 65536
  /-- DEST_X, Q16.16 | 32 | 08 R193 | DESIGN CHOICE 0, log 6 -/
  destX : Int := 0
  /-- DEST_Y, Q48.16 | 64 | 08 R193 | DESIGN CHOICE 0, log 6 -/
  destY : Int := 0
  /-- REPEAT | 128 | 07 R174 | DESIGN CHOICE SINGLE, log 6 -/
  rep : Repeat := {}
  /-- SPAN and SPAN_LIMIT as computed (R196) | 2 x 32 | 08 R196 | DESIGN CHOICE 0, log 6 -/
  span : Nat := 0
  spanLimit : Nat := 16384
  /-- FORMAT, DEPTH, INK_MASK, WIDTH, HEIGHT, CHANNELS of the image named | - | 08 R192 | none -/
  format : Nat := 0
  depth : Nat := 0
  inkMask : Nat := 0
  width : Nat := 0
  height : Nat := 0
  channels : Nat := 0
  /-- 64-phase coefficient tables of the two axes, phase by tap (R194), empty when not smooth | - | 08 R194 | none -/
  coefX : List (List Int) := []
  coefY : List (List Int) := []
deriving DecidableEq, Repr, Inhabited

/-- A pending flip (R208). -/
structure Flip where
  cmd : CmdId := (0, 0)
  job : Nat := 0
  obj : Nat := 0
  target : Nat := 0
  /-- fence and WAIT_VALUE, with FENCE_WAIT -/
  wait : Option (Nat × Nat) := none
  /-- new origins, with NEW_ORIGIN -/
  origin : Option (Int × Int) := none
deriving DecidableEq, Repr, Inhabited

/-- A layer (R190). -/
structure Layer where
  /-- active configuration | - | 08 R191 | OFF (R218) -/
  act : LayerCfg := {}
  /-- pending configuration with its command | - | 08 R191 | none -/
  pend : Option (LayerCfg × CmdId) := none
  /-- commands whose writes merged into the same pending copy | - | 02 R30 | none -/
  merged : List CmdId := []
  /-- pending flips, oldest first | at most 4 | 08 R208 | none -/
  flips : List Flip := []
  /-- the layer has had content in this run | 1 | 08 R210 | 0 -/
  hadContent : Bool := false
  /-- frame of the last flip applied | 32 | 08 Table 8-9 | DESIGN CHOICE 0, log 6 -/
  appliedFrame : Nat := 0
  /-- judged not ready at the last readiness point | 1 | 08 R210 | 0 -/
  notReady : Bool := false
  /-- width lost (R196) | 1 | 08 R196 | 0 -/
  widthLost : Bool := false
  /-- NOT_READY_FRAMES in this run | 32 | 08 Table 8-9 | 0 -/
  notReadyFrames : Nat := 0
deriving DecidableEq, Repr, Inhabited

/-- A palette slot (R199). -/
structure Palette where
  /-- entries of eight coverages -/
  entries : List (List Nat) := []
  /-- TRANSPARENT index, none for none -/
  transparent : Option Nat := none
deriving DecidableEq, Repr, Inhabited

/-- A transform slot (R199): three tone curves and the cube's 35,937 nodes of eight coverages. -/
structure Transform where
  tone : List (List Nat) := []
  cube : List (List Nat) := []
deriving DecidableEq, Repr, Inhabited

/-- Ink limit (R204). -/
structure InkLimit where
  limit : Nat := 0
  mask : Nat := 0
deriving DecidableEq, Repr, Inhabited

/-- Output curves (R205). -/
structure Curves where
  enable : Nat := 0
  curves : List (List Nat) := []
deriving DecidableEq, Repr, Inhabited

/-- Blend order (R191, Table 8-7). -/
structure Order where
  mode : Nat := 0
  list : List Nat := []
deriving DecidableEq, Repr, Inhabited

/-- One layer's part in a frame (R206, R210). -/
structure FrameLayer where
  cfg : LayerCfg := {}
  listed : Bool := false
  /-- adds nothing to the frame -/
  transparent : Bool := false
  /-- it lost its width in the frame (R196): it adds nothing, a guard blanks -/
  lost : Bool := false
deriving DecidableEq, Repr, Inhabited

/-- What was in force for a frame (R206, R214). -/
structure Frame where
  number : Nat := 0
  layers : List FrameLayer := []
  order : Order := {}
  limit : InkLimit := {}
  curves : Curves := {}
  stopped : Bool := false
  /-- capo position of the frame, frets -/
  capo : Int := 0
  /-- contone line of the run at which the frame begins -/
  firstCl : Nat := 0
  /-- contone lines of the frame -/
  lines : Nat := 0
  /-- the strip in force for its lines (13 R351) -/
  strip : Option Strip := none
  /-- poisoned and guard-blanked pixels so far -/
  poisoned : Nat := 0
deriving DecidableEq, Repr, Inhabited

/-- One line of the contone ring (R220): the eight ink planes over the compose span. -/
structure RingLine where
  /-- contone line of the run -/
  cl : Nat := 0
  frame : Nat := 0
  /-- planes C0 to C7, columns U0 to U1 - 1 -/
  planes : List (List Byte) := []
  /-- written by catch-up only in part (R221): plane, first column and one above the last, intervals; none: whole -/
  part : Option (List (Nat × Nat × Nat)) := none
  /-- 64-byte lines that are poisoned in memory (R222): plane, first column counted from U0 -/
  bad : List (Nat × Nat) := []
deriving DecidableEq, Repr, Inhabited

/-- The open ledger band (R213). -/
structure OpenBand where
  band : Nat := 0
  /-- fret position of its first line -/
  pos : Int := 0
  lines : Nat := 0
  blank : Bool := false
  poisoned : Bool := false
  /-- the guard kept a pixel of the strip (13 R351) -/
  guarded : Bool := false
  /-- a line of it was written by catch-up only -/
  gap : Bool := false
  /-- ZSUM, zone by ink -/
  sums : List (List Nat) := []
deriving DecidableEq, Repr, Inhabited

/-- CPS and RNG (spec/08). -/
structure Compose where
  /-- layers L0 to L6 and the guard L7 | 8 x Layer | 08 R190 | OFF (R218) -/
  layers : List Layer := List.replicate 8 {}
  /-- order in force | - | 08 R191 | native, none listed (R218) -/
  order : Order := {}
  /-- pending order | - | 08 R191 | none -/
  pendOrder : Option (Order × List CmdId) := none
  /-- ink limit in force | - | 08 R204 | LIMIT 0 (R218) -/
  limit : InkLimit := {}
  /-- pending ink limit | - | 08 R191 | none -/
  pendLimit : Option (InkLimit × List CmdId) := none
  /-- curves in force | - | 08 R205 | none enabled (R218) -/
  curves : Curves := {}
  /-- pending curves | - | 08 R191 | none -/
  pendCurves : Option (Curves × List CmdId) := none
  /-- palette slots | 16 x Palette | 08 R199 | COUNT 0 (R218) -/
  palettes : List Palette := List.replicate 16 {}
  /-- transform slots | 2 | 08 R199 | empty (R218) -/
  transforms : List (Option Transform) := [none, none]
  /-- fences | 64 x 32 | 08 R207 | 0 (R218) -/
  fences : List Nat := List.replicate 64 0
  /-- compose span U0, U1 of the run | 2 x 16 | 08 R187 | none -/
  span : Option (Nat × Nat) := none
  /-- pipes in service when the span was last cut | 3 | 08 R188 | 5 -/
  cutFor : Nat := 5
  /-- frame whose readiness point comes next | 32 | 08 R208 | 0 -/
  nextFrame : Nat := 0
  /-- active layers as decided at the last readiness point | 8 | 08 R216 | 0 -/
  activeMask : Nat := 0
  /-- frames still held, newest first | - | 08 R214 | none -/
  frames : List Frame := []
  /-- next contone line to compose | 32 | 08 R212 | 0 -/
  nextCl : Nat := 0
  /-- lines in the ring, newest first | - | 09 R220 | none -/
  ring : List RingLine := []
  /-- oldest contone line still in the ring range | 32 | 09 R220 | 0 -/
  oldest : Nat := 0
  /-- open ledger band | - | 08 R213 | none -/
  band : Option OpenBand := none
  /-- the contone line on which composition has already been counted as waiting | 32 | 09 R220 | none -/
  waited : Option Nat := none
deriving DecidableEq, Repr, Inhabited

end Sys2Proof.Machine
end

