-- ==== Sys2Proof/Machine/StateLink.lean ====
section
/-!
DEFINITION. State of CRS and PRL: lanes, courses, queues, classes (spec/11_course_links_and_queues.md).
-/
namespace Sys2Proof.Machine

/-- A packet sent and kept for a resend (R297). -/
structure SentPacket where
  seq : Nat := 0
  /-- SLOT, or CTYPE of a control packet -/
  kind : Nat := 0
  bytes : List Byte := []
  stomped : Bool := false
  /-- TB1 at its (last) sending, 2^-32 s -/
  time : Int := 0
  /-- lane that carried its START block -/
  lane : Nat := 0
  /-- it carries an injected fault that does not count towards R36 (R291) -/
  noCount : Bool := false
deriving DecidableEq, Repr, Inhabited

/-- A block of a packet, or a LINK block, on its way to a lane (R285, R292). -/
structure Blk where
  /-- sync header: 1 data, 2 control -/
  hdr : Nat := 1
  bytes : List Byte := []
  /-- class and SEQ of its packet -/
  pkt : Option (Cls × Nat) := none
deriving DecidableEq, Repr, Inhabited

/-- A packet handed to a course's transmitter (R292, R293). -/
structure OutPacket where
  cls : Cls := .ctrl
  seq : Nat := 0
  /-- SLOT and LINE, or CTYPE -/
  kind : Nat := 0
  bytes : List Byte := []
  /-- its CRC-32C goes out inverted -/
  inverted : Bool := false
  /-- SYNC_ID of a TIME_SYNC that has no T1 yet (R303) -/
  timing : Option Nat := none
  /-- what is left of its blocks once it has begun; a LINK block has begun from the start -/
  blocks : Option (List Blk) := none
deriving DecidableEq, Repr, Inhabited

/-- One class in both directions (R295 to R298). -/
structure ClsLink where
  /-- next SEQ sent | 16 | 11 R295 | 0 (R320) -/
  txSeq : Nat := 0
  /-- packets awaiting ACK, oldest first | at most 32,768 | 11 R297 | none -/
  unacked : List SentPacket := []
  /-- SENT, flits | 32 | 11 R298 | 0 (R320) -/
  sent : Nat := 0
  /-- LIMIT received | 32 | 11 R298 | 0 (R320) -/
  limit : Nat := 0
  /-- a resend under way since TB1, for the SEQ named | - | 11 R297 | none -/
  resend : Option (Nat × Int) := none
  /-- expected SEQ | 16 | 11 R295 | 0 (R320) -/
  rxSeq : Nat := 0
  /-- a NAK has been sent for the expected SEQ, at TB1 | - | 11 R296 | none -/
  nakSince : Option Int := none
  /-- flits freed since the course came up | 32 | 11 R298 | 0 -/
  freed : Nat := 0
  /-- LIMIT last sent, and TB1 of it | 32 | 11 R298 | 0 -/
  limitSent : Nat := 0
  creditSince : Int := 0
  /-- a withheld ACK (injection 0x05) leaves this packet unacknowledged | 1 | 11 R291 | 0 -/
  ackHeld : Bool := false
deriving DecidableEq, Repr, Inhabited

/-- An entry in the priority buffer (R299, Table 10-4). -/
structure PrioEntry where
  run : Nat := 0
  target : Nat := 0
  op : Nat := 0
  line : Nat := 0
  /-- fire time, TB3 2^-32 s, of FIRE and UPDATE -/
  time : Int := 0
deriving DecidableEq, Repr, Inhabited

/-- A line packet in a course queue (R310, Table 11-10). -/
structure QueuePacket where
  slot : Nat := 0
  head : Nat := 0
  /-- run line -/
  line : Nat := 0
  bytes : List Byte := []
  flits : Nat := 1
  /-- flits of it that the consumer has popped (R311) -/
  popped : Nat := 0
  /-- TB1 at its commit, 2^-32 s -/
  commitAt : Int := 0
  discard : Bool := false
  /-- substituted blank by R265 -/
  late : Bool := false
  /-- flits with a single-bit and with a double-bit error (R314): address in the line queue, and NO_COUNT (R291) -/
  soft : List (Nat × Bool) := []
  hard : List (Nat × Bool) := []
  /-- of a gate test (13 R359): the stamp that follows its sending -/
  stamp : Option PrioEntry := none
deriving DecidableEq, Repr, Inhabited

/-- A packet that is being written to a course queue, or waits for its turn (R311); its packet holds the flits pushed so far. -/
structure Writing where
  p : QueuePacket := {}
  /-- flits that it takes, and those pushed or dropped -/
  total : Nat := 1
  pushed : Nat := 0
  /-- the bar's engine writes it, a flit in a clock; a blank packet and a gate test's shot go whole -/
  render : Bool := false
  /-- a flush discards it at its commit (R313): the packets and flits that the flush has discarded, and its commands -/
  flush : Option (Nat × Nat × List CmdId) := none
deriving DecidableEq, Repr, Inhabited

/-- A queue mark (R315). -/
structure QMark where
  level : Nat := 0
  hyst : Nat := 0
  armed : Bool := true
  sticky : Bool := false
deriving DecidableEq, Repr, Inhabited

/-- LINK_COURSE_CONFIG (Table 11-13). -/
structure CourseCfg where
  version : Nat := 2
  /-- RATE, 1 for 10.3125 Gbit/s -/
  rate : Nat := 0
  enable : Bool := false
  /-- the four inversion flags -/
  inverts : Nat := 0
  /-- LANES, 3 both -/
  lanes : Nat := 3
  pre : Nat := 4
  main : Nat := 48
  post : Nat := 10
  timeInterval : Nat := 100
  ackTimeout : Nat := 20
  asym : Int := 0
  txLat : Int := 0
  rxLat : Int := 0
  bridgeUid : Nat := 0
deriving DecidableEq, Repr, Inhabited

/-- A bring-up under way (R308, Table 11-8). -/
structure Train where
  /-- the LINK_TRAIN, none when the device trains on its own -/
  cmd : Option CmdId := none
  noClaim : Bool := false
  /-- TB1 at its start, 2^-32 s -/
  since : Int := 0
  /-- TB1 at the start of the present step -/
  stepAt : Int := 0
  /-- step of Table 11-8 reached: 2 lock, 4 HELLO, 5 time, 6 claim -/
  step : Nat := 2
deriving DecidableEq, Repr, Inhabited

/-- A claim sent and not answered (R305, R306). -/
structure ClaimWait where
  epoch : Nat := 0
  planned : Bool := false
  since : Int := 0
  /-- it is the second claim, EPOCH 16 higher (R405) -/
  again : Bool := false
deriving DecidableEq, Repr, Inhabited

/-- A MGMT request waiting for its reply (17 R439, R443). -/
structure MgmtWait where
  mid : Nat := 0
  /-- 0 HEAD_BRIDGE_MGMT, 1 HEAD_DISCOVER, 2 the device's own reading after P3 (17 R445) -/
  kind : Nat := 0
  cmd : CmdId := (0, 0)
  slot : Nat := 0
  /-- bytes of the record read so far -/
  part : List Byte := []
  /-- TB1 at the request, 2^-32 s -/
  since : Int := 0
deriving DecidableEq, Repr, Inhabited

/-- The last STATUS of a bridge (Table 11-6). -/
structure BridgeStatus where
  /-- bytes +0x00 to +0x1F -/
  bytes : List Byte := []
  stampLate : Nat := 0
  stampNoData : Nat := 0
  /-- TB1 at its arrival, 2^-32 s -/
  time : Int := 0
deriving DecidableEq, Repr, Inhabited

/-- A course, or the pair link (R283, R388). -/
structure Course where
  /-- configuration as given | - | 11 Table 11-13 | defaults, disabled (R320) -/
  cfg : CourseCfg := {}
  /-- configuration in force since the last LINK_TRAIN | - | 11 R318 | defaults, disabled (R320) -/
  run : CourseCfg := {}
  /-- up | 1 | 11 R308 | 0 (R320) -/
  up : Bool := false
  /-- the course has been trained by command or boot and is kept up (R309) | 1 | 11 R309 | 0 -/
  wanted : Bool := false
  /-- TB1 at the last bring-up attempt, 2^-32 s | 96 | 11 R309 | 0 -/
  tried : Int := 0
  /-- bring-up under way | - | 11 Table 11-8 | none -/
  train : Option Train := none
  /-- a lane is in PRBS | 1 | 11 R290 | 0 -/
  prbs : Bool := false
  /-- duo mode sent | 1 | 11 R288 | 0 -/
  duo : Bool := false
  /-- carrying lane in solo, 0 lower | 1 | 11 R288 | 0 -/
  carry : Nat := 0
  /-- TB1 at the latest marker sent, 2^-32 s | 96 | 11 R288 | 0 -/
  markAt : Int := 0
  /-- next free position of the stream since that marker | - | 11 R288 | 0 -/
  pos : Nat := 0
  /-- line and control packets on their way to the lanes, the open one first | - | 11 R293 | none -/
  out : List OutPacket := []
  /-- stamp packets and LINK blocks, which go between the blocks of those | - | 11 R293 | none -/
  hot : List OutPacket := []
  /-- the receiver's mode by the latest marker: the lane that carries the peer's stream in solo, none in duo | - | 11 R289 | none -/
  rxSolo : Option Nat := none
  /-- stomped packets received, packets that failed on a version 1 course, and gaps in their SEQ | 3 x 32 | 11 R294, R301 | 0 -/
  rxStomped : Nat := 0
  rxFailed : Nat := 0
  rxGaps : Nat := 0
  /-- the peer's RX_OK bits of its latest ALIGN, lower and upper | 2 | 11 R289 | 0 -/
  rxOk : Nat := 0
  /-- DATA, PRIO, CTRL | 3 x ClsLink | 11 R295 | 0 (R320) -/
  cls : List ClsLink := List.replicate 3 {}
  /-- bridge UID of its HELLO | 64 | 11 Table 11-6 | DESIGN CHOICE 0, log 6 -/
  bridgeUid : Nat := 0
  /-- bridge's version range | 2 x 8 | 11 Table 11-6 | DESIGN CHOICE 0, log 6 -/
  verMin : Nat := 0
  verMax : Nat := 0
  /-- DATA_CAP of the bridge | 32 | 11 Table 11-6 | DESIGN CHOICE 0, log 6 -/
  dataCap : Nat := 0
  /-- owner's UID, 0 none | 64 | 11 R305 | 0 (R320) -/
  owner : Nat := 0
  /-- epoch | 32 | 11 R305 | 0 (R320) -/
  epoch : Nat := 0
  /-- this device owns the course | 1 | 11 R306 | 0 (R320) -/
  owned : Bool := false
  /-- claim waiting for CLAIM_ACK | - | 11 R306 | none -/
  claim : Option ClaimWait := none
  /-- LAST_FIRED of the rows: slot, row, run line | - | 11 Table 11-6 | none -/
  lastFired : List (Nat × Nat × Option Nat) := []
  /-- safe idle: no line or stamp packets | 1 | 14 R372, 02 R38 | 0 -/
  safeIdle : Bool := false
  /-- rtt history, newest first | at most 8 x 32 | 11 R303 | none -/
  rtts : List Int := []
  /-- DELAY | 32 | 11 R303 | 0 -/
  delay : Int := 0
  /-- DELAY_VALID | 1 | 11 R303 | 0 -/
  delayValid : Bool := false
  /-- T1 and SYNC_ID of the last TIME_SYNC | - | 11 R303 | none -/
  t1 : Option (Int × Nat) := none
  /-- SYNC_ID of the next TIME_SYNC | 16 | 11 Table 11-6 | DESIGN CHOICE 0, log 6 -/
  syncId : Nat := 0
  /-- TB1 at the last TIME_SYNC, 2^-32 s | 96 | 11 R303 | 0 -/
  syncSince : Int := 0
  /-- committed packets in the line queue, oldest first | 2,560 KB | 11 R310 | empty (R320) -/
  queue : List QueuePacket := []
  /-- packets being written, in order | - | 11 R311 | none -/
  writing : List Writing := []
  /-- address in the line queue of the next flit pushed | 16 | 11 R310 | DESIGN CHOICE 0, log 6 -/
  flitAt : Nat := 0
  /-- TB1 at the last pop, and the flits popped then | - | 11 R311 | 0 -/
  freed : Int × Nat := (0, 0)
  /-- corrected errors of the last second by location, and the locations of uncorrectable ones | - | 02 R35, R36 | none -/
  softAt : List (Nat × List Int) := []
  hardAt : List Nat := []
  /-- marks A and B | 2 x QMark | 11 R315 | A 30,720/4,096, B off (R320) -/
  marks : List QMark := [{ level := 30720, hyst := 4096 }, {}]
  /-- PEAK of D | 16 | 11 R315 | 0 -/
  peak : Nat := 0
  /-- priority buffer, oldest first | 32 KB | 11 R299 | empty (R320) -/
  prio : List PrioEntry := []
  /-- a stamp packet has waited for PRIO credit | 1 | 11 R299 | 0 -/
  prioWait : Bool := false
  /-- TB1 at the start of the last stamp packet | - | 11 R299 | none -/
  stampSince : Option Int := none
  /-- RETRIES since the course came up | 32 | 11 Table 11-15 | 0 -/
  retries : Nat := 0
  /-- STOMPED_SENT since the course came up | 32 | 11 Table 11-15 | 0 -/
  stompedSent : Nat := 0
  /-- last STATUS | - | 11 Table 11-6 | none -/
  status : Option BridgeStatus := none
  /-- this silence has been posted: 1 stale, 2 halted | 2 | 14 R375 | 0 -/
  silent : Nat := 0
  /-- armed injections: kind, class, NO_COUNT, count | - | 11 R291 | none -/
  injects : List (Nat × Nat × Bool × Nat) := []
  /-- control packets, and on the pair link other packets, waiting for credit, oldest first: class, CTYPE, payload | 16 KB | 11 Table 11-9 | none -/
  waiting : List (Cls × Nat × List Byte) := []
  /-- MGMT requests waiting for a reply | - | 17 R443 | none -/
  mgmt : List MgmtWait := []
  /-- slots to be read again when the course is up | - | 17 R445 | none -/
  reread : List Nat := []
  /-- ID of the next MGMT request | 16 | 17 Table 17-10 | DESIGN CHOICE 0, log 6 -/
  mgmtId : Nat := 0
  /-- a ready line packet waits for DATA credit since TB1 | - | 11 Table 11-18 | none -/
  stallSince : Option Int := none
deriving DecidableEq, Repr, Inhabited

/-- A PRBS session on a lane (R290). -/
structure Prbs where
  cmd : Option CmdId := none
  gen : Bool := false
  /-- generator register -/
  genReg : Nat := 0
  chk : Bool := false
  /-- PRBS31 -/
  p31 : Bool := false
  invert : Bool := false
  /-- checker register, seeded -/
  reg : Option Nat := none
  /-- bits taken towards a seed -/
  seed : List Bool := []
  locked : Bool := false
  /-- consecutive correct bits while seeded and not locked -/
  run : Nat := 0
  /-- the last 1,024 comparisons' error count window, newest first -/
  window : List Bool := []
  errors : Nat := 0
  bits : Nat := 0
deriving DecidableEq, Repr, Inhabited

/-- A lane LN0 to LN23 (R283, R287). -/
structure Lane where
  /-- block lock | 1 | 11 R287 | 0 -/
  lock : Bool := false
  /-- TB1 at the loss of lock, 2^-32 s | - | 11 R287 | none -/
  lostSince : Option Int := none
  /-- down | 1 | 11 R287 | 0 -/
  down : Bool := false
  /-- retired | 1 | 11 R316 | as journalled -/
  retired : Bool := false
  /-- bit position of the hunt | 7 | 11 R287, 19 A1-01 | 0 -/
  slip : Nat := 0
  /-- TB1 at the last slip, 2^-32 s | 96 | 19 A1-01 | 0 -/
  slipSince : Int := 0
  /-- PRBS session | - | 11 R290 | none -/
  prbs : Option Prbs := none
  /-- BIP errors since the course came up | 32 | 11 Table 11-15 | 0 -/
  bip : Nat := 0
  /-- invalid headers and blocks counted | 32 | 11 R285 | 0 -/
  hdr : Nat := 0
  /-- MSEQ of the next ALIGN sent | 8 | 11 Table 11-3 | DESIGN CHOICE 0, log 6 -/
  mseq : Nat := 0
  /-- TB1 at the last ALIGN sent | - | 11 R288 | none -/
  alignSent : Option Int := none
  /-- XOR of the payload bytes of the blocks sent since then, IDLE and ALIGN apart, and their number | 8, - | 11 Table 11-3 | 0 -/
  parity : Nat := 0
  blocks : Nat := 0
  /-- MSEQ of the last ALIGN received | - | 11 R288 | none -/
  rxMseq : Option Nat := none
  /-- deskewed with the other lane | 1 | 11 R288 | 0 -/
  deskewed : Bool := false
  /-- retired since the last LINK_TRAIN, restored or not | 1 | 11 R316 | as journalled -/
  pinned : Bool := false
  /-- TB1 at the last ALIGN received, 2^-32 s | 96 | 11 R289 | 0 -/
  alignAt : Int := 0
  /-- the last marker interval with a BIP error at the device's receiver, TB1 | - | 11 R297 | none -/
  bad : Option (Int × Int) := none
  /-- the last interval between two STATUS in which the bridge found a BIP error, TB1 | - | 11 R297 | none -/
  badPeer : Option (Int × Int) := none
  /-- injections armed: kind, NO_COUNT, count | - | 11 R291 | none -/
  injects : List (Nat × Bool × Nat) := []
deriving DecidableEq, Repr, Inhabited

/-- CRS and PRL (spec/11). -/
structure Links where
  /-- courses CRS0 to CRS9 and, as entry 10, the pair link | 11 x Course | 11 R283, 15 R388 | disabled (R320) -/
  courses : List Course := List.replicate 11 {}
  /-- lanes LN0 to LN23 | 24 x Lane | 11 R283 | silent (R320) -/
  lanes : List Lane := List.replicate 24 {}
deriving DecidableEq, Repr, Inhabited

end Sys2Proof.Machine
end

