-- ==== Sys2Proof/Machine/StatePair.lean ====
section
/-!
DEFINITION. State of the redundant pair (spec/15_redundancy_and_upgrade.md).
-/
namespace Sys2Proof.Machine

/-- Pair states (Table 15-3), in the order of their codes. -/
inductive PairState where
  | off | linking | joining | standby | active | activeAlone | detached
deriving DecidableEq, Repr, Inhabited

/-- What PAIR_HELLO tells of the peer (Table 15-2). -/
structure Peer where
  uid : Nat := 0
  fw : Nat := 0
  feat : Nat := 0
  ckptFormat : Nat := 0
  /-- the peer's cell of R100 allows: bit 0 active, bit 1 standby -/
  allows : Nat := 0
  prefer : Bool := false
  /-- it has been active since it last joined (R393) -/
  wasActive : Bool := false
  st : PairState := .off
  session : Nat := 0
deriving DecidableEq, Repr, Inhabited

/-- A record sent and not acknowledged (R396). -/
structure RecordWait where
  seq : Nat := 0
  /-- the command that waits, none for a state record or a FRAME -/
  cmd : Option CmdId := none
  /-- a readiness point's FRAME packet: frame -/
  frame : Option Nat := none
  /-- TB1 at its sending, 2^-32 s -/
  since : Int := 0
deriving DecidableEq, Repr, Inhabited

/-- The pair health report (Tables 15-10 and 15-11). -/
structure Health where
  flags : Nat := 0
  vHold : Nat := 0
  evalSpeed : Nat := 0
  unmirrored : Nat := 0
  blank : List Nat := []
  cEff : Nat := 0
  passed : Nat := 0
  retired : List Nat := []
  /-- TB1 at which it was made or came, 2^-32 s -/
  time : Int := 0
deriving DecidableEq, Repr, Inhabited

/-- A planned handover under way (R408): on the active from REQ, on the standby from REQ. -/
structure Handover where
  cmd : Option CmdId := none
  /-- TB1 at the start, and at the start of the present step -/
  since : Int := 0
  stepSince : Int := 0
  /-- 1 REQ sent, 3 READY come and GO sent, 2 composing on the standby, 4 claimed -/
  step : Nat := 1
  h : Option Nat := none
deriving DecidableEq, Repr, Inhabited

/-- A checkpoint as last received (Table 15-5), as the standby uses it. -/
structure Ckpt where
  seq : Nat := 0
  /-- active's TB3 at the snapshot, 2^-32 s -/
  time : Int := 0
  recordSeq : Nat := 0
  runId : Nat := 0
  /-- TB1 at its arrival, 2^-32 s -/
  arrived : Int := 0
  /-- courses owned by the active: course, epoch -/
  epochs : List (Nat × Nat) := []
  /-- courses up on the active, a mask -/
  up : Nat := 0
  /-- the active's web channel moves -/
  moving : Bool := false
deriving DecidableEq, Repr, Inhabited

/-- The content applied or the policy outcome of a layer in a FRAME packet (R397). -/
structure FrameNoteLayer where
  /-- the layer is in the order and not OFF -/
  active : Bool := false
  /-- a flip was applied -/
  flipped : Bool := false
  /-- it adds nothing to the frame -/
  transparent : Bool := false
deriving DecidableEq, Repr, Inhabited

/-- A FRAME packet (R397). -/
structure FrameNote where
  recordSeq : Nat := 0
  frame : Nat := 0
  capo : Int := 0
  firstCl : Nat := 0
  stopped : Bool := false
  layers : List FrameNoteLayer := []
deriving DecidableEq, Repr, Inhabited

/-- What a RECORD carries (R395, Table 15-7). -/
inductive RecordBody where
  /-- a command as accepted, with the values the active resolved as RUN_ID, CAPO and FIRST_LINE -/
  | command (opcode : Nat) (params pblk : List Byte) (runId : Nat) (capo : Int) (firstLine : Nat)
  /-- a bar's trims and GEN -/
  | trims (bar : Nat) (trims : List (Nat × List Nat)) (gen : Nat)
  /-- a channel's scale -/
  | scale (ch scale : Nat)
  /-- nozzle map entries of a bar -/
  | nozzles (bar : Nat) (entries : List NozzleEntry)
  /-- a head halted from N_h on -/
  | halt (ctx line : Nat)
  /-- a fail-over of the web channel -/
  | web (ch : Nat)
  /-- the length and the CRC-32C of a mirrored job (R390) -/
  | mirror (job length crc : Nat)
deriving DecidableEq, Repr, Inhabited

/-- A record or a FRAME packet that has come before the baseline is complete (R394). -/
inductive EarlyRecord where
  | record (seq ring tag cmdSeq : Nat) (body : RecordBody) (status : Status)
  | frame (note : FrameNote)
deriving DecidableEq, Repr, Inhabited

/-- The pair (spec/15). -/
structure PairUnit where
  /-- FLAGS.ENABLE | 1 | 15 Table 15-10 | 0 (R414) -/
  enable : Bool := false
  /-- FLAGS.PREFER_ACTIVE | 1 | 15 R393 | 0 (R414) -/
  prefer : Bool := false
  /-- FLAGS.AUTO_JOIN | 1 | 15 R409 | 0 (R414) -/
  autoJoin : Bool := false
  /-- REF_SPEED, mm/min | 32 | 15 R402 | 0 -/
  refSpeed : Nat := 0
  /-- PEER_UID | 64 | 15 R392 | 0 -/
  peerUid : Nat := 0
  /-- state | 3 | 15 Table 15-3 | OFF (R414) -/
  st : PairState := .off
  /-- the device has been active since it last joined | 1 | 15 R393 | 0 -/
  wasActive : Bool := false
  /-- peer | - | 15 R392 | none -/
  peer : Option Peer := none
  /-- the peer's STATE of its last heartbeat or HELLO | 3 | 15 R388 | OFF -/
  peerState : PairState := .off
  /-- FLAGS of the peer's last heartbeat: bit 0 YIELD, 1 SHUTDOWN_HOLD, 2 SYNCED | 8 | 15 R388 | 0 -/
  peerFlags : Nat := 0
  /-- SESSION nonce of this device | 64 | 15 R390 | none -/
  session : Nat := 0
  /-- COUNTER of the next CTRL or PRIO packet sent | 64 | 15 R390 | 1 -/
  txCounter : Nat := 1
  /-- COUNTER last received | 64 | 15 R390 | 0 -/
  rxCounter : Nat := 0
  /-- PAIR_ACTIVE driven high | 1 | 15 R387 | 0 (R414) -/
  pairActive : Bool := false
  /-- PAIR_PEER_ALIVE, as filtered | 1 | 15 R387 | DESIGN CHOICE 0 (its pull-down), log 6 -/
  peerAlive : Bool := false
  /-- PAIR_YIELD_N held low by this device | 1 | 15 R387 | 0 (R414) -/
  yieldOut : Bool := false
  /-- PAIR_YIELD_N low, as filtered | 1 | 15 R387 | DESIGN CHOICE 0, log 6 -/
  yieldIn : Bool := false
  /-- BEAT of the next heartbeat sent | 16 | 15 R388 | DESIGN CHOICE 0, log 6 -/
  beat : Nat := 0
  /-- TB1 at the last heartbeat sent | 96 | 15 R388 | 0 -/
  beatSent : Int := 0
  /-- TB1 at the last heartbeat received | - | 15 R388 | none -/
  beatSeen : Option Int := none
  /-- the heartbeat is lost | 1 | 15 R388 | 0 -/
  beatLost : Bool := false
  /-- this join's HELLO has been judged | 1 | 15 R392 | 0 -/
  judged : Bool := false
  /-- EV_PAIR_LINK_DOWN posted for the present condition | 1 | 15 R404 | 0 -/
  downPosted : Bool := false
  /-- records and FRAME packets that came before the baseline, oldest first | - | 15 R394 | none -/
  early : List EarlyRecord := []
  /-- step of R394 reached in JOINING | 3 | 15 R394 | 0 -/
  joinStep : Nat := 0
  /-- TB1 at the start of the join | 96 | 15 R394 | 0 -/
  joinSince : Int := 0
  /-- RECORD_SEQ of the next record sent | 32 | 15 R396 | 0 (R414) -/
  recordSeq : Nat := 0
  /-- last RECORD_SEQ applied or acknowledged | 32 | 15 Table 15-11 | 0 (R414) -/
  lastRecord : Nat := 0
  /-- ring, TAG and SEQ of its command | - | 15 R406 | 0xFF, 0, 0 -/
  lastRing : Nat := 0xFF
  lastTag : Nat := 0
  lastSeq : Nat := 0
  /-- records not acknowledged, oldest first | - | 15 R396 | none -/
  waits : List RecordWait := []
  /-- CKPT_SEQ of the next checkpoint | 32 | 15 R398 | DESIGN CHOICE 0, log 6 -/
  ckptSeq : Nat := 0
  /-- TB3 at the last checkpoint sent, 2^-32 s | 96 | 15 R398 | 0 -/
  ckptSent : Int := 0
  /-- last checkpoint received | - | 15 R398 | none -/
  ckpt : Option Ckpt := none
  /-- standby TB3 minus active's, 2^-32 s | 64 | 15 Table 15-11 | 0 -/
  tb3Offset : Int := 0
  /-- TB3 has been loaded from the active's in this join | 1 | 15 R394 | 0 -/
  tb3Loaded : Bool := false
  /-- AUTO | 1 | 15 R399 | 0 (R414) -/
  auto : Bool := false
  /-- MIRROR_RATE, MB/s | 16 | 15 R399 | 4,000 -/
  mirrorRate : Nat := 4000
  /-- jobs waiting to be mirrored, oldest first | - | 15 R399 | none -/
  mirrorQueue : List Nat := []
  /-- unit of the next standby self-test | 8 | 15 R400 | 0 -/
  testTurn : Nat := 0
  /-- units passed in the last cycle, and in this one | 2 x 16 | 15 Table 15-11 | 0 -/
  testPassed : Nat := 0
  testCycle : Nat := 0
  /-- TB1 at the last self-test | 96 | 15 R400 | 0 -/
  testAt : Int := 0
  /-- TB1 at the last evaluation of R402, 2^-32 s | 96 | 15 R402 | 0 -/
  healthAt : Int := 0
  /-- last health report made or received | - | 15 R402 | none -/
  health : Option Health := none
  /-- the guarantee holds at the evaluation speed | 1 | 15 R402 | 0 -/
  holds : Bool := false
  /-- planned handover | - | 15 R408 | none -/
  handover : Option Handover := none
  /-- bars that have fired a line since the claim, a mask | 10 | 15 Table 15-9 | 0 -/
  fired : Nat := 0
  /-- TB1 at the last EV_PAIR_POSITION, 2^-32 s | - | 15 R398 | none -/
  posPosted : Option Int := none
  /-- TB1 since which the web channel and its backup stand still | - | 15 Table 15-6 | none -/
  webDead : Option Int := none
  /-- takeover under way: TB1 at its start, cause 1 yield, 2 loss | - | 15 R405 | none -/
  takeover : Option (Int × Nat) := none
  /-- PAIR_REJOIN in flight: command, TB1 deadline | - | 15 R412 | none -/
  rejoin : Option (CmdId × Int) := none
  /-- pages retired, TB1 times in the last hour | - | 15 Table 15-6 | none -/
  pageTimes : List Int := []
  /-- bytes of the present baseline, and of the present mirrored job with its JOB_ID | - | 15 R394, R399 | none -/
  mirror : Option (Nat × List Byte) := none
deriving DecidableEq, Repr, Inhabited

end Sys2Proof.Machine
end

