-- ==== Sys2Proof/Machine/StatePos.lean ====
section
/-!
DEFINITION. State of POS: encoder channels, pairs, backup, compare units and calibrations
(spec/05_web_position.md).
-/
namespace Sys2Proof.Machine

/-- A position-and-time pair (R117, Table 5-4) with its count. -/
structure Pair where
  /-- pos_q32 of the count at that moment -/
  pos : Int := 0
  /-- TB3 time, units of 2^-32 s -/
  time : Int := 0
  /-- number of the pair since the channel was enabled (R118's multiple of 4) -/
  n : Nat := 0
deriving DecidableEq, Repr, Inhabited

/-- A command that orders a scale (R116). -/
structure ScaleOrder where
  cmd : CmdId := (0, 0)
  /-- the new SCALE, Q32.32 -/
  scale : Nat := 0
  /-- of a POS_CALIBRATE: its ratio - 1 in ppm and the old scale -/
  calib : Option (Int × Nat) := none
deriving DecidableEq, Repr, Inhabited

/-- Scales waiting for the next encoder sample or frame boundary (R116). -/
structure PendScale where
  /-- the commands that wait, oldest first: the newest one's scale takes effect -/
  orders : List ScaleOrder := []
  /-- it waits for a frame boundary -/
  boundary : Bool := false
  /-- the boundary has passed -/
  due : Bool := false
deriving DecidableEq, Repr, Inhabited

/-- A calibration under way (R129). -/
structure Calib where
  cmd : CmdId := (0, 0)
  capture : Nat := 0
  intervals : Nat := 0
  limitBp : Nat := 0
  spreadPpm : Nat := 0
  spacingNm : Nat := 0
  /-- TB1 deadline, 2^-32 s -/
  deadline : Int := 0
  /-- pos_q32 of the marks, newest first -/
  marks : List Int := []
  /-- a reversal, illegal transition, signal fault, index correction or error happened -/
  spoilt : Bool := false
deriving DecidableEq, Repr, Inhabited

/-- An encoder channel (R109 to R124). -/
structure Channel where
  /-- MODE: 0 disabled, 1 digital, 2 sine/cosine | 2 | 05 Table 5-5 | 0 (R132) -/
  mode : Nat := 0
  /-- FLAGS.INVERT | 1 | 05 R111 | DESIGN CHOICE 0, log 6 -/
  invert : Bool := false
  /-- FLAGS, Z active low | 1 | 05 Table 5-5 | DESIGN CHOICE 0, log 6 -/
  zLow : Bool := false
  /-- FLAGS.RAW_OFFSET_BINARY | 1 | 05 R114 | DESIGN CHOICE 0, log 6 -/
  offsetBinary : Bool := false
  /-- FILTER | 4 | 05 R110 | DESIGN CHOICE 0, log 6 -/
  filter : Nat := 0
  /-- TRIGGER | 4 | 05 Table 5-5 | DESIGN CHOICE 0, log 6 -/
  trigger : Nat := 0
  /-- APERTURE_NS | 16 | 05 Table 5-2 | DESIGN CHOICE 0, log 6 -/
  aperture : Nat := 0
  /-- INDEX_PERIOD | 32 | 05 R123 | DESIGN CHOICE 0, log 6 -/
  indexPeriod : Nat := 0
  /-- CONV_NS | 16 | 05 Table 5-2 | DESIGN CHOICE 0, log 6 -/
  convNs : Nat := 0
  /-- SCK_DIV | 8 | 05 R112 | DESIGN CHOICE 5, log 6 -/
  sckDiv : Nat := 5
  /-- SIN_OFF, signed | 16 | 05 R114 | DESIGN CHOICE 0, log 6 -/
  sinOff : Int := 0
  /-- COS_OFF, signed | 16 | 05 R114 | DESIGN CHOICE 0, log 6 -/
  cosOff : Int := 0
  /-- SIN_GAIN, Q2.14 | 16 | 05 R114 | DESIGN CHOICE 0, log 6 -/
  sinGain : Int := 0
  /-- COS_GAIN, Q2.14 | 16 | 05 R114 | DESIGN CHOICE 0, log 6 -/
  cosGain : Int := 0
  /-- AMP_MIN | 16 | 05 R114 | DESIGN CHOICE 0, log 6 -/
  ampMin : Nat := 0
  /-- AMP_MAX | 16 | 05 R114 | DESIGN CHOICE 0, log 6 -/
  ampMax : Nat := 0
  /-- SPEED_WINDOW, ns | 32 | 05 R118 | 20,000 (default) -/
  window : Nat := 20000
  /-- STALL_MS | 32 | 05 R121 | 100 (default) -/
  stallMs : Nat := 100
  /-- REV_HYST, check units | 16 | 05 R120 | 4 (default) -/
  revHyst : Nat := 4
  /-- count k | 64 | 05 R111, R114 | 0 (R132) -/
  k : Int := 0
  /-- accepted level of ENCk_A | 1 | 05 R110 | DESIGN CHOICE 0, log 6 -/
  a : Bool := false
  /-- accepted level of ENCk_B | 1 | 05 R110 | DESIGN CHOICE 0, log 6 -/
  b : Bool := false
  /-- accepted level of ENCk_Z | 1 | 05 R110 | DESIGN CHOICE 0, log 6 -/
  z : Bool := false
  /-- prev_phase, once a valid sample has been taken since enable | 12 | 05 R114 | none -/
  prevPhase : Option Nat := none
  /-- t0 of the conversion in progress, TB3, 2^-32 s | 96 | 05 R112 | none -/
  conv : Option Int := none
  /-- base count k0 | 64 | 05 R115 | DESIGN CHOICE 0, log 6 -/
  k0 : Int := 0
  /-- base position Q0, 2^-32 frets | 96 | 05 R115 | DESIGN CHOICE 0, log 6 -/
  q0 : Int := 0
  /-- SCALE in force, Q32.32 | 64 | 05 R115 | unset (R132) -/
  scale : Option Nat := none
  /-- a SET_POSITION has acted since the channel was enabled | 1 | 05 R116 | 0 -/
  posSet : Bool := false
  /-- scale waiting | - | 05 R116 | none -/
  pend : Option PendScale := none
  /-- kept pairs, newest first | at most 64 x 24 bytes | 05 R117 | none -/
  pairs : List Pair := []
  /-- how many of the newest pairs the speed history holds | 7 | 05 R119 | 0 -/
  hist : Nat := 0
  /-- pairs formed since enable | 64 | 05 R118 | 0 -/
  pairN : Nat := 0
  /-- sign of the last count change | 2 | 05 R119 | 0 (none) -/
  lastDelta : Int := 0
  /-- speed estimate, Q32.32 frets/s | 64 | 05 R118 | 0 -/
  speed : Int := 0
  /-- the newest pair has made an estimate | 1 | 05 R118 | 0 -/
  made : Bool := false
  /-- the direction of travel is established, and it: 1 forward, -1 reverse, 0 none | 2 | 05 R120 | 0 -/
  dir : Int := 0
  /-- furthest count reached in the direction of travel, or the count at enable | 64 | 05 R120 | 0 -/
  furthest : Int := 0
  /-- SPEED_VALID | 1 | 05 R122 | 0 -/
  speedValid : Bool := false
  /-- count from which the tally of R122 runs | 64 | 05 R122 | 0 -/
  tally : Int := 0
  /-- STALLED | 1 | 05 R121 | 0 -/
  stalled : Bool := false
  /-- counts reached and their TB1 times, back to the one in force as the stall window begins, newest first | - | 05 R121 | none -/
  moves : List (Int × Int) := []
  /-- RETIRED | 1 | 05 Table 5-8 | 0 -/
  retired : Bool := false
  /-- ILLEGAL, sticky | 1 | 05 R111 | 0 (R132) -/
  illegal : Bool := false
  /-- SIGNAL, sticky | 1 | 05 R114 | 0 (R132) -/
  signal : Bool := false
  /-- INDEX_ERR, sticky | 1 | 05 R123 | 0 (R132) -/
  indexErr : Bool := false
  /-- DIVERGED, sticky | 1 | 05 R125 | 0 (R132) -/
  diverged : Bool := false
  /-- UNREFERENCED | 1 | 05 R132 | 0 -/
  unreferenced : Bool := false
  /-- index reference r, check units | 64 | 05 R123 | none -/
  indexRef : Option Int := none
  /-- consecutive index errors | 2 | 05 R123 | 0 -/
  indexErrs : Nat := 0
  /-- TB1 times of illegal transitions and signal faults in the last ms, newest first | - | 05 R124 | none -/
  faults : List Int := []
  /-- TB1 at the first of an unbroken run of converter timeouts, 2^-32 s | 96 | 05 R124 | none -/
  timeoutSince : Option Int := none
  /-- calibration under way | - | 05 R129 | none -/
  calib : Option Calib := none
deriving DecidableEq, Repr, Inhabited

/-- The backup of the web channel (R125). -/
structure Backup where
  ch : Nat := 0
  /-- offset O, 2^-32 frets -/
  off : Option Int := none
  /-- DIVERGE_LIMIT, frets -/
  limit : Nat := 3024
  /-- the divergence notice is armed -/
  armed : Bool := true
  /-- TB1 at the last setting of O outside a run, 2^-32 s -/
  since : Int := 0
deriving DecidableEq, Repr, Inhabited

/-- A compare unit (R127, R128, Table 5-9). -/
structure Compare where
  /-- armed | 1 | 05 R127 | disarmed (R132) -/
  armed : Bool := false
  /-- state BEHIND (else BEFORE) | 1 | 05 R127 | DESIGN CHOICE 0, log 6 -/
  behind : Bool := false
  /-- CHANNEL, none for the web position | 8 | 05 Table 5-9 | DESIGN CHOICE none, log 6 -/
  ch : Option Nat := none
  /-- D is -1 | 1 | 05 R127 | DESIGN CHOICE 0, log 6 -/
  reverse : Bool := false
  /-- OPTIONS bit 1, post EV_COMPARE_FIRED | 1 | 05 Table 5-9 | DESIGN CHOICE 0, log 6 -/
  post : Bool := false
  /-- TRIGGER | 8 | 05 Table 5-9 | DESIGN CHOICE none, log 6 -/
  trigger : Option Nat := none
  /-- CAPTURE | 8 | 05 Table 5-9 | DESIGN CHOICE none, log 6 -/
  capture : Option Nat := none
  /-- GPIO | 8 | 05 Table 5-9 | DESIGN CHOICE none, log 6 -/
  gpio : Option Nat := none
  /-- PULSE_US | 8 | 05 Table 5-9 | DESIGN CHOICE 1, log 6 -/
  pulseUs : Nat := 1
  /-- V, frets | 64 | 05 R127 | DESIGN CHOICE 0, log 6 -/
  value : Int := 0
  /-- PERIOD | 64 | 05 R127 | DESIGN CHOICE 0, log 6 -/
  period : Nat := 0
  /-- COUNT left, 0 unlimited | 32 | 05 R127 | DESIGN CHOICE 0, log 6 -/
  count : Nat := 0
deriving DecidableEq, Repr, Inhabited

/-- POS (spec/05). -/
structure Pos where
  /-- encoder channels E0 to E3 | 4 x Channel | 05 R109 | disabled (R132) -/
  ch : List Channel := List.replicate 4 {}
  /-- channel carrying the web role | - | 05 R109 | none (R132) -/
  web : Option Nat := none
  /-- backup of the web channel | - | 05 R125 | none (R132) -/
  backup : Option Backup := none
  /-- a retired web channel whose fail-over waits for the next sample of the backup: channel, last pos_q32 | - | 05 R126 | none -/
  failover : Option (Nat × Int) := none
  /-- compare units CMP0 to CMP15 | 16 x Compare | 05 R127 | disarmed (R132) -/
  cmp : List Compare := List.replicate 16 {}
deriving DecidableEq, Repr, Inhabited

end Sys2Proof.Machine
end

