-- ==== Sys2Proof/Machine/StateSec.lean ====
section
/-!
DEFINITION. State of SEC: protection table, keys, counters, lifecycle, debug, firmware slots
(spec/04_security_and_debug.md), and what stands in SPI NOR (spec/17_bring_up_and_discovery.md, R433).
-/
namespace Sys2Proof.Machine

/-- Lifecycle states (R96). -/
inductive Lifecycle where
  | blank | provisioned | locked | returned
deriving DecidableEq, Repr, Inhabited

/-- Debug states (R97). -/
inductive Debug where
  | off | observe | full
deriving DecidableEq, Repr, Inhabited

/-- A ring entry of the protection table (Table 4-2). -/
structure RingEntry where
  role : Nat := 3
  authRequired : Bool := false
  ethAllowed : Bool := false
deriving DecidableEq, Repr, Inhabited

/-- A protection table (Table 4-1). -/
structure ProtTable where
  generation : Nat := 0
  rings : List RingEntry := []
  /-- four role entries of sixteen masks, one per opcode group (R85) -/
  perms : List (List Nat) := []
  crc : Nat := 0
deriving DecidableEq, Repr, Inhabited

/-- One authentication counter (R94): L, J, and whether a reservation write is pending. -/
structure Counter where
  /-- L, last accepted | 64 | 04 R94 | set at boot (R95) -/
  last : Nat := 0
  /-- J, the reservation mark in the journal | 64 | 04 R94 | set at boot (R95) -/
  mark : Nat := 0
  /-- a reservation write is pending | 1 | 04 R94 | 0 -/
  pending : Bool := false
deriving DecidableEq, Repr, Inhabited

/-- A firmware image standing in a slot (Table 4-11), reduced to what the device reports and checks. -/
structure Image where
  fwVersion : Nat := 0
  featLevel : Nat := 0
  svn : Nat := 0
  keyIndex : Nat := 0
  ckptFormat : Nat := 0
  /-- the image as written -/
  bytes : List Byte := []
deriving DecidableEq, Repr, Inhabited

/-- A command saved by SYS_CONFIG_SAVE (R434). -/
structure SavedCmd where
  opcode : Nat := 0
  params : List Byte := []
  pblk : List Byte := []
deriving DecidableEq, Repr, Inhabited

/-- What a journal write carries (R39, R94, R363, R384, R164). -/
inductive JournalItem where
  | counter (ring role : Nat) (mark : Nat) (held : Bool)
  | retire (unit criterion : Nat)
  | restore (unit : Nat)
  | page (page : Nat)
  | trim (sensor : Nat) (trim : Int)
  | profile (bytes : List Byte) (cmd : CmdId)
deriving DecidableEq, Repr, Inhabited

/-- What stands in the SPI NOR flash and survives every reset (R433). -/
structure Nor where
  /-- the two copies of the protection table | 2 x 192 bytes | 04 R84 | DESIGN CHOICE none, log 9 -/
  protCopies : List (Option ProtTable) := [none, none]
  /-- the saved key store, wrapped (AES-KW) | bytes | 04 R90 | DESIGN CHOICE never saved, log 9 -/
  keyCopy : List Byte := []
  /-- image slots A and B | 2 | 17 Table 17-3 | DESIGN CHOICE slot A holds the running image, log 9 -/
  slots : List (Option Image) := [some {}, none]
  /-- boot directory: the permanent image | 1 | 04 R106 | DESIGN CHOICE slot A, log 9 -/
  bootSlot : Nat := 0
  /-- boot directory: trial image selected | - | 04 R106 | DESIGN CHOICE none, log 9 -/
  trial : Option Nat := none
  /-- a trial image that failed, for EV_FW_TRIAL_FALLBACK at READY | - | 04 R106 | none -/
  failedTrial : Option Nat := none
  /-- board record | bytes | 17 R436 | DESIGN CHOICE none, log 9 -/
  boardRecord : List Byte := []
  /-- saved configuration slots 0 and 1 | 2 | 17 R434 | DESIGN CHOICE empty, log 9 -/
  configs : List (Option (List SavedCmd)) := [none, none]
  /-- configuration slot applied at boot | - | 17 R434 | DESIGN CHOICE none, log 9 -/
  bootConfig : Option Nat := none
  /-- journalled reservation marks, ring by role | 32 x 64 | 04 R94, R95 | DESIGN CHOICE 0, log 9 -/
  marks : List Nat := List.replicate 32 0
  /-- journalled retirements: unit, criterion | - | 02 R39 | DESIGN CHOICE none, log 9 -/
  retired : List (Nat × Nat) := []
  /-- journalled retired pages, oldest first | - | 07 R164 | DESIGN CHOICE none, log 9 -/
  pages : List Nat := []
  /-- saved sensor trims | - | 14 R386 | DESIGN CHOICE none, log 9 -/
  trims : List (Nat × Int) := []
  /-- the two newest saved profiles, newest first | - | 13 R363 | DESIGN CHOICE none, log 9 -/
  profiles : List (List Byte) := []
  /-- journal writes begun and not finished, oldest first | - | 04 R94 | none -/
  queue : List JournalItem := []
deriving DecidableEq, Repr, Inhabited

/-- A SEC_PROTECT_WRITE under way (Table 4-6). -/
structure ProtSwitch where
  table : ProtTable := {}
  cmd : CmdId := (0, 0)
  /-- commands cancelled in step 2, for EV_PROTECT_CHANGED -/
  cancelled : Nat := 0
  /-- step 4, the NOR write, has begun -/
  writing : Bool := false
deriving DecidableEq, Repr, Inhabited

/-- SEC (spec/04). -/
structure Sec where
  /-- fused lifecycle state | 2 | 04 R96 | DESIGN CHOICE BLANK, log 9 -/
  lifecycle : Lifecycle := .blank
  /-- debug state | 2 | 04 R97 | FULL in BLANK and RETURNED, OFF otherwise -/
  debug : Debug := .full
  /-- protection table in force | 192 bytes | 04 R84 | loaded at boot; before it none (ROLE reads Monitor) -/
  prot : ProtTable := {}
  /-- protection table switch under way | - | 04 R88 | none -/
  switch : Option ProtSwitch := none
  /-- key slots 0 to 8 | 9 x 128 | 04 R89 Table 4-7 | empty until boot (R90) -/
  keys : List (Option Nat) := List.replicate 9 none
  /-- current slot of each role | 4 | 04 R89 | none until boot (R90) -/
  current : List (Option Nat) := List.replicate 4 none
  /-- fuses: release keys revoked | 4 | 04 R93 | DESIGN CHOICE none, log 9 -/
  fwRevoked : List Bool := [false, false, false, false]
  /-- fuses: anti-rollback fuses blown, SVN_MIN | 64 | 04 R104 | DESIGN CHOICE 0, log 9 -/
  svnMin : Nat := 0
  /-- counters, index 4 ring + role | 32 x Counter | 04 R94 | set at boot (R95) -/
  counters : List Counter := List.replicate 32 {}
  /-- slot of the running image, DEV_STATUS.BOOT_IMAGE | 1 | 04 R106 | DESIGN CHOICE A, log 9 -/
  bootImage : Nat := 0
  /-- the running image | - | 04 R103 | DESIGN CHOICE as in slot A, log 9 -/
  running : Image := {}
  /-- the running image is on trial, not yet confirmed | 1 | 04 R106 | 0 -/
  onTrial : Bool := false
  /-- the running image has been confirmed | 1 | 04 R104, R106 | DESIGN CHOICE 1, log 9 -/
  confirmed : Bool := true
  /-- NOR writes begun and not finished: region, bytes, command | - | 04 R107 | none -/
  norWrites : List (Nat × List Byte × CmdId) := []
  /-- a SYS_RESET or a debug change has ordered a reset, with its cause | - | 17 R443, 04 R98 | none -/
  resetOrdered : Option Nat := none
deriving DecidableEq, Repr, Inhabited

end Sys2Proof.Machine
end

