-- ==== Sys2Proof/Machine/StateStat.lean ====
section
/-!
DEFINITION. State of the events, counters, records and health report (spec/16_events_and_statistics.md)
and of unit retirement (spec/02_architecture.md, R36 to R39).
-/
namespace Sys2Proof.Machine

/-- A posted event (R415, Table 16-1), with its HSEQ; the phase bit belongs to the ring. -/
structure Event where
  code : Nat := 0
  severity : Nat := 0
  summary : Bool := false
  source : Nat := 0
  sec : Nat := 0
  frac : Nat := 0
  /-- frets, none: NO_POSITION -/
  pos : Option Int := none
  p1 : Nat := 0
  p2 : Nat := 0
deriving DecidableEq, Repr, Inhabited

/-- Settings of an opcode group (R421). -/
structure Mask where
  postSev : Nat := 0
  irqSev : Nat := 1
  vector : Nat := 8
deriving DecidableEq, Repr, Inhabited

/-- Gathering of an event vector (R421). -/
structure EvVec where
  count : Nat := 1
  time : Nat := 0
  pending : Nat := 0
  since : Int := 0
deriving DecidableEq, Repr, Inhabited

/-- A frame record (R423, R424): the header and the counters. -/
structure Record where
  seq : Nat := 0
  runId : Nat := 0
  frame : Nat := 0xFFFFFFFF
  flags : Nat := 0
  /-- OPEN_TB0, 2^-32 s -/
  openTb0 : Int := 0
  /-- CLOSE_TB0, 2^-32 s -/
  closeTb0 : Int := 0
  capo : Int := 0
  lines : Nat := 0
  /-- counters that have been set, by key 65536 section + 256 instance + index; an absent one reads 0 -/
  counts : List (Nat × Int) := []
deriving DecidableEq, Repr, Inhabited

/-- A retired unit of the health report (R39, Table 16-7). -/
structure Retired where
  unit : Nat := 0
  criterion : Nat := 0
  /-- journalled before this boot -/
  before : Bool := false
  deviceFault : Bool := false
  sec : Nat := 0
  frac : Nat := 0
deriving DecidableEq, Repr, Inhabited

/-- A rate limit's window for one event code and unit: TB1 of the last entry and occurrences held back. -/
structure Rate where
  code : Nat := 0
  unit : Nat := 0
  since : Int := 0
  count : Nat := 0
deriving DecidableEq, Repr, Inhabited

/-- A unit's sticky bits and peak as STAT_PEAKS reads them where no other field holds them (R422). -/
structure Sticky where
  unit : Nat := 0
  bits : Nat := 0
  peak : Int := 0
deriving DecidableEq, Repr, Inhabited

/-- Events and statistics (spec/16). -/
structure Stat where
  /-- event history, newest first | at most 4,096 x 32 bytes | 16 R420 | empty (R429) -/
  history : List Event := []
  /-- HSEQ of the next entry | 32 | 16 R420 | 0 (R429) -/
  hseq : Nat := 0
  /-- settings of groups 0x01 to 0x10 | 16 x Mask | 16 R421 | INFO, WARNING, vector 8 -/
  masks : List Mask := List.replicate 16 {}
  /-- gathering of vectors 0 to 63 | 64 x EvVec | 16 R421 | COUNT 1, TIME 0 -/
  vecs : List EvVec := List.replicate 64 {}
  /-- open record | 3,784 bytes | 16 R423 | every counter empty (R429) -/
  cur : Record := {}
  /-- TB1 at the opening of the open record, 2^-32 s | 96 | 16 R424 | 0 -/
  openTb1 : Int := 0
  /-- a record is open (false while in P3) | 1 | 16 R429 | 1 -/
  isOpen : Bool := true
  /-- counters set ahead for frames whose record is not open: frame, key, value | - | 16 R423 | none -/
  ahead : List (Nat × Nat × Int) := []
  /-- closed records, newest first | at most 256 | 16 R425 | empty (R429) -/
  records : List Record := []
  /-- RECORD_SEQ of the next record | 32 | 16 R425 | 0 (R429) -/
  recSeq : Nat := 0
  /-- cumulative record | 3,784 bytes | 16 R426 | empty (R429) -/
  cumul : Record := {}
  /-- newest record read by the host, RECORD_SEQ + 1 | 32 | 16 Table 16-6 | 0 -/
  readUpTo : Nat := 0
  /-- a record was overwritten unread since the last SYS_HEALTH | 1 | 16 Table 16-6 | 0 -/
  overwritten : Bool := false
  /-- LOST at the last SYS_HEALTH | 32 | 16 Table 16-6 | 0 -/
  lostAtHealth : Nat := 0
  /-- TB1 at the last IDLE close | 96 | 16 R423 | set at READY -/
  idleSince : Int := 0
  /-- retired units, oldest first | - | 02 R39 | those journalled, at boot -/
  retired : List Retired := []
  /-- units judged permanently faulty whose retirement waits for its boundary: unit, criterion | - | 02 R37 | none -/
  doomed : List (Nat × Nat) := []
  /-- DIAG_UNIT_RETIRE commands waiting for the retirement of a unit | - | 17 R443 | none -/
  retireCmds : List (Nat × CmdId) := []
  /-- transient upsets of each unit in the last 24 h: unit, TB1 | - | 02 R36 | none -/
  upsets : List (Nat × Int) := []
  /-- losses of lock of each unit in the last minute: unit, TB1 | - | 02 R36 | none -/
  lockLosses : List (Nat × Int) := []
  /-- unit of the device fault | 16 | 02 R38 | none -/
  fault : Option Nat := none
  /-- rate limits of events | - | 02 R29 and the chapters | none -/
  rates : List Rate := []
  /-- events posted in the open frame that are limited to once a frame: code, unit | - | the chapters | none -/
  frameOnce : List (Nat × Nat) := []
  /-- sticky bits and peaks not held elsewhere | - | 16 R422 | clear (R429) -/
  stickies : List Sticky := []
deriving DecidableEq, Repr, Inhabited

end Sys2Proof.Machine
end

