-- ==== Sys2Proof/Machine/StateStore.lean ====
section
/-!
DEFINITION. State of MEM and CDC: the image store, page accounts, ECC tables, scratch memory
(spec/07_image_store_and_codec.md).
-/
namespace Sys2Proof.Machine

/-- Job states (Table 7-10). -/
inductive JobState where
  | loading | ready | damaged | deleting
deriving DecidableEq, Repr, Inhabited

/-- What a JOB_LOAD or JOB_ENCODE in flight gives (R179, R183). -/
structure LoadKind where
  cmd : CmdId := (0, 0)
  /-- false: a load, true: an encode -/
  encode : Bool := false
  /-- VERIFY -/
  verify : Bool := false
  /-- MAX_PAGES -/
  maxPages : Nat := 0
deriving DecidableEq, Repr, Inhabited

/-- A bad block of a job: object and block number (R177). -/
structure BadBlock where
  obj : Nat := 0
  block : Nat := 0
deriving DecidableEq, Repr, Inhabited

/-- A job of the store (R181). -/
structure Job where
  /-- JOB_ID | 32 | 07 R181 | none stored (R186) -/
  id : Nat := 0
  /-- state | 2 | 07 Table 7-10 | none stored -/
  st : JobState := .loading
  /-- the container, byte for byte | bytes | 07 R165 | none stored -/
  bytes : List Byte := []
  /-- pages held | 32 | 07 Table 7-13 | none stored -/
  pages : Nat := 0
  /-- TB0 at READY, 2^-32 s | 96 | 07 Table 7-14 | none stored -/
  time : Int := 0
  /-- lowest worst window ratio, Q24.8 | 32 | 07 R173 | none stored -/
  worst : Nat := 0
  /-- bad-block list | at most 1,024 | 07 R177 | none stored -/
  bad : List BadBlock := []
  /-- bad blocks beyond the list | 32 | 07 R177 | 0 -/
  badMore : Nat := 0
  /-- load or encode in flight | - | 07 R183 | none stored -/
  load : Option LoadKind := none
  /-- JOB_DELETE in flight | - | 07 R182 | none stored -/
  delete : Option CmdId := none
  /-- mirrored onto the standby | 1 | 15 R399 | 0 -/
  mirrored : Bool := false
  /-- the mirror policy leaves it out: 0 by POLICY, 1 excluded | 2 | 15 R399 | 0 -/
  mirrorMode : Nat := 0
deriving DecidableEq, Repr, Inhabited

/-- Who owns a page or a line (Table 7-17). -/
inductive Owner where
  | system | scratch | job (id : Nat) | ring | ledger | archive | free | staging
deriving DecidableEq, Repr, Inhabited

/-- A page being copied into its replacement (Table 7-2). -/
structure Migration where
  page : Nat := 0
  owner : Owner := .free
  line : Nat := 0
  criterion : Nat := 0
deriving DecidableEq, Repr, Inhabited

/-- MEM and the store (spec/07). -/
structure Store where
  /-- size of the device memory, GB | 8 | 07 R158, 17 Table 17-5 | the board record's, DESIGN CHOICE 64, log 6 -/
  memGB : Nat := 64
  /-- transfer rate of the device memory, MT/s | 16 | 07 R158 | the board record's, DESIGN CHOICE 8,533, log 6 -/
  memMts : Nat := 8533
  /-- pages of the ring reservation | 32 | 07 R160 | 0 (R186) -/
  ring : Nat := 0
  /-- pages of the ledger reservation | 32 | 07 R160 | 0 (R186) -/
  ledger : Nat := 0
  /-- pages of the archive reservation | 32 | 07 R160 | 0 (R186) -/
  archive : Nat := 0
  /-- staging pages of JOB_ENCODE | 32 | 07 R160 | 0 (R186) -/
  staging : Nat := 0
  /-- spare pages | 3 | 07 R160 | 4 (R186) -/
  spares : Nat := 4
  /-- pages retired, physical page numbers, oldest first | at most 256 | 07 R164 | those journalled -/
  retired : List Nat := []
  /-- SYSTEM and SCRATCH pages in the remap table: page, replacement | 16 entries | 07 R164 | DESIGN CHOICE none, log 6 -/
  remap : List (Nat × Nat) := []
  /-- lines whose one re-read after a link error is under way | - | 07 R161 | none -/
  rereads : List Nat := []
  /-- the jobs, in JOB_ID order | at most 1,024 | 07 R181 | none (R186) -/
  jobs : List Job := []
  /-- LOW_MARK | 32 | 07 R185 | 0 (R186) -/
  lowMark : Nat := 0
  /-- the EV_STORE_LOW notice is armed | 1 | 07 R185 | 1 -/
  lowArmed : Bool := true
  /-- the 64 most recently erring lines with their upset times, TB1 | 64 | 07 R162 | none -/
  correctable : List (Nat × List Int) := []
  /-- lines with an uncorrectable error | 256 entries | 07 R162 | none -/
  uncorrectable : List Nat := []
  /-- corrections since the last EV_MEM_CORRECTED, by channel | 8 x 32 | 07 R185 | 0 -/
  corrected : List Nat := List.replicate 8 0
  /-- patrol scrub address, lines | 30 | 07 R163 | 0 (R186) -/
  scrub : Nat := 0
  /-- pages in migration | - | 07 Table 7-2 | none -/
  migrations : List Migration := []
  /-- SCRATCH bytes that are not zero: offset in SCRATCH, byte, strictly rising | 64 MB | 07 Table 7-1, 03 R52 | zeros (R186) -/
  scratch : List Host.Cell := []
deriving DecidableEq, Repr, Inhabited

end Sys2Proof.Machine
end

