-- ==== Sys2Proof/Machine/StateThermal.lean ====
section
/-!
DEFINITION. State of THM and PWR (spec/14_thermal_and_power.md).
-/
namespace Sys2Proof.Machine

/-- A die sensor T0 to T15 (R366, R367). Temperatures in 1/16 degree C, times TB1 in 2^-32 s. -/
structure Sensor where
  /-- last reading, trim included | 16 | 14 R366 | DESIGN CHOICE 0, log 6 -/
  temp : Int := 0
  /-- last raw reading | 16 | 14 Table 14-7 | DESIGN CHOICE 0, log 6 -/
  raw : Int := 0
  /-- trim in force | 9 | 14 R386 | fused trim (Config), or the saved one -/
  trim : Int := 0
  /-- last valid reading | 16 | 14 R368 | DESIGN CHOICE 0, log 6 -/
  lastValid : Int := 0
  /-- readings at their changes in the last 10 s, newest first | - | 14 R367 | none -/
  changes : List (Int × Int) := []
  /-- sampling periods without a result | 2 | 14 R367 | 0 -/
  missing : Nat := 0
  /-- failed by: bit 1 range, bit 2 stuck, bit 3 timeout; 0 in service | 4 | 14 R367 | 0 (R386) -/
  failed : Nat := 0
  /-- TB1 since which a failed sensor's readings are good | - | 14 R367 | none -/
  goodSince : Option Int := none
deriving DecidableEq, Repr, Inhabited

/-- Thresholds (R374). -/
structure Levels where
  warn : Int := 1520
  throttle : Int := 1632
  step : Int := 64
  shutdown : Int := 1792
  hyst : Int := 64
deriving DecidableEq, Repr, Inhabited

/-- A rail entry and its telemetry (R381). -/
structure Rail where
  addr : Nat := 0
  page : Nat := 0
  rail : Nat := 0xFF
  vout : Nat := 0
  iout : Nat := 0
  temp : Int := 0
  status : Nat := 0
  /-- fault bits reported -/
  reported : Nat := 0
  unreachable : Bool := false
  /-- TB1 at the last poll, 2^-32 s -/
  polled : Option Int := none
deriving DecidableEq, Repr, Inhabited

/-- Power states (R376). -/
inductive Power where
  | p0 | p1 | p2 | p3 | p4
deriving DecidableEq, Repr, Inhabited

/-- THM and PWR (spec/14). -/
structure Thermal where
  /-- sensors | 16 x Sensor | 14 R366 | in service (R386) -/
  sensors : List Sensor := List.replicate 16 {}
  /-- levels | - | 14 R374 | defaults (R386) -/
  levels : Levels := {}
  /-- levels to apply from the next sample, with their commands | - | 14 R374 | none -/
  newLevels : Option (Levels × List CmdId) := none
  /-- warning reached | 1 | 14 Table 14-1 | 0 -/
  warned : Bool := false
  /-- throttle level | 2 | 14 R369 | 0 (R386) -/
  level : Nat := 0
  /-- TB1 since which the throttle level is in force, 2^-32 s | 96 | 14 Table 14-9 | 0 -/
  levelSince : Int := 0
  /-- shut-down hold | 1 | 14 R372 | 0 -/
  hold : Bool := false
  /-- TB1 since which every reading is below SHUTDOWN - HYST | - | 14 R372 | none -/
  coolSince : Option Int := none
  /-- TB1 since which a substitution is active | - | 14 R368 | none -/
  substSince : Option Int := none
  /-- floor of the throttle level | 2 | 14 R368 | 0 -/
  floor : Nat := 0
  /-- hottest reading and its sensor at the last sample | 16, 4 | 14 R366 | DESIGN CHOICE 0, log 6 -/
  hottest : Int := 0
  hotSensor : Nat := 0
  /-- TB1 at the last sample | 96 | 14 R366 | 0 -/
  sampled : Int := 0
  /-- hardware trip | 1 | 14 R373 | 0 -/
  tripped : Bool := false
  /-- power state | 3 | 14 R376 | P1 (R386) -/
  power : Power := .p1
  /-- THERM_POWER_STATE in flight with its target and TB1 at its start | - | 14 R377 | none -/
  going : Option (CmdId × Power × Int) := none
  /-- P2 has been commanded | 1 | 14 Table 14-2 | 0 -/
  wantP2 : Bool := false
  /-- WAKE_GPIO | 16 | 14 R378 | DESIGN CHOICE 0, log 6 -/
  wakeMask : Nat := 0
  /-- rail entries, none not managed | 16 x Rail | 14 R381 | from the board record (R386) -/
  rails : List (Option Rail) := List.replicate 16 none
  /-- VDD_CORE commanded, 0.1 mV | 16 | 14 R382 | 0.80 V (18 R455) -/
  vcore : Nat := 8000
  /-- AVS_OFF | 1 | 14 R382 | AVS running (R386) -/
  avsOff : Bool := false
  /-- TB1 at the last AVS adjustment | 96 | 14 R382 | 0 -/
  avsAt : Int := 0
  /-- a THERM_PMBUS under way: command, OP, index, retried | - | 14 R381 | none -/
  pmbus : Option (CmdId × Nat × Nat × Bool) := none
deriving DecidableEq, Repr, Inhabited

end Sys2Proof.Machine
end

