-- ==== Sys2Proof/Machine/StateTime.lean ====
section
/-!
DEFINITION. State of TIM and of PTP (spec/06_time_bases.md).
-/
namespace Sys2Proof.Machine

/-- One of TB0 to TB3 (R134). -/
structure Tb where
  /-- seconds, signed | 64 | 06 R134 | 0 (R157) -/
  sec : Int := 0
  /-- fraction, units of 2^-64 s | 64 | 06 R134 | 0 (R157) -/
  frac : Nat := 0
  /-- ADJ, units of 2^-40, signed | 32 | 06 R134 | 0 (R157) -/
  adj : Int := 0
deriving DecidableEq, Repr, Inhabited

/-- TBF (R12, R134). -/
structure Tbf where
  /-- seconds, signed | 64 | 06 R134 | 0 (R157) -/
  sec : Int := 0
  /-- nanoseconds | 30 | 06 R134 | 0 (R157) -/
  ns : Nat := 0
  /-- sub-nanosecond fraction, 2^-32 ns | 32 | 06 R134 | 0 (R157) -/
  sub : Nat := 0
  /-- ADJ of the clock the servo drives | 32 | 06 R134 | 0 (R157) -/
  adj : Int := 0
deriving DecidableEq, Repr, Inhabited

/-- PTP domain states (Table 6-2), in the table's order. -/
inductive Ptp where
  | off | acquiring | joining | locked | holdover | recovering | master | test
deriving DecidableEq, Repr, Inhabited

/-- A grandmaster as Announce gives it (Table 6-13). -/
structure Gm where
  identity : Nat := 0
  priority1 : Nat := 0
  priority2 : Nat := 0
  clockClass : Nat := 0
  clockAccuracy : Nat := 0
  variance : Nat := 0
  stepsRemoved : Nat := 0
  utcOffset : Nat := 0
  utcValid : Bool := false
deriving DecidableEq, Repr, Inhabited

/-- PTP domain A or B (R143). -/
structure Domain where
  /-- state | 3 | 06 Table 6-2 | OFF (R157) -/
  st : Ptp := .off
  /-- FLAGS.TEST | 1 | 06 Table 6-3 | DESIGN CHOICE 0, log 6 -/
  test : Bool := false
  /-- LOCK_NS | 16 | 06 Table 6-3 | 100 (the field's default) -/
  lockNs : Nat := 100
  /-- UNLOCK_NS | 16 | 06 Table 6-3 | 1,000 (default) -/
  unlockNs : Nat := 1000
  /-- JOIN_PPM | 16 | 06 R144 | 100 (default) -/
  joinPpm : Nat := 100
  /-- KP, Q16.16, 0 selects 0.7 R | 32 | 06 Table 6-3 | 0 (default) -/
  kp : Nat := 0
  /-- KI, Q16.16, 0 selects 0.05 R | 32 | 06 Table 6-3 | 0 (default) -/
  ki : Nat := 0
  /-- STEP_NS | 32 | 06 Table 6-3 | 1,000 (default) -/
  stepNs : Nat := 1000
  /-- HOLDOVER_WARN_S | 16 | 06 Table 6-3 | 600 (default) -/
  warnS : Nat := 600
  /-- integrator, ppb in Q16.16 | 64 | 06 R142 | DESIGN CHOICE 0, log 6 -/
  integ : Int := 0
  /-- last e, ns | 64 | 06 R142 | DESIGN CHOICE 0, log 6 -/
  lastE : Int := 0
  /-- consecutive samples within LOCK_NS | 8 | 06 Table 6-2 | 0 -/
  good : Nat := 0
  /-- consecutive samples beyond UNLOCK_NS | 8 | 06 Table 6-2 | 0 -/
  bad : Nat := 0
  /-- servo port | - | 06 R140 | none (R157) -/
  servoPort : Option Nat := none
  /-- which port's master the BMCA ranked better when both ports last had one | - | 06 R140 | none -/
  better : Option Nat := none
  /-- grandmaster in force | - | 06 Table 6-13 | none -/
  gm : Option Gm := none
  /-- TB1 at which the domain left LOCKED for HOLDOVER or RECOVERING, 2^-32 s | 96 | 06 Table 6-12 | none -/
  holdSince : Option Int := none
  /-- TB1 at which the present HOLDOVER began, 2^-32 s | 96 | 06 R145 | none -/
  holdoverAt : Option Int := none
  /-- EV_TIME_HOLDOVER_LONG posted for this holdover | 1 | 06 R145 | 0 -/
  longPosted : Bool := false
  /-- TB0 is being slewed to TBF | 1 | 06 R144 | 0 -/
  slewing : Bool := false
  /-- DISAGREE, sticky | 1 | 06 R148 | 0 (R157) -/
  disagree : Bool := false
  /-- the DISAGREE notice is armed | 1 | 06 R148 | 1 -/
  disagreeArmed : Bool := true
  /-- TB0 second of the last TBF reload | 64 | 06 R144 | none -/
  lastReload : Option Int := none
deriving DecidableEq, Repr, Inhabited

/-- A path hold on a port (R147). -/
structure PathHold where
  /-- TB1 at which its 8 s began | 96 | 06 R147 | none -/
  since : Int := 0
  /-- the 8 s are over, stable samples are looked for | 1 | 06 R147 | none -/
  looking : Bool := false
  /-- first of the mpd samples being counted | 64 | 06 R147 | none -/
  first : Option Int := none
  /-- samples counted | 8 | 06 R147 | none -/
  n : Nat := 0
deriving DecidableEq, Repr, Inhabited

/-- An Ethernet port's PTP side (Table 6-7). -/
structure PtpPort where
  /-- ROLE, 0 none, 1 A, 2 B | 2 | 06 Table 6-7 | none (R157) -/
  role : Nat := 0
  /-- DOMAIN_NUMBER | 7 | 06 Table 6-7 | DESIGN CHOICE 0, log 6 -/
  domainNumber : Nat := 0
  /-- FLAGS.P2P | 1 | 06 Table 6-7 | DESIGN CHOICE 0, log 6 -/
  p2p : Bool := false
  /-- FLAGS, IEEE 802.3 transport | 1 | 06 Table 6-7 | DESIGN CHOICE 0, log 6 -/
  l2 : Bool := false
  /-- FLAGS, master-capable | 1 | 06 Table 6-7 | DESIGN CHOICE 0, log 6 -/
  masterCapable : Bool := false
  /-- FLAGS, two-step as master | 1 | 06 Table 6-7 | DESIGN CHOICE 0, log 6 -/
  twoStep : Bool := false
  /-- LOG_SYNC, signed | 8 | 06 Table 6-7 | DESIGN CHOICE 0, log 6 -/
  logSync : Int := 0
  /-- LOG_DELAY, signed | 8 | 06 Table 6-7 | DESIGN CHOICE 0, log 6 -/
  logDelay : Int := 0
  /-- LOG_ANNOUNCE, signed | 8 | 06 Table 6-7 | DESIGN CHOICE 0, log 6 -/
  logAnnounce : Int := 0
  /-- ANNOUNCE_TIMEOUT | 8 | 06 Table 6-7 | 3 (default) -/
  announceTimeout : Nat := 3
  /-- PRIORITY1 | 8 | 06 Table 6-7 | DESIGN CHOICE 0, log 6 -/
  priority1 : Nat := 0
  /-- PRIORITY2 | 8 | 06 Table 6-7 | DESIGN CHOICE 0, log 6 -/
  priority2 : Nat := 0
  /-- CLOCK_CLASS | 8 | 06 Table 6-7 | 248 (default) -/
  clockClass : Nat := 248
  /-- PATH_STEP_NS | 16 | 06 R147 | 200 (default) -/
  pathStepNs : Nat := 200
  /-- INGRESS_LAT, signed, 2^-16 ns | 32 | 06 Table 6-7 | 0 (R157) -/
  ingress : Int := 0
  /-- EGRESS_LAT, signed, 2^-16 ns | 32 | 06 Table 6-7 | 0 (R157) -/
  egress : Int := 0
  /-- ASYM, signed, 2^-16 ns | 32 | 06 R149 | 0 (R157) -/
  asym : Int := 0
  /-- reference mean path delay, 2^-16 ns | 64 | 06 R147 | none (R157) -/
  refMpd : Option Int := none
  /-- path hold | - | 06 R147 | none -/
  hold : Option PathHold := none
  /-- last mean path delay, 2^-16 ns | 64 | 06 Table 6-13 | DESIGN CHOICE 0, log 6 -/
  mpd : Int := 0
  /-- the last 16 offsets, ns, newest first | 16 x 64 | 06 R148 | none -/
  offsets : List Int := []
  /-- master heard on the port | - | 06 R140 | none -/
  master : Option Gm := none
  /-- TB1 at the last Announce, 2^-32 s | 96 | 06 R143 | none -/
  lastAnnounce : Option Int := none
  /-- the port is master | 1 | 06 Table 6-2 | 0 -/
  isMaster : Bool := false
  /-- a two-step Sync awaiting Follow_Up: sequence, t2, correction, 2^-16 ns | - | 06 R142 | none -/
  sync : Option (Nat × Int × Int) := none
  /-- the Sync rate in force, log2 of the interval | 8 | 06 R142 | DESIGN CHOICE 0, log 6 -/
  syncLog : Int := 0
  /-- t3 of the Delay_Req or tp1 of the Pdelay_Req last sent: sequence, time | - | 06 R142 | none -/
  reqSent : Option (Nat × Int) := none
  /-- tp4, tp2 and correction of a two-step Pdelay_Resp awaiting its follow-up | - | 06 R142 | none -/
  presp : Option (Nat × Int × Int × Int) := none
  /-- newest completed delay exchange: E2E t4 - t3 - c, P2P the mpd term | - | 06 R142 | none -/
  exchange : Option Int := none
  /-- TB1 at the last Sync, Announce and delay request sent, 2^-32 s | 3 x 96 | 06 R139 | none -/
  syncAt : Option Int := none
  annAt : Option Int := none
  reqAt : Option Int := none
  /-- sequence number of the next message sent | 16 | 06 R139 | DESIGN CHOICE 0, log 6 -/
  seq : Nat := 0
deriving DecidableEq, Repr, Inhabited

/-- A trigger unit (R150, Table 6-9). -/
structure Trigger where
  /-- MODE in force: 0 disarmed, 1 absolute, 2 on start | 2 | 06 Table 6-9 | disarmed (R157) -/
  mode : Nat := 0
  /-- armed on start and started: T is set | 1 | 06 R150 | 0 -/
  running : Bool := false
  /-- TB | 2 | 06 Table 6-9 | DESIGN CHOICE 0, log 6 -/
  tb : Nat := 0
  /-- ACTIONS | 16 | 06 Table 6-9 | DESIGN CHOICE 0, log 6 -/
  actions : Nat := 0
  /-- GPIO | 4 | 06 Table 6-9 | DESIGN CHOICE 0, log 6 -/
  gpio : Nat := 0
  /-- CAMERA | 8 | 06 Table 6-9 | DESIGN CHOICE 0, log 6 -/
  camera : Nat := 0
  /-- CAPTURE | 4 | 06 Table 6-9 | DESIGN CHOICE 0, log 6 -/
  capture : Nat := 0
  /-- NEXT | 4 | 06 Table 6-9 | DESIGN CHOICE 0, log 6 -/
  next : Nat := 0
  /-- PULSE_W, 8 ns | 16 | 06 Table 6-9 | DESIGN CHOICE 0, log 6 -/
  pulseW : Nat := 0
  /-- COUNT left, 0 unlimited | 32 | 06 R151 | DESIGN CHOICE 0, log 6 -/
  count : Nat := 0
  /-- firings since arming | 32 | 06 Table 6-14 | 0 -/
  fired : Nat := 0
  /-- T, or the delay of a unit armed on start, 2^-48 s | 112 | 06 R150, R151 | DESIGN CHOICE 0, log 6 -/
  t : Int := 0
  /-- delay on start, 2^-48 s | 112 | 06 R150 | DESIGN CHOICE 0, log 6 -/
  delay : Int := 0
  /-- PERIOD, 2^-48 s | 64 | 06 R151 | DESIGN CHOICE 0, log 6 -/
  period : Nat := 0
  /-- LATE | 1 | 06 R151 | 0 -/
  late : Bool := false
  /-- camera port that has reserved the unit | - | 06 R151, 12 R325 | none (12 R341) -/
  reserved : Option Nat := none
deriving DecidableEq, Repr, Inhabited

/-- A capture entry (Table 6-11); the TB values as S64.F32 pairs. -/
structure CaptureEntry where
  tbs : List (Int × Nat) := []
  tbfSec : Int := 0
  tbfNs : Nat := 0
  estPos : Int := 0
  pairPos : Int := 0
  ageNs : Nat := 0
  flags : Nat := 0
  seq : Nat := 0
deriving DecidableEq, Repr, Inhabited

/-- A capture unit (R152, R153). -/
structure Capture where
  /-- enabled | 1 | 06 R152 | disabled (R157) -/
  enable : Bool := false
  /-- SOURCE | 2 | 06 Table 6-10 | DESIGN CHOICE 0, log 6 -/
  source : Nat := 0
  /-- INDEX | 8 | 06 Table 6-10 | DESIGN CHOICE 0, log 6 -/
  index : Nat := 0
  /-- EDGE | 2 | 06 Table 6-10 | DESIGN CHOICE 0, log 6 -/
  edge : Nat := 0
  /-- CHANNEL | 8 | 06 Table 6-10 | DESIGN CHOICE 0, log 6 -/
  channel : Nat := 0
  /-- entries held, oldest first | at most 16 | 06 R153 | empty (R157) -/
  entries : List CaptureEntry := []
  /-- captures dropped since configured | 32 | 06 Table 6-10 | 0 -/
  lost : Nat := 0
  /-- drops of the present run | 32 | 06 R153 | 0 -/
  dropRun : Nat := 0
  /-- captures since configured | 32 | 06 Table 6-11 | 0 -/
  seq : Nat := 0
deriving DecidableEq, Repr, Inhabited

/-- TIM (spec/06). -/
structure Tim where
  /-- TB0 to TB3 | 4 x Tb | 06 R133 | 0 (R157) -/
  tb : List Tb := List.replicate 4 {}
  /-- TBF | - | 06 R134 | 0 (R157) -/
  tbf : Tbf := {}
  /-- domains A and B | 2 x Domain | 06 R143 | OFF (R157) -/
  domains : List Domain := [{}, {}]
  /-- the Ethernet ports' PTP side | 2 x PtpPort | 06 R139 | unassigned (R157) -/
  ports : List PtpPort := [{}, {}]
  /-- TB3_RATE_STEP, ppb per ms | 16 | 06 R136 | 1,000 -/
  tb3Step : Nat := 1000
  /-- the standby's pair servo drives ADJ3 | 1 | 15 R394 | 0 -/
  pairServo : Bool := false
  /-- triggers TRG0 to TRG15 | 16 x Trigger | 06 R150 | disarmed (R157) -/
  triggers : List Trigger := List.replicate 16 {}
  /-- captures CAP0 to CAP15 | 16 x Capture | 06 R152 | disabled (R157) -/
  captures : List Capture := List.replicate 16 {}
  /-- TB1 at the last TB3 rate step, 2^-32 s | 96 | 06 R136 | 0 -/
  lastRateStep : Int := 0
  /-- the TB domain PLL is in lock | 1 | 06 R138, 02 R35 | DESIGN CHOICE 1, log 6 -/
  pllLock : Bool := true
  /-- the last TB clock carried TBF's nanoseconds into its seconds | 1 | 19 A1-02 | 0 -/
  tbfCarry : Bool := false
  /-- TB0 - TBF offset the servo keeps, 2^-32 s | 96 | 19 R474 | DESIGN CHOICE 0, log 6 -/
  tbfOffset : Int := 0
  /-- TB clocks slept in P3, added to every time base at the wake | 64 | 14 R379, 06 R137 | 0 -/
  asleep : Nat := 0
deriving DecidableEq, Repr, Inhabited

end Sys2Proof.Machine
end

