-- ==== Sys2Proof/Machine/StateOperand.lean ====
section
/-!
DEFINITION. What the rows of the opcode table carry beside plain numbers and bytes: messages of
the PTP network, of the bridges and of the peer, and results of outside transactions.
-/
namespace Sys2Proof.Machine

/-- A PTP message as it arrives (R139, R142): times in units of 2^-16 ns of the master's timescale with
its seconds in 48 bits, corrections in the same unit, the log of the Sync interval. -/
inductive PtpMsg where
  | sync (seq : Nat) (twoStep : Bool) (origin corr logInterval : Int)
  | followUp (seq : Nat) (origin corr : Int)
  | delayReq (seq : Nat)
  | delayResp (seq : Nat) (receive corr : Int)
  | pdelayReq (seq : Nat)
  | pdelayResp (seq : Nat) (twoStep : Bool) (receive corr : Int)
  | pdelayRespFollowUp (seq : Nat) (origin corr : Int)
  | announce (gm : Gm)
deriving DecidableEq, Repr, Inhabited

/-- How a PTP message comes (R75, R139): as EtherType 0x88F7, or in UDP to an address and a port, untagged or with a VLAN ID. -/
inductive PtpVia where
  | ethernet
  | udp (vlan : Option Nat) (address udpPort : Nat)
deriving DecidableEq, Repr, Inhabited

/-- A memory read's outcome at the device (R161): clean, a single-bit error, an uncorrectable
error, or an error of the LPDDR5X link with or without correction. -/
inductive EccResult where
  | clean | corrected | uncorrectable | linkCorrected | linkFailed
deriving DecidableEq, Repr, Inhabited

/-- A part of the baseline (R394): a mirrored item as it stands in force on the active. -/
inductive BaselinePart where
  | compose (c : Compose)
  | colour (cfg : LoopCfg) (bands : Option Nat) (profile : Option Profile) (st : LoopState) (strip : Option Strip)
  | bars (b : Bars)
  | print (lead nextRun : Nat) (run : Option Run) (capos : List (Nat × Int))
  | pos (channels : List Channel) (web : Option Nat) (backup : Option Backup)
  | courses (cfgs : List CourseCfg) (marks : List (List QMark))
  /-- the transfer is complete; the CRC-32C an authenticated packet carries agrees (R390) -/
  | last (recordSeq : Nat) (crcOk : Bool)
deriving DecidableEq, Repr, Inhabited

/-- A bar in a checkpoint: enabled, FIRST_LINE, next line due, engine, GEN, START_W. -/
structure CkptBar where
  enabled : Bool := false
  firstLine : Nat := 0
  nextDue : Nat := 0
  engine : Nat := 0
  gen : Nat := 0
  startW : Option Int := none
deriving DecidableEq, Repr, Inhabited

/-- A course in a checkpoint: owner epoch, owned by the active, version, lanes up. -/
structure CkptCourse where
  epoch : Nat := 0
  owned : Bool := false
  version : Nat := 2
  lanes : Nat := 0
deriving DecidableEq, Repr, Inhabited

/-- A whole checkpoint (Table 15-5). -/
structure Checkpoint where
  seq : Nat := 0
  format : Nat := 0
  /-- active's TB3 at the snapshot, 2^-32 s -/
  time : Int := 0
  recordSeq : Nat := 0
  runId : Nat := 0
  /-- RUN: the active's run as it stands, none when no run is armed -/
  run : Option Run := none
  lead : Nat := 32
  capos : List (Nat × Int) := []
  /-- POSITION: web channel, newest pair's pos_q32 and TB3, speed, SCALE, backup and O -/
  web : Option Nat := none
  pos : Int := 0
  posTime : Int := 0
  speed : Int := 0
  speedValid : Bool := false
  scale : Option Nat := none
  backup : Option Backup := none
  /-- FRAMES -/
  frames : List (Nat × Int) := []
  /-- BARS -/
  bars : List CkptBar := []
  /-- COURSES -/
  courses : List CkptCourse := []
  /-- LOOP: state, W_START per bar -/
  loop : LoopState := .stopped
  wStart : List (Option Int) := []
  /-- FENCES -/
  fences : List Nat := []
  /-- HEADS: halted contexts with N_h -/
  halted : List (Nat × Nat) := []
deriving DecidableEq, Repr, Inhabited

/-- A regulator's answer to a poll (R381): READ_VOUT in mV, READ_IOUT in 10 mA, temperature in
1/16 degree C, STATUS_WORD. -/
structure RailAnswer where
  vout : Nat := 0
  iout : Nat := 0
  temp : Int := 0
  status : Nat := 0
deriving DecidableEq, Repr, Inhabited

end Sys2Proof.Machine
end

