-- ==== Sys2Proof/Syntax.lean ====
section
/-!
DEFINITION. The 270 rows of the opcode table, one constructor each. A host command carries the command
as fetched (Cmd); every other row carries `dt`, the TB clocks since the row before (log 1), and what the
outside gives it.
-/
namespace Sys2Proof

open Sys2Proof.Machine

/-- The commands of the Lomela 8200: what the host sends it and what happens to it (spec/opcode_table.json). -/
inductive Instr where
  /-- SYS_IDENTIFY (R81): Returns part, revision, firmware version, feature levels and the issuing ring's identity. -/
  | sysIdentify (q : Cmd)
  /-- SYS_HELLO (R82): Agrees the ring's command-protocol version with the host and reports the feature floor. -/
  | sysHello (q : Cmd)
  /-- SYS_HEALTH (R427): Returns the health report, the retired units and the lost-event count. -/
  | sysHealth (q : Cmd)
  /-- SYS_ABORT (R67): Cancels one command in flight on its own ring or on a lower-ranked ring. -/
  | sysAbort (q : Cmd)
  /-- SYS_NOP (R81): Does nothing and completes with ST_OK; with ORDER_BARRIER it serves as a fence. -/
  | sysNop (q : Cmd)
  /-- SYS_RESET (R443): Writes its completion, then resets the device within 10 ms. -/
  | sysReset (q : Cmd)
  /-- SYS_CONFIG_SAVE (R434): Stores the configuration commands in force to a flash slot, or writes the board record. -/
  | sysConfigSave (q : Cmd)
  /-- SYS_CONFIG_LOAD (R435): Replays a saved configuration and restores the previous configuration if a replayed command fails. -/
  | sysConfigLoad (q : Cmd)
  /-- SYS_FW_WRITE (R105): Writes a firmware image into slot A or B and verifies it. -/
  | sysFwWrite (q : Cmd)
  /-- SYS_FW_ACTIVATE (R106): Selects a trial image, confirms the running image, or commits its SVN. -/
  | sysFwActivate (q : Cmd)
  /-- SYS_GPIO (R443): Configures and drives the sixteen GPIO and returns their input levels. -/
  | sysGpio (q : Cmd)
  /-- SEC_STATUS (R107): Returns the lifecycle state, debug state, key slots, SVN and allowed pair roles. -/
  | secStatus (q : Cmd)
  /-- SEC_PROTECT_READ (R107): Returns the protection table in force. -/
  | secProtectRead (q : Cmd)
  /-- SEC_PROTECT_WRITE (R87): Checks a new protection table and switches to it in the steps of Table 4-6. -/
  | secProtectWrite (q : Cmd)
  /-- SEC_KEY_LOAD (R91): Loads a role key into a slot that is not current, in clear or AES-KW form. -/
  | secKeyLoad (q : Cmd)
  /-- SEC_KEY_ROTATE (R92): Makes a role's other key slot current and erases the old current slot. -/
  | secKeyRotate (q : Cmd)
  /-- SEC_KEY_REVOKE (R93): Erases a key slot, or fuse-revokes a firmware release key. -/
  | secKeyRevoke (q : Cmd)
  /-- SEC_LIFECYCLE (R96): Advances the fused lifecycle state along an allowed transition. -/
  | secLifecycle (q : Cmd)
  /-- SEC_DEBUG (R98): Sets the debug state; leaving FULL triggers a full device reset. -/
  | secDebug (q : Cmd)
  /-- SEC_COUNTER_READ (R107): Returns the last accepted counter and the reservation mark of a ring and role. -/
  | secCounterRead (q : Cmd)
  /-- JOB_LOAD (R183): Loads a job container by DMA and checks it, optionally decoding every block. -/
  | jobLoad (q : Cmd)
  /-- JOB_ENCODE (R179): Builds a job container by encoding raw sources into Lomela block format. -/
  | jobEncode (q : Cmd)
  /-- JOB_CANCEL (R184): Cancels a job load or encode in flight, which then keeps nothing. -/
  | jobCancel (q : Cmd)
  /-- JOB_DELETE (R182): Frees a stored job that no layer uses. -/
  | jobDelete (q : Cmd)
  /-- JOB_LIST (R184): Lists the stored jobs in JOB_ID order. -/
  | jobList (q : Cmd)
  /-- JOB_INFO (R184): Describes one job and its objects. -/
  | jobInfo (q : Cmd)
  /-- JOB_STORE_STATUS (R185): Reports memory use and retired pages, and optionally sets the low mark. -/
  | jobStoreStatus (q : Cmd)
  /-- JOB_READ (R184): Reads the stored container bytes of a job back to the host by DMA. -/
  | jobRead (q : Cmd)
  /-- JOB_TRANSFER_DONE (R183): The DMA and checks of a job load, encode or read finish, and the command completes. -/
  | jobTransferDone (dt : Nat) (ring tag : Nat) (glitches : Nat) (mismatch : Option Nat) (lost : List Nat)
  /-- LAYER_CONFIG (R192): Sets a layer's source, format, scaling and policy, pending to the next readiness point while a run is armed. -/
  | layerConfig (q : Cmd)
  /-- LAYER_FLIP (R208): Queues a switch of a layer's content for a target frame. -/
  | layerFlip (q : Cmd)
  /-- LAYER_FENCE (R207): Raises or resets a fence value. -/
  | layerFence (q : Cmd)
  /-- LAYER_PALETTE (R199): Loads a palette slot from the parameter block or from a job object. -/
  | layerPalette (q : Cmd)
  /-- LAYER_TONE (R199): Loads a transform slot's tone map and cube. -/
  | layerTone (q : Cmd)
  /-- LAYER_ORDER (R191): Sets the layer blend order and mode; mode 2 is refused on A1. -/
  | layerOrder (q : Cmd)
  /-- LAYER_GUARD (R203): Configures the guard layer L7 while no run is armed. -/
  | layerGuard (q : Cmd)
  /-- LAYER_STATUS (R216): Returns the state of one layer or of all layers. -/
  | layerStatus (q : Cmd)
  /-- COLOUR_INK_LIMIT (R204): Sets the total-ink limit and its mask. -/
  | colourInkLimit (q : Cmd)
  /-- COLOUR_CURVES (R205): Loads the output curves. -/
  | colourCurves (q : Cmd)
  /-- COLOUR_LOOP_CONFIG (R342): Reserves the colour ledger, loads a profile and sets the loop parameters. -/
  | colourLoopConfig (q : Cmd)
  /-- COLOUR_LOOP_ENABLE (R350): Starts, freezes or stops the colour loop. -/
  | colourLoopEnable (q : Cmd)
  /-- COLOUR_TRIM_READ (R363): Returns a bar's trim points and its trim generation. -/
  | colourTrimRead (q : Cmd)
  /-- COLOUR_TRIM_WRITE (R347): Writes trim points to a bar's pending copy and starts a new trim generation. -/
  | colourTrimWrite (q : Cmd)
  /-- COLOUR_PROFILE_SAVE (R363): Saves the loop model and every bar's trims to the journal as a profile. -/
  | colourProfileSave (q : Cmd)
  /-- COLOUR_STRIP (R351): Configures or turns off the selvedge control strip, or reads or clears the suspect list. -/
  | colourStrip (q : Cmd)
  /-- COLOUR_LEDGER_READ (R363): Returns ledger band entries. -/
  | colourLedgerRead (q : Cmd)
  /-- BAR_CONFIG (R223): Sets a bar's kind, channel, bits, interleave, span, offset and engine. -/
  | barConfig (q : Cmd)
  /-- BAR_HEAD_MAP (R224): Places, replaces or removes a head and its rows on a bar. -/
  | barHeadMap (q : Cmd)
  /-- BAR_SEGMENTS (R226): Loads segment descriptors and optionally commits and checks the whole set. -/
  | barSegments (q : Cmd)
  /-- BAR_SCREEN (R234): Loads a bar's three threshold planes. -/
  | barScreen (q : Cmd)
  /-- BAR_NOZZLE_MAP (R232): Loads nozzle map entries, or the factory map from a head's MIR. -/
  | barNozzleMap (q : Cmd)
  /-- BAR_DERIVE (R235): Loads functional-channel tables, the mask and spreading. -/
  | barDerive (q : Cmd)
  /-- BAR_ENABLE (R242): Puts a bar in print from the next line that falls due. -/
  | barEnable (q : Cmd)
  /-- BAR_DISABLE (R243): Takes a bar out of print at its next line boundary, optionally flushing its queue. -/
  | barDisable (q : Cmd)
  /-- BAR_STATUS (R251): Returns a bar's state, ring range and heads. -/
  | barStatus (q : Cmd)
  /-- PRINT_START (R255): Checks the start conditions and ceilings, reserves the ring and arms a run. -/
  | printStart (q : Cmd)
  /-- PRINT_STOP (R258): Sets a stop mode, and completes when the run ends. -/
  | printStop (q : Cmd)
  /-- PRINT_CAPO (R256): Gives a later frame its own capo position, or withdraws one. -/
  | printCapo (q : Cmd)
  /-- PRINT_LEAD (R268): Sets the lead, stepped one line per 8 ticks during a run. -/
  | printLead (q : Cmd)
  /-- PRINT_OFFSETS (R263): Sets a bar's alignment offsets, slewed at 4 frets per tick during a run. -/
  | printOffsets (q : Cmd)
  /-- PRINT_STATUS (R280): Returns the run state. -/
  | printStatus (q : Cmd)
  /-- POS_ENCODER_CONFIG (R130): Configures an encoder channel's mode, role and parameters. -/
  | posEncoderConfig (q : Cmd)
  /-- POS_SCALE (R116): Sets a channel's fret scale or position, waiting for a frame boundary when it carries the web role in a run. -/
  | posScale (q : Cmd)
  /-- POS_READ (R130): Returns a channel's position, speed, flags and pair history. -/
  | posRead (q : Cmd)
  /-- POS_COMPARE (R127): Arms, re-arms or disarms a compare unit. -/
  | posCompare (q : Cmd)
  /-- POS_BACKUP (R125): Assigns or removes the backup encoder of the web channel. -/
  | posBackup (q : Cmd)
  /-- POS_CALIBRATE (R129): Measures a channel's scale against marks a known distance apart. -/
  | posCalibrate (q : Cmd)
  /-- TIME_CONFIG (R154): Configures a PTP domain's servo and lock parameters. -/
  | timeConfig (q : Cmd)
  /-- TIME_READ (R154): Returns a time base value, or a snapshot of all the time bases. -/
  | timeRead (q : Cmd)
  /-- TIME_STEP (R146): Steps TB0 or TB2, or sets it to a value. -/
  | timeStep (q : Cmd)
  /-- TIME_PTP_CONFIG (R139): Assigns an Ethernet port to a PTP domain and sets its PTP parameters. -/
  | timePtpConfig (q : Cmd)
  /-- TIME_ASYMMETRY (R149): Sets a port's path asymmetry correction. -/
  | timeAsymmetry (q : Cmd)
  /-- TIME_TRIGGER (R150): Arms or disarms a trigger unit. -/
  | timeTrigger (q : Cmd)
  /-- TIME_CAPTURE (R152): Configures, reads, disables or fires a capture unit. -/
  | timeCapture (q : Cmd)
  /-- TIME_STATUS (R155): Returns the lock, holdover and servo state of a domain. -/
  | timeStatus (q : Cmd)
  /-- CAM_CONFIG (R339): Configures a camera port. -/
  | camConfig (q : Cmd)
  /-- CAM_PIPELINE (R335): Writes sensor registers and sets pipeline sections that apply in step with the sensor. -/
  | camPipeline (q : Cmd)
  /-- CAM_ENABLE (R325): Enables a port in a trigger mode, or disables it at the frame boundary. -/
  | camEnable (q : Cmd)
  /-- CAM_CALIBRATE (R355): Fits a port's colour matrix, and optionally its column gains, to a reference target. -/
  | camCalibrate (q : Cmd)
  /-- CAM_FRAME_READ (R334): Reads held frame reports by DMA. -/
  | camFrameRead (q : Cmd)
  /-- CAM_ARCHIVE (R337): Configures, lists, reads or clears the frame archive. -/
  | camArchive (q : Cmd)
  /-- CAM_STATUS (R339): Returns a camera port's state. -/
  | camStatus (q : Cmd)
  /-- LINK_COURSE_CONFIG (R301): Configures a course's version, rate, lanes and time-transfer settings. -/
  | linkCourseConfig (q : Cmd)
  /-- LINK_TRAIN (R308): Brings a course up in the steps of Table 11-8 and claims it. -/
  | linkTrain (q : Cmd)
  /-- LINK_LANE_SLIP (R318): Slips a lane that is not in service by a number of bits. -/
  | linkLaneSlip (q : Cmd)
  /-- LINK_PRBS (R290): Runs, stops or reads a lane's PRBS generator and checker. -/
  | linkPrbs (q : Cmd)
  /-- LINK_INJECT (R291): Arms error injections on a lane or course. -/
  | linkInject (q : Cmd)
  /-- LINK_QUEUE_FLUSH (R313): Flushes a course's line queue. -/
  | linkQueueFlush (q : Cmd)
  /-- LINK_STATUS (R318): Returns lane, course and queue state, optionally clearing sticky bits and the peak. -/
  | linkStatus (q : Cmd)
  /-- LINK_ETH_CONFIG (R79): Configures an Ethernet port's mode, address, UDP port and VLAN. -/
  | linkEthConfig (q : Cmd)
  /-- ETH_PORT_RETRAINED (R79): An Ethernet port finishes retraining, or fails to within 1 s, and the pending LINK_ETH_CONFIG completes. -/
  | ethPortRetrained (dt : Nat) (port : Nat) (linkUp : Bool)
  /-- LINK_MARKS (R315): Sets a line queue's watermarks. -/
  | linkMarks (q : Cmd)
  /-- HEAD_DISCOVER (R440): Reads module identity records on the selected buses and courses. -/
  | headDiscover (q : Cmd)
  /-- HEAD_MIR_READ (R443): Reads bytes of one module identity record. -/
  | headMirRead (q : Cmd)
  /-- HEAD_GATE_TEST (R358): Fires a bar's nozzles one at a time at the drop gate and classifies them. -/
  | headGateTest (q : Cmd)
  /-- HEAD_ENABLE (R441): Enables a head context that has a complete record. -/
  | headEnable (q : Cmd)
  /-- HEAD_DISABLE (R245): Disables a head context from the bar's next line boundary. -/
  | headDisable (q : Cmd)
  /-- HEAD_STATUS (R443): Returns a head's state, temperature and UID. -/
  | headStatus (q : Cmd)
  /-- HEAD_BRIDGE_MGMT (R443): Sends a management message to a bridge and returns its reply. -/
  | headBridgeMgmt (q : Cmd)
  /-- THERM_LEVELS (R374): Sets the die temperature thresholds and hysteresis. -/
  | thermLevels (q : Cmd)
  /-- THERM_READ (R384): Returns the die sensor readings and the throttle level. -/
  | thermRead (q : Cmd)
  /-- THERM_SENSOR_TRIM (R384): Applies a die sensor trim and optionally saves it. -/
  | thermSensorTrim (q : Cmd)
  /-- THERM_POWER_STATE (R377): Moves the device to power state P1, P2, P3 or P4. -/
  | thermPowerState (q : Cmd)
  /-- THERM_PMBUS (R381): Reads a board regulator, sets its output or rail entry, or clears its faults. -/
  | thermPmbus (q : Cmd)
  /-- THERM_BUDGET (R383): Returns the power drawn by each subsystem. -/
  | thermBudget (q : Cmd)
  /-- PAIR_CONFIG (R412): Configures or disables redundant pairing. -/
  | pairConfig (q : Cmd)
  /-- PAIR_HEALTH (R402): Returns the standby's health and its predicted catch-up shortfall. -/
  | pairHealth (q : Cmd)
  /-- PAIR_HANDOVER (R408): Starts a planned handover of printing to the standby. -/
  | pairHandover (q : Cmd)
  /-- PAIR_MIRROR (R399): Sets the job mirroring policy, mirrors one job, or reads mirror status. -/
  | pairMirror (q : Cmd)
  /-- PAIR_STATUS (R412): Returns the pair state and the last record applied. -/
  | pairStatus (q : Cmd)
  /-- PAIR_REJOIN (R409): Makes a detached device rejoin the pair as standby. -/
  | pairRejoin (q : Cmd)
  /-- STAT_FRAME_RECORD (R428): Reads frame records from the history. -/
  | statFrameRecord (q : Cmd)
  /-- STAT_COUNTERS (R428): Reads, and optionally clears, the cumulative record. -/
  | statCounters (q : Cmd)
  /-- STAT_CLEAR (R428): Clears the cumulative record, the frame-record history or the event history. -/
  | statClear (q : Cmd)
  /-- STAT_EVENT_MASK (R421): Sets event posting and interrupt severities and vectors per group. -/
  | statEventMask (q : Cmd)
  /-- STAT_EVENT_FETCH (R428): Reads entries from the event history. -/
  | statEventFetch (q : Cmd)
  /-- STAT_PEAKS (R422): Reads, and optionally clears, sticky bits and peaks. -/
  | statPeaks (q : Cmd)
  /-- DIAG_SELF_TEST (R443): Runs the self-test of a retired or idle unit. -/
  | diagSelfTest (q : Cmd)
  /-- DIAG_UNIT_RESTORE (R39): Self-tests a retired unit and returns it to service if the test passes. -/
  | diagUnitRestore (q : Cmd)
  /-- DIAG_UNIT_RETIRE (R443): Retires a unit by command. -/
  | diagUnitRetire (q : Cmd)
  /-- DIAG_MEM_TEST (R443): Tests the scratch area or free pool pages of device memory. -/
  | diagMemTest (q : Cmd)
  /-- DIAG_REG_READ (R443): Reads internal registers. -/
  | diagRegRead (q : Cmd)
  /-- DIAG_INJECT (R443): Injects a fault into a unit. -/
  | diagInject (q : Cmd)
  /-- DIAG_TRACE (R443): Captures an internal trace to host memory by DMA. -/
  | diagTrace (q : Cmd)
  /-- SQ_DB (R53): The host writes a new submission tail for a ring; an out-of-range value halts the ring. -/
  | sqDb (dt : Nat) (ring value : Nat)
  /-- CQ_DB (R62): The host writes a new completion head, which frees completion entries. -/
  | cqDb (dt : Nat) (ring value : Nat)
  /-- EVQ_DB (R419): The host writes a new event ring head, which frees entries and may write EV_EVENTS_LOST. -/
  | evqDb (dt : Nat) (value : Nat)
  /-- RING_ENABLE_SET (R50): Setting RING_CTRL.ENABLE starts a ring, or sets CONFIG_ERR when the ring's settings refuse it. -/
  | ringEnableSet (dt : Nat) (ring : Nat)
  /-- RING_ENABLE_CLEAR (R51): Clearing RING_CTRL.ENABLE stops fetching on the ring at once. -/
  | ringEnableClear (dt : Nat) (ring : Nat)
  /-- RING_RESET (R57): Writing RING_CTRL.RESET clears HALTED and HALT_REASON of a stopped ring. -/
  | ringReset (dt : Nat) (ring : Nat)
  /-- EVQ_ENABLE_SET (R419): Setting EVQ_ENABLE starts the event ring, or is refused when EVQ_SIZE is out of range. -/
  | evqEnableSet (dt : Nat)
  /-- EVQ_ENABLE_CLEAR (R478): Clearing EVQ_ENABLE stops event ring writes and keeps any unreported lost count. -/
  | evqEnableClear (dt : Nat)
  /-- BAR2_WINDOW_READ (R52): A host read through the BAR2 window returns device memory after ECC correction. -/
  | bar2WindowRead (dt : Nat) (offset len : Nat) (uncorrectable : Bool)
  /-- BAR2_WINDOW_WRITE (R52): A host write through the BAR2 window reaches the scratch area, or is dropped and sets DENIED. -/
  | bar2WindowWrite (dt : Nat) (offset : Nat) (bytes : List Byte)
  /-- REGISTER_WRITE (R48): A write to a BAR0 register that has no behaviour of its own. -/
  | registerWrite (dt : Nat) (offset size value : Nat)
  /-- SLOT_FETCH (R70): The device fetches a submission slot when ring room allows, checks it and starts or rejects the command. -/
  | slotFetch (dt : Nat) (ring : Nat) (slot pblk : List Byte) (descs : List Desc) (data : List Byte) (pcieError : Bool)
  /-- JOURNAL_WRITE_DONE (R94): A journal write finishes, releasing a held slot or completing a background counter reservation. -/
  | journalWriteDone (dt : Nat)
  /-- COMPLETION_COALESCE_TIMEOUT (R63): TIME µs after the first pending completion interrupt, the ring's vector is sent. -/
  | completionCoalesceTimeout (dt : Nat) (ring : Nat)
  /-- EVENT_COALESCE_TIMEOUT (R421): TIME µs after the first gathered event interrupt, the group's vector is sent. -/
  | eventCoalesceTimeout (dt : Nat) (vector : Nat)
  /-- COMMAND_DATAGRAM (R76): A UDP command datagram arrives on an Ethernet port and is checked, answered again, or dropped. -/
  | commandDatagram (dt : Nat) (port : Nat) (from_ : EthFrom) (vlan : Option Nat) (address udpPort : Nat) (bytes : List Byte)
  /-- ARP_REQUEST (R75): An ARP request for the device's address is answered. -/
  | arpRequest (dt : Nat) (port : Nat) (vlan : Option Nat) (mac ip target : Nat)
  /-- ICMP_ECHO_REQUEST (R75): An ICMP echo request is answered. -/
  | icmpEchoRequest (dt : Nat) (port : Nat) (vlan : Option Nat) (ip target protocol type : Nat) (bytes : List Byte)
  /-- PTP_MESSAGE (R142): A PTP message arrives, is timestamped and may give the servo a sample. -/
  | ptpMessage (dt : Nat) (port : Nat) (via : PtpVia) (domainNumber : Nat) (msg : PtpMsg)
  /-- PATH_HOLD_EXPIRY (R147): 8 s of TB1 after a path hold began, the port starts looking for a stable reference. -/
  | pathHoldExpiry (dt : Nat) (port : Nat)
  /-- ANNOUNCE_TIMEOUT (R143): No Announce arrives within the timeout and the domain enters HOLDOVER. -/
  | announceTimeout (dt : Nat) (port : Nat)
  /-- HOLDOVER_WARN (R145): A holdover has lasted HOLDOVER_WARN_S and EV_TIME_HOLDOVER_LONG is posted. -/
  | holdoverWarn (dt : Nat) (domain : Nat)
  /-- PTP_MASTER_SEND (R139): As master, the device sends its periodic Sync and Announce messages. -/
  | ptpMasterSend (dt : Nat) (port : Nat) (announce : Bool)
  /-- PTP_DELAY_REQUEST (R142): The device sends its periodic Delay_Req or Pdelay_Req. -/
  | ptpDelayRequest (dt : Nat) (port : Nat)
  /-- TB3_RATE_STEP (R136): Each millisecond of TB1, ADJ of TB3 moves towards ADJ of TB0. -/
  | tb3RateStep (dt : Nat)
  /-- TBF_RELOAD (R144): Each second of TB0 while locked, TBF is reloaded from TB0. -/
  | tbfReload (dt : Nat) (domain : Nat)
  /-- TRIGGER_FIRE (R150): A trigger's time base reaches T and the trigger carries out its actions. -/
  | triggerFire (dt : Nat) (unit : Nat)
  /-- CONVERSION_COMPLETE (R114): A sine/cosine conversion completes and its phase updates the count. -/
  | conversionComplete (dt : Nat) (ch sinRaw cosRaw : Nat)
  /-- CAPTURE_INPUT_EDGE (R152): A filtered GPIO edge makes a capture unit latch the time bases and position. -/
  | captureInputEdge (dt : Nat) (gpio : Nat) (rising : Bool)
  /-- ENCODER_EDGE (R111): An accepted level change on an encoder input updates the count, pair and speed. -/
  | encoderEdge (dt : Nat) (ch : Nat) (a b z : Bool) (held : Nat)
  /-- COMPARE_CATCH_UP_FIRE (R127): A periodic compare unit whose new value is already passed fires again on the next POS clock. -/
  | compareCatchUpFire (dt : Nat) (unit : Nat)
  /-- ENCODER_STALL (R121): A channel that has moved less than one check unit in STALL_MS is marked stalled. -/
  | encoderStall (dt : Nat) (ch : Nat)
  /-- BACKUP_OFFSET_REFRESH (R125): Each second while no run is armed, the backup offset O is set again. -/
  | backupOffsetRefresh (dt : Nat)
  /-- WEB_ESTIMATE_UPDATE (R260): Every 250 ns of TB3, FIR extrapolates the web estimate and advances progress. -/
  | webEstimateUpdate (dt : Nat)
  /-- LINE_TICK (R20): Progress reaches a line's start and the lines of every bar fall due. -/
  | lineTick (dt : Nat)
  /-- READINESS_POINT (R206): Progress reaches a frame's readiness point and the layer, flip and fence decisions are taken. -/
  | readinessPoint (dt : Nat)
  /-- SEND_DEADLINE (R265): A head line's remaining distance reaches 3 lines without a commit, and a blank packet is committed. -/
  | sendDeadline (dt : Nat) (bar head : Nat)
  /-- STAMP_FORMATION (R266): A row's stamp is formed and handed to the priority path once its distance, time and packet allow. -/
  | stampFormation (dt : Nat) (bar head row : Nat)
  /-- RUN_END (R258): Every row has fired or skipped its last line, and the run ends. -/
  | runEnd (dt : Nat)
  /-- PRINT_INHIBIT_ASSERT (R277): PRINT_INHIBIT_N is asserted; new stamps become SKIP and FIRE stamps ahead are cancelled. -/
  | printInhibitAssert (dt : Nat)
  /-- PRINT_INHIBIT_RELEASE (R277): PRINT_INHIBIT_N is released and stamping resumes. -/
  | printInhibitRelease (dt : Nat)
  /-- RENDER_HEAD_LINE (R229): A bar render engine renders a due head line from the ring and commits its packet. -/
  | renderHeadLine (dt : Nat) (bar clocks : Nat)
  /-- COMPOSE_CONTONE_LINE (R212): The compose pipes compose a contone line and RNG writes it once into the ring. -/
  | composeContoneLine (dt : Nat)
  /-- BLOCK_DECODE (R177): A layer fetcher's block decoder decodes a block, retrying once or marking it bad. -/
  | blockDecode (dt : Nat) (pipe job obj block : Nat) (poisoned glitch : Bool)
  /-- MEMORY_READ_COMPLETE (R161): A device memory read returns and its inline ECC is checked and corrected. -/
  | memoryReadComplete (dt : Nat) (line : Nat) (owner : Owner) (ecc : EccResult)
  /-- PATROL_SCRUB_READ (R163): Patrol scrub reads a line when memory is otherwise idle. -/
  | patrolScrubRead (dt : Nat) (owner : Owner) (ecc : EccResult)
  /-- UNIT_RETIREMENT (R37): A unit judged permanently faulty is retired at its next natural boundary. -/
  | unitRetirement (dt : Nat) (unit : Nat)
  /-- PAGE_MIGRATION_DONE (R164): A retired page's copy finishes and the page map switches to the replacement. -/
  | pageMigrationDone (dt : Nat) (page : Nat)
  /-- PACKET_RECEIVE (R295): A course or pair-link packet arrives and is accepted in sequence, or NAKed. -/
  | packetReceive (dt : Nat) (lane : Nat) (start bytes : List Byte) (crc : Nat) (whole : Bool)
  /-- ACK_RECEIVE (R297): A LINK ACK releases acknowledged packets from the retry buffer. -/
  | ackReceive (dt : Nat) (lane : Nat) (cls : Cls) (seq crc : Nat)
  /-- NAK_RECEIVE (R297): A LINK NAK makes the sender resend the class from the named SEQ. -/
  | nakReceive (dt : Nat) (lane : Nat) (cls : Cls) (seq crc : Nat)
  /-- CREDIT_RECEIVE (R298): A LINK CREDIT raises the class's send limit. -/
  | creditReceive (dt : Nat) (lane : Nat) (cls : Cls) (limit crc : Nat)
  /-- ALIGN_RECEIVE (R289): An alignment marker arrives, checking BIP8 and setting solo or duo mode. -/
  | alignReceive (dt : Nat) (lane hdr : Nat) (bytes : List Byte) (bip : Nat)
  /-- ALIGN_SEND (R288): Every 4,096 blocks each lane sends an ALIGN marker. -/
  | alignSend (dt : Nat) (lane : Nat)
  /-- ACK_TIMEOUT (R297): No ACK covers the oldest packet within ACK_TIMEOUT, and the sender resends from it. -/
  | ackTimeout (dt : Nat) (link : Nat) (cls : Cls)
  /-- NAK_REPEAT (R296): Every 20 µs until the expected SEQ arrives, the receiver repeats its NAK. -/
  | nakRepeat (dt : Nat) (link : Nat) (cls : Cls)
  /-- CREDIT_SEND (R298): A receiver sends CREDIT when LIMIT has advanced 64 flits, or every 10 µs. -/
  | creditSend (dt : Nat) (link : Nat) (cls : Cls)
  /-- LINE_PACKET_SEND (R311): The course consumer pops a committed line packet and sends it when credit allows. -/
  | linePacketSend (dt : Nat) (course clocks : Nat)
  /-- STAMP_PACKET_SEND (R299): The priority path starts a stamp packet with the entries it holds. -/
  | stampPacketSend (dt : Nat) (course : Nat)
  /-- BLOCK_LOCK_LOST (R287): A lane loses block lock and starts hunting. -/
  | blockLockLost (dt : Nat) (lane : Nat)
  /-- BLOCK_LOCK_GAINED (R287): A lane gains block lock after 64 valid sync headers. -/
  | blockLockGained (dt : Nat) (lane : Nat)
  /-- HUNT_SLIP (R473): On A1, firmware slips an unlocked lane by one bit every 39 µs. -/
  | huntSlip (dt : Nat) (lane : Nat)
  /-- LANE_DOWN (R287): A lane that has not relocked within 10 ms is down. -/
  | laneDown (dt : Nat) (lane : Nat)
  /-- COURSE_RETRAIN (R309): Every 100 ms a down course runs its bring-up steps again. -/
  | courseRetrain (dt : Nat) (course : Nat)
  /-- TIME_SYNC_SEND (R303): Every TIME_INTERVAL the device sends TIME_SYNC on each version 2 course that is up. -/
  | timeSyncSend (dt : Nat) (course : Nat)
  /-- TIME_ECHO (R303): A bridge's TIME_ECHO arrives and updates the course delay. -/
  | timeEcho (dt : Nat) (course syncId turn : Nat) (offset : Int)
  /-- BRIDGE_HELLO (R308): A bridge's HELLO arrives during bring-up and fixes the course version. -/
  | bridgeHello (dt : Nat) (course : Nat) (bytes : List Byte)
  /-- CLAIM_ACK (R306): A bridge's answer to a CLAIM arrives with LAST_FIRED for each row. -/
  | claimAck (dt : Nat) (course : Nat) (bytes : List Byte)
  /-- CLAIM_ACK_TIMEOUT (R407): A bridge has not answered a claim within 200 µs, and its course is left to retrain. -/
  | claimAckTimeout (dt : Nat) (course : Nat)
  /-- OWNER_CHANGED (R306): A bridge reports a new owner and the device stops sending on that course. -/
  | ownerChanged (dt : Nat) (course epoch owner : Nat)
  /-- BRIDGE_STATUS (R317): A bridge's STATUS packet arrives with counters and head temperatures. -/
  | bridgeStatus (dt : Nat) (course : Nat) (bytes : List Byte)
  /-- MGMT_REPLY (R439): A bridge's MGMT reply arrives and completes the waiting request. -/
  | mgmtReply (dt : Nat) (course : Nat) (bytes : List Byte)
  /-- HEAD_TEMP_STALE (R375): An owned course sends no STATUS for 5 ms, and its head temperatures are marked stale. -/
  | headTempStale (dt : Nat) (course : Nat)
  /-- BAR_SILENCE_HALT (R375): After 100 ms of STATUS silence on a bar in print, every head of the bar is halted. -/
  | barSilenceHalt (dt : Nat) (bar : Nat)
  /-- CSI_FRAME_START (R324): A Frame Start opens a camera frame, pairs it with an exposure record and applies pending parameters. -/
  | csiFrameStart (dt : Nat) (port vc : Nat) (ecc : EccResult)
  /-- CSI_LINE_PACKET (R322): A CSI-2 long packet arrives and is checked and buffered, or overflows. -/
  | csiLinePacket (dt : Nat) (port vc dataType wordCount : Nat) (px : List Nat) (ecc : EccResult) (crcOk : Bool)
  /-- CSI_FRAME_END (R324): A Frame End closes the frame, writes its report and hands it to CLP. -/
  | csiFrameEnd (dt : Nat) (port vc : Nat) (ecc : EccResult)
  /-- PIPELINE_LINE_TURN (R327): The camera pipeline processes the next buffered line in round-robin. -/
  | pipelineLineTurn (dt : Nat)
  /-- EXPOSURE_MID (R326): TB3 reaches an exposure's mid time and P_mid is extrapolated. -/
  | exposureMid (dt : Nat) (port vc : Nat)
  /-- EXPOSURE_RECORD_TIMEOUT (R326): An exposure record is still unpaired FRAME_TIMEOUT_MS after mid-exposure and is discarded. -/
  | exposureRecordTimeout (dt : Nat) (port vc : Nat)
  /-- CAM_CALIBRATE_HOLD_END (R357): 2 s after CAM_CALIBRATE started, loop trim writes resume. -/
  | camCalibrateHoldEnd (dt : Nat) (port : Nat)
  /-- GATE_PULSE (R359): A drop-gate pulse is timestamped and assigned to a shot. -/
  | gatePulse (dt : Nat) (gate : Nat)
  /-- THERMAL_SAMPLE (R369): THM samples the die sensors and sets the throttle level or shut-down. -/
  | thermalSample (dt : Nat) (raws : List (Option Int))
  /-- SUBSTITUTION_FLOOR (R368): After 60 s of unbroken substitution, the throttle level is raised by one. -/
  | substitutionFloor (dt : Nat)
  /-- SHUTDOWN_HOLD_END (R372): After 10 s below SHUTDOWN − HYST, the shut-down hold ends in P1. -/
  | shutdownHoldEnd (dt : Nat)
  /-- HARDWARE_TRIP (R373): The AON trip finds a sensor at 120 °C, or unserviced THM, and holds the chip in reset. -/
  | hardwareTrip (dt : Nat) (temps : List Int) (unserviced : Bool)
  /-- AVS_ADJUST (R382): Every 1 ms the device moves VDD_CORE towards its lowest safe voltage. -/
  | avsAdjust (dt : Nat) (target : Nat) (reached : Bool)
  /-- PMBUS_POLL (R381): Every 10 ms the device polls each managed regulator and reports faults. -/
  | pmbusPoll (dt : Nat) (index : Nat) (answer : Option RailAnswer)
  /-- POWER_SUPERVISOR_FAULT (R456): An AON-watched supply or REFCLK_SYS fails for 1 µs and the device is held in reset. -/
  | powerSupervisorFault (dt : Nat)
  /-- WAKE (R378): A doorbell or wake GPIO in P3 wakes the device and restores its kept state. -/
  | wake (dt : Nat) (gpio : Option Nat)
  /-- PORST_N_RELEASE (R430): PORST_N rises, straps are sampled and the device boots. -/
  | porstNRelease (dt : Nat) (gpio : Nat)
  /-- SYS_RST_N_ASSERT (R430): SYS_RST_N held low for at least 1 µs resets the whole device. -/
  | sysRstNAssert (dt : Nat)
  /-- WATCHDOG_EXPIRY (R430): The control cores have not refreshed AON for 100 ms and the device resets. -/
  | watchdogExpiry (dt : Nat)
  /-- PCIE_PERST_N_ASSERT (R432): PCIE_PERST_N low resets only the PCIe endpoint and disables every ring. -/
  | pciePerstNAssert (dt : Nat)
  /-- TRIAL_BOOT_TIMEOUT (R106): A trial image has not raised READY within 10 s, and the previous image is booted. -/
  | trialBootTimeout (dt : Nat)
  /-- IDLE_RECORD_CLOSE (R423): Each second of TB1 while no run is armed, an IDLE frame record closes. -/
  | idleRecordClose (dt : Nat)
  /-- HEARTBEAT_SEND (R388): Every 10 µs each device sends a HEARTBEAT block on each pair lane in lock. -/
  | heartbeatSend (dt : Nat)
  /-- HEARTBEAT_RECEIVE (R388): A peer's HEARTBEAT block arrives with its state and flags. -/
  | heartbeatReceive (dt : Nat) (lane beat st flags : Nat)
  /-- HEARTBEAT_LOSS (R404): 52 µs pass without a heartbeat; an eligible standby whose peer pin is low claims. -/
  | heartbeatLoss (dt : Nat)
  /-- PEER_ALIVE_FALL (R404): PAIR_PEER_ALIVE falls, leading to a claim or to EV_PAIR_LINK_DOWN. -/
  | peerAliveFall (dt : Nat)
  /-- PAIR_YIELD_N_LOW (R404): PAIR_YIELD_N low for 1 µs makes an eligible standby claim. -/
  | pairYieldNLow (dt : Nat)
  /-- PAIR_HELLO (R392): A PAIR_HELLO arrives and the join is accepted, refused or settled into roles. -/
  | pairHello (dt : Nat) (peer : Peer) (authentic : Bool)
  /-- PTIME_SYNC (R394): A PTIME_SYNC from the active steers the standby's TB3. -/
  | ptimeSync (dt : Nat) (t1 delay : Int) (valid : Bool) (syncId : Nat) (adj : Int)
  /-- PTIME_ECHO (R394): A standby's PTIME_ECHO arrives at the active. -/
  | ptimeEcho (dt : Nat) (syncId turn : Nat) (offset : Int)
  /-- BASELINE_RECEIVE (R394): Part of the baseline transfer arrives at a joining standby and is applied. -/
  | baselineReceive (dt : Nat) (part : BaselinePart)
  /-- RECORD_RECEIVE (R396): A configuration record arrives at the standby, is applied and acknowledged. -/
  | recordReceive (dt : Nat) (seq ring tag cmdSeq : Nat) (body : RecordBody) (status : Status)
  /-- RECORD_ACK (R396): A RECORD_ACK arrives and lets the mirrored command complete on the active. -/
  | recordAck (dt : Nat) (seq : Nat) (status : Status)
  /-- RECORD_ACK_TIMEOUT (R394): A record is not acknowledged in time and the standby starts the join again. -/
  | recordAckTimeout (dt : Nat)
  /-- FRAME_PACKET_RECEIVE (R397): A FRAME packet with one readiness point's decisions arrives at the standby. -/
  | framePacketReceive (dt : Nat) (note : FrameNote)
  /-- CHECKPOINT_SEND (R398): Every 1 ms of TB3 the active sends a checkpoint. -/
  | checkpointSend (dt : Nat)
  /-- CHECKPOINT_RECEIVE (R398): A checkpoint arrives at the standby, which aligns its web position. -/
  | checkpointReceive (dt : Nat) (ckpt : Checkpoint)
  /-- MIRROR_RECEIVE (R399): Part of a mirrored job container arrives at the standby and is stored. -/
  | mirrorReceive (dt : Nat) (job : Nat) (bytes : List Byte) (last : Option Nat)
  /-- STANDBY_SELF_TEST (R400): Every 100 ms the standby ungates and self-tests one DP unit. -/
  | standbySelfTest (dt : Nat) (pass : Bool)
  /-- PAIR_HEALTH_EVALUATE (R402): Every 10 ms the standby evaluates catch-up and sends HEALTH. -/
  | pairHealthEvaluate (dt : Nat)
  /-- HEALTH_RECEIVE (R402): A standby's HEALTH packet arrives at the active. -/
  | healthReceive (dt : Nat) (health : Health)
  /-- YIELD_RECEIVE (R404): A YIELD packet arrives and an eligible standby claims. -/
  | yieldReceive (dt : Nat) (code : Nat)
  /-- HANDOVER_REQ (R408): A HANDOVER_REQ arrives; the standby enters P0 and composes its ring. -/
  | handoverReq (dt : Nat)
  /-- HANDOVER_READY (R408): READY arrives; the active fixes H and sends GO. -/
  | handoverReady (dt : Nat)
  /-- HANDOVER_GO (R408): GO arrives; the standby claims every course with PLANNED at line H. -/
  | handoverGo (dt : Nat) (h : Nat)
  /-- HANDOVER_DONE (R408): The old active's last stamp below H passes; it sends DONE and becomes standby. -/
  | handoverDone (dt : Nat)
  /-- HANDOVER_TIMEOUT (R408): A handover step before GO takes more than 5 s, and the command completes with ST_TIMEOUT. -/
  | handoverTimeout (dt : Nat)
  /-- JOB_DELETE_DONE (R182): The pages of a DELETING job have been freed, and the job leaves the store. -/
  | jobDeleteDone (dt : Nat) (job : Nat)
  /-- NOR_WRITE_DONE (R88): A write of the protection table, key store, image slot, configuration slot or board record to SPI NOR finishes and its command completes. -/
  | norWriteDone (dt : Nat)
  /-- PROFILE_SAVE_HOLD_EXPIRY (R363): 60 s after the previous profile save, a held COLOUR_PROFILE_SAVE starts its journal write. -/
  | profileSaveHoldExpiry (dt : Nat)
  /-- PORST_N_ASSERT (R430): PORST_N driven low resets the whole device and floats the SPI NOR pins. -/
  | porstNAssert (dt : Nat)
  /-- SYS_RST_N_RELEASE (R430): SYS_RST_N rises after a warm reset and the boot begins. -/
  | sysRstNRelease (dt : Nat)
  /-- BOOT_READY (R49): The boot finishes: READY rises, EV_BOOT is posted and course training begins. -/
  | bootReady (dt : Nat)
  /-- PCIE_PERST_N_RELEASE (R461): PCIE_PERST_N rises and PCIe link training starts 1 ms later. -/
  | pciePerstNRelease (dt : Nat)
  /-- PEER_ALIVE_RISE (R387): PAIR_PEER_ALIVE rises when the peer raises PAIR_ACTIVE. -/
  | peerAliveRise (dt : Nat)
  /-- PAIR_YIELD_N_RELEASE (R387): The shared PAIR_YIELD_N line returns high once no device holds it low. -/
  | pairYieldNRelease (dt : Nat)
  /-- TAP_INSTRUCTION (R99): An instruction is loaded into the JTAG TAP and is honoured, acts as BYPASS with EV_DEBUG_REFUSED, or grants debug access. -/
  | tapInstruction (dt : Nat) (instr : Nat)
  /-- PRBS_CHECKER_INPUT (R290): Received PRBS bits are compared, and the checker gains or loses lock and counts errors. -/
  | prbsCheckerInput (dt : Nat) (lane : Nat) (bits : List Bool)
  /-- HS_SYNC_LOST (R340): A camera data lane loses HS sync, and EV_CAM_LINK is posted. -/
  | hsSyncLost (dt : Nat) (port lane : Nat)
  /-- HS_SYNC_REGAINED (R340): A camera data lane regains HS sync, and EV_CAM_LINK is posted. -/
  | hsSyncRegained (dt : Nat) (port lane : Nat)
  /-- I2C_TRANSFER_DONE (R323): An I2C or PMBus transaction ends, acknowledged or not, and sets the STOP moment for sensor parameters or the result of a record read or regulator access. -/
  | i2cTransferDone (dt : Nat) (bus : Nat) (acked : Bool) (bytes : List Byte)
  /-- GATE_TEST_SHOT (R359): During a gate test, the device commits the next shot and sends its stamp at least 20 µs before the shot's time. -/
  | gateTestShot (dt : Nat) (bar : Nat)
  /-- GATE_TEST_END (R359): The last shot's window closes and the nozzles are classified, states written and the bar re-enabled. -/
  | gateTestEnd (dt : Nat) (bar : Nat)
  /-- POS_CALIBRATE_TIMEOUT (R129): Not all marks have arrived within TIMEOUT_MS, and POS_CALIBRATE completes with ST_TIMEOUT. -/
  | posCalibrateTimeout (dt : Nat) (ch : Nat)
  /-- MGMT_REPLY_TIMEOUT (R443): No MGMT reply arrives within 1 ms, and the request completes with ST_TIMEOUT. -/
  | mgmtReplyTimeout (dt : Nat) (course : Nat)
  /-- LINK_TRAIN_TIMEOUT (R308): A course bring-up step does not finish within its bound, the lane is left down, or LINK_TRAIN completes with ST_TIMEOUT. -/
  | linkTrainTimeout (dt : Nat) (course : Nat)
  /-- PAIR_REJOIN_TIMEOUT (R412): TIMEOUT_S passes without reaching SYNCED, and PAIR_REJOIN completes with ST_TIMEOUT. -/
  | pairRejoinTimeout (dt : Nat)
  /-- YIELD_CRITERION_TIMER (R403): A course of the run down for 1 ms, or the web channel and backup dead for 10 ms while the standby's moves, makes the active yield. -/
  | yieldCriterionTimer (dt peerUp : Nat) (peerMoves : Bool)
  /-- POWER_SUPERVISOR_CLEAR (R456): Every watched supply and REFCLK_SYS is back with PORST_N high, and the device leaves reset and boots with cause 1. -/
  | powerSupervisorClear (dt : Nat) (porst : Bool)
  /-- PLL_LOCK_LOST (R35): A PLL, such as the TB domain PLL, loses lock; the upset is counted and relocking begins. -/
  | pllLockLost (dt : Nat) (domain : Nat)
  /-- PLL_RELOCKED (R35): A PLL that lost lock regains it and its domain resumes. -/
  | pllRelocked (dt : Nat) (domain : Nat)
  /-- LOCKSTEP_MISMATCH (R38): The cores of a CTL lockstep pair disagree, which is a device fault at once. -/
  | lockstepMismatch (dt : Nat) (pair : Nat)
deriving DecidableEq, Repr, Inhabited

end Sys2Proof
end

