-- ==== Sys2Proof/Machine/Bytes.lean ====
section
/-!
DEFINITION. Byte order, two's complement and list helpers (spec/00_scope.md, R5 to R8).
-/
namespace Sys2Proof.Machine

/-- The value of bytes stored little-endian (R5). -/
def leNat : List Byte → Nat
  | [] => 0
  | b :: bs => b.toNat + 256 * leNat bs

/-- n bytes of a value, little-endian (R5). -/
def toLe : Nat → Nat → List Byte
  | 0, _ => []
  | n + 1, v => BitVec.ofNat 8 v :: toLe n (v / 256)

/-- n bytes of a signed value in two's complement, little-endian (R5, R6). -/
def toLeS (n : Nat) (v : Int) : List Byte := toLe n (v % (2 ^ (8 * n) : Nat)).toNat

/-- The signed value of a w-bit two's complement number (R6). -/
def signed (w v : Nat) : Int :=
  let u := v % 2 ^ w
  if u < 2 ^ (w - 1) then (u : Int) else (u : Int) - (2 ^ w : Nat)

/-- A number kept in w bits of two's complement: what lies beyond wraps (R6, R11). -/
def wrapS (w : Nat) (v : Int) : Int :=
  let u := v.fmod ((2 : Int) ^ w)
  if u < (2 : Int) ^ (w - 1) then u else u - (2 : Int) ^ w

/-- size bytes at an offset, absent ones zero. -/
def slice (bs : List Byte) (off size : Nat) : List Byte :=
  let got := (bs.drop off).take size
  got ++ List.replicate (size - got.length) 0

/-- The little-endian number of size bytes at an offset. -/
def rd (bs : List Byte) (off size : Nat) : Nat := leNat ((bs.drop off).take size)

/-- The signed little-endian number of size bytes at an offset. -/
def rdS (bs : List Byte) (off size : Nat) : Int := signed (8 * size) (rd bs off size)

/-- A list padded with zeros to n bytes, or cut to n. -/
def padTo (n : Nat) (bs : List Byte) : List Byte := (bs ++ List.replicate (n - bs.length) 0).take n

/-- Bit i of a number. -/
def bit (v i : Nat) : Bool := v.testBit i

/-- A number that is 1 for true. -/
def b2n (b : Bool) : Nat := if b then 1 else 0

/-- v with bit i set to b. -/
def setBit (v i : Nat) (b : Bool) : Nat :=
  if v.testBit i then (if b then v else v - 2 ^ i) else (if b then v + 2 ^ i else v)

/-- All bytes zero. -/
def allZero (bs : List Byte) : Bool := bs.all (· == 0)

/-- Smallest quotient not below a / b. -/
def ceilDiv (a b : Nat) : Nat := (a + b - 1) / b

/-- Arithmetic shift right of a signed number (R8): floor division by 2^k. -/
def sar (v : Int) (k : Nat) : Int := v.fdiv ((2 : Int) ^ k)

/-- Clamp (R8). -/
def clampI (v lo hi : Int) : Int := max lo (min v hi)

/-- Signed saturation to w bits. -/
def satS (w : Nat) (v : Int) : Int := clampI v (-(2 : Int) ^ (w - 1)) ((2 : Int) ^ (w - 1) - 1)

/-- Division of signed numbers, half away from zero never arising: round half up (R8), floor((2n+d)/2d). -/
def roundHalfUp (n d : Int) : Int := (2 * n + d).fdiv (2 * d)

/-- Insert into a list of keyed values in rising order of key, replacing an equal key. -/
def putKey {α : Type} (k : Nat) (v : α) : List (Nat × α) → List (Nat × α)
  | [] => [(k, v)]
  | (k', v') :: r => if k < k' then (k, v) :: (k', v') :: r else if k = k' then (k, v) :: r else (k', v') :: putKey k v r

/-- The value of a key. -/
def getKey {α : Type} (k : Nat) (l : List (Nat × α)) : Option α := (l.find? (·.1 == k)).map (·.2)

/-- The elements of a list at the indexes where p holds, with their indexes. -/
def indexed {α : Type} (l : List α) : List (Nat × α) := (List.range l.length).zip l

/-- A list split into pieces of n. -/
def chunks {α : Type} (n : Nat) (l : List α) : List (List α) :=
  (List.range ((l.length + n - 1) / n)).map fun i => (l.drop (n * i)).take n

/-- Little-endian numbers of size bytes each. -/
def numbers (size : Nat) (bs : List Byte) : List Nat := (chunks size bs).map leNat

end Sys2Proof.Machine
end

