-- ==== Sys2Proof/Machine/Crc.lean ====
section
/-!
DEFINITION. CRC-32C (R58, R286) and the CRC8 of ALIGN and LINK blocks (R286).
-/
namespace Sys2Proof.Machine

/-- n steps of the reflected Castagnoli register. -/
def crc32cSteps : Nat → Nat → Nat
  | 0, r => r
  | n + 1, r => crc32cSteps n (if r % 2 = 1 then (r / 2) ^^^ 0x82F63B78 else r / 2)

/-- The register after bytes. -/
def crc32cReg : Nat → List Byte → Nat
  | r, [] => r
  | r, b :: bs => crc32cReg (crc32cSteps 8 (r ^^^ b.toNat)) bs

/-- CRC-32C: reflected polynomial 0x82F6_3B78, initial value and final XOR 0xFFFF_FFFF (R286). -/
def crc32c (bs : List Byte) : Nat := crc32cReg 0xFFFFFFFF bs ^^^ 0xFFFFFFFF

/-- n steps of the CRC8 register, polynomial x^8 + x^2 + x + 1, most significant bit first. -/
def crc8Steps : Nat → Nat → Nat
  | 0, r => r
  | n + 1, r => crc8Steps n (if 128 ≤ r then ((2 * r) % 256) ^^^ 0x07 else 2 * r)

/-- CRC8 of ALIGN and LINK blocks (R286). -/
def crc8 (bs : List Byte) : Nat := bs.foldl (fun r b => crc8Steps 8 (r ^^^ b.toNat)) 0

end Sys2Proof.Machine
end

