-- ==== Sys2Proof/Config.lean ====
section
/-!
DEFINITION. What an implementation or a board fixes and what the spec leaves open: constants with
no body, so that nothing can be proved about their values.
-/
namespace Sys2Proof

/-- A free value (log 8): the n-th value taken at a site that the spec leaves open. The sites are
numbered in Config.Site. Nothing constrains it. -/
opaque Config.free (site n : Nat) : Nat

/-- This device's 64-bit identity (11 Table 11-6, 15 R393), not 0 on any real device; the model
uses it only for comparison with others. -/
opaque Config.uid : Nat

/-- SHA-256 hashes of the four release public keys, as the fuses hold them (04 R103). -/
opaque Config.releaseKeyHash (index : Nat) : List Byte

/-- The sixteen bytes of the device-unique key that wraps the saved key store and never leaves SEC (04 R90). -/
opaque Config.deviceKey : List Nat

/-- The fused trim of each die sensor (14 R366), T13 excepted on A1. -/
opaque Config.fusedTrim (sensor : Nat) : Int

/-- The journal's record of a module's power estimate (14 R383): the row's power in mW as the
device estimates it from telemetry and activity counters. -/
opaque Config.powerEstimate (row n : Nat) : Nat

/-- Whether a lifecycle and debug state (codes of Table 4-14) forbids the BAR2 window (03 R52): the spec
says that some does and not which. -/
opaque Config.windowForbids (lifecycle debug : Nat) : Bool

/-- What an instruction code of the TAP means (04 R99, 18 R469), which the spec leaves to the boundary-scan
description file: 0 BYPASS, 1 IDCODE, 2 SAMPLE/PRELOAD, 3 EXTEST, CLAMP or HIGHZ, 4 debug access, any other
number BYPASS. -/
opaque Config.tapMeaning (code : Nat) : Nat

/-! Sites of free values. -/

/-- Words of internal registers read by DIAG_REG_READ (17 R443). -/
def Config.siteRegister : Nat := 0
/-- Samples of DIAG_TRACE (17 R443). -/
def Config.siteTrace : Nat := 1
/-- Bytes of SYSTEM and POOL pages read through the window (03 R52). -/
def Config.siteWindow : Nat := 2
/-- CODE of a failing self-test (17 R443). -/
def Config.siteTestCode : Nat := 3
/-- Outcome of a self-test that a command runs (02 R39, 17 R443). -/
def Config.siteTestPass : Nat := 4
/-- Lines in error of DIAG_MEM_TEST (17 R443). -/
def Config.siteMemTest : Nat := 5
/-- Lock and header errors after LINK_LANE_SLIP (11 R318). -/
def Config.siteSlip : Nat := 6
/-- The SESSION nonce of a pair session (15 R390). -/
def Config.siteSession : Nat := 7
/-- VDD_CORE current and power as THERM_BUDGET reports them (14 R383). -/
def Config.siteBudget : Nat := 8
/-- Which pages a retirement of memory that DIAG_INJECT causes hits (17 R443). -/
def Config.siteInject : Nat := 9
/-- The register at which a lane's PRBS generator starts, never 0 (11 R290). -/
def Config.sitePrbs : Nat := 10

/-- Times and position of a camera frame without an exposure record (12 R334); SENSOR_DELAY without a camera record
(12 R336); the SEQ of an application on a disabled port (12 R336); oldest and newest entry of an empty archive
(12 R339). -/
def Config.siteCamera : Nat := 11

/-- An internal register address belongs to SEC (17 R443); the spec gives no address map. -/
opaque Config.secAddress (address : Nat) : Bool

/-- Values of a gate test without a median or without a hit (13 R360, Table 13-8). -/
def Config.siteGate : Nat := 12
/-- The physical page that a spare page is (07 R160, R164): the manual does not say which the device holds back (free value, log 121). -/
def Config.sitePage : Nat := 13

end Sys2Proof
end

