-- ==== Sys2Proof/Machine/State.lean ====
section
/-!
DEFINITION. The whole state of the Lomela 8200, its faults and refusals, and the state right after
PORST_N is first asserted (17 R445 and the reset rules of the chapters).
-/
namespace Sys2Proof.Machine

/-- What stops the model. -/
inductive Fault where
  /-- A row names a ring, a lane, a port, a channel or another unit that the device does not have, or holds a value that its field cannot;
  raised by every row with such an operand. Safe: no such row can reach the device. -/
  | noSuchUnit
deriving DecidableEq, Repr, Inhabited

/-- What the model refuses. -/
inductive Refusal where
  /-- The row has no meaning yet; raised by its arm of exec. Safe: nothing can be proved of it. -/
  | notModelled (mnemonic : String)
deriving DecidableEq, Repr, Inhabited

/-- The state of the device (spec/02 to spec/18), with the model's own fields at the end. -/
structure State where
  hif : Hif := {}
  sec : Sec := {}
  nor : Nor := {}
  pos : Pos := {}
  tim : Tim := {}
  store : Store := {}
  cps : Compose := {}
  bars : Bars := {}
  fire : Fire := {}
  links : Links := {}
  cam : Cam := {}
  clr : Colour := {}
  thm : Thermal := {}
  pair : PairUnit := {}
  stat : Stat := {}
  board : Board := {}
  /-- number of free values taken (log 8) | - | the model's own | DESIGN CHOICE 0 -/
  free : Nat := 0
  /-- what the device has put out, newest first (log 4) | - | the model's own | none -/
  out : List Output := []
  /-- the rows waiting, first in first out | - | the model's own | none -/
  pending : List Instr := []
deriving DecidableEq, Repr, Inhabited

/-- The image that runs (log 9): the version and the feature level of the spec's own worked example. -/
def runningImage : Image := { fwVersion := 0x01030212, featLevel := 3, svn := 0, keyIndex := 0, ckptFormat := 3 }

/-- The device right after reset, its boot under way: every field at the value the spec states for
reset, and where it states none at the value log 6 and log 9 name. -/
def State.reset : State :=
  { hif := { floor := 3 }
    sec := { running := runningImage }
    nor := { slots := [some runningImage, none] } }

end Sys2Proof.Machine
end

