-- ==== Sys2Proof/Machine/Ops.lean ====
section
/-!
DEFINITION. Named operations over the state: one modifier per part, the output log, free values, the
time bases (spec/06_time_bases.md, R134 to R137).
-/
namespace Sys2Proof.Machine

/-- Change Hif and nothing else. -/
def State.onHif (f : Hif → Hif) (s : State) : State := { s with hif := f s.hif }

/-- Change Sec and nothing else. -/
def State.onSec (f : Sec → Sec) (s : State) : State := { s with sec := f s.sec }

/-- Change Nor and nothing else. -/
def State.onNor (f : Nor → Nor) (s : State) : State := { s with nor := f s.nor }

/-- Change Pos and nothing else. -/
def State.onPos (f : Pos → Pos) (s : State) : State := { s with pos := f s.pos }

/-- Change Tim and nothing else. -/
def State.onTim (f : Tim → Tim) (s : State) : State := { s with tim := f s.tim }

/-- Change Store and nothing else. -/
def State.onStore (f : Store → Store) (s : State) : State := { s with store := f s.store }

/-- Change Compose and nothing else. -/
def State.onCps (f : Compose → Compose) (s : State) : State := { s with cps := f s.cps }

/-- Change Bars and nothing else. -/
def State.onBars (f : Bars → Bars) (s : State) : State := { s with bars := f s.bars }

/-- Change Fire and nothing else. -/
def State.onFire (f : Fire → Fire) (s : State) : State := { s with fire := f s.fire }

/-- Change Links and nothing else. -/
def State.onLinks (f : Links → Links) (s : State) : State := { s with links := f s.links }

/-- Change Cam and nothing else. -/
def State.onCam (f : Cam → Cam) (s : State) : State := { s with cam := f s.cam }

/-- Change Colour and nothing else. -/
def State.onClr (f : Colour → Colour) (s : State) : State := { s with clr := f s.clr }

/-- Change Thermal and nothing else. -/
def State.onThm (f : Thermal → Thermal) (s : State) : State := { s with thm := f s.thm }

/-- Change PairUnit and nothing else. -/
def State.onPair (f : PairUnit → PairUnit) (s : State) : State := { s with pair := f s.pair }

/-- Change Stat and nothing else. -/
def State.onStat (f : Stat → Stat) (s : State) : State := { s with stat := f s.stat }

/-- Change Board and nothing else. -/
def State.onBoard (f : Board → Board) (s : State) : State := { s with board := f s.board }

/-- Put something out (log 4). -/
def State.emit (o : Output) (s : State) : State := { s with out := o :: s.out }

/-- Put several things out, in order. -/
def State.emits (os : List Output) (s : State) : State := { s with out := os.reverse ++ s.out }

/-- The next free value at a site (log 8). -/
def State.freeVal (site : Nat) (s : State) : Nat := Config.free site s.free

/-- Count a free value as taken. -/
def State.useFree (s : State) : State := { s with free := s.free + 1 }

/-- Change one element of a list. -/
def upd {α : Type} (i : Nat) (f : α → α) (l : List α) : List α := l.modify i f

/-- Change one ring. -/
def State.onRing (n : Nat) (f : Ring → Ring) (s : State) : State :=
  s.onHif fun h => { h with rings := upd n f h.rings }

/-- A ring. -/
def State.ring (s : State) (n : Nat) : Ring := s.hif.rings.getD n {}

/-! Time bases. -/

/-- 2 ns in units of 2^-64 s, truncated (R134). -/
def nomTb : Int := 0x0000000897_05F413

/-- A time base in units of 2^-32 s (S64.F32 as read, R11, R134). -/
def Tb.t32 (t : Tb) : Int := t.sec * 2 ^ 32 + ((t.frac / 2 ^ 32 : Nat) : Int)

/-- A time base in units of 2^-48 s (R151), floor. -/
def Tb.t48 (t : Tb) : Int := t.sec * 2 ^ 48 + ((t.frac / 2 ^ 16 : Nat) : Int)

/-- The increment of a time base for one TB clock, units of 2^-64 s (R134). -/
def tbInc (adj : Int) : Int := nomTb + sar (nomTb * adj) 40

/-- A time base advanced by an amount in units of 2^-64 s; its seconds are a signed 64-bit count (R11, R134). -/
def Tb.add (x : Int) (t : Tb) : Tb :=
  let total := (t.frac : Int) + x
  { t with sec := wrapS 64 (t.sec + total.fdiv (2 ^ 64)), frac := (total.fmod (2 ^ 64)).toNat }

/-- A time base after n TB clocks (R134). -/
def Tb.run (n : Nat) (t : Tb) : Tb := t.add (n * tbInc t.adj)

/-- TBF advanced by an amount in units of 2^-32 ns. -/
def Tbf.add (x : Int) (t : Tbf) : Tbf :=
  let total := ((t.ns * 2 ^ 32 + t.sub : Nat) : Int) + x
  let ns := total.fdiv (2 ^ 32)
  { t with sec := wrapS 64 (t.sec + ns.fdiv 1000000000), ns := (ns.fmod 1000000000).toNat, sub := (total.fmod (2 ^ 32)).toNat }

/-- TBF after n TB clocks (R134). -/
def Tbf.run (n : Nat) (t : Tbf) : Tbf := t.add (n * (0x2_0000_0000 + sar (0x2_0000_0000 * t.adj) 40))

/-- Whether the last of n TB clocks carries TBF's nanoseconds into its seconds (19 A1-02); with no clock it is as it was. -/
def Tim.carries (n : Nat) (t : Tim) : Bool :=
  if n = 0 then t.tbfCarry else (t.tbf.run (n - 1)).sec != (t.tbf.run n).sec

/-- TBF in units of 2^-16 ns (R142). -/
def Tbf.t16 (t : Tbf) : Int := (t.sec * 1000000000 + (t.ns : Int)) * 65536 + ((t.sub / 65536 : Nat) : Int)

/-- FRAC to nanoseconds (R135): seconds and nanoseconds of a time in units of 2^-32 s. -/
def toN30 (t : Int) : Int × Nat :=
  let sec := t.fdiv (2 ^ 32)
  let ns := ((t.fmod (2 ^ 32)) * 1000000000 + 2 ^ 31).fdiv (2 ^ 32)
  if ns = 1000000000 then (sec + 1, 0) else (sec, ns.toNat)

/-- Nanoseconds to FRAC (R135): a time in units of 2^-32 s. -/
def toF32 (sec : Int) (ns : Nat) : Int := sec * 2 ^ 32 + (((ns * 2 ^ 32 + 500000000) / 1000000000 : Nat) : Int)

/-- Time base n. -/
def State.tb (s : State) (n : Nat) : Tb := s.tim.tb.getD n {}

/-- TB0, in units of 2^-32 s. -/
def State.tb0 (s : State) : Int := (s.tb 0).t32

/-- TB1, in units of 2^-32 s: fault windows, timeouts, rate limits (Table 6-1). -/
def State.tb1 (s : State) : Int := (s.tb 1).t32

/-- TB3, in units of 2^-32 s: course time (Table 6-1). -/
def State.tb3 (s : State) : Int := (s.tb 3).t32

/-- Nanoseconds in units of 2^-32 s, floor. -/
def nsT (n : Int) : Int := (n * 2 ^ 32).fdiv 1000000000

/-- Microseconds in units of 2^-32 s, floor. -/
def usT (n : Int) : Int := (n * 2 ^ 32).fdiv 1000000

/-- Milliseconds in units of 2^-32 s, floor. -/
def msT (n : Int) : Int := (n * 2 ^ 32).fdiv 1000

/-- Seconds in units of 2^-32 s. -/
def secT (n : Int) : Int := n * 2 ^ 32

/-- A duration in units of 2^-32 s in nanoseconds, floor. -/
def tNs (t : Int) : Int := (t * 1000000000).fdiv (2 ^ 32)

/-- A duration in units of 2^-32 s in microseconds, floor. -/
def tUs (t : Int) : Int := (t * 1000000).fdiv (2 ^ 32)

/-- At least t has passed in TB1 since a moment. Compared exactly: t is n units, `den` units a second. -/
def passed (s : State) (since : Int) (n den : Nat) : Bool :=
  decide ((s.tb1 - since) * den ≥ (n : Int) * 2 ^ 32)

/-- The moment lies in the half-open window of n units, `den` a second, that ends now (R36). -/
def within (s : State) (at_ : Int) (n den : Nat) : Bool :=
  decide ((s.tb1 - at_) * den < (n : Int) * 2 ^ 32)

/-- The device is held in reset, or its boot has not raised READY. -/
def State.held (s : State) : Bool := !s.board.holds.isEmpty

/-- n TB clocks pass: every time base counts in P0, P1 and P2 (R137); in P3 AON counts the time
asleep; in reset, in P4 and while the TB PLL has lost lock no time base counts. -/
def advance (n : Nat) (s : State) : State :=
  if s.held || s.thm.power == .p4 || !s.tim.pllLock then s
  else if s.thm.power == .p3 then s.onTim fun t => { t with asleep := t.asleep + n }
  else s.onTim fun t => { t with tb := t.tb.map (Tb.run n), tbf := t.tbf.run n, tbfCarry := t.carries n }

/-! Encodings of times. -/

/-- S64.F32, 12 bytes: FRAC, then SEC (R11, Table 0-5). -/
def encT (t : Int) : List Byte := toLe 4 (t.fmod (2 ^ 32)).toNat ++ toLeS 8 (t.fdiv (2 ^ 32))

/-- S64.N30, 12 bytes: NSEC, then SEC (R12, Table 0-6). -/
def encN30 (sec : Int) (ns : Nat) : List Byte := toLe 4 ns ++ toLeS 8 sec

/-- Read an S64.F32 in units of 2^-32 s. -/
def rdT (bs : List Byte) (off : Nat) : Int := rdS bs (off + 4) 8 * 2 ^ 32 + (rd bs off 4 : Nat)

end Sys2Proof.Machine
end

