-- ==== Sys2Proof/Machine/Events.lean ====
section
/-!
DEFINITION. Posting an event, the event ring, the event vectors, the counters of the frame record,
rate limits (spec/16_events_and_statistics.md).
-/
namespace Sys2Proof.Machine

/-! Event codes of every chapter's table. -/

/-- EV_UNIT_RETIRED -/
def evUnitRetired : Nat := 0x0101
/-- EV_WORK_DISCARDED -/
def evWorkDiscarded : Nat := 0x0102
/-- EV_RING_HALTED -/
def evRingHalted : Nat := 0x0103
/-- EV_FEATURE_FLOOR -/
def evFeatureFloor : Nat := 0x0104
/-- EV_BOOT -/
def evBoot : Nat := 0x0105
/-- EV_PROTECT_CHANGED -/
def evProtectChanged : Nat := 0x0201
/-- EV_KEY_CHANGED -/
def evKeyChanged : Nat := 0x0202
/-- EV_AUTH_REJECT -/
def evAuthReject : Nat := 0x0203
/-- EV_LIFECYCLE -/
def evLifecycle : Nat := 0x0204
/-- EV_DEBUG_STATE -/
def evDebugState : Nat := 0x0205
/-- EV_DEBUG_REFUSED -/
def evDebugRefused : Nat := 0x0206
/-- EV_COUNTER_HELD -/
def evCounterHeld : Nat := 0x0207
/-- EV_FW_TRIAL_FALLBACK -/
def evFwTrialFallback : Nat := 0x0208
/-- EV_JOB_READY -/
def evJobReady : Nat := 0x0301
/-- EV_JOB_DAMAGED -/
def evJobDamaged : Nat := 0x0302
/-- EV_BLOCK_BAD -/
def evBlockBad : Nat := 0x0303
/-- EV_DECODE_RETRY -/
def evDecodeRetry : Nat := 0x0304
/-- EV_MEM_CORRECTED -/
def evMemCorrected : Nat := 0x0305
/-- EV_MEM_UNCORRECTED -/
def evMemUncorrected : Nat := 0x0306
/-- EV_PAGE_RETIRED -/
def evPageRetired : Nat := 0x0307
/-- EV_STORE_LOW -/
def evStoreLow : Nat := 0x0308
/-- EV_LAYER_NOT_READY -/
def evLayerNotReady : Nat := 0x0401
/-- EV_LAYER_FLIP_REFUSED -/
def evLayerFlipRefused : Nat := 0x0402
/-- EV_FRAME_STOPPED -/
def evFrameStopped : Nat := 0x0403
/-- EV_LAYER_WIDTH_LOST -/
def evLayerWidthLost : Nat := 0x0404
/-- EV_COMPOSE_POISONED -/
def evComposePoisoned : Nat := 0x0405
/-- EV_LOOP_UPDATE -/
def evLoopUpdate : Nat := 0x0501
/-- EV_LOOP_STATE -/
def evLoopState : Nat := 0x0502
/-- EV_LOOP_LIMIT -/
def evLoopLimit : Nat := 0x0503
/-- EV_LEDGER_MISS -/
def evLedgerMiss : Nat := 0x0504
/-- EV_STRIP_DEVIATION -/
def evStripDeviation : Nat := 0x0505
/-- EV_STREAK -/
def evStreak : Nat := 0x0506
/-- EV_PROFILE_SAVED -/
def evProfileSaved : Nat := 0x0507
/-- EV_BAR_ENABLED -/
def evBarEnabled : Nat := 0x0601
/-- EV_BAR_DISABLED -/
def evBarDisabled : Nat := 0x0602
/-- EV_BAR_ENGINE_SWAP -/
def evBarEngineSwap : Nat := 0x0603
/-- EV_RING_POISONED -/
def evRingPoisoned : Nat := 0x0604
/-- EV_COMPENSATION_GAP -/
def evCompensationGap : Nat := 0x0605
/-- EV_CATCHUP_BEGIN -/
def evCatchupBegin : Nat := 0x0606
/-- EV_CATCHUP_END -/
def evCatchupEnd : Nat := 0x0607
/-- EV_LINE_LATE -/
def evLineLate : Nat := 0x0701
/-- EV_LINE_OVERSPEED -/
def evLineOverspeed : Nat := 0x0702
/-- EV_HEAD_OVERSPEED -/
def evHeadOverspeed : Nat := 0x0703
/-- EV_LINE_UNSTAMPED -/
def evLineUnstamped : Nat := 0x0704
/-- EV_PRINT_INHIBIT -/
def evPrintInhibit : Nat := 0x0705
/-- EV_HEAD_HALTED -/
def evHeadHalted : Nat := 0x0706
/-- EV_RUN_STARTED -/
def evRunStarted : Nat := 0x0707
/-- EV_RUN_ENDED -/
def evRunEnded : Nat := 0x0708
/-- EV_WEB_REVERSED -/
def evWebReversed : Nat := 0x0709
/-- EV_WEB_RESUMED -/
def evWebResumed : Nat := 0x070A
/-- EV_SPEED_LIMIT -/
def evSpeedLimit : Nat := 0x070B
/-- EV_ENCODER_ILLEGAL -/
def evEncoderIllegal : Nat := 0x0801
/-- EV_ENCODER_SIGNAL -/
def evEncoderSignal : Nat := 0x0802
/-- EV_SPEED_VALID -/
def evSpeedValid : Nat := 0x0803
/-- EV_INDEX_ERROR -/
def evIndexError : Nat := 0x0804
/-- EV_ENCODER_FAILOVER -/
def evEncoderFailover : Nat := 0x0805
/-- EV_ENCODER_DIVERGED -/
def evEncoderDiverged : Nat := 0x0806
/-- EV_COMPARE_BEHIND -/
def evCompareBehind : Nat := 0x0807
/-- EV_COMPARE_FIRED -/
def evCompareFired : Nat := 0x0808
/-- EV_POS_CALIBRATED -/
def evPosCalibrated : Nat := 0x0809
/-- EV_TIME_LOCKED -/
def evTimeLocked : Nat := 0x0901
/-- EV_TIME_HOLDOVER -/
def evTimeHoldover : Nat := 0x0902
/-- EV_TIME_RECOVERING -/
def evTimeRecovering : Nat := 0x0903
/-- EV_TIME_STEPPED -/
def evTimeStepped : Nat := 0x0904
/-- EV_TIME_PATH_STEP -/
def evTimePathStep : Nat := 0x0905
/-- EV_TIME_PORT_DISAGREE -/
def evTimePortDisagree : Nat := 0x0906
/-- EV_TIME_MASTER -/
def evTimeMaster : Nat := 0x0907
/-- EV_TIME_HOLDOVER_LONG -/
def evTimeHoldoverLong : Nat := 0x0908
/-- EV_TRIGGER_LATE -/
def evTriggerLate : Nat := 0x0909
/-- EV_TRIGGER_SKIPPED -/
def evTriggerSkipped : Nat := 0x090A
/-- EV_TRIGGER_FIRED -/
def evTriggerFired : Nat := 0x090B
/-- EV_CAPTURE_OVERFLOW -/
def evCaptureOverflow : Nat := 0x090C
/-- EV_CAM_FRAME_MARKED -/
def evCamFrameMarked : Nat := 0x0A01
/-- EV_CAM_OVERFLOW -/
def evCamOverflow : Nat := 0x0A02
/-- EV_CAM_EXPOSURE_MISSED -/
def evCamExposureMissed : Nat := 0x0A03
/-- EV_CAM_PARAMS_APPLIED -/
def evCamParamsApplied : Nat := 0x0A04
/-- EV_CAM_ARCHIVE_SKIPPED -/
def evCamArchiveSkipped : Nat := 0x0A05
/-- EV_CAM_LINK -/
def evCamLink : Nat := 0x0A06
/-- EV_CAM_CALIBRATED -/
def evCamCalibrated : Nat := 0x0A07
/-- EV_LANE_LOCK_LOST -/
def evLaneLockLost : Nat := 0x0B01
/-- EV_LANE_DOWN -/
def evLaneDown : Nat := 0x0B02
/-- EV_COURSE_UP -/
def evCourseUp : Nat := 0x0B03
/-- EV_COURSE_DOWN -/
def evCourseDown : Nat := 0x0B04
/-- EV_LANE_SOLO -/
def evLaneSolo : Nat := 0x0B05
/-- EV_LINK_RETRY -/
def evLinkRetry : Nat := 0x0B06
/-- EV_QUEUE_OVERRUN -/
def evQueueOverrun : Nat := 0x0B07
/-- EV_QUEUE_MARK -/
def evQueueMark : Nat := 0x0B08
/-- EV_QUEUE_POISONED -/
def evQueuePoisoned : Nat := 0x0B09
/-- EV_COURSE_CLAIMED -/
def evCourseClaimed : Nat := 0x0B0A
/-- EV_COURSE_CLAIMED_AWAY -/
def evCourseClaimedAway : Nat := 0x0B0B
/-- EV_COURSE_PATH_STEP -/
def evCoursePathStep : Nat := 0x0B0C
/-- EV_MODULE_CHANGED -/
def evModuleChanged : Nat := 0x0C01
/-- EV_MIR_BAD -/
def evMirBad : Nat := 0x0C02
/-- EV_GATE_TEST_DONE -/
def evGateTestDone : Nat := 0x0C10
/-- EV_THERM_LEVEL -/
def evThermLevel : Nat := 0x0D01
/-- EV_THERM_SENSOR -/
def evThermSensor : Nat := 0x0D02
/-- EV_THERM_SHUTDOWN -/
def evThermShutdown : Nat := 0x0D03
/-- EV_HEAD_TEMP -/
def evHeadTemp : Nat := 0x0D04
/-- EV_HEAD_TEMP_STALE -/
def evHeadTempStale : Nat := 0x0D05
/-- EV_POWER_STATE -/
def evPowerState : Nat := 0x0D06
/-- EV_PMBUS_FAULT -/
def evPmbusFault : Nat := 0x0D07
/-- EV_PAIR_STATE -/
def evPairState : Nat := 0x0E01
/-- EV_PAIR_TAKEOVER -/
def evPairTakeover : Nat := 0x0E02
/-- EV_PAIR_YIELDED -/
def evPairYielded : Nat := 0x0E03
/-- EV_PAIR_HANDOVER -/
def evPairHandover : Nat := 0x0E04
/-- EV_PAIR_LINK_DOWN -/
def evPairLinkDown : Nat := 0x0E05
/-- EV_PAIR_DIVERGED -/
def evPairDiverged : Nat := 0x0E06
/-- EV_PAIR_REFUSED -/
def evPairRefused : Nat := 0x0E07
/-- EV_PAIR_MIRROR -/
def evPairMirror : Nat := 0x0E08
/-- EV_PAIR_HEALTH -/
def evPairHealth : Nat := 0x0E09
/-- EV_PAIR_AUTH -/
def evPairAuth : Nat := 0x0E0A
/-- EV_PAIR_POSITION -/
def evPairPosition : Nat := 0x0E0B
/-- EV_EVENTS_LOST -/
def evEventsLost : Nat := 0x0F01
/-- EV_FRAME_RECORD -/
def evFrameRecord : Nat := 0x0F02

/-- CRITICAL events (R416, Table 16-2), EV_UNIT_RETIRED apart. -/
def criticalEvents : List Nat := [0x0D03, 0x0E02, 0x0E03]

/-- ERROR events (R416, Table 16-2). -/
def errorEvents : List Nat := [0x0103, 0x0302, 0x0303, 0x0306, 0x0307, 0x0403, 0x0604, 0x0605, 0x0701, 0x0702, 0x0703, 0x0704, 0x0706, 0x0805, 0x0A02, 0x0B04, 0x0B07, 0x0B09, 0x0D07, 0x0E06, 0x0E0A, 0x0F01]

/-- WARNING events (R416, Table 16-2). -/
def warningEvents : List Nat := [0x0102, 0x0203, 0x0206, 0x0308, 0x0401, 0x0402, 0x0404, 0x0503, 0x0504, 0x0505, 0x0506, 0x0705, 0x070B, 0x0801, 0x0802, 0x0804, 0x0806, 0x0902, 0x0905, 0x0906, 0x0908, 0x0A01, 0x0B05, 0x0B06, 0x0B08, 0x0D01, 0x0D02, 0x0D04, 0x0D05, 0x0E05, 0x0E07, 0x0E09]

/-- The severity of an event (R416): EV_UNIT_RETIRED is CRITICAL when bit 31 of parameter 2 reports a
device fault, ERROR otherwise. -/
def severity (code p2 : Nat) : Nat :=
  if code = evUnitRetired then (if bit p2 31 then 3 else 2)
  else if criticalEvents.contains code then 3
  else if errorEvents.contains code then 2
  else if warningEvents.contains code then 1 else 0

/-! Positions, for POSITION of an entry. -/

/-- pos_q32 of a channel, none without a valid scale (R115). -/
def Channel.posQ (c : Channel) : Option Int := c.scale.map fun sc => c.q0 + (c.k - c.k0) * sc

/-- A channel. -/
def State.chan (s : State) (n : Nat) : Channel := s.pos.ch.getD n {}

/-- pos_q32 of the web channel: none when no channel carries the web role with a valid scale. -/
def State.webQ (s : State) : Option Int := s.pos.web.bind fun w => (s.chan w).posQ

/-- The web position P (R16, R115): floor. -/
def State.webP (s : State) : Option Int := s.webQ.map fun q => q.fdiv (2 ^ 32)

/-! Counters of the open frame record (R423). -/

/-- Key of a counter: section of Table 16-4, instance, place within it. -/
def ctr (sec inst idx : Nat) : Nat := 65536 * sec + 256 * inst + idx

/-- A counter of a record, 0 when it has not been set. -/
def Record.get (r : Record) (k : Nat) : Int := (getKey k r.counts).getD 0

/-- Set a counter. -/
def Record.put (k : Nat) (v : Int) (r : Record) : Record := { r with counts := putKey k v r.counts }

/-- Change the open record; between a close for P3 and the wake none is open (R429). -/
def State.onRec (f : Record → Record) (s : State) : State :=
  if s.stat.isOpen then s.onStat fun t => { t with cur := f t.cur } else s

/-- Add to a counter of the open record. -/
def bump (k : Nat) (n : Int) (s : State) : State :=
  if n = 0 then s else s.onRec fun r => r.put k (r.get k + n)

/-- Raise a MAX or PEAK counter of the open record. -/
def bumpMax (k : Nat) (v : Int) (s : State) : State :=
  s.onRec fun r => match getKey k r.counts with
    | none => r.put k v
    | some w => r.put k (max v w)

/-- The difference of ADJ3 and ADJ0 in ppb counts where it is the largest (Table 6-15). -/
def noteAdj (s : State) : State :=
  bumpMax (ctr 3 0 3) ((((s.tb 3).adj - (s.tb 0).adj).natAbs * 1000000000 / 2 ^ 40 : Nat) : Int) s

/-- Lower a MIN counter of the open record. -/
def bumpMin (k : Nat) (v : Int) (s : State) : State :=
  s.onRec fun r => match getKey k r.counts with
    | none => r.put k v
    | some w => r.put k (min v w)

/-! MSI-X. -/

/-- Send a vector: to the host when its mask bit is clear, else into the pending-bit array, as PCIe
defines (Table 3-2). -/
def sendVector (v : Nat) (s : State) : State :=
  if !s.hif.pcieUp then s
  else if bit (s.hif.msixTable.getD (4 * v + 3) 0) 0 then
    s.onHif fun h => { h with msixPending := h.msixPending ||| (1#64 <<< v) }
  else s.emit (.msix v)

/-- Change the gathering of one event vector. -/
def State.onVec (v : Nat) (f : EvVec → EvVec) (s : State) : State :=
  s.onStat fun t => { t with vecs := upd v f t.vecs }

/-- Send an event vector with everything gathered. -/
def flushEvVec (v : Nat) (s : State) : State :=
  sendVector v (s.onVec v fun e => { e with pending := 0 })

/-- An interrupting entry reaches its vector (R421, as R63): gathered under COUNT and TIME; a
CRITICAL entry sends at once. -/
def raiseEvVec (v : Nat) (critical : Bool) (s : State) : State :=
  let e := s.stat.vecs.getD v {}
  if critical || decide (e.pending + 1 ≥ max 1 e.count) then flushEvVec v s
  else s.onVec v fun e => { e with pending := e.pending + 1, since := if e.pending = 0 then s.tb1 else e.since }

/-! The event ring. -/

/-- Entries of the event ring. -/
def Hif.evqN (h : Hif) : Nat := 2 ^ h.evqSize

/-- The free count (R419): entries that may still be written before the ring is full. -/
def Hif.evqFree (h : Hif) : Nat := (h.evqHead + 2 * h.evqN - h.evqTail - 1) % h.evqN

/-- An event entry's 32 bytes (Table 16-1), with the phase bit given. -/
def encEvent (phase : Bool) (e : Event) : List Byte :=
  toLe 2 e.code ++ toLe 1 e.severity
    ++ toLe 1 (b2n phase + 2 * b2n e.pos.isNone + 4 * b2n e.summary)
    ++ toLe 2 e.source ++ toLe 2 0 ++ toLe 4 e.sec ++ toLe 4 e.frac
    ++ toLeS 8 (e.pos.getD (-(2 : Int) ^ 63)) ++ toLe 4 e.p1 ++ toLe 4 e.p2

/-- The settings of an event's group (R421). -/
def State.mask (s : State) (code : Nat) : Mask := s.stat.masks.getD (code / 256 - 1) {}

/-- Write an entry at EVQ_TAIL with its phase (R419) and raise its group's vector (R421). -/
def writeEntry (e : Event) (s : State) : State :=
  let h := s.hif
  let tail := (h.evqTail + 1) % h.evqN
  let m := s.mask e.code
  let s := s.emit (.eventEntry h.evqTail (encEvent h.evqPhase e))
  let s := s.onHif fun h => { h with evqTail := tail, evqPhase := if tail = 0 then !h.evqPhase else h.evqPhase }
  if m.irqSev ≤ e.severity then raiseEvVec m.vector (e.severity == 3) s else s

/-- An entry that is not written (R419): EVQ_OVERFLOW, which saturates at 65,535 on A1 (A1-05), LOST,
EVENTS_LOST of the open record, and what EV_EVENTS_LOST is to report. -/
def loseEntry (e : Event) (s : State) : State :=
  bump (ctr 1 0 1) 1 (s.onHif fun h =>
    { h with
      evqOverflow := min 65535 (h.evqOverflow + 1)
      lost := min 0xFFFFFFFF (h.lost + 1)
      unreported := h.unreported + 1
      unreportedErr := h.unreportedErr + b2n (decide (2 ≤ e.severity)) })

/-- An event as it is posted now (R415). -/
def mkEvent (code source p1 p2 : Nat) (summary : Bool) (s : State) : Event :=
  { code, severity := severity code p2, summary, source
    sec := ((s.tb 0).sec.emod (2 ^ 32)).toNat
    frac := (s.tb 0).frac / 2 ^ 32
    pos := s.webP, p1, p2 }

/-- Into the event history (R420), counted in EVENTS_POSTED. -/
def toHistory (e : Event) (s : State) : State :=
  bump (ctr 1 0 0) 1 (s.onStat fun t =>
    { t with history := (e :: t.history).take 4096, hseq := (t.hseq + 1) % 2 ^ 32 })

/-- Entries below the group's POST_SEV are not posted; CRITICAL ones always are (R421). -/
def posted (e : Event) (s : State) : Bool := e.severity == 3 || decide ((s.mask e.code).postSev ≤ e.severity)

/-- EV_EVENTS_LOST, the first entry written once the free count is 16 again, or after the ring has
been enabled with a count still unreported (R419, R478). -/
def reportLost (s : State) : State :=
  if s.hif.evqEnable && decide (16 ≤ s.hif.evqFree) && decide (0 < s.hif.unreported) then
    let e := mkEvent evEventsLost 0x0300 (min 0xFFFFFFFF s.hif.unreported) (min 0xFFFFFFFF s.hif.unreportedErr) false s
    if posted e s then
      writeEntry e (toHistory e (s.onHif fun h => { h with unreported := 0, unreportedErr := 0 }))
    else s
  else s

/-- Post an entry: into the history, and into the event ring as the free count allows (R419, R478). -/
def postEntry (e : Event) (s : State) : State :=
  if !posted e s then s
  else
    let s := toHistory e (reportLost s)
    if !s.hif.evqEnable then s
    else
      let free := s.hif.evqFree
      if 16 ≤ free || (0 < free && 2 ≤ e.severity) then writeEntry e s else loseEntry e s

/-- Post an event. -/
def post (code source p1 p2 : Nat) (s : State) : State :=
  postEntry (mkEvent code source (p1 % 2 ^ 32) (p2 % 2 ^ 32) false s) s

/-- A signed parameter saturated to 32 bits, as two's complement. -/
def p32 (v : Int) : Nat := ((satS 32 v) % (2 ^ 32 : Nat)).toNat

/-- An unsigned parameter saturated to 32 bits. -/
def u32 (v : Nat) : Nat := min v 0xFFFFFFFF

/-! Rate limits. -/

/-- Post at most once in a time per key (a unit, or a unit and a cause): the first occurrence is posted, later ones inside the time are
counted, and the first one after it is posted as a SUMMARY of the count, in parameter 2 when `sum`. -/
def postKeyed (code key unit p1 p2 : Nat) (n den : Nat) (sum : Bool) (s : State) : State :=
  match s.stat.rates.find? (fun r => r.code == code && r.unit == key) with
  | some r =>
    if within s r.since n den then
      s.onStat fun t => { t with rates := t.rates.map fun x => if x.code == code && x.unit == key then { x with count := x.count + 1 } else x }
    else
      let held := r.count
      let s := s.onStat fun t => { t with rates := t.rates.map fun x => if x.code == code && x.unit == key then { x with since := s.tb1, count := 0 } else x }
      postEntry (mkEvent code unit (p1 % 2 ^ 32) ((if sum then p2 + held else p2) % 2 ^ 32) (decide (0 < held)) s) s
  | none =>
    post code unit p1 p2 (s.onStat fun t => { t with rates := { code, unit := key, since := s.tb1, count := 0 : Rate } :: t.rates })

/-- The same, limited per unit. -/
def postLimited (code unit p1 p2 : Nat) (n den : Nat) (sum : Bool) (s : State) : State :=
  postKeyed code unit unit p1 p2 n den sum s

/-- Post at most once in the open frame per key. -/
def postOnceKey (code key unit p1 p2 : Nat) (s : State) : State :=
  if s.stat.frameOnce.contains (code, key) then s
  else post code unit p1 p2 (s.onStat fun t => { t with frameOnce := (code, key) :: t.frameOnce })

/-- Post at most once in the open frame per unit. -/
def postOnceFrame (code unit p1 p2 : Nat) (s : State) : State := postOnceKey code unit unit p1 p2 s

end Sys2Proof.Machine
end

