-- ==== Sys2Proof/Machine/Upset.lean ====
section
/-!
DEFINITION. Transient upsets and permanent faults (spec/02_architecture.md, R35, R36): counting them,
and judging a unit permanently faulty. What a verdict does is Machine/Retire.lean.
-/
namespace Sys2Proof.Machine

/-- Unit of a ring. -/
def unitRing (n : Nat) : Nat := 0x0100 + n
/-- CTL pair 0, on which the firmware runs: the source of events for which the spec names no unit (log 10). -/
def unitCtl : Nat := 0x0300
/-- Unit of a course, or of the pair link (Table 2-1). -/
def unitCourse (l : Nat) : Nat := if l < 10 then 0x0A00 + l else 0x0B00
/-- Unit of a lane (R28, Table 2-1). -/
def unitLane (n : Nat) : Nat := if n < 20 then 0x0A80 + n else if n < 22 then 0x0B80 + n else 0x0C80 + n
/-- FIR. -/
def unitFir : Nat := 0x0900
/-- Unit of an encoder channel. -/
def unitEnc (n : Nat) : Nat := 0x0E00 + n

/-- Unit of a head context (10 R259). -/
def unitHead (h : Nat) : Nat := 0x8900 + h
/-- Unit of a bar render engine. -/
def unitBre (n : Nat) : Nat := 0x0800 + n
/-- Unit of a camera port. -/
def unitCam (n : Nat) : Nat := 0x0F00 + n
/-- Unit of an Ethernet port. -/
def unitEth (n : Nat) : Nat := 0x0C00 + n
/-- TBF, whose sticky bits 0 and 1 are the DISAGREE flags of domains A and B (log 14). -/
def unitTbf : Nat := 0x0D0F
/-- The store's low mark is a condition of MEM's channel 0 (log 14). -/
def unitStore : Nat := 0x0400

/-- A unit identifier of Table 2-1, or a head context's (10 R259). -/
def unitExists (u : Nat) : Bool :=
  let i := u % 256
  match u / 256 with
  | 0x01 => decide (i < 8)
  | 0x02 => i == 0
  | 0x03 => [0, 1, 0x10].contains i
  | 0x04 => decide (i < 8)
  | 0x05 => decide (i < 5) || i == 0x10
  | 0x06 => decide (i < 5)
  | 0x07 => i == 0
  | 0x08 => decide (i < 11)
  | 0x09 => i == 0
  | 0x0A => decide (i < 10) || (decide (0x80 ≤ i) && decide (i ≤ 0x93))
  | 0x0B => i == 0 || i == 0x94 || i == 0x95
  | 0x0C => decide (i < 2) || i == 0x96 || i == 0x97
  | 0x0D => decide (i < 4) || (decide (0x0F ≤ i) && decide (i < 0x30))
  | 0x0E => decide (i < 4) || (decide (0x10 ≤ i) && decide (i < 0x20))
  | 0x0F => decide (i < 4) || i == 0x10
  | 0x10 => i == 0
  | 0x11 => decide (i < 16)
  | 0x12 => decide (i < 5)
  | 0x89 => true
  | _ => false

/-- The unit is latched as retired (R39). -/
def State.isRetired (s : State) (u : Nat) : Bool := s.stat.retired.any (·.unit == u)

/-- The unit is judged permanently faulty, its retirement waiting for the boundary (R37). -/
def State.isDoomed (s : State) (u : Nat) : Bool := s.stat.doomed.any (·.1 == u)

/-- Judge a unit permanently faulty by a criterion (R36, R417). -/
def doom (u criterion : Nat) (s : State) : State :=
  if s.isRetired u || s.isDoomed u then s
  else s.onStat fun t => { t with doomed := t.doomed ++ [(u, criterion)] }

/-- Count a transient upset against a unit (R35); a fourth within any 1 s is permanent (R36). -/
def upset (u : Nat) (s : State) : State :=
  let s := s.onStat fun t => { t with upsets := (u, s.tb1) :: t.upsets.filter fun x => within s x.2 86400 1 }
  if 4 ≤ (s.stat.upsets.filter fun x => x.1 == u && within s x.2 1 1).length then doom u 0x01 s else s

/-- A loss of lock (R35): a transient upset, and the third within any 1 s is permanent (R36). -/
def lockLoss (u : Nat) (s : State) : State :=
  let s := upset u s
  let s := s.onStat fun t => { t with lockLosses := (u, s.tb1) :: t.lockLosses.filter fun x => within s x.2 60 1 }
  if 3 ≤ (s.stat.lockLosses.filter fun x => x.1 == u && within s x.2 1 1).length then doom u 0x03 s else s

end Sys2Proof.Machine
end

