-- ==== Sys2Proof/Machine/LinkOps.lean ====
section
/-!
DEFINITION. Shared operations of the courses and the pair link: sending with credit, the queue's depth
and marks, the priority buffer (spec/11_course_links_and_queues.md, R292 to R299, R310 to R315).
-/
namespace Sys2Proof.Machine

/-- A course, or as number 10 the pair link. -/
def State.course (s : State) (l : Nat) : Course := s.links.courses.getD l {}

/-- A lane. -/
def State.lane (s : State) (n : Nat) : Lane := s.links.lanes.getD n {}

/-- Change one course. -/
def State.onCourse (l : Nat) (f : Course → Course) (s : State) : State :=
  s.onLinks fun k => { k with courses := upd l f k.courses }

/-- Change one lane. -/
def State.onLane (n : Nat) (f : Lane → Lane) (s : State) : State :=
  s.onLinks fun k => { k with lanes := upd n f k.lanes }

/-- Number of a class. -/
def Cls.num : Cls → Nat
  | .data => 0
  | .prio => 1
  | .ctrl => 2

/-- A class of a course. -/
def Course.at (c : Course) (k : Cls) : ClsLink := c.cls.getD k.num {}

/-- Change one class of a course. -/
def Course.onCls (k : Cls) (f : ClsLink → ClsLink) (c : Course) : Course := { c with cls := upd k.num f c.cls }

/-- Flits of a packet with n bytes of payload: B blocks of R292, ceil(B / 8) flits (R298). -/
def flitsOf (n : Nat) : Nat := ceilDiv (1 + ceilDiv (4 * ceilDiv n 4 + 4) 8) 8

/-- Blocks of a packet with n bytes of payload (R292). -/
def blocksOf (n : Nat) : Nat := 1 + ceilDiv (4 * ceilDiv n 4 + 4) 8

/-- Bytes of the retry buffer in use, all classes (Table 11-9). -/
def Course.retryBytes (c : Course) : Nat :=
  (c.cls.map fun k => (k.unacked.map fun p => 8 * blocksOf p.bytes.length).sum).sum

/-- The class has credit for a new packet (R298). -/
def Course.hasCredit (c : Course) (k : Cls) (payload : Nat) : Bool :=
  decide (signed 32 ((c.at k).sent + flitsOf payload + 2 ^ 32 - (c.at k).limit) ≤ 0)

/-- A new packet may start (R297, R298, Table 11-9): credit, at most 32,768 packets unacknowledged in its class, and room in the
retry buffer. -/
def Course.maySend (c : Course) (k : Cls) (payload : Nat) : Bool :=
  c.hasCredit k payload && decide ((c.at k).unacked.length < 32768) && decide (c.retryBytes + 8 * blocksOf payload ≤ 458752)

/-- Take one armed injection of a kind on a course, for a class where the kind has one: whether it was
armed, its NO_COUNT, and the list after (R291). -/
def takeInject (kind : Nat) (cls : Option Nat) : List (Nat × Nat × Bool × Nat) → Option Bool × List (Nat × Nat × Bool × Nat)
  | [] => (none, [])
  | (k, c, nc, n) :: r =>
    if k = kind && (cls.isNone || cls == some c) && decide (0 < n) then
      (some nc, if n ≤ 1 then r else (k, c, nc, n - 1) :: r)
    else
      let (g, r') := takeInject kind cls r
      (g, (k, c, nc, n) :: r')

/-- The same on a lane. -/
def takeLaneInject (kind : Nat) : List (Nat × Bool × Nat) → Option Bool × List (Nat × Bool × Nat)
  | [] => (none, [])
  | (k, nc, n) :: r =>
    if k = kind && decide (0 < n) then (some nc, if n ≤ 1 then r else (k, nc, n - 1) :: r)
    else
      let (g, r') := takeLaneInject kind r
      (g, (k, nc, n) :: r')

/-! The block stream (R285, R288, R292, R293). -/

/-- The link that a lane belongs to: course k for LN2k and LN2k+1, 10 for LN20 and LN21 (Table 11-1). -/
def linkOf (lane : Nat) : Nat := lane / 2

/-- A lane's transmitter sends blocks: its course has been trained or is being trained (R308, R320). -/
def Course.sending (c : Course) : Bool := c.up || c.wanted || c.train.isSome

/-- Blocks that a lane carries in a second (R284). -/
def Course.blockRate (c : Course) : Nat := if c.run.rate = 1 then 156250000 else 390625000

/-- Whole block times since the latest marker sent. -/
def Course.slots (c : Course) (now : Int) : Nat := (now - c.markAt).toNat * c.blockRate / 2 ^ 32

/-- Lanes that share the stream. -/
def Course.width (c : Course) : Nat := if c.duo then 2 else 1

/-- The lane of a stream position (R288): in duo the lanes alternate, the lower first after a marker. -/
def Course.laneAt (c : Course) (l p : Nat) : Nat := if c.duo then 2 * l + p % 2 else 2 * l + c.carry

/-- Block type of a class's START block (Table 11-2). -/
def Cls.startType : Cls → Nat
  | .data => 0x33
  | .prio => 0x4B
  | .ctrl => 0x55

/-- A START block (Table 11-2): type, SEQ, LEN4, then SLOT and LINE, or CTYPE. -/
def startBlock (k : Cls) (seq kind n : Nat) : List Byte := toLe 1 k.startType ++ toLe 2 seq ++ toLe 2 (ceilDiv n 4) ++ toLe 3 kind

/-- A LINK block (Table 11-5). -/
def linkBlock (kind arg : Nat) : List Byte :=
  let b := toLe 1 0x66 ++ toLe 1 kind ++ toLe 5 arg
  b ++ toLe 1 (crc8 b)

/-- An IDLE block. -/
def idleBlock : List Byte := toLe 8 0x1E

/-- Bytes of a packet after its START block (R292): whole words of payload, the CRC-32C over the START block and them, zeros up to the
end of the last block. An inverted CRC makes the packet stomped (R294). -/
def packetBody (start bytes : List Byte) (inverted : Bool) : List Byte :=
  let payload := padTo (4 * ceilDiv bytes.length 4) bytes
  let crc := crc32c (start ++ payload)
  let body := payload ++ toLe 4 (if inverted then 0xFFFFFFFF - crc else crc)
  padTo (8 * ceilDiv body.length 8) body

/-- The blocks of a packet (R292). -/
def OutPacket.make (p : OutPacket) : List Blk :=
  let start := startBlock p.cls p.seq p.kind p.bytes.length
  let pkt := some (p.cls, p.seq)
  { hdr := 2, bytes := start, pkt } :: (chunks 8 (packetBody start p.bytes p.inverted)).map fun b => { bytes := b, pkt }

/-- Change a packet that awaits its ACK. -/
def ClsLink.onSent (seq : Nat) (f : SentPacket → SentPacket) (x : ClsLink) : ClsLink :=
  { x with unacked := x.unacked.map fun p => if p.seq = seq then f p else p }

/-- A block goes out on a lane. Injection 0x03 spoils the sync header of the next block, 0x02 a payload bit of the next data block
(R291); a packet that they hit without counting is marked so. -/
def sendBlock (n : Nat) (b : Blk) (s : State) : State :=
  let (hdr, li) := takeLaneInject 0x03 (s.lane n).injects
  let (flip, li) := if b.hdr = 1 then takeLaneInject 0x02 li else (none, li)
  let bytes := if flip.isSome then (b.bytes.take 1).map (· ^^^ 1#8) ++ b.bytes.drop 1 else b.bytes
  let s := s.onLane n fun q => { q with
    injects := li, parity := bytes.foldl (fun x y => x ^^^ y.toNat) q.parity, blocks := q.blocks + 1 }
  let s := match b.pkt with
    | some (k, seq) =>
      if hdr == some true || flip == some true then s.onCourse (linkOf n) fun c => c.onCls k (·.onSent seq fun p => { p with noCount := true }) else s
    | none => s
  s.emit (.block n (if hdr.isSome then 0 else b.hdr) bytes)

/-- TIME_SYNC's payload (Table 11-6), with T1. -/
def timeSyncBytes (l : Nat) (t1 : Int) (syncId : Nat) (s : State) : List Byte :=
  let c := s.course l
  toLe 4 (t1.fdiv (2 ^ 32) % 2 ^ 32).toNat ++ toLe 4 (t1.fmod (2 ^ 32)).toNat ++ toLeS 4 c.delay
    ++ toLe 2 syncId ++ toLe 2 (b2n c.delayValid) ++ toLeS 4 (s.tb 3).adj

/-- A TIME_SYNC of a course that has not begun. -/
def OutPacket.timed (p : OutPacket) (l : Nat) : Bool := p.cls == .ctrl && p.kind == 4 && decide (l < 10) && p.blocks.isNone

/-- A packet begins at a stream position (R292, R297, R303): the lane and the moment are noted with it, and a TIME_SYNC sent for the
first time gets its T1, which is TB3 at that moment with TX_LAT. -/
def beginPacket (l : Nat) (p : OutPacket) (s : State) : State × List Blk :=
  let c := s.course l
  let lag : Int := ((c.slots s.tb1 - c.pos / c.width) * 2 ^ 32 / c.blockRate : Nat)
  let lane := c.laneAt l c.pos
  let t1 := s.tb3 - lag + c.cfg.txLat
  let p := match p.timing with
    | some id => { p with bytes := timeSyncBytes l t1 id s }
    | none => p
  let s := s.onCourse l fun c =>
    { (c.onCls p.cls (·.onSent p.seq fun q => { q with time := s.tb1 - lag, lane, bytes := p.bytes })) with
      t1 := (p.timing.map fun id => (t1, id)).orElse fun _ => c.t1 }
  (s, p.make)

/-- The block at the next stream position, none where nothing waits: those of stamp packets and LINK blocks first. A TIME_SYNC starts
on the lower lane; an IDLE places it there (R303). -/
def pumpOne (l : Nat) (s : State) : Option State :=
  let c := s.course l
  let lane := c.laneAt l c.pos
  let next (s : State) : State := s.onCourse l fun c => { c with pos := c.pos + 1 }
  match c.hot ++ c.out with
  | [] => none
  | p :: _ =>
    if p.timed l && c.duo && c.pos % 2 == 1 then some (sendBlock lane { hdr := 2, bytes := idleBlock } (next s))
    else
      let (s, bs) := match p.blocks with
        | some bs => (s, bs)
        | none => beginPacket l p s
      let left := match bs.drop 1 with
        | [] => []
        | r => [{ p with blocks := some r }]
      let s := next (s.onCourse l fun c => if c.hot.isEmpty then { c with out := left ++ c.out.drop 1 } else { c with hot := left ++ c.hot.drop 1 })
      some (bs.head?.elim s fun b => sendBlock lane b s)

/-- At most n positions of the stream. -/
def pumpGo (l : Nat) : Nat → State → State
  | 0, s => s
  | n + 1, s => match pumpOne l s with
    | none => s
    | some s => pumpGo l n s

/-- Blocks of a packet still to go, with an IDLE that may precede it. -/
def OutPacket.size (p : OutPacket) : Nat := match p.blocks with
  | some bs => bs.length
  | none => blocksOf p.bytes.length + 1

/-- A lane has nothing but IDLE to carry: those blocks take the armed injections 0x03 (R291). -/
def idleInjects (s : State) (n : Nat) : State :=
  let c := s.course (linkOf n)
  let (hit, kept) := (s.lane n).injects.partition fun i => i.1 == 3
  if !c.sending || (s.lane n).prbs.isSome || !((c.hot ++ c.out).isEmpty || (!c.duo && c.carry != n % 2)) then s
  else (s.onLane n fun q => { q with injects := kept }).emits (List.replicate ((hit.map (·.2.2)).sum) (.block n 0 idleBlock))

/-- A course's lanes carry what their block times up to now have room for (R288). DESIGN CHOICE (log 131): blocks are put out at the
course's next row, each with the position that its time gives it. -/
def pump (l : Nat) (s : State) : State :=
  let c := s.course l
  let s := pumpGo l (min (c.width * (c.slots s.tb1 + 1) - c.pos) ((c.hot ++ c.out).map (·.size)).sum) s
  idleInjects (idleInjects s (2 * l)) (2 * l + 1)

/-- A packet or LINK block joins the stream, at the next position to come if it is empty. -/
def putOut (l : Nat) (p : OutPacket) (s : State) : State :=
  let s := pump l s
  let s := s.onCourse l fun c =>
    let c := if c.hot.isEmpty && c.out.isEmpty then { c with pos := max c.pos (c.width * c.slots s.tb1) } else c
    if p.cls == .prio || p.blocks.isSome then { c with hot := c.hot ++ [p] } else { c with out := c.out ++ [p] }
  pump l s

/-- Send a LINK block (Table 11-5). -/
def sendLink (l kind arg : Nat) (s : State) : State := putOut l { kind, blocks := some [{ hdr := 2, bytes := linkBlock kind arg }] } s

/-- Hand a packet to the stream, new or again; injection 0x04 inverts the CRC of the next packet of its class (R291). -/
def sendPacket (l : Nat) (k : Cls) (p : SentPacket) (timing : Option Nat) (s : State) : State :=
  let (inv, inj) := takeInject 0x04 (some k.num) (s.course l).injects
  putOut l { timing, cls := k, seq := p.seq, kind := p.kind, bytes := p.bytes, inverted := p.stomped || inv.isSome }
    (s.onCourse l fun c => { c with injects := inj })

/-- Start a new packet of a class (R292, R295, R297, R298). -/
def transmit (l : Nat) (k : Cls) (kind : Nat) (bytes : List Byte) (stomped : Bool) (s : State) : State :=
  let c := s.course l
  let p : SentPacket := { seq := (c.at k).txSeq, kind, bytes, stomped, time := s.tb1, lane := c.laneAt l c.pos }
  let s := s.onCourse l fun c =>
    { (c.onCls k fun x =>
        { x with
          txSeq := (x.txSeq + 1) % 65536
          sent := (x.sent + flitsOf bytes.length) % 2 ^ 32
          unacked := if c.run.version = 1 then x.unacked else x.unacked ++ [p] }) with
      stompedSent := c.stompedSent + b2n stomped }
  sendPacket l k p (if k == .ctrl && kind == 4 && decide (l < 10) then some (rd bytes 12 2) else none) s

/-- Send the packets that wait, each class in order while its credit lasts (R298): over the packets still
to be looked at, with those kept back so far. -/
def drainGo (l : Nat) : List (Cls × Nat × List Byte) → List (Cls × Nat × List Byte) → State → State
  | [], kept, s => s.onCourse l fun c => { c with waiting := kept }
  | (k, kind, bytes) :: rest, kept, s =>
    if !(kept.any fun w => w.1 == k) && (s.course l).maySend k bytes.length then
      drainGo l rest kept (transmit l k kind bytes false s)
    else drainGo l rest (kept ++ [(k, kind, bytes)]) s

/-- Send the packets that wait on a link, as far as credit allows. -/
def drain (l : Nat) (s : State) : State := drainGo l (s.course l).waiting [] s

/-- Send a packet of a class, or let it wait for credit (R298, R300). -/
def sendOn (l : Nat) (k : Cls) (kind : Nat) (bytes : List Byte) (s : State) : State :=
  drain l (s.onCourse l fun c => { c with waiting := c.waiting ++ [(k, kind, bytes)] })

/-- Send a control packet. -/
def sendCtrl (l ctype : Nat) (bytes : List Byte) (s : State) : State := sendOn l .ctrl ctype bytes s

/-- The SEQ that the next packet of a class handed over will carry. -/
def Course.nextSeq (c : Course) (k : Cls) : Nat :=
  ((c.at k).txSeq + (c.waiting.filter fun w => w.1 == k).length) % 65536

/-- The course carries line and stamp packets: it is up, this device owns it, and it is not in safe
idle (R306, R38), nor is the device in P2 (R320). -/
def State.carries (s : State) (l : Nat) : Bool :=
  let c := s.course l
  c.up && c.owned && !c.safeIdle && (s.thm.power == .p0 || s.thm.power == .p1)

/-- Hand stamp entries to a course's priority path (R266, R299); a version 1 course has none (R301). -/
def pushPrio (l : Nat) (es : List PrioEntry) (s : State) : State :=
  if (s.course l).run.version = 1 || !s.carries l then s
  else s.onCourse l fun c => { c with prio := c.prio ++ es }

/-! The line queue (R310 to R315). -/

/-- D: flits pushed and not popped. -/
def Course.depth (c : Course) : Nat := (c.queue.map fun p => p.flits - p.popped).sum + (c.writing.map (·.p.flits)).sum

/-- The queue's capacity, flits (Table 11-9). -/
def queueCap : Nat := 40960

/-- One mark at depth d (R315): a notice, a re-arm, or nothing. -/
def QMark.at (m : QMark) (d : Nat) : QMark × Bool :=
  if m.level = 0 then (m, false)
  else if m.armed && decide (m.level ≤ d) then ({ m with armed := false, sticky := true }, true)
  else if !m.armed && decide (d < m.level - m.hyst) then ({ m with armed := true }, false)
  else (m, false)

/-- The marks and PEAK of a course after its depth has changed (R315, R422). -/
def checkMarks (l : Nat) (s : State) : State :=
  let c := s.course l
  let d := c.depth
  let (a, na) := (c.marks.getD 0 {}).at d
  let (b, nb) := (c.marks.getD 1 {}).at d
  let s := s.onCourse l fun c => { c with marks := [a, b], peak := max c.peak d }
  let s := bumpMax (ctr 9 l 6) d s
  let s := if na then post evQueueMark (unitCourse l) l d s else s
  if nb then post evQueueMark (unitCourse l) l (2 ^ 31 + d) s else s

end Sys2Proof.Machine
end

