-- ==== Sys2Proof/Machine/Reply.lean ====
section
/-!
DEFINITION. Status codes, completion entries and the checks of inline parameters
(spec/03_command_interface.md, Tables 3-12 to 3-17).
-/
namespace Sys2Proof.Machine

/-- The code of a status (Table 3-14). -/
def Status.code : Status → Nat
  | .ok => 0x00 | .badOpcode => 0x10 | .badParam => 0x11 | .badLength => 0x12 | .version => 0x13
  | .denied => 0x20 | .authFail => 0x21 | .replay => 0x22 | .state => 0x30 | .busy => 0x31
  | .noSpace => 0x32 | .scalerWidth => 0x33 | .limit => 0x34 | .verifyFail => 0x40 | .cancelled => 0x41
  | .timeout => 0x42 | .hwFault => 0x43 | .retired => 0x44 | .rejected => 0x50

/-- The 16 bytes of RESULT: the inline result with ST_OK, else Table 3-13; a rejected calibration carries its result too
(13 Tables 13-7, 13-8). -/
def Reply.resultBytes (r : Reply) : List Byte :=
  if r.status = .ok ∨ (r.status = .rejected ∧ r.result ≠ []) then padTo 16 r.result
  else toLe 1 r.loc ++ toLe 3 0 ++ toLe 4 r.offset ++ toLe 2 r.unit ++ toLe 2 0 ++ toLe 4 r.aux

/-- A completion entry (Table 3-12). -/
def encCompletion (phase : Bool) (opcode : Nat) (q : Cmd) (r : Reply) : List Byte :=
  toLe 2 q.tag ++ toLe 1 r.status.code ++ toLe 1 (b2n phase) ++ toLe 2 opcode ++ toLe 2 r.detail
    ++ toLe 4 q.seq ++ toLe 4 0 ++ r.resultBytes

/-- ST_OK with an inline result. -/
def Reply.good (bs : List Byte := []) : Reply := { result := bs }

/-- ST_OK with an inline result, and a structure for ADDR (R60, R77). -/
def Reply.withExt (bs : List Byte) (addr : Nat) (ext : List Byte) : Reply := { result := bs, addr, ext }

/-- A status with its DETAIL, naming no field. -/
def Reply.err (st : Status) (detail : Nat := 0) : Reply := { status := st, detail }

/-- A status that names a unit. -/
def Reply.errUnit (st : Status) (detail unit : Nat) : Reply := { status := st, detail, unit }

/-- ST_BAD_PARAM naming an inline parameter (WHERE 1). -/
def Reply.bad (offset : Nat) (detail : Nat := 0) : Reply := { status := .badParam, detail, loc := 1, offset }

/-- ST_BAD_PARAM naming a place in the parameter block (WHERE 2). -/
def Reply.badBlock (offset : Nat) (detail : Nat := 0) : Reply := { status := .badParam, detail, loc := 2, offset }

/-- The first check that fails (R70). -/
def firstFail : List (Bool × Reply) → Option Reply
  | [] => none
  | (true, r) :: _ => some r
  | (false, _) :: rest => firstFail rest

/-- Inline parameter fields. -/
def Cmd.u8 (q : Cmd) (off : Nat) : Nat := rd q.params off 1
def Cmd.u16 (q : Cmd) (off : Nat) : Nat := rd q.params off 2
def Cmd.u32 (q : Cmd) (off : Nat) : Nat := rd q.params off 4
def Cmd.u64 (q : Cmd) (off : Nat) : Nat := rd q.params off 8
def Cmd.s8 (q : Cmd) (off : Nat) : Int := rdS q.params off 1
def Cmd.s16 (q : Cmd) (off : Nat) : Int := rdS q.params off 2
def Cmd.s32 (q : Cmd) (off : Nat) : Int := rdS q.params off 4
def Cmd.s64 (q : Cmd) (off : Nat) : Int := rdS q.params off 8

/-- The bytes at the offsets not listed are 0 (R7): the first of them that is not is at fault. -/
def reservedFault (bs : List Byte) (len : Nat) (fields : List (Nat × Nat)) : Option Nat :=
  (List.range len).find? fun i =>
    !(fields.any fun f => decide (f.1 ≤ i) && decide (i < f.1 + f.2)) && (bs.getD i 0) != 0

/-- LENGTH is the opcode's, there is no parameter block, and every byte outside the fields listed
(offset, size) is 0 (checks 10 of Table 3-16). -/
def shape (q : Cmd) (len : Nat) (fields : List (Nat × Nat)) (blk : Bool := false) : List (Bool × Reply) :=
  [ (decide (q.params.length ≠ len) || (!blk && !q.pblk.isEmpty), Reply.err .badLength),
    ((reservedFault q.params len fields).isSome, Reply.bad ((reservedFault q.params len fields).getD 0)) ]

/-- A field whose value 0 selects its default. -/
def orDefault (v dflt : Nat) : Nat := if v = 0 then dflt else v

/-- Bits of a flags field outside a mask. -/
def extraBits (v mask : Nat) : Bool := v &&& mask != v

/-- A host address is 64-byte aligned. -/
def misaligned (addr : Nat) : Bool := addr % 64 != 0

/-- On Ethernet, where results come as the extended result, ADDR is 0; on PCIe it is 64-byte aligned. -/
def addrBad (q : Cmd) (off : Nat) : Bool :=
  if q.src.isSome then q.u64 off != 0 else misaligned (q.u64 off)

end Sys2Proof.Machine
end

