-- ==== Sys2Proof/Machine/Aes.lean ====
section
/-!
DEFINITION. AES-128, its CMAC (03 R68, NIST SP 800-38B), AES-KW wrapping and unwrapping (04 R90, R91, NIST SP 800-38F).
-/
namespace Sys2Proof.Machine

/-- Multiplication by x in GF(2^8) modulo x^8 + x^4 + x^3 + x + 1. -/
def gfDouble (a : Nat) : Nat := if 128 ≤ a then (2 * a - 256) ^^^ 0x1B else 2 * a

/-- n steps of multiplication in GF(2^8): the bits of b from the lowest. -/
def gfMulSteps : Nat → Nat → Nat → Nat
  | 0, _, _ => 0
  | n + 1, a, b => (if b % 2 = 1 then a else 0) ^^^ gfMulSteps n (gfDouble a) (b / 2)

/-- Multiplication in GF(2^8). -/
def gfMul (a b : Nat) : Nat := gfMulSteps 8 a b

/-- x^254, the inverse in GF(2^8), with 0 for 0. -/
def gfInv (x : Nat) : Nat :=
  let x2 := gfMul x x
  let x4 := gfMul x2 x2
  let x8 := gfMul x4 x4
  let x16 := gfMul x8 x8
  let x32 := gfMul x16 x16
  let x64 := gfMul x32 x32
  let x128 := gfMul x64 x64
  gfMul x128 (gfMul x64 (gfMul x32 (gfMul x16 (gfMul x8 (gfMul x4 x2)))))

/-- Rotation of a byte to the left. -/
def rotl8 (x n : Nat) : Nat := ((x * 2 ^ n) % 256) ||| (x / 2 ^ (8 - n))

/-- The S-box. -/
def aesSub (x : Nat) : Nat :=
  let i := gfInv x
  i ^^^ rotl8 i 1 ^^^ rotl8 i 2 ^^^ rotl8 i 3 ^^^ rotl8 i 4 ^^^ 0x63

/-- The inverse S-box. -/
def aesSubInv (x : Nat) : Nat := gfInv (rotl8 x 1 ^^^ rotl8 x 3 ^^^ rotl8 x 6 ^^^ 0x05)

/-- XOR of two lists of bytes. -/
def xorBytes (a b : List Nat) : List Nat := List.zipWith (· ^^^ ·) a b

/-- n further round keys after one, with the round constant. -/
def aesExpand : Nat → Nat → List Nat → List (List Nat)
  | 0, _, _ => []
  | n + 1, rc, k =>
    let w (i : Nat) := (k.drop (4 * i)).take 4
    let r := w 3
    let t := xorBytes ((r.drop 1 ++ r.take 1).map aesSub) [rc, 0, 0, 0]
    let a := xorBytes (w 0) t
    let b := xorBytes (w 1) a
    let c := xorBytes (w 2) b
    let d := xorBytes (w 3) c
    let k' := a ++ b ++ c ++ d
    k' :: aesExpand n (gfDouble rc) k'

/-- The eleven round keys. -/
def aesKeys (key : List Nat) : List (List Nat) := key :: aesExpand 10 1 key

/-- ShiftRows on the state in column order. -/
def shiftRows (s : List Nat) : List Nat :=
  (List.range 16).map fun i => s.getD ((i + 4 * (i % 4)) % 16) 0

/-- The inverse of ShiftRows. -/
def shiftRowsInv (s : List Nat) : List Nat :=
  (List.range 16).map fun i => s.getD ((i + 16 - 4 * (i % 4)) % 16) 0

/-- MixColumns with a row of coefficients. -/
def mixColumns (m : List Nat) (s : List Nat) : List Nat :=
  (List.range 16).map fun i =>
    (List.range 4).foldl (fun acc j => acc ^^^ gfMul (m.getD ((j + 4 - i % 4) % 4) 0) (s.getD (4 * (i / 4) + j) 0)) 0

/-- The rounds of encryption after the first key. -/
def aesRounds : List (List Nat) → List Nat → List Nat
  | [], s => s
  | [k], s => xorBytes (shiftRows (s.map aesSub)) k
  | k :: ks, s => aesRounds ks (xorBytes (mixColumns [2, 3, 1, 1] (shiftRows (s.map aesSub))) k)

/-- The rounds of decryption after the last key. -/
def aesRoundsInv : List (List Nat) → List Nat → List Nat
  | [], s => s
  | [k], s => xorBytes ((shiftRowsInv s).map aesSubInv) k
  | k :: ks, s => aesRoundsInv ks (mixColumns [14, 11, 13, 9] (xorBytes ((shiftRowsInv s).map aesSubInv) k))

/-- AES-128 of one block, bytes in order. -/
def aesEnc (key blk : List Nat) : List Nat :=
  match aesKeys key with
  | k :: ks => aesRounds ks (xorBytes blk k)
  | [] => blk

/-- The inverse of AES-128. -/
def aesDec (key blk : List Nat) : List Nat :=
  match (aesKeys key).reverse with
  | k :: ks => aesRoundsInv ks (xorBytes blk k)
  | [] => blk

/-- Big-endian value of bytes. -/
def beNat (bs : List Nat) : Nat := bs.foldl (fun a b => 256 * a + b) 0

/-- n bytes of a value, big-endian. -/
def toBe (n v : Nat) : List Nat := (List.range n).map fun i => (v / 256 ^ (n - 1 - i)) % 256

/-- Doubling in GF(2^128), as SP 800-38B makes the subkeys. -/
def dbl128 (v : Nat) : Nat := if 2 ^ 127 ≤ v then (2 * v - 2 ^ 128) ^^^ 0x87 else 2 * v

/-- The CMAC chain over whole blocks. -/
def cbcMac (key : List Nat) : List (List Nat) → List Nat → List Nat
  | [], x => x
  | b :: bs, x => cbcMac key bs (aesEnc key (xorBytes x b))

/-- AES-128-CMAC with the full tag (R68, SP 800-38B). -/
def cmac (key msg : List Nat) : List Nat :=
  let zero := List.replicate 16 0
  let k1 := dbl128 (beNat (aesEnc key zero))
  let n := max 1 ((msg.length + 15) / 16)
  let full := decide (msg.length = 16 * n)
  let head := (List.range (n - 1)).map fun i => (msg.drop (16 * i)).take 16
  let last := msg.drop (16 * (n - 1))
  let last := if full then xorBytes last (toBe 16 k1)
    else xorBytes (last ++ [0x80] ++ List.replicate (15 - last.length) 0) (toBe 16 (dbl128 k1))
  cbcMac key (head ++ [last]) zero

/-- Bytes as numbers. -/
def nats (bs : List Byte) : List Nat := bs.map BitVec.toNat

/-- Numbers as bytes. -/
def toBytes (ns : List Nat) : List Byte := ns.map (BitVec.ofNat 8)

/-- AES-KW wrapping, k steps done and n to go, over the integrity register and the semiblocks in turn. -/
def wrapSteps (key : List Nat) : Nat → Nat → List Nat → List (List Nat) → List Nat
  | 0, _, a, r => a ++ r.flatten
  | n + 1, k, a, r =>
    let at_ := k % r.length
    let b := aesEnc key (a ++ r.getD at_ [])
    wrapSteps key n (k + 1) (xorBytes (b.take 8) (toBe 8 (k + 1))) (r.set at_ (b.drop 8))

/-- AES-KW wrapping of whole semiblocks of 8 bytes (R90, SP 800-38F). -/
def kwWrap (key plain : List Nat) : List Nat :=
  let r := chunks 8 plain
  wrapSteps key (6 * r.length) 0 (List.replicate 8 0xA6) r

/-- AES-KW unwrapping: the steps of the wrapping undone, the last first. -/
def unwrapSteps (key : List Nat) : Nat → List Nat → List (List Nat) → List Nat × List (List Nat)
  | 0, a, r => (a, r)
  | t + 1, a, r =>
    let at_ := t % r.length
    let b := aesDec key (xorBytes a (toBe 8 (t + 1)) ++ r.getD at_ [])
    unwrapSteps key t (b.take 8) (r.set at_ (b.drop 8))

/-- AES-KW unwrapping (R90, R91, SP 800-38F): none when the integrity check fails. -/
def kwUnwrap (key wrapped : List Nat) : Option (List Nat) :=
  let r := chunks 8 (wrapped.drop 8)
  let (a, r) := unwrapSteps key (6 * r.length) (wrapped.take 8) r
  if a = List.replicate 8 0xA6 then some r.flatten else none

end Sys2Proof.Machine
end

