-- ==== Sys2Proof/Machine/Sha.lean ====
section
/-!
DEFINITION. SHA-256 and ECDSA P-256 verification for the image checks (spec/04_security_and_debug.md, R103).
-/
namespace Sys2Proof.Machine

/-- Bits of the largest whole number whose k-th power is at most v, tried from bit n - 1 down onto r. -/
def wholeRoot (k v : Nat) : Nat → Nat → Nat
  | 0, r => r
  | n + 1, r => wholeRoot k v n (if (r + 2 ^ n) ^ k ≤ v then r + 2 ^ n else r)

/-- The first 32 bits of the fraction of the k-th root of a small prime: what FIPS 180-4 defines its constants by. -/
def rootFraction (k p : Nat) : Nat := wholeRoot k (p * 2 ^ (32 * k)) 37 0 % 2 ^ 32

/-- The primes up to 311, of which there are 64. -/
def shaPrimes : List Nat :=
  (List.range 312).filter fun n => decide (2 ≤ n) && (List.range 18).all fun d => decide (d < 2) || decide (d = n) || n % d != 0

/-- The XOR of a word turned right by each of some amounts. -/
def turns (by_ : List Nat) (x : Nat) : Nat :=
  (by_.map fun n => x / 2 ^ n + x * 2 ^ (32 - n) % 2 ^ 32).foldl (· ^^^ ·) 0

/-- The message words of a block from its first sixteen: n more, each from those 2, 7, 15 and 16 places before it. -/
def shaWords : Nat → List Nat → List Nat
  | 0, ws => ws
  | n + 1, ws =>
    let back (d : Nat) := ws.getD (ws.length - d) 0
    let near := turns [17, 19] (back 2) ^^^ (back 2 / 1024)
    let far := turns [7, 18] (back 15) ^^^ (back 15 / 8)
    shaWords n (ws ++ [(near + back 7 + far + back 16) % 2 ^ 32])

/-- One round on the eight working words, with the sum of its constant and its message word. -/
def shaStep (v : List Nat) (add : Nat) : List Nat :=
  match v with
  | [a, b, c, d, e, f, g, h] =>
    let picked := (f &&& e) + (g - (g &&& e))
    let most := (a &&& (b ||| c)) ||| (b &&& c)
    let t := add + h + turns [6, 11, 25] e + picked
    [(t + turns [2, 13, 22] a + most) % 2 ^ 32, a, b, c, (d + t) % 2 ^ 32, e, f, g]
  | _ => v

/-- A block of 64 bytes taken into the hash. -/
def shaBlock (hash blk : List Nat) : List Nat :=
  let adds := List.zipWith (fun p w => rootFraction 3 p + w) shaPrimes (shaWords 48 ((chunks 4 blk).map beNat))
  List.zipWith (fun x y => (x + y) % 2 ^ 32) hash (adds.foldl shaStep hash)

/-- SHA-256 (FIPS 180-4): the message, a bit 1, zeros, and its length in bits fill whole blocks. -/
def sha256 (msg : List Nat) : List Nat :=
  let blocks := msg.length / 64 + if msg.length % 64 < 56 then 1 else 2
  let filled := msg ++ 0x80 :: List.replicate (64 * blocks - 9 - msg.length) 0 ++ toBe 8 (msg.length * 8)
  ((chunks 64 filled).foldl shaBlock ((shaPrimes.take 8).map (rootFraction 2))).flatMap (toBe 4)

/-! P-256. -/

/-- The field's prime. -/
def p256P : Nat := 0xffffffff00000001000000000000000000000000ffffffffffffffffffffffff
/-- The group's order. -/
def p256N : Nat := 0xffffffff00000000ffffffffffffffffbce6faada7179e84f3b9cac2fc632551
/-- The curve's b. -/
def p256B : Nat := 0x5ac635d8aa3a93e7b3ebbd55769886bc651d06b0cc53b0f63bce3c3e27d2604b
/-- The generator. -/
def p256G : Nat × Nat :=
  (0x6b17d1f2e12c4247f8bce6e563a440f277037d812deb33a0f4a13945d898c296,
   0x4fe342e2fe1a7f9b8ee7eb4a7c0f9e162bce33576b315ececbb6406837bf51f5)

/-- b^e mod m, n bits of e from the highest. -/
def powMod : Nat → Nat → Nat → Nat → Nat
  | 0, _, _, _ => 1
  | n + 1, b, e, m =>
    let h := powMod n b (e / 2) m
    if e % 2 = 1 then h * h % m * b % m else h * h % m

/-- Inverse modulo a prime of 256 bits. -/
def invMod (a m : Nat) : Nat := powMod 256 (a % m) (m - 2) m

/-- Addition of points, none the point at infinity. -/
def p256Add : Option (Nat × Nat) → Option (Nat × Nat) → Option (Nat × Nat)
  | none, q => q
  | p, none => p
  | some (x1, y1), some (x2, y2) =>
    let p := p256P
    if x1 = x2 ∧ (y1 + y2) % p = 0 then none
    else
      let l := if x1 = x2 then (3 * x1 * x1 + (p - 3)) * invMod (2 * y1) p % p
        else (y2 + p - y1) * invMod (x2 + p - x1) p % p
      let x3 := (l * l + 2 * p - x1 - x2) % p
      some (x3, (l * (x1 + p - x3) + p - y1) % p)

/-- n bits of a scalar times a point. -/
def p256Mul : Nat → Nat → Option (Nat × Nat) → Option (Nat × Nat)
  | 0, _, _ => none
  | n + 1, k, q =>
    let h := p256Mul n (k / 2) q
    let d := p256Add h h
    if k % 2 = 1 then p256Add d q else d

/-- ECDSA P-256 verification: hash, r, s, public key x and y. -/
def ecdsaVerify (hash r s x y : Nat) : Bool :=
  let n := p256N
  let p := p256P
  if r = 0 || s = 0 || n ≤ r || n ≤ s || p ≤ x || p ≤ y then false
  else if y * y % p ≠ (x * x % p * x + (p - 3) * x + p256B) % p then false
  else
    let w := invMod s n
    match p256Add (p256Mul 256 (hash * w % n) (some p256G)) (p256Mul 256 (r * w % n) (some (x, y))) with
    | none => false
    | some (px, _) => px % n == r % n

end Sys2Proof.Machine
end

