-- ==== Sys2Proof/Machine/Access.lean ====
section
/-!
DEFINITION. Roles and permissions (spec/04_security_and_debug.md, R84, R85, Tables 4-1 to 4-4).
-/
namespace Sys2Proof.Machine

/-- Opcodes of each group 0x01 to 0x10 (Table 3-19). -/
def groupOps : List Nat := [11, 9, 8, 8, 9, 9, 6, 6, 8, 7, 9, 7, 6, 6, 6, 7]

/-- OPCODE is one of Table 3-19 (R80). -/
def opcodeDefined (op : Nat) : Bool :=
  let g := op / 256
  decide (1 ≤ g) && decide (1 ≤ op % 256) && decide (op % 256 ≤ groupOps.getD (g - 1) 0)

/-- Opcodes whose parameters carry DMA descriptor lists (R76). -/
def dmaOps : List Nat := [0x0109, 0x0301, 0x0302, 0x0308, 0x0A05, 0x0A06, 0x1007]

/-- The permissions that ignore the masks (Table 4-3): the roles that pass check 9. -/
def fixedRoles (op : Nat) : Option (List Nat) :=
  if [0x0101, 0x0102, 0x0105, 0x0201, 0x0104, 0x0209].contains op then some [0, 1, 2, 3]
  else if [0x0203, 0x0204, 0x0205, 0x0206, 0x0207, 0x0208].contains op then some [0]
  else if [0x010A, 0x1002].contains op then some [0, 1]
  else none

/-- Check 9: the role may issue the opcode under a table (R85). -/
def ProtTable.permits (t : ProtTable) (role op : Nat) : Bool :=
  match fixedRoles op with
  | some rs => rs.contains role
  | none => bit ((t.perms.getD role []).getD (op / 256 - 1) 0) (op % 256 - 1)

/-- A mask of the first n opcodes of a group. -/
def maskAll (n : Nat) : Nat := 2 ^ n - 1

/-- The masks of one role, from a list of opcodes. -/
def masksOf (ops : List Nat) : List Nat :=
  (List.range 16).map fun g => ((List.range 16).map fun o => if ops.contains (256 * (g + 1) + o + 1) then 2 ^ o else 0).sum

/-- Every opcode of a group. -/
def wholeGroup (g : Nat) : List Nat := (List.range (groupOps.getD (g - 1) 0)).map fun o => 256 * g + o + 1

/-- Opcodes that Table 4-4 gives the Monitor. -/
def monitorOps : List Nat :=
  [0x0103, 0x0305, 0x0306, 0x0307, 0x0408, 0x0505, 0x0509, 0x0609, 0x0706, 0x0803, 0x0902, 0x0908, 0x0A07,
   0x0B07, 0x0C06, 0x0D02, 0x0D06, 0x0E02, 0x0E05, 0x0F01, 0x0F02, 0x0F05]

/-- The default protection table, GENERATION 0 (Table 4-4). -/
def defaultTable : ProtTable :=
  { generation := 0
    rings := [0, 1, 2, 2, 3, 3, 3, 3].map fun r => { role := r }
    perms := [groupOps.map maskAll, groupOps.map maskAll,
      masksOf (([3, 4, 5, 6, 7, 8, 9, 10, 12, 15].flatMap wholeGroup) ++ [0x0B07]),
      masksOf monitorOps] }

/-- Bytes +0x00 to +0xAF of a table (Tables 4-1, 4-2). -/
def ProtTable.body (t : ProtTable) : List Byte :=
  toLe 4 0x5452504C ++ toLe 2 1 ++ toLe 2 0 ++ toLe 4 t.generation ++ toLe 4 0
    ++ ((List.range 8).flatMap fun n =>
        let e := t.rings.getD n {}
        toLe 1 e.role ++ toLe 1 (b2n e.authRequired + 2 * b2n e.ethAllowed) ++ toLe 2 0)
    ++ ((List.range 4).flatMap fun r => (List.range 16).flatMap fun g => toLe 2 ((t.perms.getD r []).getD g 0))

/-- The CRC of a table (Table 4-1). -/
def ProtTable.crcOf (t : ProtTable) : Nat := crc32c t.body

/-- The 192 bytes of a table. -/
def ProtTable.encode (t : ProtTable) : List Byte := t.body ++ toLe 4 t.crcOf ++ List.replicate 12 0

/-- A table read from 192 bytes: none unless MAGIC, FORMAT and CRC are valid and reserved fields 0. DESIGN CHOICE (log 112): a ROLE
above 3 counts as a reserved field at fault, which SEC_PROTECT_WRITE answers with DETAIL 0x0101. -/
def ProtTable.decode (bs : List Byte) : Option ProtTable :=
  let t : ProtTable :=
    { generation := rd bs 8 4
      rings := (List.range 8).map fun n =>
        { role := rd bs (0x10 + 4 * n) 1, authRequired := bit (rd bs (0x11 + 4 * n) 1) 0
          ethAllowed := bit (rd bs (0x11 + 4 * n) 1) 1 }
      perms := (List.range 4).map fun r => (List.range 16).map fun g => rd bs (0x30 + 32 * r + 2 * g) 2
      crc := rd bs 0xB0 4 }
  if bs.length = 192 && t.rings.all (fun e => decide (e.role ≤ 3)) && t.encode == bs then some t else none

/-- The key that a role authenticates with (R89): its current slot's. -/
def State.roleKey (s : State) (role : Nat) : Option Nat :=
  match (s.sec.current.getD role none) with
  | some slot => s.sec.keys.getD slot none
  | none => none

/-- A key's sixteen bytes. -/
def keyBytes (k : Nat) : List Nat := nats (toLe 16 k)

end Sys2Proof.Machine
end

