-- ==== Sys2Proof/Machine/Reset.lean ====
section
/-!
DEFINITION. Firmware image checks and choice (spec/04_security_and_debug.md, R102 to R106), and the reset
of the whole device (spec/17_bring_up_and_discovery.md, R430).
-/
namespace Sys2Proof.Machine

/-- An image read from its bytes (Table 4-11). -/
def imageOf (b : List Byte) : Image :=
  { fwVersion := rd b 0x08 4, featLevel := rd b 0x0C 2, svn := rd b 0x0E 1, keyIndex := rd b 0x0F 1
    ckptFormat := rd b 0x18 2, bytes := b }

/-- Bytes of an image as a big-endian number of the curve: it stands little-endian (Table 4-11). -/
def leNum (b : List Byte) (off : Nat) : Nat := rd b off 32

/-- Checks 0x0101 to 0x0106 of an image's bytes (R103, Table 4-13): the first that fails. -/
def imageFault (b : List Byte) (revoked : List Bool) (svnMin : Nat) : Option Nat :=
  let zero (off n : Nat) : Bool := allZero (slice b off n)
  let key := rd b 0x0F 1
  if !(decide (256 ≤ b.length) && rd b 0 4 == 0x4957464C && rd b 4 2 == 1 && rd b 6 2 == 0x100
      && 256 + rd b 0x14 4 == b.length && decide (b.length ≤ 12582912)
      && zero 0x13 1 && zero 0x1A 6 && zero 0x40 64) then some 0x0101
  else if !(rd b 0x10 2 == 0x8200 && decide (rd b 0x12 1 ≤ 0xA1)) then some 0x0102
  else if !(decide (key < 4) && !revoked.getD key true && toBytes (sha256 (nats (slice b 0xC0 64))) == Config.releaseKeyHash key) then
    some 0x0103
  else if !ecdsaVerify (beNat (sha256 (nats (b.take 0x80)))) (leNum b 0x80) (leNum b 0xA0) (leNum b 0xC0) (leNum b 0xE0) then
    some 0x0104
  else if toBytes (sha256 (nats (b.drop 256))) != slice b 0x20 32 then some 0x0105
  else if rd b 0x0E 1 < svnMin then some 0x0106
  else none

/-- The checks of an image in a slot. One that was there from the start (log 9) passes all but those on
its key and its SVN. -/
def slotFault (img : Option Image) (revoked : List Bool) (svnMin : Nat) : Option Nat :=
  match img with
  | none => some 0x0101
  | some i =>
    if !i.bytes.isEmpty then imageFault i.bytes revoked svnMin
    else if revoked.getD i.keyIndex true then some 0x0103
    else if i.svn < svnMin then some 0x0106
    else none

/-- The slot that the boot runs (R106, Table 17-2 step 4): the trial image or else the permanent one;
where it fails its checks, the other slot; none where both fail. -/
def chooseSlot (s : State) : Option Nat :=
  let good (n : Nat) : Bool := (slotFault (s.nor.slots.getD n none) s.sec.fwRevoked s.sec.svnMin).isNone
  let first := s.nor.trial.getD s.nor.bootSlot
  if good first then some first else if good (1 - first) then some (1 - first) else none

/-- What stands in the NOR as a boot begins. A trial that ran and was not confirmed has failed: the boot
runs the previous image and will say so (R106); journal writes under way are lost. -/
def Nor.atBoot (onTrial : Bool) (bootImage : Nat) (n : Nor) : Nor :=
  { n with queue := [], failedTrial := if onTrial then some bootImage else n.failedTrial }

/-- Reset the whole device (R430, Table 17-1): everything takes its reset value but fuses, SPI NOR, the
straps and the levels on input pins. `hold` keeps the device in reset; `cause` is EV_BOOT's. -/
def deviceReset (hold : List Hold) (cause : Nat) (s : State) : State :=
  let nor := s.nor.atBoot s.sec.onTrial s.sec.bootImage
  let s := if s.board.faultN then s else s.emit (.pin .faultN false)
  let s := if s.pair.pairActive then s.emit (.pin .pairActive false) else s
  let s := if s.pair.yieldOut then s.emit (.pin .pairYieldN true) else s
  let s0 := { s with nor }
  let slot := chooseSlot s0
  let image := (nor.slots.getD (slot.getD nor.bootSlot) none).getD {}
  let onTrial := nor.trial.isSome && slot == nor.trial
  let z := State.reset
  { z with
    nor := { nor with trial := none, failedTrial := if nor.trial.isSome && !onTrial then nor.trial else nor.failedTrial }
    hif := { z.hif with floor := image.featLevel, pcieUp := s.hif.pcieUp }
    sec := { z.sec with
      lifecycle := s.sec.lifecycle, fwRevoked := s.sec.fwRevoked, svnMin := s.sec.svnMin
      debug := if s.sec.lifecycle = .blank ∨ s.sec.lifecycle = .returned then .full else .off
      bootImage := slot.getD nor.bootSlot, running := image, onTrial, confirmed := !onTrial }
    fire := { z.fire with inhibit := s.fire.inhibit }
    pair := { z.pair with peerAlive := s.pair.peerAlive, yieldIn := s.pair.yieldIn && !s.pair.yieldOut }
    board := { z.board with
      gpioIn := s.board.gpioIn, holds := hold, booting := some cause
      bootHold := s.board.bootHold, gen3 := s.board.gen3, fault := s.board.bootHold || slot.isNone }
    free := s.free, out := s.out, pending := s.pending }

/-- A reset that a command has ordered follows its completion (17 R443, 04 R98). -/
def orderedReset (s : State) : State :=
  match s.sec.resetOrdered with
  | some cause => deviceReset [] cause s
  | none => s

end Sys2Proof.Machine
end

