-- ==== Sys2Proof/Machine/Complete.lean ====
section
/-!
DEFINITION. Commands in flight: fetching, starting, completing (spec/03_command_interface.md, R33,
R54, R60 to R78), the records of a pair (spec/15_redundancy_and_upgrade.md, R390, R395, R396) and the
feature floor (03 R74).
-/
namespace Sys2Proof.Machine

/-- Where a command's row came from when it is not a host's ring: the internal ring numbers of the
device's own replay of a saved configuration and of records (log 11). -/
def ringReplay : Nat := 0x100
def ringRecord : Nat := 0x200

/-- The key of a command. -/
def Cmd.id (q : Cmd) : CmdId := (q.ring, q.tag)

/-- A command in flight. -/
def State.flying (s : State) (id : CmdId) : Option InFlight :=
  s.hif.inflight.find? fun e => e.cmd.id == id

/-- Change a command in flight. -/
def State.onFlying (id : CmdId) (f : InFlight → InFlight) (s : State) : State :=
  s.onHif fun h => { h with inflight := h.inflight.map fun e => if e.cmd.id == id then f e else e }

/-- The commands in flight on a ring. -/
def State.ringFlying (s : State) (n : Nat) : Nat := (s.hif.inflight.filter fun e => e.cmd.ring == n).length

/-- A resource is held by an exclusive command in flight (R66). -/
def State.holding (s : State) (r : Resource) : Bool := s.hif.inflight.any fun e => e.holds.contains r

/-- A command holds resources until its completion entry is written (R66). -/
def hold (q : Cmd) (rs : List Resource) (abortable : Bool) (s : State) : State :=
  s.onFlying q.id fun e => { e with holds := rs, abortable }

/-- Mark a command in flight abortable, or no longer so (R67, R476). -/
def setAbortable (id : CmdId) (b : Bool) (s : State) : State := s.onFlying id fun e => { e with abortable := b }

/-! Fetching (R54, R33). -/

/-- Fetching is stopped on a ring: for a rewrite of the protection table (R88), a change of the floor
(R74), a key rotation of its role (R92), or a held slot (R94). -/
def State.stopped (s : State) (n : Nat) : Bool :=
  (s.hif.stops.any fun x => match x with
    | .protect => true
    | .floor => true
    | .role r => r == (s.ring n).role) || (s.ring n).held.isSome

/-- The device fetches a slot from a ring (R33, R49, R54). -/
def State.mayFetch (s : State) (n : Nat) : Bool :=
  let r := s.ring n
  s.hif.ready && s.thm.power != .p3 && s.thm.power != .p4 && r.enable && !r.halted && !s.stopped n
    && decide (s.ringFlying n < 64) && decide (s.hif.inflight.length < 512)
    && (r.ethernet || decide (r.cqUsed + s.ringFlying n + 1 ≤ 2 ^ r.cqLog2))

/-! Completing (R60 to R63, R77). -/

/-- Change the pending interrupt of a ring: it is sent when COUNT are pending (R63). -/
def raiseRing (n : Nat) (s : State) : State :=
  let r := s.ring n
  if max 1 r.coalCount ≤ r.irqPending + 1 then sendVector r.vec (s.onRing n fun r => { r with irqPending := 0 })
  else s.onRing n fun r => { r with irqPending := r.irqPending + 1, irqSince := if r.irqPending = 0 then s.tb1 else r.irqSince }

/-- Write a completion entry at CQ_TAIL with its phase (R62). -/
def writeCompletion (n opcode : Nat) (q : Cmd) (r : Reply) (s : State) : State :=
  let g := s.ring n
  let tail := (g.cqTail + 1) % 2 ^ g.cqLog2
  (s.emit (.completion n g.cqTail (encCompletion g.cqPhase opcode q r))).onRing n fun g =>
    { g with cqTail := tail, cqPhase := if tail = 0 then !g.cqPhase else g.cqPhase, cqUsed := g.cqUsed + 1 }

/-- A completion datagram (Table 3-18, R77). A result longer than 1,424 bytes is ST_BAD_LENGTH. -/
def completionDatagram (opcode : Nat) (q : Cmd) (r : Reply) : List Byte :=
  let r := if 1424 < r.ext.length then { status := .badLength : Reply } else r
  let ext := if r.status = .ok then r.ext else []
  toLe 4 0x50434D4C ++ toLe 1 2 ++ toLe 1 q.ring ++ toLe 2 ext.length ++ toLe 8 0
    ++ encCompletion true opcode q r ++ ext

/-- Send a datagram to where a command came from, or keep it until the port's link is up (R77, R79). -/
def sendDatagram (to_ : EthFrom) (bytes : List Byte) (s : State) : State :=
  if (s.hif.eth.getD to_.port {}).linkUp then s.emit (.datagram to_.port to_ bytes)
  else s.onHif fun h => { h with eth := upd to_.port (fun p => { p with waiting := p.waiting ++ [(to_, bytes)] }) h.eth }

/-- On an Ethernet ring the completion datagram of an accepted command is kept for a repeat (R78). -/
def keepReply (opcode : Nat) (q : Cmd) (r : Reply) (s : State) : State :=
  if q.src.isSome then
    s.onRing q.ring fun g => { g with kept := ({ counter := q.counter, tag := q.tag, bytes := completionDatagram opcode q r } :: g.kept).take 64 }
  else s

/-- Write a completion: results first (R60), then the entry and its interrupt (R62, R63), or over
Ethernet the datagram (R77). -/
def deliverTo (opcode : Nat) (q : Cmd) (r : Reply) (s : State) : State :=
  match q.src with
  | some to_ =>
    sendDatagram to_ (completionDatagram opcode q r) s
  | none =>
    let s := if r.status = .ok && !r.ext.isEmpty then s.emit (.hostWrite r.addr r.ext) else s
    let s := writeCompletion q.ring opcode q r s
    if bit q.flags 2 || r.status != .ok then raiseRing q.ring s else s

/-! The pair's state (15 R391). -/

/-- Codes of the pair states (Table 15-3). -/
def PairState.code : PairState → Nat
  | .off => 0 | .linking => 1 | .joining => 2 | .standby => 3 | .active => 4 | .activeAlone => 5 | .detached => 6

/-- The pair link's unit (15, R29). -/
def unitPair : Nat := 0x0B00

/-- Enter a pair state (R391, Table 15-12). -/
def setPair (p : PairState) (s : State) : State :=
  if s.pair.st == p then s
  else post evPairState unitPair s.pair.st.code p.code ((s.onPair fun x => { x with
    st := p, wasActive := x.wasActive || p == .active || p == .activeAlone } ).onTim fun t => { t with
    pairServo := p == .standby || (p == .joining && t.pairServo) })

/-- A standby starts its join again (15 R390, R394, R396, R409). -/
def restartJoin (s : State) : State :=
  (setPair .joining s).onPair fun p => { p with joinStep := 1, joinSince := s.tb1, tb3Loaded := false, ckpt := none, handover := none, mirror := none }

/-! Packets of the pair link (R389, R390). -/

/-- The trailer of a CTRL or PRIO pair packet: COUNTER and the CMAC under the pair key over the START
block, the payload, COUNTER and the two SESSION nonces, the lower UID's first (R390). -/
def pairTrailer (start payload : List Byte) (s : State) : List Byte :=
  let counter := toLe 8 s.pair.txCounter
  let mine := toLe 8 s.pair.session
  let theirs := toLe 8 ((s.pair.peer.map (·.session)).getD 0)
  let lower := decide (Config.uid < (s.pair.peer.map (·.uid)).getD 0)
  let nonces := if lower then mine ++ theirs else theirs ++ mine
  match s.sec.keys.getD 8 none with
  | some k => counter ++ toBytes (cmac (keyBytes k) (nats (start ++ payload ++ counter ++ nonces)))
  | none => counter ++ List.replicate 16 0

/-- Send an authenticated pair packet: CTRL with its CTYPE, or PRIO with its PTYPE as first byte (R389, R390). -/
def pairSend (k : Cls) (ptype : Nat) (content : List Byte) (s : State) : State :=
  let body := if k = .prio then toLe 1 ptype ++ content else content
  let body := padTo (4 * ceilDiv body.length 4) body
  let len4 := (body.length + 24) / 4
  let seq := (s.course 10).nextSeq k
  let start := if k = .prio then toLe 1 0x4B ++ toLe 2 seq ++ toLe 2 len4 ++ toLe 3 0
    else toLe 1 0x55 ++ toLe 2 seq ++ toLe 2 len4 ++ toLe 1 ptype ++ toLe 2 0
  let pkt := body ++ pairTrailer start body s
  sendOn 10 k (if k = .prio then 0 else ptype) pkt (s.onPair fun p => { p with txCounter := p.txCounter + 1 })

/-- Opcodes that are mirrored on a standby (Table 15-7). -/
def mirroredOp (op : Nat) (q : Cmd) : Bool :=
  match op / 256 with
  | 4 => op != 0x0408
  | 5 => [0x0501, 0x0502, 0x0503, 0x0504, 0x0506].contains op || (op == 0x0508 && q.u8 0 != 2)
  | 6 => op != 0x0609
  | 7 => op != 0x0706
  | 8 => [0x0801, 0x0802, 0x0805].contains op
  | 0x0B => [0x0B01, 0x0B09].contains op
  | 0x0C => [0x0C04, 0x0C05].contains op
  | _ => false

/-- Send a configuration record (R395, R396): RECORD_SEQ, the ring, TAG and SEQ of the command that
caused it (ring 0xFF for a state record), then its content; it waits for its RECORD_ACK. The layout of
the content is the model's (log 12). -/
def sendRecord (cmd : Option CmdId) (ring tag cmdSeq : Nat) (content : List Byte) (s : State) : State :=
  let n := s.pair.recordSeq
  let s := bump (ctr 13 0 1) 1 (pairSend .prio 0x02 (toLe 4 n ++ toLe 1 ring ++ toLe 2 tag ++ toLe 4 cmdSeq ++ content) s)
  s.onPair fun p => { p with
    recordSeq := (n + 1) % 2 ^ 32
    waits := p.waits ++ [{ seq := n, cmd, since := s.tb1 }] }

/-- The active has a standby in JOINING or STANDBY that takes records (R395). -/
def State.mirrors (s : State) : Bool :=
  s.pair.st == .active && (s.pair.peerState == .joining || s.pair.peerState == .standby)

/-- A resulting state that is mirrored (Table 15-7), as a state record. -/
def stateRecord (content : List Byte) (s : State) : State :=
  if s.mirrors then sendRecord none 0xFF 0 0 content s else s

/-! Mirroring of jobs (15 R399). -/

/-- Bytes in pieces of at most n. -/
def pieces (n : Nat) (b : List Byte) : List (List Byte) := (List.range (ceilDiv b.length (max 1 n))).map fun i => (b.drop (n * i)).take n

/-- Send a job's stored container as MIRROR packets, and the CRC-32C they are checked against in an authenticated packet
(R390, log 12); the pace of MIRROR_RATE is not modelled. -/
def mirrorJob (id : Nat) (s : State) : State :=
  match s.store.jobs.find? (·.id == id) with
  | none => s.onPair fun p => { p with mirrorQueue := p.mirrorQueue.filter (· != id) }
  | some j =>
    if !s.mirrors then s.onPair fun p => { p with mirrorQueue := p.mirrorQueue.filter (· != id) ++ [id] }
    else
      let s := (pieces 16384 j.bytes).foldl (fun s b => sendOn 10 .data 0 (toLe 1 0x11 ++ toLe 4 id ++ b) s) s
      let s := sendRecord none 0xFF 0 0 (toLe 1 6 ++ toLe 4 id ++ toLe 8 j.bytes.length ++ toLe 4 (crc32c j.bytes)) s
      let s := s.onPair fun p => { p with mirrorQueue := p.mirrorQueue.filter (· != id) }
      s.onStore fun t => { t with jobs := t.jobs.map fun x => if x.id = id then { x with mirrored := true } else x }

/-- With AUTO a load, an encode or a delete that has finished acts on the standby too (R399). -/
def mirrorAfter (op : Nat) (q : Cmd) (s : State) : State :=
  if !s.pair.auto || (s.pair.st != .active && s.pair.st != .activeAlone) then s
  else if op = 0x0301 || op = 0x0302 then mirrorJob (rd q.params 0 4) s
  else if op = 0x0304 then
    let s := s.onPair fun p => { p with mirrorQueue := p.mirrorQueue.filter (· != rd q.params 0 4) }
    if s.mirrors then sendRecord none q.ring q.tag q.seq (toLe 2 op ++ toLe 2 q.params.length ++ q.params ++ toLe 4 0 ++ List.replicate 16 0) s else s
  else s

/-! The feature floor (R73, R74). -/

/-- The floor that the pair or its absence gives: the lower of the two levels. -/
def State.floorDue (s : State) : Nat :=
  match s.pair.peer with
  | some p => min s.sec.running.featLevel p.feat
  | none => s.sec.running.featLevel

/-- Once no command is in flight, an ordered change of the floor is made, and fetching resumes (R74). -/
def settleFloor (s : State) : State :=
  if s.hif.stops.contains .floor && s.hif.inflight.isEmpty then
    let old := s.hif.floor
    let s := s.onHif fun h => { h with floor := s.floorDue, stops := h.stops.filter (· != .floor) }
    if old = s.hif.floor then s else post evFeatureFloor unitCtl old s.hif.floor s
  else s

/-- Order a change of the floor to what the pair now gives. -/
def orderFloor (s : State) : State :=
  if s.floorDue = s.hif.floor then s
  else settleFloor (s.onHif fun h => { h with stops := .floor :: h.stops })

/-! Finishing a command. -/

/-- The instance that a command of Table 17-4 configures: later forms replace earlier ones of the same
instance (17 R434). None: the command is not saved. -/
def savedKey (op : Nat) (ps : List Byte) : Option Nat :=
  match op with
  | 0x0801 => some (rd ps 0 1)
  | 0x0802 => if bit (rd ps 1 1) 1 then none else some (rd ps 0 1)
  | 0x0805 => some 0
  | 0x0901 => some 0
  | 0x0904 => some (rd ps 0 1)
  | 0x0905 => some (rd ps 0 1)
  | 0x0B08 => some (rd ps 0 1)
  | 0x0B01 => some (rd ps 0 1)
  | 0x0B09 => some (rd ps 0 1)
  | 0x0601 => some (rd ps 0 1)
  | 0x0602 => some (rd ps 0 1)
  | 0x0603 => some (rd ps 0 1)
  | 0x0606 => some (rd ps 0 1)
  | 0x0704 => some 0
  | 0x0705 => some (rd ps 0 2)
  | 0x0A01 => some (rd ps 0 1)
  | 0x0A02 => some (rd ps 0 2)
  | 0x0D01 => some 0
  | 0x0E01 => some 0
  | 0x010B => some 0
  | 0x0F04 => some (rd ps 0 1)
  | _ => none

/-- The form in which a command is saved: of POS_SCALE the scale only (Table 17-4). -/
def savedParams (op : Nat) (ps : List Byte) : List Byte :=
  if op = 0x0802 then padTo 24 (ps.take 1 ++ toLe 7 0 ++ slice ps 8 8) else ps

/-- Keep the last accepted form of a command of Table 17-4 (17 R434). -/
def remember (e : InFlight) (s : State) : State :=
  match savedKey e.opcode e.cmd.params with
  | none => s
  | some k =>
    s.onBoard fun b => { b with inForce :=
      (b.inForce.filter fun x => !(x.1 == e.opcode && savedKey x.1 x.2.1 == some k)) ++ [(e.opcode, savedParams e.opcode e.cmd.params, e.cmd.pblk)] }

/-- Write a command's completion and end its flight, and with it a change of the floor that waits for the last (R74). A record applied on a standby answers RECORD_ACK
(R396); the device's own replay answers to itself. -/
def deliver (id : CmdId) (r : Reply) (s : State) : State :=
  match s.flying id with
  | none => s
  | some e =>
    let s := s.onHif fun h => { h with inflight := h.inflight.filter fun x => !(x.cmd.id == id) }
    let s := if e.parked then s.onRing id.1 fun g => { g with held := none } else s
    let s := if r.status = .ok then remember e s else s
    settleFloor
      (if id.1 = ringRecord then
        let s := pairSend .ctrl 0x4A (toLe 4 e.note ++ toLe 1 r.status.code) (s.onPair fun p => { p with lastRecord := e.note })
        if r.status == e.expect then s else restartJoin (post evPairDiverged unitPair e.note r.status.code s)
      else if id.1 = ringReplay then s.onBoard fun b => { b with replayed := b.replayed ++ [r.status] }
      else if e.cmd.src.isNone && (s.ring id.1).mute.contains id.2 then
        s.onRing id.1 fun g => { g with mute := g.mute.filter (· != id.2) }
      else deliverTo e.opcode e.cmd r (keepReply e.opcode e.cmd r s))

/-- A command finishes: a mirrored one on an active with a standby is recorded first, and completes
after the RECORD_ACK (R395, R396). -/
def finish (id : CmdId) (r : Reply) (s : State) : State :=
  match s.flying id with
  | none => s
  | some e =>
    if s.mirrors && decide (id.1 < 8) && r.status == .ok && mirroredOp e.opcode e.cmd then
      let n := s.pair.recordSeq
      let s := sendRecord (some id) id.1 id.2 e.cmd.seq
        (toLe 2 e.opcode ++ toLe 2 e.cmd.params.length ++ e.cmd.params ++ toLe 4 e.cmd.pblk.length ++ e.cmd.pblk ++ padTo 16 r.result) s
      s.onFlying id fun e => { e with reply := some r, recordWait := some n, abortable := false }
    else
      let s := deliver id r s
      if r.status == .ok && decide (id.1 < 8) then mirrorAfter e.opcode e.cmd s else s

/-- Finish several commands alike. -/
def finishAll (ids : List CmdId) (r : Reply) (s : State) : State := ids.foldl (fun s id => finish id r s) s

/-! Starting a command. -/

/-- What a command's effect answers: it completes with a reply, or it stays in flight. -/
inductive Ans where
  | done (r : Reply) (s : State)
  | wait (s : State)

/-- Opcodes that need no unit, so that an exclusive command that holds the device does not stop them (R66). -/
def unitFree (op : Nat) : Bool :=
  [0x0101, 0x0102, 0x0103, 0x0104, 0x0105, 0x0201, 0x0202, 0x0209].contains op || op / 256 == 0x0F

/-- Opcodes that a standby refuses from its own rings: the mirrored ones (R395). -/
def State.standbyRefuses (s : State) (op : Nat) (q : Cmd) : Bool :=
  (s.pair.st == .joining || s.pair.st == .standby) && decide (q.ring < 8) && mirroredOp op q

/-- Checks 7 to 9 of Table 3-16. -/
def gateCheck (op : Nat) (q : Cmd) (s : State) : Option Reply :=
  if 8 ≤ q.ring then none
  else firstFail
    [ (!opcodeDefined op, Reply.err .badOpcode),
      ((s.ring q.ring).ethernet && dmaOps.contains op, Reply.err .badOpcode 0x0006),
      (decide (s.hif.floor < 1), { status := .version, detail := 0x0005, aux := s.hif.floor }),
      (!s.sec.prot.permits (s.ring q.ring).role op, Reply.err .denied) ]

/-- A BAR command other than BAR_STATUS needs its bar, which a gate test may hold (R66, 13 R358). -/
def State.barHeld (s : State) (op : Nat) (q : Cmd) : Bool := op / 256 == 6 && op != 0x0609 && s.holding (.bar (q.u8 0))

/-- Reserved flag bits of the slot are at fault, which names no field (R7, Table 3-10). -/
def flagFault (q : Cmd) : Option Reply := if extraBits q.flags 7 then some (Reply.err .badParam) else none

/-- Carry a command out that is in flight: its checks 10 and 11, then its effect. -/
def carryOut (op : Nat) (check : Cmd → State → Option Reply) (effect : Cmd → State → Ans) (q : Cmd) (s : State) : State :=
  let s := s.onFlying q.id fun e => { e with started := true }
  match (flagFault q).or (check q s) with
  | some r => finish q.id r s
  | none =>
    if (s.holding .device && !unitFree op) || s.barHeld op q then finish q.id (Reply.err .busy) s
    else if s.standbyRefuses op q then finish q.id (Reply.err .state 0x01F1) s
    else match effect q s with
      | .done r s => orderedReset (finish q.id r s)
      | .wait s => s

/-- ORDER_BARRIER (R65): a command may start when, on its ring, nothing fetched before it is in flight
if it carries the barrier, and no barrier fetched before it is in flight otherwise. -/
def mayStart (q : Cmd) (earlier : List InFlight) : Bool :=
  !(earlier.any fun e => e.cmd.ring == q.ring && (bit q.flags 1 || bit e.cmd.flags 1))

/-- A fetched command whose checks 1 to 6 have passed: checks 7 to 9, then its start, at once or when
the barriers allow (R65, R70). -/
def launch (op : Nat) (check : Cmd → State → Option Reply) (effect : Cmd → State → Ans) (q : Cmd) (s : State) : State :=
  let earlier := s.hif.inflight
  let s := s.onHif fun h => { h with inflight := h.inflight ++ [{ cmd := q, opcode := op }] }
  match gateCheck op q s with
  | some r => deliver q.id r s
  | none => if mayStart q earlier then carryOut op check effect q s else s

/-- A command in flight that was held goes on (04 R94): checks 7 to 9, a fault of its slot's reserved bytes, then its start. -/
def proceed (op : Nat) (check : Cmd → State → Option Reply) (effect : Cmd → State → Ans) (pre : Option Reply) (q : Cmd) (s : State) : State :=
  let s := s.onFlying q.id fun e => { e with parked := false }
  match (gateCheck op q s).or pre with
  | some r => deliver q.id r s
  | none =>
    if mayStart q (s.hif.inflight.takeWhile fun e => !(e.cmd.id == q.id)) then carryOut op check effect q s else s

/-- A slot whose TAG is in flight completes at once (R64); the command in flight is not affected. -/
def tagInFlight (op : Nat) (q : Cmd) (s : State) : State :=
  deliverTo op q (Reply.err .badParam 0x0002) s

/-- The row of a host command: time passes, and the device fetches the slot where it may (R54), checks
its TAG, and launches it. A row that finds the ring not fetching leaves the slot unfetched (log 5). -/
def runCmd (op : Nat) (check : Cmd → State → Option Reply) (effect : Cmd → State → Ans) (q : Cmd) (s : State) :
    Host.Outcome State Fault Refusal :=
  let s := advance q.dt s
  if 8 ≤ q.ring then .fault .noSuchUnit
  else if !s.mayFetch q.ring then .next s
  else if (s.flying q.id).isSome then .next (tagInFlight op q s)
  else .next (launch op check effect q s)

end Sys2Proof.Machine
end

