-- ==== Sys2Proof/Machine/Dma.lean ====
section
/-!
DEFINITION. Descriptor lists of commands that move bulk data (spec/03_command_interface.md, R59).
-/
namespace Sys2Proof.Machine

/-- The fault of a descriptor, with the offset of the field in it (R59, Table 3-11). -/
def Desc.fault (d : Desc) : Option Nat :=
  if d.addr % 4 ≠ 0 then some 0
  else if d.len = 0 ∨ d.len % 4 ≠ 0 ∨ 16777216 < d.len then some 8
  else if 2 ≤ d.ctrl then some 12
  else none

/-- The first entry at fault: its index and the offset of the field. -/
def descFault : Nat → List Desc → Option Nat
  | _, [] => none
  | i, d :: ds => match d.fault with
    | some f => some (16 * i + f)
    | none => descFault (i + 1) ds

/-- The counted entries of a command's list, as read from host memory; absent ones read as zeros. -/
def Cmd.counted (q : Cmd) (count : Nat) : List Desc :=
  (List.range count).map fun i => q.descs.getD i {}

/-- Entries up to the first with LAST. -/
def upToLast : List Desc → List Desc
  | [] => []
  | d :: ds => if bit d.ctrl 0 then [d] else d :: upToLast ds

/-- Bytes of a list up to its first LAST. -/
def Cmd.listBytes (q : Cmd) (count : Nat) : Nat := ((upToLast (q.counted count)).map (·.len)).sum

/-- Checks of a descriptor list (R59). DESIGN CHOICE (log 113): a list without LAST is told before a fault of one of its entries.
The list's parts: the list's address and count stand at inline offsets; `len` is
the offset and value of the stated length of a command that moves data into the device. -/
def dmaCheck (q : Cmd) (addrOff countOff : Nat) (len : Option (Nat × Nat)) : List (Bool × Reply) :=
  let count := q.u32 countOff
  let entries := q.counted (min count 65536)
  let used := upToLast entries
  let wrong := descFault 0 used
  [ (q.u64 addrOff % 16 != 0, Reply.bad addrOff),
    (count == 0 || decide (65536 < count), Reply.bad countOff),
    (!(entries.any fun d => bit d.ctrl 0), { status := .badParam, loc := 3, offset := 16 * (count - 1) + 12 }),
    (wrong.isSome, { status := .badParam, loc := 3, offset := wrong.getD 0 }),
    (match len with
      | some (_, n) => decide ((used.map (·.len)).sum ≠ n)
      | none => false, Reply.bad ((len.map (·.1)).getD 0)) ]

/-- Bulk data to the host, as much of it as the list holds (R59): the command is in flight, and abortable, until its transfer ends
(log 34). -/
def startRead (q : Cmd) (countOff : Nat) (r : Reply) (bytes : List Byte) (s : State) : Ans :=
  if bytes.isEmpty then .done r s
  else .wait (s.onFlying q.id fun e => { e with
    abortable := true, reply := some r, out := some (upToLast (q.counted (q.u32 countOff)), bytes.take (q.listBytes (q.u32 countOff))) })

/-- The transfer of a command that `startRead` began ends. -/
def endRead (id : CmdId) (out : List Desc × List Byte) (s : State) : State :=
  finish id (((s.flying id).bind (·.reply)).getD .good) (s.emit (.hostDma out.1 out.2))

/-- The bytes a command moves into the device, by its stated length. -/
def Cmd.bulk (q : Cmd) (n : Nat) : List Byte := padTo n q.data

end Sys2Proof.Machine
end

