-- ==== Sys2Proof/Machine/B64.lean ====
section
/-!
DEFINITION. IEEE 754 binary64 arithmetic, rounded to nearest, ties to even, on numbers m * 2^e (R194, R346,
R352, R356). Overflow and subnormal numbers do not arise in the device's formulas and are not rounded apart.
-/
namespace Sys2Proof

/-- Number of bits of a number, at most `fuel`. -/
def bitLen : Nat → Nat → Nat
  | 0, _ => 0
  | f + 1, n => if n = 0 then 0 else 1 + bitLen f (n / 2)

/-- m / 2^k rounded to nearest, ties to even. -/
def rneShift (m k : Nat) : Nat :=
  let q := m / 2 ^ k
  let r := m % 2 ^ k
  if 2 * r < 2 ^ k then q else if 2 ^ k < 2 * r then q + 1 else q + q % 2

/-- Bits of a number, no bound: numbers here stay below 2^4096. -/
def bits (n : Nat) : Nat := bitLen 4096 n

/-- Round m * 2^e to 53 bits; `sticky` says that something lies just above m in its last place. -/
def B64.round (m : Int) (e : Int) : B64 :=
  let n := m.natAbs
  let k := bits n - 53
  let r := rneShift n k
  { m := if m < 0 then -(r : Int) else r, e := e + k }

/-- An integer. -/
def B64.ofInt (v : Int) : B64 := B64.round v 0

/-- v / 2^k, exact before rounding. -/
def B64.ofFix (v : Int) (k : Nat) : B64 := B64.round v (-(k : Int))

/-- The numerator of a number at an exponent not above its own. -/
def B64.at (x : B64) (e : Int) : Int := x.m * 2 ^ (x.e - e).toNat

/-- Sum. -/
def B64.add (x y : B64) : B64 :=
  if x.m = 0 then y else if y.m = 0 then x
  else
    let e := min x.e y.e
    B64.round (x.at e + y.at e) e

/-- Negative. -/
def B64.neg (x : B64) : B64 := { x with m := -x.m }

/-- Difference. -/
def B64.sub (x y : B64) : B64 := x.add y.neg

/-- Product. -/
def B64.mul (x y : B64) : B64 := B64.round (x.m * y.m) (x.e + y.e)

/-- Quotient of non-zero y: 60 bits and a sticky bit, rounded. -/
def B64.div (x y : B64) : B64 :=
  let a := x.m.natAbs
  let b := y.m.natAbs
  let k := bits b + 60
  let q := a * 2 ^ k / b
  let q2 := 2 * q + (if a * 2 ^ k % b = 0 then 0 else 1)
  B64.round (if (x.m < 0) = (y.m < 0) then (q2 : Int) else -(q2 : Int)) (x.e - y.e - k - 1)

/-- x < y. -/
def B64.lt (x y : B64) : Bool :=
  let e := min x.e y.e
  decide (x.at e < y.at e)

/-- x <= y. -/
def B64.le (x y : B64) : Bool := !(y.lt x)

/-- Larger of two. -/
def B64.max (x y : B64) : B64 := if x.lt y then y else x

/-- Smaller of two. -/
def B64.min (x y : B64) : B64 := if y.lt x then y else x

/-- floor. -/
def B64.floor (x : B64) : Int := if 0 ≤ x.e then x.m * 2 ^ x.e.toNat else x.m.fdiv (2 ^ (-x.e).toNat)

/-- Absolute value. -/
def B64.abs (x : B64) : B64 := { x with m := x.m.natAbs }

/-- Sum of a list, from its head on. -/
def B64.sum : List B64 → B64
  | [] => {}
  | x :: xs => xs.foldl B64.add x

/-! Logarithm, exponential and roots, each from 300 binary places, rounded to nearest (R346, R352). -/

/-- Binary places of the fixed-point work below. -/
def workBits : Nat := 300

/-- Digits of log2 of y in [1, 2), y in units of 2^-workBits, by repeated squaring: n more digits after acc. -/
def logDigits : Nat → Nat → Nat → Nat
  | 0, _, acc => acc
  | n + 1, y, acc =>
    let z := y * y / 2 ^ workBits
    if 2 ^ (workBits + 1) ≤ z then logDigits n (z / 2) (2 * acc + 1) else logDigits n z (2 * acc)

/-- log2 of a positive number. -/
def B64.log2 (x : B64) : B64 :=
  let n := x.m.natAbs
  let k := bits n
  let y := n * 2 ^ (workBits + 1 - k)
  let whole := x.e + (k : Int) - 1
  B64.round (whole * 2 ^ 140 + ((logDigits 140 y 0 : Nat) : Int)) (-140)

/-- Newton's steps for the square root of a. -/
def sqrtSteps (a : Nat) : Nat → Nat → Nat
  | 0, g => g
  | n + 1, g => sqrtSteps a n ((g + a / max 1 g) / 2)

/-- The integer square root, from a power of 2 above it. -/
def isqrt (a : Nat) : Nat :=
  let g := sqrtSteps a 16 (2 ^ ((bits a + 1) / 2))
  if a < g * g then g - 1 else g

/-- Square root of a number not negative. -/
def B64.sqrt (x : B64) : B64 :=
  if x.m = 0 then {}
  else
    let odd := x.e % 2
    let a := x.m.natAbs * 2 ^ (2 * 64 + odd.toNat)
    let r := isqrt a
    B64.round (2 * (r : Int) + (if r * r = a then 0 else 1)) ((x.e - odd) / 2 - 65)

/-- Product of 2^(2^-k) over the digits set in a fraction of `n` places, the root of place k given. -/
def expDigits (frac : Nat) : Nat → Nat → Nat → Nat
  | 0, _, acc => acc
  | n + 1, root, acc =>
    let r := isqrt (root * 2 ^ workBits)
    expDigits frac n r (if frac.testBit n then acc * r / 2 ^ workBits else acc)

/-- 2 to the power x; digits of x beyond 128 places are dropped. -/
def B64.exp2 (x : B64) : B64 :=
  let i := x.floor
  let f := x.sub { m := i, e := 0 }
  let frac := ({ f with e := f.e + 128 } : B64).floor.toNat
  B64.round ((expDigits frac 128 (2 * 2 ^ workBits) (2 ^ workBits) : Nat) : Int) (i - workBits)

/-- Newton's steps for the cube root of a. -/
def cbrtSteps (a : Nat) : Nat → Nat → Nat
  | 0, g => g
  | n + 1, g => cbrtSteps a n ((2 * g + a / max 1 (g * g)) / 3)

/-- Cube root of a number not negative. -/
def B64.cbrt (x : B64) : B64 :=
  if x.m = 0 then {}
  else
    let odd := x.e % 3
    let a := x.m.natAbs * 2 ^ (3 * 64 + odd.toNat)
    let r := cbrtSteps a 80 (2 ^ ((bits a + 2) / 3))
    B64.round (2 * (r : Int) + 1) ((x.e - odd) / 3 - 65)

/-- Rounded to an integer, half up. -/
def B64.nearest (x : B64) : Int := (x.add { m := 1, e := -1 }).floor

/-- Rounded to an integer, half away from zero. -/
def B64.nearestAway (x : B64) : Int := if x.m < 0 then -(x.neg.nearest) else x.nearest

end Sys2Proof
end

