-- ==== Sys2Proof/Machine/Codec.lean ====
section
/-!
DEFINITION. The Lomela block format: decoding and encoding of blocks, and the checks of a job container
(spec/07_image_store_and_codec.md, R165 to R173).
-/
namespace Sys2Proof.Machine

/-! The block coder (R170). -/

/-- Bits of a stream, bit n being bit n mod 8 of byte n div 8. -/
def streamBits (bs : List Byte) : List Bool := bs.flatMap fun b => (List.range 8).map fun i => b.toNat.testBit i

/-- Bits gathered into bytes, the last padded with zeros. -/
def bytesOfBits (bs : List Bool) : List Byte :=
  (chunks 8 bs).map fun c => BitVec.ofNat 8 ((indexed c).map fun b => if b.2 then 2 ^ b.1 else 0).sum

/-- The k low bits of v, lowest first. -/
def putBits (v k : Nat) : List Bool := (List.range k).map fun i => v.testBit i

/-- Read k bits, lowest first: none when the stream is too short. -/
def getBits (k : Nat) (bs : List Bool) : Option (Nat × List Bool) :=
  if bs.length < k then none
  else some (((indexed (bs.take k)).map fun b => if b.2 then 2 ^ b.1 else 0).sum, bs.drop k)

/-- Count one-bits up to a limit: the count and what follows it. -/
def countOnes : Nat → List Bool → Nat × List Bool
  | 0, bs => (0, bs)
  | n + 1, true :: bs =>
    let (c, r) := countOnes n bs
    (c + 1, r)
  | _ + 1, bs => (0, bs)

/-- One of the three activity contexts of a plane. -/
structure RiceCtx where
  a : Nat := 1
  n : Nat := 1
deriving DecidableEq, Repr, Inhabited

/-- k of a context: the smallest with N * 2^k >= A, at most D. -/
def riceK (c : RiceCtx) : Nat → Nat → Nat
  | 0, k => k
  | f + 1, k => if c.n * 2 ^ k < c.a then riceK c f (k + 1) else k

/-- A context after a mapped value. -/
def RiceCtx.next (m : Nat) (c : RiceCtx) : RiceCtx :=
  if c.n + 1 = 64 then { a := (c.a + m) / 2, n := 32 } else { a := c.a + m, n := c.n + 1 }

/-- Prediction and context of a sample from the plane's samples so far, in raster order (R170). -/
def predict (depth pred w : Nat) (s : Array Nat) (i : Nat) : Nat × Nat :=
  let half := 2 ^ (depth - 1)
  let x := i % w
  let y := i / w
  let at_ (x y : Nat) : Nat := s.getD (x + y * w) 0
  let (a, b, c) :=
    if x = 0 ∧ y = 0 then (half, half, half)
    else if y = 0 then (at_ (x - 1) 0, at_ (x - 1) 0, at_ (x - 1) 0)
    else if x = 0 then (at_ 0 (y - 1), at_ 0 (y - 1), at_ 0 (y - 1))
    else (at_ (x - 1) y, at_ x (y - 1), at_ (x - 1) (y - 1))
  let p := match pred with
    | 0 => if max a b ≤ c then min a b else if c ≤ min a b then max a b else a + b - c
    | 1 => a
    | _ => 0
  let g := (max a c - min a c) + (max b c - min b c)
  (p, if g < 2 ^ (depth - 5) then 0 else if g < 2 ^ (depth - 2) then 1 else 2)

/-- The mapped value of a sample against its prediction. -/
def mapped (depth s p : Nat) : Nat :=
  let half := 2 ^ (depth - 1)
  let r : Int := ((((s : Int) - p + half).emod (2 ^ depth)) : Int) - half
  if 0 ≤ r then (2 * r).toNat else (-2 * r - 1).toNat

/-- The sample of a mapped value and its prediction. -/
def unmapped (depth m p : Nat) : Nat :=
  let r : Int := if m % 2 = 0 then ((m / 2 : Nat) : Int) else -(((m + 1) / 2 : Nat) : Int)
  (((p : Int) + r).emod (2 ^ depth)).toNat

/-- Decode the samples of a plane that remain: samples so far, contexts, bits. -/
def decodePlane (depth pred w : Nat) : Nat → Array Nat → List RiceCtx → List Bool → Option (Array Nat × List Bool)
  | 0, s, _, bs => some (s, bs)
  | n + 1, s, cs, bs =>
    let (p, x) := predict depth pred w s s.size
    let c := cs.getD x {}
    let k := riceK c depth 0
    let (q, rest) := countOnes (2 * depth) bs
    let val := if q = 2 * depth then getBits depth rest
      else match rest with
        | false :: rest => (getBits k rest).map fun v => (q * 2 ^ k + v.1, v.2)
        | _ => none
    match val with
    | none => none
    | some (m, bs) => decodePlane depth pred w n (s.push (unmapped depth m p)) (cs.set x (c.next m)) bs

/-- Decode the planes of a block. -/
def decodePlanes (depth pred w count k0 : Nat) : Nat → List Bool → Option (List (Array Nat) × List Bool)
  | 0, bs => some ([], bs)
  | n + 1, bs =>
    match decodePlane depth pred w count #[] (List.replicate 3 { a := 2 ^ k0 }) bs with
    | none => none
    | some (s, bs) => (decodePlanes depth pred w count k0 n bs).map fun r => (s :: r.1, r.2)

/-- The bits of a mapped value at k. -/
def riceBits (depth k m : Nat) : List Bool :=
  if m / 2 ^ k < 2 * depth then List.replicate (m / 2 ^ k) true ++ [false] ++ putBits m k
  else List.replicate (2 * depth) true ++ putBits m depth

/-- Mapped values and contexts of a plane, in raster order. -/
def planeValues (depth pred w : Nat) (s : Array Nat) : List (Nat × Nat) :=
  (List.range s.size).map fun i =>
    let (p, x) := predict depth pred w s i
    (mapped depth (s.getD i 0) p, x)

/-- The bits of a plane from its mapped values and contexts. -/
def encodeValues (depth : Nat) : List (Nat × Nat) → List RiceCtx → List Bool
  | [], _ => []
  | (m, x) :: r, cs =>
    let c := cs.getD x {}
    riceBits depth (riceK c depth 0) m ++ encodeValues depth r (cs.set x (c.next m))

/-! Images (R167 to R169). -/

/-- An image header (Table 7-6) as read. -/
structure ImageHeader where
  format : Nat := 0
  depth : Nat := 8
  inkMask : Nat := 0
  channels : Nat := 0
  width : Nat := 0
  height : Nat := 0
  blocksX : Nat := 0
  blocksY : Nat := 0
  rawBytes : Nat := 0
  dataLen : Nat := 0
  indexCrc : Nat := 0
deriving DecidableEq, Repr, Inhabited

/-- Read a header. -/
def ImageHeader.of (b : List Byte) : ImageHeader :=
  { format := rd b 6 1, depth := rd b 7 1, inkMask := rd b 8 2, channels := rd b 10 1, width := rd b 12 4
    height := rd b 16 4, blocksX := rd b 20 4, blocksY := rd b 24 4, rawBytes := rd b 32 8, dataLen := rd b 40 8
    indexCrc := rd b 56 4 }

/-- Set bits of a byte. -/
def popCount (n v : Nat) : Nat := ((List.range n).filter fun i => v.testBit i).length

/-- CHANNELS that a format requires (Table 7-7). -/
def formatChannels (format inkMask : Nat) : Nat :=
  match format with
  | 1 => 1 | 2 => 2 | 3 => 3 | 4 => 4 | 5 => popCount 8 inkMask | 6 => popCount 8 inkMask + 1 | 7 => 1 | _ => 0

/-- DEPTH and INK_MASK fit the format (Table 7-7, R167). -/
def formatOk (format depth inkMask : Nat) : Bool :=
  decide (1 ≤ format) && decide (format ≤ 7)
    && (depth == 8 || (depth == 16 && decide (3 ≤ format)))
    && decide (inkMask < 256)
    && (if format = 5 ∨ format = 6 then inkMask != 0 else inkMask == 0)

/-- Number of blocks. -/
def ImageHeader.blocks (h : ImageHeader) : Nat := h.blocksX * h.blocksY

/-- Width and height of a block (R167). -/
def ImageHeader.blockSize (h : ImageHeader) (n : Nat) : Nat × Nat :=
  (min 256 (h.width - 256 * (n % max 1 h.blocksX)), min 4 (h.height - 4 * (n / max 1 h.blocksX)))

/-- Bytes of a pixel. -/
def ImageHeader.pixelBytes (h : ImageHeader) : Nat := h.channels * h.depth / 8

/-- Raw bytes of a block (R169). -/
def ImageHeader.blockRaw (h : ImageHeader) (n : Nat) : Nat := (h.blockSize n).1 * (h.blockSize n).2 * h.pixelBytes

/-- The samples of raw bytes, split into channel planes. -/
def planesOf (depth channels : Nat) (raw : List Byte) : List (Array Nat) :=
  let s := numbers (depth / 8) raw
  (List.range channels).map fun c =>
    ((indexed s).filterMap fun x => if x.1 % max 1 channels = c then some x.2 else none).toArray

/-- The raw bytes of channel planes, pixel by pixel. -/
def rawOfPlanes (depth : Nat) (planes : List (Array Nat)) (count : Nat) : List Byte :=
  (List.range count).flatMap fun i => planes.flatMap fun p => toLe (depth / 8) (p.getD i 0)

/-- The raw bytes that a block's payload gives, none when it is malformed (R169, R170). -/
def decodePayload (h : ImageHeader) (n mode param : Nat) (payload : List Byte) : Option (List Byte) :=
  let (w, v) := h.blockSize n
  let raw := h.blockRaw n
  match mode with
  | 0 => if payload.length = raw ∧ param = 0 then some payload else none
  | 2 => if payload.length = h.pixelBytes ∧ param = 0 then some ((List.range (w * v)).flatMap fun _ => payload) else none
  | 1 =>
    if h.depth < param % 32 ∨ param / 32 % 4 = 3 ∨ 128 ≤ param ∨ raw ≤ payload.length then none
    else match decodePlanes h.depth (param / 32 % 4) w (w * v) (param % 32) h.channels (streamBits payload) with
      | some (planes, rest) =>
        if rest.length < 8 ∧ !rest.contains true then some (rawOfPlanes h.depth planes (w * v)) else none
      | none => none
  | _ => none

/-- Decode a block as stored (header and payload): its raw bytes, none when it is malformed or fails CHECK. -/
def decodeBlock (h : ImageHeader) (n : Nat) (block : List Byte) : Option (List Byte) :=
  match decodePayload h n (rd block 0 1) (rd block 1 1) (slice block 8 (rd block 2 2)) with
  | some raw => if crc32c raw = rd block 4 4 then some raw else none
  | none => none

/-- A block's stored length (R168). -/
def storedLen (payload : Nat) : Nat := 4 * ceilDiv (8 + payload) 4

/-- A stored block. -/
def blockBytes (mode param : Nat) (payload raw : List Byte) : List Byte :=
  padTo (storedLen payload.length) (toLe 1 mode ++ toLe 1 param ++ toLe 2 payload.length ++ toLe 4 (crc32c raw) ++ payload)

/-- Smallest K0 up to the depth for which count * 2^k >= sum (R171). -/
def chooseK0 (count sum : Nat) : Nat → Nat → Nat
  | 0, k => k
  | f + 1, k => if count * 2 ^ k < sum then chooseK0 count sum f (k + 1) else k

/-- Encode a block as the device does (R171). -/
def encodeBlock (h : ImageHeader) (n : Nat) (raw : List Byte) : List Byte :=
  let (w, _) := h.blockSize n
  let px := raw.take h.pixelBytes
  if (chunks h.pixelBytes raw).all (· == px) then blockBytes 2 0 px raw
  else
    let pred := if h.format ≤ 2 then 1 else 0
    let planes := (planesOf h.depth h.channels raw).map (planeValues h.depth pred w)
    let count := (planes.map (·.length)).sum
    let sum := (planes.map fun p => (p.map (·.1)).sum).sum
    let k0 := chooseK0 count sum h.depth 0
    let payload := bytesOfBits (planes.flatMap fun p => encodeValues h.depth p (List.replicate 3 { a := 2 ^ k0 }))
    if payload.length < raw.length then blockBytes 1 (k0 + 32 * pred) payload raw else blockBytes 0 0 raw raw

/-- Worst window ratio from raw and stored lengths of the blocks, Q24.8 rounded down (R173). -/
def worstWindow (raws stored : List Nat) : Nat :=
  let n := raws.length
  let runs := if n < 64 then [0] else List.range (n - 63)
  ((runs.map fun i => 256 * ((raws.drop i).take 64).sum / max 1 ((stored.drop i).take 64).sum).min?).getD 0

/-! Containers (R165, R166, Table 7-12). -/

/-- A directory entry (Table 7-4) as read. -/
structure DirEntry where
  id : Nat := 0
  type : Nat := 0
  offset : Nat := 0
  length : Nat := 0
  crc : Nat := 0
deriving DecidableEq, Repr, Inhabited

/-- Objects of a container. -/
def objCount (b : List Byte) : Nat := rd b 6 2

/-- The directory of a container. -/
def directory (b : List Byte) : List DirEntry :=
  (List.range (objCount b)).map fun i =>
    let o := 0x40 + 32 * i
    { id := rd b o 4, type := rd b (o + 4) 1, offset := rd b (o + 8) 8, length := rd b (o + 16) 8, crc := rd b (o + 24) 4 }

/-- Object types (Table 7-5). -/
def objTypes : List Nat := [1, 2, 3, 4, 5, 6, 7, 0x7F]

/-- The first failing place of a list of checks at places. -/
def firstAt : List (Bool × Nat) → Option Nat
  | [] => none
  | (true, o) :: _ => some o
  | (false, _) :: r => firstAt r

/-- Reserved bytes that are not zero: their first offset. -/
def nonZeroIn (b : List Byte) (off n : Nat) : List (Bool × Nat) := (List.range n).map fun i => (b.getD (off + i) 0 != 0, off + i)

/-- The container header at fault (0x0120): the offset. -/
def headerFault (b : List Byte) : Option Nat :=
  let n := objCount b
  firstAt ([ (rd b 0 4 != 0x424F4A4C, 0), (rd b 4 2 != 1, 4), (n == 0 || decide (4096 < n), 6), (rd b 8 8 != b.length, 8) ]
    ++ nonZeroIn b 0x30 12
    ++ [(decide (b.length < 0x40 + 32 * n) || crc32c (b.take 0x3C ++ slice b 0x40 (32 * n)) != rd b 0x3C 4, 0x3C)])

/-- The directory at fault (0x0121). -/
def directoryFault (b : List Byte) : Option Nat :=
  let es := directory b
  let start := 0x40 + 32 * es.length
  let places := (indexed es).flatMap fun (i, e) =>
    let o := 0x40 + 32 * i
    [ (e.id == 0 || e.id == 0xFFFFFFFF || (es.take i).any (·.id == e.id), o),
      (!objTypes.contains e.type, o + 4) ] ++ nonZeroIn b (o + 5) 3 ++
    [ (e.offset % 64 != 0 || decide (e.offset < start)
        || (es.take i).any (fun f => decide (e.offset < f.offset + f.length) && decide (f.offset < e.offset + e.length)), o + 8),
      (decide (b.length < e.offset + e.length), o + 16) ] ++ nonZeroIn b (o + 28) 4
  let gap := (List.range b.length).find? fun i =>
    decide (start ≤ i) && (b.getD i 0) != 0 && !(es.any fun e => decide (e.offset ≤ i) && decide (i < e.offset + e.length))
  (firstAt places).orElse fun _ => gap

/-- Bytes of an object. -/
def objBytes (b : List Byte) (e : DirEntry) : List Byte := slice b e.offset e.length

/-- An object's CRC at fault (0x0122). -/
def objCrcFault (b : List Byte) : Option Nat :=
  firstAt ((indexed (directory b)).map fun (i, e) => (crc32c (objBytes b e) != e.crc, 0x40 + 32 * i + 24))

/-- An image header at fault, INDEX_CRC excepted (0x0123): the offset in the object. -/
def imageHeaderFault (o : List Byte) : Option Nat :=
  let h := ImageHeader.of o
  firstAt ([ (decide (o.length < 64) || rd o 0 4 != 0x4B4C424C, 0), (rd o 4 2 != 1, 4),
      (decide (h.format < 1) || decide (7 < h.format), 6),
      (!(h.depth == 8 || (h.depth == 16 && decide (3 ≤ h.format))), 7),
      (!formatOk h.format h.depth h.inkMask, 8),
      (h.channels != formatChannels h.format h.inkMask, 10) ] ++ nonZeroIn o 11 1 ++
    [ (h.width == 0 || decide (65536 < h.width), 12),
      (h.height == 0 || decide (16777216 < h.height), 16),
      (h.blocksX != ceilDiv h.width 256, 20),
      (h.blocksY != ceilDiv h.height 4, 24) ] ++ nonZeroIn o 28 4 ++
    [ (h.rawBytes != h.width * h.height * h.channels * h.depth / 8, 32),
      (h.dataLen % 4 != 0 || decide (2 ^ 34 < h.dataLen) || o.length != 64 + 4 * h.blocks + h.dataLen, 40) ]
    ++ nonZeroIn o 48 8 ++ [(crc32c (o.take 0x3C) != rd o 0x3C 4, 0x3C)])

/-- A block header at fault for block n (R168, R169): the offset in the block. -/
def blockHeaderFault (h : ImageHeader) (n : Nat) (block : List Byte) : Option Nat :=
  let mode := rd block 0 1
  let param := rd block 1 1
  let len := rd block 2 2
  firstAt ([ (decide (2 < mode), 0),
      (if mode = 1 then decide (h.depth < param % 32) || param / 32 % 4 == 3 || decide (128 ≤ param) else param != 0, 1),
      (if mode = 0 then len != h.blockRaw n else if mode = 2 then len != h.pixelBytes else decide (h.blockRaw n ≤ len), 2) ]
    ++ nonZeroIn block (8 + len) (storedLen len - 8 - len))

/-- Walk the blocks of an image from block n at an offset of the block area: the first fault as an offset in the
object (R168). -/
def walkBlocks (h : ImageHeader) (o : List Byte) : Nat → Nat → Nat → Option Nat
  | 0, n, off => if off = h.dataLen then none else some (0x40 + 4 * (n - 1))
  | k + 1, n, off =>
    if rd o (0x40 + 4 * n) 4 * 4 ≠ off ∨ h.dataLen < off + 8 then some (0x40 + 4 * n)
    else
      let base := 0x40 + 4 * h.blocks + off
      let block := slice o base (storedLen (rd o (base + 2) 2))
      match blockHeaderFault h n block with
      | some f => some (base + f)
      | none => walkBlocks h o k (n + 1) (off + storedLen (rd o (base + 2) 2))

/-- An index or a block header at fault (0x0124). -/
def indexFault (o : List Byte) : Option Nat :=
  let h := ImageHeader.of o
  if crc32c (slice o 0x40 (4 * h.blocks)) ≠ h.indexCrc then some 0x38 else walkBlocks h o h.blocks 0 0

/-- A stored block of an image object. -/
def objBlock (o : List Byte) (n : Nat) : List Byte :=
  let h := ImageHeader.of o
  let base := 0x40 + 4 * h.blocks + 4 * rd o (0x40 + 4 * n) 4
  slice o base (storedLen (rd o (base + 2) 2))

/-- A block that does not decode (0x0125). -/
def verifyFault (o : List Byte) : Option Nat :=
  let h := ImageHeader.of o
  ((List.range h.blocks).find? fun n => (decodeBlock h n (objBlock o n)).isNone).map fun n =>
    0x40 + 4 * h.blocks + 4 * rd o (0x40 + 4 * n) 4

/-- A check of every image object: the container offset of the first fault. -/
def imagesFault (b : List Byte) (f : List Byte → Option Nat) : Option Nat :=
  ((directory b).filter (·.type == 1)).findSome? fun e => (f (objBytes b e)).map (· + e.offset)

/-- The checks of a container in the order of Table 7-12: DETAIL and offset of the first fault. -/
def containerFault (b : List Byte) (verify : Bool) : Option (Nat × Nat) :=
  let at_ (d : Nat) (o : Option Nat) : Option (Nat × Nat) := o.map fun o => (d, o)
  (at_ 0x0120 (headerFault b)).orElse fun _ =>
  (at_ 0x0121 (directoryFault b)).orElse fun _ =>
  (at_ 0x0122 (objCrcFault b)).orElse fun _ =>
  (at_ 0x0123 (imagesFault b imageHeaderFault)).orElse fun _ =>
  (at_ 0x0124 (imagesFault b indexFault)).orElse fun _ =>
  if verify then at_ 0x0125 (imagesFault b verifyFault) else none

/-- Worst window ratio of an image object (R173). -/
def imageWorst (o : List Byte) : Nat :=
  let h := ImageHeader.of o
  worstWindow ((List.range h.blocks).map h.blockRaw) ((List.range h.blocks).map fun n => (objBlock o n).length)

/-- Images of a container. -/
def imagesOf (b : List Byte) : List DirEntry := (directory b).filter (·.type == 1)

/-- Lowest worst window ratio over the images, 0 without any (Table 7-13). -/
def containerWorst (b : List Byte) : Nat := (((imagesOf b).map fun e => imageWorst (objBytes b e)).min?).getD 0

/-! Encoding a job (R179). -/

/-- An encode entry (Table 7-11). -/
structure EncEntry where
  id : Nat := 0
  type : Nat := 0
  format : Nat := 0
  depth : Nat := 0
  inkMask : Nat := 0
  width : Nat := 0
  height : Nat := 0
  stride : Nat := 0
  src : Nat := 0
deriving DecidableEq, Repr, Inhabited

/-- The entries of a parameter block. -/
def encEntries (pblk : List Byte) (n : Nat) : List EncEntry :=
  (List.range n).map fun i =>
    let o := 32 + 32 * i
    { id := rd pblk o 4, type := rd pblk (o + 4) 1, format := rd pblk (o + 5) 1, depth := rd pblk (o + 6) 1
      inkMask := rd pblk (o + 8) 2, width := rd pblk (o + 12) 4, height := rd pblk (o + 16) 4, stride := rd pblk (o + 20) 4
      src := rd pblk (o + 24) 8 }

/-- Bytes of a source line of an image entry. -/
def EncEntry.lineBytes (e : EncEntry) : Nat := e.width * formatChannels e.format e.inkMask * e.depth / 8

/-- Bytes of an entry's source. -/
def EncEntry.bytes (e : EncEntry) : Nat := if e.type = 1 then (e.height - 1) * e.stride + e.lineBytes else e.stride

/-- The first fault of the entries (0x0111), as an offset in the parameter block; `end_` is where the next source may begin: the sources
before it have ended, and SRC_OFFSET rises even after an empty one (R179). -/
def encFault (pblk : List Byte) (dataLen : Nat) : Nat → Nat → List Nat → List EncEntry → Option Nat
  | _, _, _, [] => none
  | i, end_, ids, e :: r =>
    let o := 32 + 32 * i
    let img := e.type == 1
    match firstAt ([ (e.id == 0 || e.id == 0xFFFFFFFF || ids.contains e.id, o), (!objTypes.contains e.type, o + 4),
        (if img then decide (e.format < 1) || decide (7 < e.format) else e.format != 0, o + 5),
        (if img then !(e.depth == 8 || (e.depth == 16 && decide (3 ≤ e.format))) else e.depth != 0, o + 6) ]
        ++ nonZeroIn pblk (o + 7) 1 ++
        [ (if img then !formatOk e.format e.depth e.inkMask else e.inkMask != 0, o + 8) ] ++ nonZeroIn pblk (o + 10) 2 ++
        [ (if img then e.width == 0 || decide (65536 < e.width) else e.width != 0, o + 12),
          (if img then e.height == 0 || decide (16777216 < e.height) else e.height != 0, o + 16),
          (img && decide (e.stride < e.lineBytes), o + 20),
          (decide (e.src < end_) || decide (dataLen < e.src + e.bytes), o + 24) ]) with
    | some f => some f
    | none => encFault pblk dataLen (i + 1) (e.src + max 1 e.bytes) (e.id :: ids) r

/-- The image object of an entry from its source (R167 to R171). -/
def encodeImage (e : EncEntry) (data : List Byte) : List Byte :=
  let h : ImageHeader :=
    { format := e.format, depth := e.depth, inkMask := e.inkMask, channels := formatChannels e.format e.inkMask
      width := e.width, height := e.height, blocksX := ceilDiv e.width 256, blocksY := ceilDiv e.height 4 }
  let px := h.pixelBytes
  let blocks := (List.range h.blocks).map fun n =>
    let (w, v) := h.blockSize n
    let x := 256 * (n % h.blocksX)
    let y := 4 * (n / h.blocksX)
    encodeBlock h n ((List.range v).flatMap fun i => slice data (e.src + (y + i) * e.stride + x * px) (w * px))
  let offs := blocks.foldl (fun (acc : List Nat × Nat) b => (acc.1 ++ [acc.2 / 4], acc.2 + b.length)) ([], 0)
  let index := offs.1.flatMap (toLe 4)
  let head := toLe 4 0x4B4C424C ++ toLe 2 1 ++ toLe 1 h.format ++ toLe 1 h.depth ++ toLe 2 h.inkMask ++ toLe 1 h.channels
    ++ toLe 1 0 ++ toLe 4 h.width ++ toLe 4 h.height ++ toLe 4 h.blocksX ++ toLe 4 h.blocksY ++ toLe 4 0
    ++ toLe 8 (h.width * h.height * px) ++ toLe 8 offs.2 ++ toLe 8 0 ++ toLe 4 (crc32c index)
  head ++ toLe 4 (crc32c head) ++ index ++ blocks.flatten

/-- The container of a JOB_ENCODE (R179). -/
def encodeJob (name : List Byte) (es : List EncEntry) (data : List Byte) : List Byte :=
  let objs := es.map fun e => if e.type = 1 then encodeImage e data else slice data e.src e.stride
  let start := 0x40 + 32 * es.length
  let placed := objs.foldl (fun (acc : List (Nat × List Byte) × Nat) o =>
    let off := 64 * ceilDiv acc.2 64
    (acc.1 ++ [(off, o)], off + o.length)) ([], start)
  let dir := (es.zip placed.1).flatMap fun (e, (off, o)) =>
    toLe 4 e.id ++ toLe 1 e.type ++ toLe 3 0 ++ toLe 8 off ++ toLe 8 o.length ++ toLe 4 (crc32c o) ++ toLe 4 0
  let head := toLe 4 0x424F4A4C ++ toLe 2 1 ++ toLe 2 es.length ++ toLe 8 placed.2 ++ padTo 32 name ++ toLe 12 0
  let front := head ++ toLe 4 (crc32c (head ++ dir)) ++ dir
  placed.1.foldl (fun b x => padTo x.1 b ++ x.2) front

end Sys2Proof.Machine
end

