-- ==== Sys2Proof/Machine/Hif.lean ====
section
/-!
DEFINITION. Doorbells, ring control, BAR0 registers, the BAR2 window and the coalescing timers
(spec/03_command_interface.md, R48 to R57, R63; spec/16_events_and_statistics.md, R419, R421, R478).
-/
namespace Sys2Proof.Machine

/-- A row that names no unit of the device stops; every other answers its next state. -/
def onUnit (ok : Bool) (s : State) : Host.Outcome State Fault Refusal :=
  if ok then .next s else .fault .noSuchUnit

/-- BAR0 accepts doorbells and ring configuration writes (R49); in P3 only the reduced responder
answers (14 R378). -/
def State.bar0 (s : State) : Bool := s.hif.ready && s.thm.power != .p3 && s.thm.power != .p4

/-- Halt a ring (Table 3-7, R57). -/
def haltRing (n reason : Nat) (s : State) : State :=
  post evRingHalted (unitRing n) n reason (s.onRing n fun r => { r with halted := true, haltReason := reason })

/-- SQ_DB (R45, R49, R53). -/
def writeSqDb (n v : Nat) (s : State) : State :=
  let r := s.ring n
  if !s.bar0 || r.ethernet || !r.enable || v = r.sqTail then s
  else if 2 ^ r.sqLog2 ≤ v then haltRing n 0x02 s
  else s.onRing n fun r => { r with sqTail := v }

/-- SQ_DB: the host writes a new submission tail (R53). -/
def execSqDb (dt ring value : Nat) (s : State) : Host.Outcome State Fault Refusal :=
  onUnit (decide (ring < 8)) (writeSqDb ring value (advance dt s))

/-- CQ_DB (R53, R54, R62). -/
def writeCqDb (n v : Nat) (s : State) : State :=
  let r := s.ring n
  if !s.bar0 || r.ethernet || !r.enable || v = r.cqHead then s
  else if 2 ^ r.cqLog2 ≤ v then haltRing n 0x02 s
  else s.onRing n fun r => { r with cqHead := v, cqUsed := r.cqUsed - (v + 2 ^ r.cqLog2 - r.cqHead) % 2 ^ r.cqLog2 }

/-- CQ_DB: the host writes a new completion head, which frees entries (R62). -/
def execCqDb (dt ring value : Nat) (s : State) : Host.Outcome State Fault Refusal :=
  onUnit (decide (ring < 8)) (writeCqDb ring value (advance dt s))

/-- EVQ_DB (R419): ignored when not below the entry count or while the ring is disabled. -/
def writeEvqDb (v : Nat) (s : State) : State :=
  if !s.bar0 || !s.hif.evqEnable || decide (s.hif.evqN ≤ v) then s
  else reportLost (s.onHif fun h => { h with evqHead := v })

/-- EVQ_DB: the host writes a new event ring head (R419). -/
def execEvqDb (dt value : Nat) (s : State) : Host.Outcome State Fault Refusal :=
  .next (writeEvqDb value (advance dt s))

/-- Setting RING_CTRL.ENABLE (R50, R72, R86). DESIGN CHOICE (log 114): the submission tail, the completion head and the count of
used entries start at 0 with SQ_HEAD and CQ_TAIL. -/
def enableRing (n : Nat) (s : State) : State :=
  let r := s.ring n
  let sizeBad := decide (r.sqLog2 < 4) || decide (12 < r.sqLog2) || decide (r.cqLog2 < 4) || decide (12 < r.cqLog2)
  if !s.bar0 || r.enable then s
  else if sizeBad || r.halted || (r.ethernet && !(s.sec.prot.rings.getD n {}).ethAllowed) then
    s.onRing n fun r => { r with configErr := true }
  else s.onRing n fun r => { r with
    enable := true, configErr := false, sqHead := 0, sqTail := 0, cqTail := 0, cqHead := 0, cqUsed := 0
    expSeq := 0, cqPhase := true, agreed := 2 }

/-- RING_ENABLE_SET (R50). -/
def execRingEnableSet (dt ring : Nat) (s : State) : Host.Outcome State Fault Refusal :=
  onUnit (decide (ring < 8)) (enableRing ring (advance dt s))

/-- RING_ENABLE_CLEAR (R51): the device stops fetching at once; what is in flight runs on. -/
def execRingEnableClear (dt ring : Nat) (s : State) : Host.Outcome State Fault Refusal :=
  let s := advance dt s
  onUnit (decide (ring < 8)) (if s.bar0 then s.onRing ring fun r => { r with enable := false } else s)

/-- RING_RESET (R57, Table 3-6): only while ENABLE and RUNNING are 0. -/
def resetRing (n : Nat) (s : State) : State :=
  if s.bar0 && !(s.ring n).enable && s.ringFlying n == 0 then
    s.onRing n fun r => { r with halted := false, haltReason := 0 }
  else s

/-- RING_RESET: clears HALTED and HALT_REASON of a stopped ring (R57). -/
def execRingReset (dt ring : Nat) (s : State) : Host.Outcome State Fault Refusal :=
  onUnit (decide (ring < 8)) (resetRing ring (advance dt s))

/-- Setting EVQ_ENABLE (R419, R478). -/
def enableEvq (s : State) : State :=
  if !s.bar0 || s.hif.evqEnable || decide (s.hif.evqSize < 6) || decide (14 < s.hif.evqSize) then s
  else reportLost (s.onHif fun h => { h with evqEnable := true, evqTail := 0, evqHead := 0, evqPhase := true })

/-- EVQ_ENABLE_SET: starts the event ring, or is refused (R419). -/
def execEvqEnableSet (dt : Nat) (s : State) : Host.Outcome State Fault Refusal := .next (enableEvq (advance dt s))

/-- EVQ_ENABLE_CLEAR (R478): ring writes stop; an unreported count is kept. -/
def execEvqEnableClear (dt : Nat) (s : State) : Host.Outcome State Fault Refusal :=
  let s := advance dt s
  .next (if s.bar0 then s.onHif fun h => { h with evqEnable := false } else s)

/-! The window (R52, 07 Table 7-1). -/

/-- The usable size U of the device memory, bytes: 15/16 of what is fitted (07 R158). -/
def State.usable (s : State) : Nat := 15 * (s.store.memGB * 2 ^ 30) / 16

/-- First address of SCRATCH, and the one after it (Table 7-1). -/
def scratchBase : Nat := 0x20000000
def scratchEnd : Nat := 0x24000000

/-- One byte of SCRATCH: zero until written (07 R186). -/
def scratchByte (m : List Host.Cell) (a : Nat) : Byte := ((m.find? fun c => c.1 == a).map (·.2)).getD 0

/-- Write one byte, keeping the addresses rising and no byte zero. -/
def scratchPut (a : Nat) (v : Byte) : List Host.Cell → List Host.Cell
  | [] => if v = 0 then [] else [(a, v)]
  | (b, w) :: r =>
    if a < b then (if v = 0 then (b, w) :: r else (a, v) :: (b, w) :: r)
    else if a = b then (if v = 0 then r else (a, v) :: r)
    else (b, w) :: scratchPut a v r

/-- Write consecutive bytes. -/
def scratchWrite (a : Nat) : List Byte → List Host.Cell → List Host.Cell
  | [], m => m
  | v :: vs, m => scratchWrite (a + 1) vs (scratchPut a v m)

/-- The form of the scratch memory: rising addresses, no zero byte. -/
def scratchWf : List Host.Cell → Bool
  | [] => true
  | [(_, v)] => v != 0
  | (a, v) :: (b, w) :: r => v != 0 && decide (a < b) && scratchWf ((b, w) :: r)

/-- Codes of the lifecycle and debug states (Table 4-14). -/
def Lifecycle.code : Lifecycle → Nat
  | .blank => 0 | .provisioned => 1 | .locked => 2 | .returned => 3
def Debug.code : Debug → Nat
  | .off => 0 | .observe => 1 | .full => 2

/-- The window is open: enabled, and not forbidden by the lifecycle and debug state (R52). -/
def State.windowOpen (s : State) : Bool :=
  s.hif.winEnable && !Config.windowForbids s.sec.lifecycle.code (Debug.code s.sec.debug)

/-- An access through the window is refused. -/
def denyWindow (s : State) : State := s.onHif fun h => { h with winDenied := true }

/-- What a read of the window gives: SCRATCH as written, the other regions free values (log 8), zeros
beyond U - 1 (R158). -/
def windowBytes (a len : Nat) (s : State) : List Byte :=
  let free := toLe len (s.freeVal Config.siteWindow)
  (List.range len).map fun i =>
    if s.usable ≤ a + i then 0
    else if scratchBase ≤ a + i ∧ a + i < scratchEnd then scratchByte s.store.scratch (a + i - scratchBase)
    else free.getD i 0

/-- BAR2_WINDOW_READ (R52): data after ECC, with the EP bit when it is uncorrectable. -/
def execBar2WindowRead (dt offset len : Nat) (uncorrectable : Bool) (s : State) : Host.Outcome State Fault Refusal :=
  let s := advance dt s
  let a := s.hif.winBase + offset
  onUnit (decide (offset + len ≤ 0x4000000))
    (if !s.windowOpen then denyWindow (s.emit (.windowData (List.replicate len 0) false))
     else
       let s' := (s.useFree).emit (.windowData (windowBytes a len s) uncorrectable)
       if s.usable < a + len then denyWindow s' else s')

/-- BAR2_WINDOW_WRITE (R52): only into SCRATCH and only with WRITE, else dropped with DENIED. -/
def execBar2WindowWrite (dt offset : Nat) (bytes : List Byte) (s : State) : Host.Outcome State Fault Refusal :=
  let s := advance dt s
  let a := s.hif.winBase + offset
  onUnit (decide (offset + bytes.length ≤ 0x4000000))
    (if s.windowOpen && s.hif.winWrite && decide (scratchBase ≤ a) && decide (a + bytes.length ≤ scratchEnd) then
       s.onStore fun m => { m with scratch := scratchWrite (a - scratchBase) bytes m.scratch }
     else denyWindow s)

/-! BAR0 registers (R48, Tables 3-2, 3-5, 3-6, 3-8). -/

/-- Bits lo to hi of a value, in place. -/
def bitsOf (v lo hi : Nat) : Nat := v / 2 ^ lo % 2 ^ (hi + 1 - lo)

/-- The low word of a base register: bits 11:0 are reserved. -/
def setLow (old : BitVec 64) (v : Nat) : BitVec 64 :=
  BitVec.ofNat 64 (old.toNat / 2 ^ 32 * 2 ^ 32 + v % 2 ^ 32 / 4096 * 4096)

/-- The high word of a base register. -/
def setHigh (old : BitVec 64) (v : Nat) : BitVec 64 :=
  BitVec.ofNat 64 (v % 2 ^ 32 * 2 ^ 32 + old.toNat % 2 ^ 32)

/-- A write into a ring's register block (Table 3-5): base and size only while ENABLE is 0 (R50), and
so TRANSPORT (R45). ENABLE and RESET of RING_CTRL have rows of their own. -/
def writeRingReg (n off v : Nat) (s : State) : State :=
  let r := s.ring n
  if off = 0x24 then s.onRing n fun r => { r with coalCount := bitsOf v 0 7, coalTime := bitsOf v 8 23 }
  else if off = 0x28 then s.onRing n fun r => { r with vec := bitsOf v 0 5 }
  else if r.enable then s
  else if off = 0x00 then s.onRing n fun r => { r with sqBase := setLow r.sqBase v }
  else if off = 0x04 then s.onRing n fun r => { r with sqBase := setHigh r.sqBase v }
  else if off = 0x08 then s.onRing n fun r => { r with cqBase := setLow r.cqBase v }
  else if off = 0x0C then s.onRing n fun r => { r with cqBase := setHigh r.cqBase v }
  else if off = 0x10 then s.onRing n fun r => { r with sqLog2 := bitsOf v 0 3, cqLog2 := bitsOf v 8 11 }
  else if off = 0x14 then s.onRing n fun r => { r with ethernet := bit v 1 }
  else s

/-- A write into the MSI-X table, whose vector control has bits [31:1] reserved; clearing a vector's mask bit sends what is pending, as PCIe defines. -/
def writeMsix (i v : Nat) (s : State) : State :=
  let s := s.onHif fun h => { h with msixTable := h.msixTable.set i (if i % 4 = 3 then v % 2 else v % 2 ^ 32) }
  if i % 4 = 3 && !bit v 0 && s.hif.msixPending.getLsbD (i / 4) then
    (s.onHif fun h => { h with msixPending := h.msixPending &&& ~~~(1#64 <<< (i / 4)) }).emit (.msix (i / 4))
  else s

/-- A 32-bit write at a BAR0 offset whose register has no behaviour of its own (R48). Offsets not
listed, and read-only registers, ignore it. -/
def writeRegister (off v : Nat) (s : State) : State :=
  if s.thm.power == .p3 || s.thm.power == .p4 || off % 4 ≠ 0 then s
  else if off = 0x10 then s.onHif fun h => { h with winBase := h.winBase / 2 ^ 32 * 2 ^ 32 + v % 2 ^ 32 / 2 ^ 26 * 2 ^ 26 }
  else if off = 0x14 then s.onHif fun h => { h with winBase := bitsOf v 0 3 * 2 ^ 32 + h.winBase % 2 ^ 32 }
  else if off = 0x18 then s.onHif fun h => { h with winEnable := bit v 0, winWrite := bit v 1, winDenied := h.winDenied && !bit v 2 }
  else if off = 0x20 then s.onHif fun h => { h with evqBase := setLow h.evqBase v }
  else if off = 0x24 then s.onHif fun h => { h with evqBase := setHigh h.evqBase v }
  else if off = 0x28 then (if s.hif.evqEnable then s else s.onHif fun h => { h with evqSize := bitsOf v 0 3 })
  else if 0x1000 ≤ off ∧ off < 0x1400 then (if s.hif.ready then writeRingReg ((off - 0x1000) / 0x80) ((off - 0x1000) % 0x80) v s else s)
  else if 0x3000 ≤ off ∧ off < 0x3400 then writeMsix ((off - 0x3000) / 4) v s
  else s

/-- REGISTER_WRITE (R48): an access of another size than 4 bytes is ignored. -/
def execRegisterWrite (dt offset size value : Nat) (s : State) : Host.Outcome State Fault Refusal :=
  let s := advance dt s
  onUnit (decide (offset < 0x4000)) (if size = 4 then writeRegister offset value s else s)

/-- COMPLETION_COALESCE_TIMEOUT (R63): TIME us after the first pending one, the vector is sent. -/
def execCompletionCoalesceTimeout (dt ring : Nat) (s : State) : Host.Outcome State Fault Refusal :=
  let s := advance dt s
  let r := s.ring ring
  onUnit (decide (ring < 8))
    (if 0 < r.irqPending && 0 < r.coalTime && passed s r.irqSince r.coalTime 1000000 then
       sendVector r.vec (s.onRing ring fun r => { r with irqPending := 0 })
     else s)

/-- EVENT_COALESCE_TIMEOUT (R421). -/
def execEventCoalesceTimeout (dt vector : Nat) (s : State) : Host.Outcome State Fault Refusal :=
  let s := advance dt s
  let e := s.stat.vecs.getD vector {}
  onUnit (decide (8 ≤ vector) && decide (vector < 64))
    (if 0 < e.pending && 0 < e.time && passed s e.since e.time 1000000 then flushEvVec vector s else s)

end Sys2Proof.Machine
end

