-- ==== Sys2Proof/Machine/Stat.lean ====
section
/-!
DEFINITION. Frame records and the STAT commands (spec/16_events_and_statistics.md, R420 to R429, R477).
-/
namespace Sys2Proof.Machine

/-! Frame records. -/

/-- How the cumulative record takes a counter (R426). -/
inductive Fold where
  | add | max | min | last | or
deriving DecidableEq, Repr, Inhabited

/-- How the counter with a key folds: named MAX or PEAK, MIN, LAYERS_ACTIVE and BLEND_MODE, NOT_READY_MASK,
or any other (R426, Table 16-4). -/
def foldOf (key : Nat) : Fold :=
  match key / 65536, key % 256 with
  | 2, 4 => .max | 2, 5 => .max | 2, 6 => .min
  | 3, 0 => .max | 3, 3 => .max
  | 5, 0 => .last | 5, 1 => .last | 5, 5 => .or | 5, 10 => .max
  | 6, 11 => .max
  | 7, 4 => .min
  | 9, 6 => .max | 9, 12 => .min | 9, 13 => .max
  | 10, 8 => .max
  | 11, 5 => .max
  | 12, 0 => .max | 12, 4 => .max
  | 13, 2 => .max
  | _, _ => .add

/-- Sections of a record (Table 16-4): TAG, instances, counters in each. -/
def recordSections : List (Nat × Nat × Nat) :=
  [(1, 1, 2), (2, 1, 8), (3, 1, 7), (4, 1, 6), (5, 1, 11), (6, 10, 13), (7, 1, 6), (8, 10, 8), (9, 10, 14), (10, 4, 11),
   (11, 1, 8), (12, 1, 5), (13, 1, 5)]

/-- A record's 3,784 bytes (Tables 16-4 and 16-5). -/
def encRecord (r : Record) : List Byte :=
  toLe 4 r.seq ++ toLe 4 r.runId ++ toLe 4 r.frame ++ toLe 4 r.flags ++ encT r.openTb0 ++ toLe 4 3784 ++ encT r.closeTb0
    ++ toLe 4 0 ++ toLeS 8 r.capo ++ toLe 8 r.lines
    ++ recordSections.flatMap fun (tag, n, per) =>
      toLe 1 tag ++ toLe 1 n ++ toLe 2 per ++ toLe 4 (8 + 8 * n * per)
        ++ (List.range n).flatMap fun i => (List.range per).flatMap fun c => toLeS 8 (r.get (ctr tag i c))

/-- Add a counter of a closed record to the cumulative one (R426). -/
def foldCounter (r : Record) (kv : Nat × Int) : Record :=
  let old := getKey kv.1 r.counts
  let v := match foldOf kv.1, old with
    | .max, some o => max o kv.2
    | .min, some o => min o kv.2
    | .add, some o => o + kv.2
    | .or, some o => ((o.toNat ||| kv.2.toNat : Nat) : Int)
    | _, _ => kv.2
  r.put kv.1 v

/-- Add a closed record to the cumulative one (R426). -/
def accumulate (c r : Record) : Record :=
  let c := r.counts.foldl foldCounter c
  { c with lines := c.lines + r.lines, closeTb0 := r.closeTb0 }

/-- Microseconds of the open record during which a condition in force since a moment has stood. -/
def standingUs (since : Int) (s : State) : Int := tUs (s.tb1 - max since s.stat.openTb1)

/-- Add the time of a condition that has stood since a moment to a counter of the open record. -/
def bumpTime (key : Nat) (since : Option Int) (s : State) : State :=
  match since with
  | some t => bump key (standingUs t s) s
  | none => s

/-- Times of conditions that stand while a record closes belong to it as far as they have run:
SPEED_LIMIT_US, THROTTLE1_US and THROTTLE2_US, SUBST_US, CREDIT_STALL_US. -/
def settleTimes (s : State) : State :=
  let s := bumpTime (ctr 7 0 3) s.fire.limitSince s
  let s := if s.thm.level = 1 then bumpTime (ctr 12 0 1) (some s.thm.levelSince) s
    else if s.thm.level = 2 then bumpTime (ctr 12 0 2) (some s.thm.levelSince) s else s
  let s := bumpTime (ctr 12 0 3) s.thm.substSince s
  (List.range 10).foldl (fun s l => bumpTime (ctr 9 l 5) (s.links.courses.getD l {}).stallSince s) s

/-- Open a record (R423): counters set ahead for its frame belong to it. -/
def openRecord (r : Record) (s : State) : State :=
  let mine := s.stat.ahead.filter (·.1 == r.frame)
  let r := mine.foldl (fun r x => r.put x.2.1 x.2.2) { r with openTb0 := s.tb0 }
  s.onStat fun t => { t with
    cur := r, isOpen := true, openTb1 := s.tb1, frameOnce := []
    ahead := t.ahead.filter fun x => !(x.1 == r.frame) }

/-- Columns taken as 0 in the frame whose record closes, for each bar (09 R222, R252; DEDUCED, log 119: the event gives the frame's
total, so it is posted as the frame ends). -/
def ringPoisoned (s : State) : State :=
  (List.range 10).foldl (fun s b =>
    let n := s.stat.cur.get (ctr 6 b 9)
    if 0 < n then post evRingPoisoned (unitBre (s.bars.bars.getD b {}).engine) b (p32 n) s else s) s

/-- Close the open record with flag bits, and open the next (R423, R425, R426). The 256 newest are kept;
EV_FRAME_RECORD is posted. -/
def closeRecord (flags : Nat) (next : Record) (s : State) : State :=
  if !s.stat.isOpen then openRecord next s
  else
    let s := settleTimes (noteAdj (ringPoisoned s))
    let r := { s.stat.cur with seq := s.stat.recSeq, flags := s.stat.cur.flags ||| flags, closeTb0 := s.tb0 }
    let lost := decide (256 ≤ s.stat.records.length) && (match s.stat.records.getLast? with
      | some o => decide (s.stat.readUpTo ≤ o.seq)
      | none => false)
    let s := s.onStat fun t => { t with
      records := (r :: t.records).take 256, recSeq := (t.recSeq + 1) % 2 ^ 32
      cumul := accumulate t.cumul r, overwritten := t.overwritten || lost }
    post evFrameRecord unitCtl r.seq r.flags (openRecord next s)

/-- Set a counter of the record of a frame that has not opened yet (R423), or of the open one. -/
def setFor (frame key : Nat) (v : Int) (s : State) : State :=
  if s.stat.isOpen && s.stat.cur.frame == frame then s.onRec (Record.put key v)
  else s.onStat fun t => { t with ahead := (frame, key, v) :: t.ahead.filter fun x => !(x.1 == frame && x.2.1 == key) }

/-- Add to a counter of the record of a frame that has not opened yet, or of the open one. -/
def addFor (frame key : Nat) (n : Int) (s : State) : State :=
  if n = 0 then s
  else if s.stat.isOpen && s.stat.cur.frame == frame then bump key n s
  else
    let old := ((s.stat.ahead.find? fun x => x.1 == frame && x.2.1 == key).map (·.2.2)).getD 0
    setFor frame key (old + n) s

/-- IDLE_RECORD_CLOSE (R423): every 1 s of TB1 while no run is armed. -/
def execIdleRecordClose (dt : Nat) (s : State) : Host.Outcome State Fault Refusal :=
  let s := advance dt s
  .next (if s.hif.ready && s.fire.run.isNone && s.stat.isOpen && passed s s.stat.idleSince 1 1 then
    closeRecord 8 {} (s.onStat fun t => { t with idleSince := t.idleSince + secT 1 })
  else s)

/-! Reads (R428, R477). -/

/-- Bytes of a structure from an offset, as Ethernet returns them. -/
def window (off : Nat) (bs : List Byte) : List Byte := (bs.drop off).take 1424

/-- Checks of STAT_FRAME_RECORD (Table 16-8): on Ethernet COUNT is 1 and OFFSET within the record. -/
def statFrameRecordCheck (q : Cmd) (s : State) : Option Reply :=
  let newest := s.stat.recSeq - 1
  firstFail (shape q 24 [(0, 16)] ++
    [ (q.u16 4 == 0 || decide (256 < q.u16 4) || (q.src.isSome && q.u16 4 != 1), Reply.bad 4),
      (q.src.isSome && decide (3784 ≤ q.u16 6), Reply.bad 6),
      (addrBad q 8, Reply.bad 8),
      (!s.stat.records.isEmpty && decide (q.u32 0 ≠ 0xFFFFFFFF) && decide (newest < q.u32 0),
        { status := .state, detail := 0x01F8, aux := (s.stat.records.getLast?.map (·.seq)).getD 0 }) ])

/-- Sequence numbers that a read returns: first, how many, of those held from `oldest` to `newest`. -/
def readSpan (want count oldest newest : Nat) : Nat × Nat :=
  let first := if want = 0xFFFFFFFF then max oldest (newest + 1 - count) else max oldest want
  (first, min count (newest + 1 - first))

/-- STAT_FRAME_RECORD (R425, R428, R477). -/
def statFrameRecordEffect (q : Cmd) (s : State) : Ans :=
  match s.stat.records, s.stat.records.getLast? with
  | r :: _, some o =>
    let (first, n) := readSpan (q.u32 0) (q.u16 4) o.seq r.seq
    let got := (s.stat.records.filter fun x => decide (first ≤ x.seq) && decide (x.seq < first + n)).reverse
    let bytes := if q.src.isSome then window (q.u16 6) (got.flatMap encRecord)
      else ((got.map encRecord).intersperse (List.replicate 56 0)).flatten
    .done (.withExt (toLe 2 n ++ toLe 2 0 ++ toLe 4 first ++ toLe 4 r.seq) (q.u64 8) bytes)
      (s.onStat fun t => { t with readUpTo := max t.readUpTo (first + n) })
  | _, _ => .done (.good (toLe 2 0 ++ toLe 2 0 ++ toLe 4 s.stat.recSeq ++ toLe 4 ((s.stat.recSeq + (2 ^ 32 - 1)) % 2 ^ 32))) s

/-- STAT_FRAME_RECORD (R428). -/
def execStatFrameRecord (q : Cmd) (s : State) : Host.Outcome State Fault Refusal :=
  runCmd 0x0F01 statFrameRecordCheck statFrameRecordEffect q s

/-- The cumulative record as it is read: FRAME 0xFFFF_FFFF, CUMULATIVE set (R426). -/
def State.cumulative (s : State) : Record := { s.stat.cumul with frame := 0xFFFFFFFF, flags := 16 }

/-- The cumulative record as a clear leaves it (R426). -/
def clearedCumul (s : State) : Record := { openTb0 := s.tb0, closeTb0 := s.tb0 }

/-- Checks of STAT_COUNTERS. -/
def statCountersCheck (q : Cmd) (_s : State) : Option Reply :=
  firstFail (shape q 16 [(0, 1), (2, 2), (8, 8)] ++
    [ (extraBits (q.u8 0) 1, Reply.bad 0),
      (q.src.isSome && decide (3784 ≤ q.u16 2), Reply.bad 2),
      (addrBad q 8, Reply.bad 8) ])

/-- STAT_COUNTERS (R426, R428). -/
def statCountersEffect (q : Cmd) (s : State) : Ans :=
  let bytes := encRecord s.cumulative
  .done (.withExt [] (q.u64 8) (if q.src.isSome then window (q.u16 2) bytes else bytes))
    (if bit (q.u8 0) 0 then s.onStat fun t => { t with cumul := clearedCumul s } else s)

/-- STAT_COUNTERS (R428). -/
def execStatCounters (q : Cmd) (s : State) : Host.Outcome State Fault Refusal :=
  runCmd 0x0F02 statCountersCheck statCountersEffect q s

/-- Checks of STAT_CLEAR. -/
def statClearCheck (q : Cmd) (_s : State) : Option Reply := firstFail (shape q 8 [(0, 1)] ++ [(extraBits (q.u8 0) 7, Reply.bad 0)])

/-- STAT_CLEAR (Table 16-8): the cumulative record, the frame-record history, the event history. -/
def statClearEffect (q : Cmd) (s : State) : Ans :=
  let w := q.u8 0
  .done .good (s.onStat fun t => { t with
    cumul := if bit w 0 then clearedCumul s else t.cumul
    records := if bit w 1 then [] else t.records
    history := if bit w 2 then [] else t.history })

/-- STAT_CLEAR (R428). -/
def execStatClear (q : Cmd) (s : State) : Host.Outcome State Fault Refusal := runCmd 0x0F03 statClearCheck statClearEffect q s

/-- Checks of STAT_EVENT_MASK. -/
def statEventMaskCheck (q : Cmd) (_s : State) : Option Reply :=
  firstFail (shape q 8 [(0, 5), (6, 2)] ++
    [ (q.u8 0 == 0 || (decide (0x10 < q.u8 0) && q.u8 0 != 0xFF), Reply.bad 0),
      (decide (3 < q.u8 1), Reply.bad 1),
      (decide (3 < q.u8 2), Reply.bad 2),
      (decide (q.u8 3 < 8) || decide (63 < q.u8 3), Reply.bad 3) ])

/-- STAT_EVENT_MASK (R421): a group's severities and vector, and that vector's COUNT and TIME. -/
def statEventMaskEffect (q : Cmd) (s : State) : Ans :=
  let m : Mask := { postSev := q.u8 1, irqSev := q.u8 2, vector := q.u8 3 }
  let s := s.onStat fun t => { t with masks := if q.u8 0 = 0xFF then t.masks.map fun _ => m else upd (q.u8 0 - 1) (fun _ => m) t.masks }
  .done .good (s.onVec (q.u8 3) fun v => { v with count := q.u8 4, time := q.u16 6 })

/-- STAT_EVENT_MASK (R421). -/
def execStatEventMask (q : Cmd) (s : State) : Host.Outcome State Fault Refusal :=
  runCmd 0x0F04 statEventMaskCheck statEventMaskEffect q s

/-- HSEQ of the oldest entry held. -/
def State.oldestHseq (s : State) : Nat := s.stat.hseq - s.stat.history.length

/-- Checks of STAT_EVENT_FETCH. -/
def statEventFetchCheck (q : Cmd) (s : State) : Option Reply :=
  firstFail (shape q 16 [(0, 6), (8, 8)] ++
    [ (q.u16 4 == 0 || decide (4096 < q.u16 4) || (q.src.isSome && decide (44 < q.u16 4)), Reply.bad 4),
      (addrBad q 8, Reply.bad 8),
      (!s.stat.history.isEmpty && decide (q.u32 0 ≠ 0xFFFFFFFF) && decide (s.stat.hseq ≤ q.u32 0),
        { status := .state, detail := 0x01F8, aux := s.oldestHseq }) ])

/-- STAT_EVENT_FETCH (R420, R428, R477). -/
def statEventFetchEffect (q : Cmd) (s : State) : Ans :=
  if s.stat.history.isEmpty then
    .done (.good (toLe 2 0 ++ toLe 2 0 ++ toLe 4 s.stat.hseq ++ toLe 4 ((s.stat.hseq + (2 ^ 32 - 1)) % 2 ^ 32))) s
  else
    let newest := s.stat.hseq - 1
    let (first, n) := readSpan (q.u32 0) (q.u16 4) s.oldestHseq newest
    let got := (s.stat.history.reverse.drop (first - s.oldestHseq)).take n
    .done (.withExt (toLe 2 n ++ toLe 2 0 ++ toLe 4 first ++ toLe 4 newest) (q.u64 8) (got.flatMap (encEvent false))) s

/-- STAT_EVENT_FETCH (R428). -/
def execStatEventFetch (q : Cmd) (s : State) : Host.Outcome State Fault Refusal :=
  runCmd 0x0F05 statEventFetchCheck statEventFetchEffect q s

/-! Sticky bits and peaks (R422). -/

/-- The sticky bits and the peak of every unit that has any (R422, log 14): encoder channels, the PTP
domains, the store, the courses and the pair link. -/
def stickyEntries (s : State) : List (Nat × Nat × Int) :=
  [(unitStore, b2n (s.stat.stickies.any fun x => x.unit == unitStore && x.bits != 0), 0)]
    ++ ((indexed s.links.courses).map fun c =>
        (unitCourse c.1, b2n (c.2.marks.getD 0 {}).sticky + 2 * b2n (c.2.marks.getD 1 {}).sticky, (c.2.peak : Int)))
    ++ [(unitTbf, b2n (s.tim.domains.getD 0 {}).disagree + 2 * b2n (s.tim.domains.getD 1 {}).disagree, 0)]
    ++ ((indexed s.pos.ch).map fun c =>
        (unitEnc c.1, b2n c.2.illegal + 2 * b2n c.2.signal + 4 * b2n c.2.indexErr + 8 * b2n c.2.diverged, 0))

/-- The sticky flags of a channel cleared. -/
def Channel.clearSticky (c : Channel) : Channel :=
  { c with illegal := false, signal := false, indexErr := false, diverged := false }

/-- Clear the sticky bits of a unit; its peak takes the present level (R422). -/
def clearSticky (s : State) (u : Nat) : State :=
  if u = unitStore then s.onStat fun t => { t with stickies := t.stickies.filter fun x => !(x.unit == unitStore) }
  else if u = unitTbf then s.onTim fun t => { t with domains := t.domains.map fun d => { d with disagree := false } }
  else if u / 256 = 0x0E then
    s.onPos fun p => { p with ch := upd (u % 256) Channel.clearSticky p.ch }
  else
    s.onCourse (if u = 0x0B00 then 10 else u % 256) fun c =>
      { c with marks := c.marks.map fun m => { m with sticky := false }, peak := c.depth }

/-- Checks of STAT_PEAKS (R477). -/
def statPeaksCheck (q : Cmd) (_s : State) : Option Reply :=
  firstFail (shape q 16 [(0, 4), (8, 8)] ++
    [ (q.u16 0 != 0xFFFF && !unitExists (q.u16 0), Reply.bad 0),
      (extraBits (q.u8 2) 1, Reply.bad 2),
      (q.u8 3 == 0 || (q.src.isSome && decide (89 < q.u8 3)), Reply.bad 3),
      (addrBad q 8, Reply.bad 8) ])

/-- STAT_PEAKS (R422, R477): reads, and with CLEAR clears what it has returned. -/
def statPeaksEffect (q : Cmd) (s : State) : Ans :=
  let got := ((stickyEntries s).filter fun e => q.u16 0 == 0xFFFF || e.1 == q.u16 0).take (q.u8 3)
  let bytes := got.flatMap fun e => toLe 2 e.1 ++ toLe 1 e.2.1 ++ toLe 5 0 ++ toLeS 8 e.2.2
  .done (.withExt (toLe 2 got.length) (q.u64 8) bytes)
    (if bit (q.u8 2) 0 then (got.map (·.1)).foldl clearSticky s else s)

/-- STAT_PEAKS (R422). -/
def execStatPeaks (q : Cmd) (s : State) : Host.Outcome State Fault Refusal := runCmd 0x0F06 statPeaksCheck statPeaksEffect q s

end Sys2Proof.Machine
end

