-- ==== Sys2Proof/Machine/Store.lean ====
section
/-!
DEFINITION. The image store: pages, memory errors, jobs and their commands (spec/07_image_store_and_codec.md,
R158 to R186). JOB_CANCEL stands in Machine/Abort.lean.
-/
namespace Sys2Proof.Machine

/-! Pages (R158, R160, R185). -/

/-- Usable capacity U, bytes (R158). -/
def Store.usable (t : Store) : Nat := t.memGB * 2 ^ 30 * 15 / 16
/-- Pages of the pool as laid out (Table 7-1). -/
def Store.poolPages (t : Store) : Nat := (t.usable - 576 * 2 ^ 20) / 2 ^ 21
/-- Pool pages in service: each retired page has cost the pool one. -/
def Store.totalPages (t : Store) : Nat := t.poolPages - t.retired.length
/-- Pages that jobs hold. -/
def Store.jobPages (t : Store) : Nat := (t.jobs.map (·.pages)).sum
/-- Free pages. -/
def Store.freePages (t : Store) : Nat := t.totalPages - (t.spares + t.ring + t.ledger + t.archive + t.staging + t.jobPages + t.migrations.length)

/-- Set sticky bits of a unit that STAT_PEAKS reads (16 R422). -/
def setSticky (unit bits : Nat) (xs : List Sticky) : List Sticky :=
  if xs.any (·.unit == unit) then xs.map fun k => if k.unit == unit then { k with bits := k.bits ||| bits } else k
  else { unit, bits } :: xs

/-- EV_STORE_LOW as free pages fall below LOW_MARK; it re-arms above LOW_MARK + 64 (R185, R422). -/
def checkLow (s : State) : State :=
  let t := s.store
  if t.lowMark = 0 then s
  else if t.lowArmed && decide (t.freePages < t.lowMark) then
    let s := s.onStore fun t => { t with lowArmed := false }
    let s := s.onStat fun x => { x with stickies := setSticky unitStore 1 x.stickies }
    post evStoreLow unitStore t.freePages t.lowMark s
  else if !t.lowArmed && decide (t.lowMark + 64 < t.freePages) then s.onStore fun t => { t with lowArmed := true }
  else s

/-- Pages of n bytes. -/
def pagesOf (n : Nat) : Nat := ceilDiv n (2 ^ 21)

/-! Jobs. -/

/-- A stored job. -/
def State.job (s : State) (id : Nat) : Option Job := s.store.jobs.find? (·.id == id)
/-- Change a job. -/
def State.onJob (id : Nat) (f : Job → Job) (s : State) : State :=
  s.onStore fun t => { t with jobs := t.jobs.map fun j => if j.id == id then f j else j }
/-- Insert a job in JOB_ID order. -/
def insertJob (j : Job) : List Job → List Job
  | [] => [j]
  | k :: r => if j.id < k.id then j :: k :: r else k :: insertJob j r
/-- Add a job. -/
def addJob (j : Job) (s : State) : State := checkLow (s.onStore fun t => { t with jobs := insertJob j t.jobs })
/-- Remove a job and free its pages. -/
def dropJob (id : Nat) (s : State) : State := checkLow (s.onStore fun t => { t with jobs := t.jobs.filter fun j => !(j.id == id) })

/-- Usable by layers (Table 7-10). -/
def Job.usable (j : Job) : Bool := j.st == .ready || j.st == .damaged

/-- A layer configuration names a job. -/
def LayerCfg.names (c : LayerCfg) (id : Nat) : Bool := c.source == 1 && c.job == id

/-- The users count: layers whose active or pending configuration names the job (R181). -/
def State.users (s : State) (id : Nat) : Nat :=
  (s.cps.layers.filter fun l => l.act.names id || (l.pend.any fun p => p.1.names id) || l.flips.any (·.job == id)).length

/-- A job becomes DAMAGED (R177, Table 7-2): 1 bad block, 2 page lost. -/
def damageJob (id cause : Nat) (s : State) : State :=
  match s.job id with
  | some j => if j.st = .ready then post evJobDamaged unitCtl id cause (s.onJob id fun j => { j with st := .damaged }) else s
  | none => s

/-! Memory errors (R161 to R164). -/

/-- The owner code of Table 7-17. -/
def Owner.code : Owner → Nat
  | .system => 0 | .scratch => 1 | .job _ => 2 | .ring => 3 | .ledger => 4 | .archive => 5 | .free => 6 | .staging => 7

/-- The channel of a 64-byte line (R159). -/
def lineChannel (line : Nat) : Nat := ((64 * line / 2 ^ 8) % 8) ^^^ ((64 * line / 2 ^ 11) % 8)

/-- Unit of a memory channel. -/
def unitMem (ch : Nat) : Nat := 0x0400 + ch

/-- A page has been retired: the retirements of the last hour (15 Table 15-6). -/
def notePage (s : State) : State := s.onPair fun p => { p with pageTimes := s.tb1 :: p.pageTimes.filter fun t => within s t 3600 1 }

/-- A new spare is taken from the free pool, if a page is free (Table 7-2 step 5). -/
def newSpare (s : State) : State := checkLow (if 0 < s.store.freePages then s.onStore fun t => { t with spares := t.spares + 1 } else s)

/-- A SYSTEM or SCRATCH page: it moves through the remap table. -/
def Owner.remapped : Owner → Bool
  | .system => true | .scratch => true
  | .job _ => false | .ring => false | .ledger => false | .archive => false | .free => false | .staging => false

/-- The remap table's 16 entries have no room for a page that is not a replacement already (R164). -/
def Store.remapFull (t : Store) (page : Nat) : Bool :=
  decide (16 ≤ t.remap.length + (t.migrations.filter fun m => m.owner.remapped && !(t.remap.any fun x => x.2 == m.page)).length)
    && !(t.remap.any fun x => x.2 == page)

/-- Put a page's replacement into the remap table: a replacement that is replaced keeps its entry. -/
def Store.remapPage (t : Store) (page new : Nat) : List (Nat × Nat) :=
  if t.remap.any fun x => x.2 == page then t.remap.map fun x => if x.2 = page then (x.1, new) else x else t.remap ++ [(page, new)]

/-- A permanent fault in a line retires its page (Table 7-2): a spare is assigned; without one a job page loses
its content, and any other page is a device fault, as is a SYSTEM or SCRATCH page for which the remap table has no entry left (02 R38). -/
def retirePage (line criterion : Nat) (owner : Owner) (s : State) : State :=
  let page := line / 32768
  let ch := lineChannel line
  if s.store.retired.contains page || (s.store.migrations.any (·.page == page)) then s
  else if 256 ≤ s.store.retired.length + s.store.migrations.length || (owner.remapped && s.store.remapFull page) then doom (unitMem ch) criterion s
  else if 0 < s.store.spares then
    checkLow (s.onStore fun t => { t with spares := t.spares - 1, migrations := t.migrations ++ [{ page, owner, line, criterion }] })
  else match owner with
    | .job id =>
      let s := damageJob id 2 s
      let s := (s.onJob id fun j => { j with pages := j.pages - 1 }).onStore fun t => { t with retired := t.retired ++ [page] }
      let s := notePage (s.onNor fun n => { n with queue := n.queue ++ [.page page] })
      newSpare (post evUnitRetired (unitMem ch) (unitMem ch) criterion (post evPageRetired unitCtl page 1 s))
    | _ => doom (unitMem ch) criterion s

/-- PAGE_MIGRATION_DONE (R164, Table 7-2): the page map switches to the replacement. -/
def execPageMigrationDone (dt page : Nat) (s : State) : Host.Outcome State Fault Refusal :=
  let s := advance dt s
  .next (match s.store.migrations.find? (·.page == page) with
    | none => s
    | some m =>
      let ch := lineChannel m.line
      let s := s.onStore fun t => { t with
        migrations := t.migrations.filter fun x => !(x.page == page), retired := t.retired ++ [page]
        remap := if m.owner.remapped then t.remapPage page (288 + s.freeVal Config.sitePage % max 1 t.poolPages) else t.remap }
      let s := if m.owner.remapped then s.useFree else s
      let s := notePage (s.onNor fun n => { n with queue := n.queue ++ [.page page] })
      let s := post evUnitRetired (unitMem ch) (unitMem ch) m.criterion (post evPageRetired unitCtl page 0 s)
      newSpare s)

/-- A corrected line (R162): an upset against the line, the fourth within any 1 s permanent; EV_MEM_CORRECTED at most
once a second for each channel with the corrections since. -/
def correctedLine (line : Nat) (owner : Owner) (s : State) : State :=
  let ch := lineChannel line
  let times := s.tb1 :: ((getKey line s.store.correctable).getD []).filter fun t => within s t 1 1
  let s := s.onStore fun t => { t with
    correctable := ((line, times) :: t.correctable.filter fun x => !(x.1 == line)).take 64
    corrected := upd ch (· + 1) t.corrected }
  let s := bump (ctr 4 0 4) 1 s
  let due := match s.stat.rates.find? (fun r => r.code == evMemCorrected && r.unit == unitMem ch) with
    | some r => !within s r.since 1 1
    | none => true
  let s := if due then
      let n := s.store.corrected.getD ch 0
      postLimited evMemCorrected (unitMem ch) ch n 1 1 false (s.onStore fun t => { t with corrected := upd ch (fun _ => 0) t.corrected })
    else s
  if 4 ≤ times.length then retirePage line 0x01 owner s else s

/-- A 64-byte line of the ring is poisoned (09 R222). Which bytes of the ring a line of device memory holds is the model's
choice (log 19): the ring's lines follow one another, from line 0 of the device memory on, over and over. -/
def poisonRing (line : Nat) (s : State) : State :=
  match s.fire.run, s.cps.span with
  | some r, some (u0, u1) =>
    let wc := u1 - u0
    let off := 64 * line % max 1 (r.ringLines * 8 * wc)
    let slot := off / max 1 (8 * wc)
    let inLine := off % max 1 (8 * wc)
    let hit (l : RingLine) : RingLine := match decide (l.cl % max 1 r.ringLines = slot) with
      | true => { l with bad := (inLine / max 1 wc, inLine % max 1 wc) :: l.bad }
      | false => l
    s.onCps fun c => { c with ring := c.ring.map hit }
  | _, _ => s

/-- An uncorrectable line (R162): remembered; a second time it is permanent (R36). -/
def uncorrectableLine (line : Nat) (owner : Owner) (s : State) : State :=
  let ch := lineChannel line
  let again := s.store.uncorrectable.contains line
  let s := s.onStore fun t => { t with uncorrectable := if again then t.uncorrectable else (line :: t.uncorrectable).take 256 }
  let s := post evMemUncorrected (unitMem ch) line owner.code (bump (ctr 4 0 5) 1 s)
  let s := match owner with
    | .ring => poisonRing line s
    | _ => s
  if again then retirePage line 0x02 owner s else s

/-- A memory read's outcome (R161, R162): a link error that link ECC corrects is an upset of the channel; one
that it cannot correct is read again once. DESIGN CHOICE (log 120): a line that fails again on its re-read counts as uncorrectable. -/
def memoryRead (line : Nat) (owner : Owner) (ecc : EccResult) (s : State) : State :=
  let again := s.store.rereads.contains line
  let s := s.onStore fun t => { t with rereads := t.rereads.filter (· != line) }
  match ecc with
  | .clean => s
  | .corrected => correctedLine line owner s
  | .uncorrectable => uncorrectableLine line owner s
  | .linkCorrected => upset (unitMem (lineChannel line)) s
  | .linkFailed => if again then uncorrectableLine line owner s else s.onStore fun t => { t with rereads := line :: t.rereads }

/-- Lines of usable memory. -/
def Store.lines (t : Store) : Nat := t.usable / 64

/-- MEMORY_READ_COMPLETE (R161). -/
def execMemoryReadComplete (dt line : Nat) (owner : Owner) (ecc : EccResult) (s : State) : Host.Outcome State Fault Refusal :=
  let s := advance dt s
  onUnit (decide (line < s.store.lines)) (memoryRead line owner ecc s)

/-- PATROL_SCRUB_READ (R163): the line at the scrub address, which moves on once the line's re-read, if it needs one, is done; it pauses
in P3. -/
def execPatrolScrubRead (dt : Nat) (owner : Owner) (ecc : EccResult) (s : State) : Host.Outcome State Fault Refusal :=
  let s := advance dt s
  .next (if !s.hif.ready || s.thm.power == .p3 || s.thm.power == .p4 || decide (2 ≤ s.thm.level) then s
    else
      let line := s.store.scrub
      let s := if s.store.retired.contains (line / 32768) then s else memoryRead line owner ecc s
      if s.store.rereads.contains line then s else s.onStore fun t => { t with scrub := (line + 1) % max 1 t.lines })

/-! Blocks (R177). -/

/-- A bad block: on the job's list, the job DAMAGED. -/
def badBlock (job obj block : Nat) (s : State) : State :=
  let s := s.onJob job fun j =>
    if j.bad.length < 1024 then { j with bad := j.bad ++ [{ obj, block }] } else { j with badMore := j.badMore + 1 }
  post evBlockBad unitCtl job obj (damageJob job 1 (bump (ctr 4 0 3) 1 s))

/-- An object of a job. -/
def Job.object (j : Job) (obj : Nat) : Option DirEntry := (directory j.bytes).find? (·.id == obj)

/-- An image object of a usable job. -/
def State.image (s : State) (job obj : Nat) : Option (List Byte) :=
  match s.job job with
  | some j => if j.usable then (j.object obj).bind fun e => if e.type = 1 then some (objBytes j.bytes e) else none else none
  | none => none

/-- BLOCK_DECODE (R177): `glitch` says that the first attempt alone failed without a memory error. -/
def execBlockDecode (dt pipe job obj block : Nat) (poisoned glitch : Bool) (s : State) : Host.Outcome State Fault Refusal :=
  let s := advance dt s
  onUnit (decide (pipe < 5)) (
    match s.image job obj with
    | none => s
    | some o =>
      let h := ImageHeader.of o
      let unit := 0x0500 + pipe
      if h.blocks ≤ block || s.isRetired unit then s
      else if (s.job job).any (fun j => j.bad.contains { obj, block }) then bump (ctr 4 0 3) 1 s
      else
        let stored := objBlock o block
        let s := bump (ctr 4 0 0) ((4 + stored.length : Nat) : Int) s
        if poisoned then badBlock job obj block s
        else
          let s := bump (ctr 4 0 1) 1 s
          let good := (decodeBlock h block stored).isSome
          if good && !glitch then s
          else
            let s := bump (ctr 4 0 2) 1 (bump (ctr 4 0 0) (stored.length : Nat) s)
            if good then postLimited evDecodeRetry unit unit job 1 1000 false (upset unit s)
            else badBlock job obj block s)

/-! JOB_LOAD, JOB_ENCODE and JOB_READ (R179, R183, R184). -/

/-- Unit of the encoder. -/
def unitEncoder : Nat := 0x0510

/-- Loads and encodes in flight. -/
def State.loads (s : State) : Nat := (s.store.jobs.filter (·.load.isSome)).length

/-- Checks that both JOB_LOAD and JOB_ENCODE make of JOB_ID. -/
def jobIdBad (q : Cmd) (s : State) : Bool := q.u32 0 == 0 || q.u32 0 == 0xFFFFFFFF || (s.job (q.u32 0)).isSome

/-- Checks of the store's limits and of the encoder that follow the parameter checks. -/
def loadLimits (needsUnit : Bool) (pages : Nat) (s : State) : List (Bool × Reply) :=
  [ (needsUnit && s.isRetired unitEncoder, Reply.errUnit .retired 0 unitEncoder),
    (decide (4 ≤ s.loads) || (needsUnit && s.holding .encoder), Reply.err .busy),
    (decide (1024 ≤ s.store.jobs.length), Reply.err .limit 0x0130),
    (decide (s.store.freePages < pages), Reply.err .noSpace) ]

/-- Checks of JOB_LOAD (Table 7-13). -/
def jobLoadCheck (q : Cmd) (s : State) : Option Reply :=
  firstFail (shape q 32 [(0, 5), (8, 24)] ++
    [ (jobIdBad q s, Reply.bad 0 0x0101), (extraBits (q.u8 4) 1, Reply.bad 4) ] ++ dmaCheck q 8 16 (some (24, q.u64 24)) ++
    loadLimits (bit (q.u8 4) 0) (pagesOf (q.u64 24)) s)

/-- JOB_LOAD (R183): the job is LOADING until its data has come and been checked. -/
def jobLoadEffect (q : Cmd) (s : State) : Ans :=
  let verify := bit (q.u8 4) 0
  let s := hold q (if verify then [.encoder] else []) true s
  .wait (addJob { id := q.u32 0, pages := pagesOf (q.u64 24), load := some { cmd := q.id, verify } } s)

/-- JOB_LOAD (R183). -/
def execJobLoad (q : Cmd) (s : State) : Host.Outcome State Fault Refusal := runCmd 0x0301 jobLoadCheck jobLoadEffect q s

/-- Checks of JOB_ENCODE (R179, Tables 7-11 and 7-13). -/
def jobEncodeCheck (q : Cmd) (s : State) : Option Reply :=
  let n := q.u16 4
  let wrong := encFault q.pblk (q.u64 24) 0 0 [] (encEntries q.pblk n)
  firstFail (shape q 40 [(0, 6), (8, 28)] true ++
    [ (jobIdBad q s, Reply.bad 0 0x0101), (n == 0 || decide (4096 < n), Reply.bad 4) ] ++ dmaCheck q 8 16 (some (24, q.u64 24)) ++
    [ (q.pblk.length != 32 + 32 * n, Reply.err .badLength),
      (wrong.isSome, Reply.badBlock (wrong.getD 0) 0x0111) ] ++ loadLimits true 1 s)

/-- JOB_ENCODE (R179): it holds the encoder and up to 32 pool pages as staging. -/
def jobEncodeEffect (q : Cmd) (s : State) : Ans :=
  let s := hold q [.encoder] true s
  let s := s.onStore fun t => { t with staging := min 32 t.freePages }
  .wait (addJob { id := q.u32 0, load := some { cmd := q.id, encode := true, maxPages := q.u32 32 } } s)

/-- JOB_ENCODE (R179). -/
def execJobEncode (q : Cmd) (s : State) : Host.Outcome State Fault Refusal := runCmd 0x0302 jobEncodeCheck jobEncodeEffect q s

/-- A load or an encode is dropped and keeps nothing (R43). -/
def dropLoad (id : Nat) (s : State) : State :=
  let enc := (s.job id).any fun j => j.load.any (·.encode)
  dropJob id (if enc then s.onStore fun t => { t with staging := 0 } else s)

/-- A load fails with its reply. -/
def failLoad (id : Nat) (cmd : CmdId) (r : Reply) (s : State) : State := finish cmd r (dropLoad id s)

/-- ST_VERIFY_FAIL of a container (Table 7-12). -/
def verifyReply (detail off : Nat) : Reply := { status := .verifyFail, detail, loc := 3, offset := min off 0xFFFFFFFF }

/-- A job becomes READY (R180, R183). -/
def readyJob (id : Nat) (cmd : CmdId) (bytes : List Byte) (s : State) : State :=
  let pages := pagesOf bytes.length
  let worst := containerWorst bytes
  let enc := (s.job id).any fun j => j.load.any (·.encode)
  let s := if enc then s.onStore fun t => { t with staging := 0 } else s
  let s := s.onJob id fun j => { j with st := .ready, bytes, pages, time := s.tb0, worst, load := none }
  let s := post evJobReady unitCtl id pages (checkLow s)
  finish cmd (.good (toLe 4 pages ++ toLe 2 (objCount bytes) ++ toLe 2 (imagesOf bytes).length ++ toLe 4 worst)) s

/-- The data of a load has come (R183). -/
def loadDone (q : Cmd) (id : Nat) (l : LoadKind) (s : State) : State :=
  let data := q.bulk (q.u64 24)
  if crc32c data ≠ q.u32 20 then failLoad id l.cmd (Reply.bad 20 0x0110) s
  else match containerFault data l.verify with
    | some (d, o) => failLoad id l.cmd (verifyReply d o) s
    | none => readyJob id l.cmd data s

/-- The source of an encode has come and been coded (R179, R180): `glitches` blocks were coded twice, and block offset
`mismatch` failed twice. -/
def encodeDone (q : Cmd) (id : Nat) (l : LoadKind) (glitches : Nat) (mismatch : Option Nat) (s : State) : State :=
  let data := q.bulk (q.u64 24)
  let s := (List.range glitches).foldl (fun s _ => upset unitEncoder s) s
  if crc32c data ≠ q.u32 20 then failLoad id l.cmd (Reply.bad 20 0x0110) s
  else match mismatch with
    | some o => failLoad id l.cmd (verifyReply 0x0126 o) (upset unitEncoder s)
    | none =>
      let bytes := encodeJob (q.pblk.take 32) (encEntries q.pblk (q.u16 4)) data
      let n := pagesOf bytes.length
      if s.store.freePages + s.store.staging < n || (l.maxPages != 0 && decide (l.maxPages < n)) then failLoad id l.cmd (Reply.err .noSpace) s
      else readyJob id l.cmd bytes s

/-- Container bytes with the 64-byte lines that read as poisoned returned as zeros (Table 7-13). -/
def withLost (off : Nat) (lost : List Nat) (bs : List Byte) : List Byte :=
  (indexed bs).map fun x => if lost.contains ((off + x.1) / 64) then 0 else x.2

/-- The lines of a read that are lost: within the range, each once. -/
def lostLines (off len : Nat) (lost : List Nat) : Nat :=
  ((List.range (ceilDiv (off + len) 64)).filter fun l => decide (off / 64 ≤ l) && lost.contains l).length

/-- A read has been moved to the host (Table 7-13). -/
def readDone (q : Cmd) (lost : List Nat) (s : State) : State :=
  let off := q.u64 8
  let len := q.u64 16
  match s.job (q.u32 0) with
  | none => finish q.id (Reply.err .state 0x0102) s
  | some j =>
    let bytes := withLost off lost (slice j.bytes off len)
    finish q.id (.good (toLe 4 (crc32c bytes) ++ toLe 4 (lostLines off len lost))) (s.emit (.hostDma (upToLast (q.counted (q.u32 32))) bytes))

/-- JOB_TRANSFER_DONE (R183): the transfer of a started JOB_LOAD, JOB_ENCODE or JOB_READ finishes, or that of another command that
writes bulk data to the host (log 34). -/
def execJobTransferDone (dt ring tag glitches : Nat) (mismatch : Option Nat) (lost : List Nat) (s : State) :
    Host.Outcome State Fault Refusal :=
  let s := advance dt s
  .next (match s.flying (ring, tag) with
    | none => s
    | some e =>
      if !e.started then s
      else if let some out := e.out then endRead e.cmd.id out s
      else if 2 ≤ s.thm.level then s
      else if e.opcode = 0x0308 then readDone e.cmd lost s
      else match s.store.jobs.find? (fun j => j.load.any (·.cmd == (ring, tag))) with
        | none => s
        | some j => match j.load with
          | none => s
          | some l => if l.encode then encodeDone e.cmd j.id l glitches mismatch s else loadDone e.cmd j.id l s)

/-- Checks of JOB_READ (Table 7-13). -/
def jobReadCheck (q : Cmd) (s : State) : Option Reply :=
  let j := s.job (q.u32 0)
  firstFail (shape q 40 [(0, 4), (8, 28)] ++ dmaCheck q 24 32 none ++
    [ (j.any fun j => j.usable && decide (j.bytes.length < q.u64 8), Reply.bad 8),
      ((j.any fun j => j.usable && decide (j.bytes.length < q.u64 8 + q.u64 16)) || decide (q.listBytes (q.u32 32) < q.u64 16), Reply.bad 16),
      (j.isNone, Reply.err .state 0x0102),
      (j.any (·.st == .loading), Reply.err .state 0x0104),
      (j.any (·.st == .deleting), Reply.err .state 0x0105) ])

/-- JOB_READ (R184). -/
def jobReadEffect (q : Cmd) (s : State) : Ans := .wait (setAbortable q.id true s)

/-- JOB_READ (R184). -/
def execJobRead (q : Cmd) (s : State) : Host.Outcome State Fault Refusal := runCmd 0x0308 jobReadCheck jobReadEffect q s

/-! JOB_DELETE (R182). -/

/-- Checks of JOB_DELETE. -/
def jobDeleteCheck (q : Cmd) (s : State) : Option Reply :=
  let j := s.job (q.u32 0)
  firstFail (shape q 8 [(0, 4)] ++
    [ (j.isNone, Reply.err .state 0x0102),
      (j.any (·.st == .loading), Reply.err .state 0x0104),
      (j.any (·.st == .deleting), Reply.err .state 0x0105),
      (decide (0 < s.users (q.u32 0)), Reply.err .state 0x0103) ])

/-- JOB_DELETE (R182): DELETING from its start, until the pages have been freed. -/
def jobDeleteEffect (q : Cmd) (s : State) : Ans := .wait (s.onJob (q.u32 0) fun j => { j with st := .deleting, delete := some q.id })

/-- JOB_DELETE (R182). -/
def execJobDelete (q : Cmd) (s : State) : Host.Outcome State Fault Refusal := runCmd 0x0304 jobDeleteCheck jobDeleteEffect q s

/-- JOB_DELETE_DONE (R182). -/
def execJobDeleteDone (dt job : Nat) (s : State) : Host.Outcome State Fault Refusal :=
  let s := advance dt s
  .next (match s.job job with
    | some j => if j.st = .deleting then finishAll j.delete.toList .good (dropJob job s) else s
    | none => s)

/-! JOB_LIST, JOB_INFO, JOB_STORE_STATUS (R184, R185). -/

/-- STATE of a job (Table 7-13). -/
def JobState.code : JobState → Nat
  | .loading => 0 | .ready => 1 | .damaged => 2 | .deleting => 3

/-- Checks of JOB_LIST. -/
def jobListCheck (q : Cmd) (_s : State) : Option Reply :=
  firstFail (shape q 16 [(0, 6), (8, 8)] ++
    [ (q.u16 4 == 0 || decide ((if q.src.isSome then 44 else 1024) < q.u16 4), Reply.bad 4), (addrBad q 8, Reply.bad 8) ])

/-- A JOB_LIST entry (Table 7-14). -/
def jobEntry (s : State) (j : Job) : List Byte :=
  toLe 4 j.id ++ toLe 1 j.st.code ++ toLe 1 0 ++ toLe 2 (objCount j.bytes) ++ toLe 8 j.bytes.length ++ encT j.time
    ++ toLe 2 (s.users j.id) ++ toLe 2 0

/-- JOB_LIST (R184). -/
def jobListEffect (q : Cmd) (s : State) : Ans :=
  let got := (s.store.jobs.drop (q.u32 0)).take (q.u16 4)
  .done (.withExt (toLe 2 got.length ++ toLe 2 s.store.jobs.length) (q.u64 8) (got.flatMap (jobEntry s))) s

/-- JOB_LIST (R184). -/
def execJobList (q : Cmd) (s : State) : Host.Outcome State Fault Refusal := runCmd 0x0305 jobListCheck jobListEffect q s

/-- Checks of JOB_INFO. -/
def jobInfoCheck (q : Cmd) (s : State) : Option Reply :=
  firstFail (shape q 24 [(0, 16)] ++
    [ (q.src.isSome && decide (28 < q.u16 6), Reply.bad 6), (addrBad q 8, Reply.bad 8),
      ((s.job (q.u32 0)).isNone, Reply.err .state 0x0102) ])

/-- A JOB_INFO object entry (Table 7-15). -/
def objEntry (j : Job) (i : Nat) (e : DirEntry) : List Byte :=
  let img := e.type == 1
  slice j.bytes (0x40 + 32 * i) 32 ++ toLe 8 (if img then (ImageHeader.of (objBytes j.bytes e)).rawBytes else 0)
    ++ toLe 4 (if img then imageWorst (objBytes j.bytes e) else 0) ++ toLe 4 (j.bad.filter (·.obj == e.id)).length

/-- JOB_INFO (R184). -/
def jobInfoEffect (q : Cmd) (s : State) : Ans :=
  let j := (s.job (q.u32 0)).getD {}
  if !j.usable then .done (.good (toLe 1 j.st.code ++ toLe 7 0 ++ toLe 4 j.pages)) s
  else
    let got := ((indexed (directory j.bytes)).drop (q.u16 4)).take (q.u16 6)
    .done (.withExt (toLe 1 j.st.code ++ toLe 1 0 ++ toLe 2 (objCount j.bytes) ++ toLe 2 got.length ++ toLe 2 0 ++ toLe 4 j.pages
        ++ toLe 4 (j.bad.length + j.badMore)) (q.u64 8) (j.bytes.take 64 ++ got.flatMap fun x => objEntry j x.1 x.2)) s

/-- JOB_INFO (R184). -/
def execJobInfo (q : Cmd) (s : State) : Host.Outcome State Fault Refusal := runCmd 0x0306 jobInfoCheck jobInfoEffect q s

/-- Checks of JOB_STORE_STATUS. -/
def jobStoreStatusCheck (q : Cmd) (_s : State) : Option Reply :=
  firstFail (shape q 16 [(0, 1), (4, 12)] ++ [ (extraBits (q.u8 0) 1, Reply.bad 0), (addrBad q 8, Reply.bad 8) ])

/-- The JOB_STORE_STATUS structure (Table 7-16). -/
def storeBlock (t : Store) : List Byte :=
  toLe 8 (t.memGB * 2 ^ 30) ++ toLe 8 t.usable ++ toLe 8 0x20000000 ++ toLe 4 0x04000000 ++ toLe 4 t.jobs.length
    ++ toLe 4 t.ring ++ toLe 4 t.ledger ++ toLe 4 t.archive ++ toLe 4 t.staging ++ toLe 4 t.lowMark
    ++ toLe 2 t.retired.length ++ toLe 10 0 ++ t.retired.flatMap (toLe 4)

/-- JOB_STORE_STATUS (R185). -/
def jobStoreStatusEffect (q : Cmd) (s : State) : Ans :=
  let s := if bit (q.u8 0) 0 then checkLow (s.onStore fun t => { t with lowMark := q.u32 4, lowArmed := true }) else s
  let t := s.store
  let ext := if q.src.isNone && q.u64 8 == 0 then [] else storeBlock t
  .done (.withExt (toLe 4 t.totalPages ++ toLe 4 t.freePages ++ toLe 4 t.jobPages ++ toLe 2 t.retired.length ++ toLe 2 t.spares)
    (q.u64 8) ext) s

/-- JOB_STORE_STATUS (R185). -/
def execJobStoreStatus (q : Cmd) (s : State) : Host.Outcome State Fault Refusal :=
  runCmd 0x0307 jobStoreStatusCheck jobStoreStatusEffect q s

end Sys2Proof.Machine
end

