-- ==== Sys2Proof/Machine/Pixel.lean ====
section
/-!
DEFINITION. From an image to eight ink bytes: repeat addressing (spec/07_image_store_and_codec.md, R175), scaling,
conversion, blending, the guard, the ink limit, the curves (spec/08_composition_and_colour.md, R193 to R205).
-/
namespace Sys2Proof.Machine

/-! Repeat addressing (R174, R175). -/

/-- The tile pixel of a layer pixel, none for an outside one (R175). -/
def tilePixel (r : Repeat) (w h : Nat) (X Y : Int) : Option (Nat × Nat) :=
  if w = 0 ∨ h = 0 then none
  else
    let x := X - r.originX
    let y := Y - r.originY
    if r.geometry = 0 ∧ (x < 0 ∨ (w : Int) ≤ x ∨ y < 0 ∨ (h : Int) ≤ y) then none
    else
      let i := x.fdiv w
      let y := if r.geometry = 2 then y - i % 2 * r.shift else y
      let j := y.fdiv h
      let x := if r.geometry = 3 then x - j % 2 * r.shift else x
      let i := if r.geometry = 3 then x.fdiv w else i
      let sx := (x - i * w).toNat
      let sy := (y - j * h).toNat
      some (if r.mirrorX && i % 2 == 1 then w - 1 - sx else sx, if r.mirrorY && j % 2 == 1 then h - 1 - sy else sy)

/-! Filter coefficients (R194). -/

/-- The value n / 10 as the nearest binary64 number's exact source: a small rational. -/
def ratio (n : Int) (d : Int) : B64 := (B64.ofInt n).div (B64.ofInt d)

/-- The kernel at distance d with axis step s (R194). -/
def filterKernel (d s : B64) : B64 :=
  let a := d.abs
  let one := B64.ofInt 1
  let a2 := a.mul a
  let a3 := a2.mul a
  if s.le one then
    if a.le one then (((ratio 3 2).mul a3).sub ((ratio 5 2).mul a2)).add one
    else if a.lt (B64.ofInt 2) then
      (((((ratio (-1) 2).mul a3).add ((ratio 5 2).mul a2)).sub ((B64.ofInt 4).mul a))).add (B64.ofInt 2)
    else {}
  else ({} : B64).max (one.sub (a.div s))

/-- Taps of a smooth axis (R194). -/
def tapCount (step : Nat) : Nat := if step ≤ 0x20000 then 4 else 8

/-- The first tap of n. -/
def firstTap (n : Nat) : Int := if n = 4 then -1 else -3

/-- The coefficients of one phase (R194), Q1.14. -/
def phaseCoefs (step p : Nat) : List Int :=
  let n := tapCount step
  let s := B64.ofFix step 16
  let f := B64.ofFix p 6
  let w := (List.range n).map fun (i : Nat) => filterKernel ((B64.ofInt (firstTap n + (i : Int))).sub f) s
  let sum := B64.sum w
  let c := w.map fun x => ((((B64.ofInt 16384).mul x).div sum).add (ratio 1 2)).floor
  let centre := ((if p < 32 then 0 else 1) - firstTap n).toNat
  c.modify centre fun x => x + 16384 - c.sum

/-- The 64-phase table of an axis (R194). -/
def coefTable (step : Nat) : List (List Int) := (List.range 64).map (phaseCoefs step)

/-! Samples of an image. -/

/-- An image as the fetchers see it. -/
structure Img where
  h : ImageHeader := {}
  obj : List Byte := []
  /-- its blocks in the bad-block list -/
  bad : List Nat := []

/-- The format has an alpha channel (Table 7-7). -/
def ImageHeader.hasAlpha (h : ImageHeader) : Bool := [2, 4, 6, 7].contains h.format

/-- The samples of a tile pixel as stored, and whether its block is bad (R177). -/
def Img.pixel (m : Img) (sx sy : Nat) : List Nat × Bool :=
  let n := sy / 4 * m.h.blocksX + sx / 256
  let zeros := List.replicate m.h.channels 0
  if m.bad.contains n then (zeros, true)
  else match decodeBlock m.h n (objBlock m.obj n) with
    | none => (zeros, true)
    | some raw =>
      let at_ := (sy % 4 * (m.h.blockSize n).1 + sx % 256) * m.h.pixelBytes
      (numbers (m.h.depth / 8) (slice raw at_ m.h.pixelBytes), false)

/-- A sample widened to 16 bits (R197). -/
def widen (depth v : Nat) : Nat := if depth = 8 then 257 * v else v

/-- The samples of a pixel, widened but for an index, with its alpha last (R195, R197). -/
def Img.samples (m : Img) (px : List Nat) : List Nat :=
  let wide := (indexed px).map fun x => if m.h.format ≤ 2 ∧ x.1 = 0 then x.2 else widen m.h.depth x.2
  if m.h.hasAlpha then wide else wide ++ [65535]

/-- The samples at a tap position (R195): an outside tap of a SINGLE layer takes the nearest inside pixel with alpha 0. -/
def Img.tap (m : Img) (r : Repeat) (X Y : Int) : List Nat × Bool :=
  match tilePixel r m.h.width m.h.height X Y with
  | some (sx, sy) =>
    let (px, bad) := m.pixel sx sy
    (m.samples px, bad)
  | none =>
    let sx := (clampI (X - r.originX) 0 ((m.h.width : Int) - 1)).toNat
    let sy := (clampI (Y - r.originY) 0 ((m.h.height : Int) - 1)).toNat
    let (px, bad) := m.pixel sx sy
    ((m.samples px).dropLast ++ [0], bad)

/-- Whole part and phase of a source position (R195). -/
def phaseSplit (x : Int) : Int × Nat :=
  let p := ((x % 65536 + 512) / 1024).toNat
  if p = 64 then (sar x 16 + 1, 0) else (sar x 16, p)

/-- A weighted sum in Q1.14, rounded and clamped to 16 bits (R195). -/
def weigh (cs : List Int) (vs : List Nat) : Nat :=
  (clampI (sar (((cs.zip vs).map fun x => x.1 * (x.2 : Int)).sum + 8192) 14) 0 65535).toNat

/-- The samples of a smooth layer at a source position (R195). -/
def Img.smooth (m : Img) (c : LayerCfg) (x y : Int) : List Nat × Bool :=
  let (X, px) := phaseSplit x
  let (Y, py) := phaseSplit y
  let cx := c.coefX.getD px []
  let cy := c.coefY.getD py []
  let n := if m.h.hasAlpha then m.h.channels else m.h.channels + 1
  let cols := (List.range cx.length).map fun (i : Nat) =>
    let taps := (List.range cy.length).map fun (j : Nat) => m.tap c.rep (X + firstTap cx.length + (i : Int)) (Y + firstTap cy.length + (j : Int))
    ((List.range n).map fun k => weigh cy (taps.map fun t => t.1.getD k 0), taps.any (·.2))
  ((List.range n).map fun k => weigh cx (cols.map fun t => t.1.getD k 0), cols.any (·.2))

/-! Conversion to ink coverage (R197 to R199). -/

/-- A curve of 257 points (R198). -/
def curve257 (p : List Nat) (v : Nat) : Nat :=
  let t := v * 65536 / 65535
  let i := min (t / 256) 255
  let f := t - 256 * i
  (p.getD i 0 * (256 - f) + p.getD (i + 1) 0 * f + 128) / 256

/-- Axes in falling order of their fraction, ties in the order L, a, b (R198): insertion of one. -/
def insertAxis (x : Nat × Nat) : List (Nat × Nat) → List (Nat × Nat)
  | [] => [x]
  | y :: r => if y.2 < x.2 then x :: y :: r else y :: insertAxis x r

/-- Tetrahedral interpolation in the cube (R198). -/
def cubeAt (nodes : List (List Nat)) (vs : List Nat) : List Nat :=
  let ts := vs.map fun v => v * 65536 / 65535
  let is := ts.map fun t => min (t / 2048) 31
  let fs := (ts.zip is).map fun x => x.1 - 2048 * x.2
  let qs := (indexed fs).foldl (fun acc x => insertAxis x acc) []
  let unit (q : Nat) : Nat := if q = 0 then 33 * 33 else if q = 1 then 33 else 1
  let n0 := is.getD 0 0 * 33 * 33 + is.getD 1 0 * 33 + is.getD 2 0
  let q (i : Nat) : Nat × Nat := qs.getD i (0, 0)
  let n1 := n0 + unit (q 0).1
  let n2 := n1 + unit (q 1).1
  let n3 := n0 + unit 0 + unit 1 + unit 2
  let node (n c : Nat) : Nat := (nodes.getD n []).getD c 0
  (List.range 8).map fun c =>
    ((2048 - (q 0).2) * node n0 c + ((q 0).2 - (q 1).2) * node n1 c + ((q 1).2 - (q 2).2) * node n2 c + (q 2).2 * node n3 c + 1024)
      / 2048

/-- A layer's result for a pixel (R198). -/
structure Px where
  cov : List Nat := List.replicate 8 0
  alpha : Nat := 0
  bad : Bool := false
deriving DecidableEq, Repr, Inhabited

/-- A palette entry with an alpha: the transparent index and those not below COUNT have alpha 0 (R198). -/
def Palette.px (p : Palette) (i alpha : Nat) : Px :=
  if p.transparent == some i || decide (p.entries.length ≤ i) then {} else { cov := p.entries.getD i [], alpha }

/-- Samples of an ink image placed on the inks of INK_MASK. -/
def inksOf (mask : Nat) (vs : List Nat) : List Nat :=
  (List.range 8).map fun c => if bit mask c then vs.getD (popCount c mask) 0 else 0

/-- The coverages and alpha of samples, alpha last (R198). -/
def convert (cps : Compose) (c : LayerCfg) (m : Img) (vs : List Nat) : Px :=
  let alpha := vs.getLast?.getD 0
  let pal := cps.palettes.getD c.palette {}
  match m.h.format with
  | 1 => pal.px (vs.getD 0 0) alpha
  | 2 => pal.px (vs.getD 0 0) alpha
  | 7 => pal.px c.recipe alpha
  | 5 => { cov := inksOf m.h.inkMask vs, alpha }
  | 6 => { cov := inksOf m.h.inkMask vs, alpha }
  | _ =>
    match cps.transforms.getD c.transform none with
    | some t => { cov := cubeAt t.cube ((List.range 3).map fun i => curve257 (t.tone.getD i []) (vs.getD i 0)), alpha }
    | none => {}

/-- The image that a configuration names. -/
def State.imgOf (s : State) (job obj : Nat) : Option Img :=
  match s.job job with
  | none => none
  | some j => match (directory j.bytes).find? fun e => e.id == obj && e.type == 1 with
    | none => none
    | some e =>
      let o := objBytes j.bytes e
      some { h := ImageHeader.of o, obj := o, bad := (j.bad.filter (·.obj == obj)).map (·.block) }

/-- A source position in Q16.16 source pixels along an axis (R193). DEDUCED (log 125): the product keeps its low 64 bits, signed,
before the arithmetic shift. -/
def srcPos (n : Nat) (dest : Int) (step : Nat) : Int := sar (wrapS 64 (((n : Int) * 65536 - dest) * step)) 16

/-- The source position of a contone pixel (R193). -/
def LayerCfg.srcX (c : LayerCfg) (u : Nat) : Int := srcPos u c.destX c.stepX

/-- The source position of a contone line of the frame, or with CONTINUOUS of the run (R193). -/
def LayerCfg.srcY (c : LayerCfg) (v cl : Nat) : Int := srcPos (if c.continuous then cl else v) c.destY c.stepY

/-- The whole source pixel nearest to a position (R195). -/
def nearestPx (x : Int) : Int := sar (x + 0x8000) 16

/-- SMOOTH in force: not for INDEX and INDEXA (R194). -/
def LayerCfg.isSmooth (c : LayerCfg) : Bool := c.smooth && decide (2 < c.format)

/-- A layer's result at a contone pixel (R193 to R198); v is its line in the frame and cl in the run. An image that
is no longer there reads as bad. -/
def layerPx (s : State) (c : LayerCfg) (img : Option Img) (u v cl : Nat) : Px :=
  if !(decide (c.clip0 ≤ u) && decide (u < c.clip1)) then {}
  else if c.source = 2 then (s.cps.palettes.getD c.palette {}).px c.recipe 65535
  else if c.source = 0 then {}
  else
    let x := c.srcX u
    let y := c.srcY v cl
    match img with
    | none => { bad := true }
    | some m =>
      if c.isSmooth then
        let (vs, bad) := m.smooth c x y
        { convert s.cps c m vs with bad }
      else match tilePixel c.rep m.h.width m.h.height (nearestPx x) (nearestPx y) with
        | none => {}
        | some (sx, sy) =>
          let (px, bad) := m.pixel sx sy
          { convert s.cps c m (m.samples px) with bad }

/-! Blending (R200 to R205). -/

/-- One layer over the inks so far, native (R200). -/
def blendNative (c : LayerCfg) (p : Px) (dst : List Nat) : List Nat :=
  let a := (p.alpha * c.opacity + 32767) / 65535
  (indexed dst).map fun x => if bit c.writeMask x.1 then (p.cov.getD x.1 0 * a + x.2 * (65535 - a) + 32767) / 65535 else x.2

/-- One layer over the inks so far in 8 bits, Bilette order (R201). -/
def blendBilette (c : LayerCfg) (p : Px) (d8 : List Nat) : List Nat :=
  let a := (p.alpha * c.opacity + 32767) / 65535 / 256
  (indexed d8).map fun x => if bit c.writeMask x.1 then (p.cov.getD x.1 0 / 256 * a + x.2 * (255 - a)) / 256 else x.2

/-- The ink limit (R204): whether the pixel was limited, and the inks. -/
def limitInks (l : InkLimit) (dst : List Nat) : Bool × List Nat :=
  let sum := ((indexed dst).map fun x => if bit l.mask x.1 then x.2 else 0).sum
  if l.limit = 0 ∨ sum ≤ l.limit then (false, dst)
  else (true, (indexed dst).map fun x => if bit l.mask x.1 then x.2 * l.limit / sum else x.2)

/-- Curves and rounding to 8 bits (R205). -/
def finishInks (k : Curves) (dst : List Nat) : List Nat :=
  (indexed dst).map fun x => ((if bit k.enable x.1 then curve257 (k.curves.getD x.1 []) x.2 else x.2) + 128) / 257

/-- What a composed pixel counts. -/
structure PxCount where
  poisoned : Nat := 0
  blanked : Nat := 0
  limited : Nat := 0
deriving DecidableEq, Repr, Inhabited

/-- Layers of a frame to apply, bottom first, with their images (R191, R200, R201, R210): in Bilette order by index. -/
def Frame.stack (f : Frame) : List (Nat × FrameLayer) :=
  let order := if f.order.mode = 1 then (List.range 7).filter fun i => f.order.list.contains i else f.order.list
  (order.map fun i => (i, f.layers.getD i {})).filter fun x => x.2.cfg.source != 0 && !x.2.transparent && !x.2.lost

/-- A pixel of a frame (R200 to R205) from its layers' results, bottom first, and the guard's; `blank` is a guard that has
lost its width there (R196). A poisoned guard leaves eight inks of 0, to which the limit and the curves still apply (R203). -/
def blendPixel (f : Frame) (ps : List (LayerCfg × Px)) (guard : Option (LayerCfg × Px)) (blank : Bool) : List Nat × PxCount :=
  let poisoned := (ps.filter (·.2.bad)).length
  let zero := List.replicate 8 0
  let good := ps.filter fun x => !x.2.bad
  let dst := if f.order.mode = 1 then (good.foldl (fun d x => blendBilette x.1 x.2 d) zero).map (257 * ·)
    else good.foldl (fun d x => blendNative x.1 x.2 d) zero
  let bad := blank || (match guard with
    | some g => g.2.bad
    | none => false)
  let dst := if bad then zero else match guard with
    | some g => blendNative g.1 g.2 dst
    | none => dst
  let (lim, dst) := limitInks f.limit dst
  (finishInks f.curves dst, { poisoned, blanked := b2n bad, limited := b2n lim })

/-- Whether a layer would have composed a pixel (R196): within its clip, and an inside pixel. -/
def LayerCfg.covers (c : LayerCfg) (img : Option Img) (u v cl : Nat) : Bool :=
  decide (c.clip0 ≤ u) && decide (u < c.clip1) && (c.source != 1 || (match img with
    | some m => (tilePixel c.rep m.h.width m.h.height (nearestPx (c.srcX u)) (nearestPx (c.srcY v cl))).isSome
    | none => true))

/-- A contone line of a frame over columns U0 to U1 - 1: eight planes of bytes, and what its pixels count (R212). -/
def composeLine (s : State) (f : Frame) (cl u0 u1 : Nat) : List (List Byte) × PxCount :=
  if f.stopped then (List.replicate 8 (List.replicate (u1 - u0) 0), {})
  else
    let v := cl - f.firstCl
    let stack := f.stack.map fun x => (x.2.cfg, s.imgOf x.2.cfg.job x.2.cfg.obj)
    let g := f.layers.getD 7 {}
    let gimg := s.imgOf g.cfg.job g.cfg.obj
    let on := g.cfg.source != 0
    let px := (List.range (u1 - u0)).map fun i =>
      let u := u0 + i
      blendPixel f (stack.map fun x => (x.1, layerPx s x.1 x.2 u v cl))
        (if on && !g.lost then some (g.cfg, layerPx s g.cfg gimg u v cl) else none)
        (on && g.lost && g.cfg.covers gimg u v cl)
    ((List.range 8).map fun c => px.map fun p => BitVec.ofNat 8 (p.1.getD c 0),
      { poisoned := (px.map (·.2.poisoned)).sum, blanked := (px.map (·.2.blanked)).sum, limited := (px.map (·.2.limited)).sum })

end Sys2Proof.Machine
end

