-- ==== Sys2Proof/Machine/Mir.lean ====
section
/-!
DEFINITION. Module identity records (spec/17_bring_up_and_discovery.md, R438, Tables 17-5 and 17-6).
-/
namespace Sys2Proof.Machine

/-- Tag entries of a record: tags with their values, and whether an entry overruns. -/
def mirEntries : Nat → List Byte → List (Nat × List Byte) × Bool
  | 0, _ => ([], false)
  | n + 1, bs =>
    if bs.isEmpty then ([], false)
    else if bs.length < 4 then ([], true)
    else
      let len := rd bs 2 2
      let step := 4 + 4 * ceilDiv len 4
      if bs.length < step then ([], true)
      else
        let (r, beyond) := mirEntries n (bs.drop step)
        ((rd bs 0 2, slice bs 4 len) :: r, beyond)

/-- The entries of a record between header and CRC. -/
def mirTags (bs : List Byte) : List (Nat × List Byte) × Bool :=
  let len := rd bs 8 4
  mirEntries len ((bs.take (len - 4)).drop 0x18)

/-- The value of a tag, empty when absent. -/
def mirTag (tag : Nat) (bs : List Byte) : List Byte := (getKey tag (mirTags bs).1).getD []

/-- The record holds a tag. -/
def mirHas (tag : Nat) (bs : List Byte) : Bool := (mirTags bs).1.any (·.1 == tag)

/-- Defined value lengths (Table 17-6). -/
def mirMin : Nat → Nat
  | 0x0101 => 4 | 0x0102 => 4 | 0x0103 => 8 | 0x0104 => 4 | 0x0201 => 1 | 0x0202 => 6
  | 0x0301 => 8 | 0x0302 => 8 | 0x0401 => 4 | 0x0501 => 4 | _ => 0

/-- Tags required of a TYPE (Table 17-6). -/
def mirRequired : Nat → List Nat
  | 1 => [0x0101, 0x0102, 0x0103] | 2 => [0x0201] | 3 => [0x0301] | 4 => [0x0401] | 5 => [0x0501] | _ => []

/-- The keys by which an entry may not appear twice: 0x0104 counts once for each ROW. -/
def mirKey (e : Nat × List Byte) : Nat := if e.1 = 0x0104 then 0x0104 + 65536 * (1 + rd e.2 0 1) else e.1

/-- No element appears twice. -/
def allDistinct : List Nat → Bool
  | [] => true
  | x :: xs => !xs.contains x && allDistinct xs

/-- A record as read (R438): 0 good, 1 bad, 2 incomplete. -/
def mirState (bs : List Byte) : Nat :=
  let len := rd bs 8 4
  let (tags, beyond) := mirTags bs
  if rd bs 0 4 ≠ 0x52494D4C || rd bs 4 2 ≠ 1 || len < 32 || 524288 < len || bs.length < len || rd bs 0x10 8 = 0 || beyond
      || crc32c (bs.take (len - 4)) ≠ rd bs (len - 4) 4
      || tags.any (fun e => decide (e.2.length < mirMin e.1))
      || !allDistinct (tags.map mirKey) then 1
  else if (mirRequired (rd bs 6 1)).all fun t => tags.any (·.1 == t) then 0
  else 2

/-- UID of a record. -/
def mirUid (bs : List Byte) : Nat := rd bs 0x10 8

/-- F_min of a head in units of 2^-32 s (10 R273). -/
def HeadCtx.fMin (c : HeadCtx) : Int := nsT (rd (mirTag 0x0102 c.mir) 0 4)

/-- F_min of a head in ns, 0 where no record is held. -/
def HeadCtx.fMinNs (c : HeadCtx) : Nat := rd (mirTag 0x0102 c.mir) 0 4

/-- Warning level, shut-down level and hysteresis of a head, 1/16 degree C (14 R375); none where no record is held. -/
def HeadCtx.levels (c : HeadCtx) : Option (Int × Int × Int) :=
  if mirHas 0x0103 c.mir then
    let v := mirTag 0x0103 c.mir
    some (rdS v 0 2, rdS v 2 2, rdS v 4 2)
  else none

end Sys2Proof.Machine
end

