-- ==== Sys2Proof/Machine/Ceiling.lean ====
section
/-!
DEFINITION. The press line-rate ceiling and SPEED_LIMIT_N (spec/01_print_model.md R23), with the state of lanes, heads and rows that it
rests on.
-/
namespace Sys2Proof.Machine

/-! Lanes (spec/11_course_links_and_queues.md R283, R287, R289, R316). -/

/-- A lane serves its course: configured, not pinned by a retirement until a LINK_TRAIN after its restoring (R316), not in PRBS. -/
def laneUsable (n : Nat) (s : State) : Bool :=
  bit (s.course (linkOf n)).run.lanes (n % 2) && !(s.lane n).pinned && (s.lane n).prbs.isNone

/-- RX_OK of a lane (R289): in block lock and deskewed, and never while it is pinned (R316). -/
def rxOkLane (n : Nat) (s : State) : Bool :=
  (s.lane n).lock && (s.lane n).deskewed && !(s.lane n).pinned && (s.lane n).prbs.isNone

/-- Lanes of a course that are up, as LANES. -/
def lanesUp (l : Nat) (s : State) : Nat :=
  b2n (rxOkLane (2 * l) s && laneUsable (2 * l) s) + 2 * b2n (rxOkLane (2 * l + 1) s && laneUsable (2 * l + 1) s)

/-! Bars, heads and rows. -/

/-- A bar. -/
def State.bar (s : State) (b : Nat) : Bar := s.bars.bars.getD b {}
/-- Change one bar. -/
def State.onBar (b : Nat) (f : Bar → Bar) (s : State) : State := s.onBars fun x => { x with bars := upd b f x.bars }
/-- A head context. -/
def State.ctx (s : State) (h : Nat) : HeadCtx := s.bars.ctxs.getD h {}
/-- Change one head context. -/
def State.onCtx (h : Nat) (f : HeadCtx → HeadCtx) (s : State) : State := s.onBars fun x => { x with ctxs := upd h f x.ctxs }
/-- A head place of a bar. -/
def Bar.place (b : Bar) (h : Nat) : Head := b.heads.getD h {}
/-- The heads placed on a bar, by number. -/
def Bar.placed (b : Bar) : List Nat := (List.range 32).filter fun h => (b.place h).ctx.isSome
/-- A bar's configuration, the defaults while it is unconfigured. -/
def Bar.conf (b : Bar) : BarCfg := b.cfg.getD {}

/-- The committed segments of a row. -/
def Bar.rowSegs (b : Bar) (h row : Nat) : List Seg :=
  if b.committed then b.segs.filter fun g => g.valid && g.head == h && g.row == row && decide (0 < g.nozzles) else []

/-- The rows of a head that fire run line n: their PHASE matches and they hold a nozzle of a committed
segment (09 R226, R236). -/
def Bar.firingRows (b : Bar) (h n : Nat) : List Nat :=
  (List.range (b.place h).rows.length).filter fun r =>
    ((b.place h).rows.getD r {}).phase == n % max 1 b.conf.interleave && !(b.rowSegs h r).isEmpty

/-- A head prints: placed, enabled, not retired, not halted (09 R232, R245, 10 R278). -/
def State.headPrints (s : State) (b h : Nat) : Bool :=
  match ((s.bar b).place h).ctx with
  | some c => (s.ctx c).enabled && !(s.ctx c).retired && (s.ctx c).halted.isNone
  | none => false

/-- +1 for a forward run, -1 for a reverse one (10 R254). -/
def Run.sgn (r : Run) : Int := if r.reverse then -1 else 1

/-- Change the armed run. -/
def State.onRun (f : Run → Run) (s : State) : State := s.onFire fun x => { x with run := x.run.map f }

/-- The web channel. -/
def State.webChan (s : State) : Option Channel := s.pos.web.map s.chan

/-! The press line-rate ceiling and SPEED_LIMIT_N (01 R23). -/

/-- Bytes of raw row data that one line of a bar carries in a phase (01 R23, 09 R236). -/
def State.phaseBytes (s : State) (n phase : Nat) : Nat :=
  let b := s.bar n
  ((b.placed.filter fun h => s.headPrints n h).map fun h => ((b.firingRows h phase).map fun r =>
    4 * ceilDiv (((b.place h).rows.getD r {}).nozzles * b.conf.bits) 32).sum).sum

/-- B: the largest over the interleave phases. -/
def State.lineBytes (s : State) (n : Nat) : Nat := (((List.range (max 1 (s.bar n).conf.interleave)).map (s.phaseBytes n)).max?).getD 0

/-- A course runs on one lane: it is up, and its stream goes in solo, or a lane of it is lost and the change to solo waits for the
next marker (11 R288, R289, R309, R316). -/
def State.onOneLane (s : State) (l : Nat) : Bool := (s.course l).up && (!(s.course l).duo || lanesUp l s == 1 || lanesUp l s == 2)

/-- Terms of the ceiling for one bar in print, lines/s, as numerator and denominator. Only the lane's term is rounded down (R23). -/
def State.barCeilings (s : State) (n : Nat) : List (Nat × Nat) :=
  let b := s.bar n
  let heads := b.placed.filterMap fun h => match (b.place h).ctx with
    | some c =>
      let f := (s.ctx c).fMinNs
      if s.headPrints n h && 0 < f then some (b.conf.interleave * 1000000000, f) else none
    | none => none
  let lane := if s.onOneLane n && 0 < s.lineBytes n then [(110000 * 24576 / s.lineBytes n, 1)] else []
  heads ++ lane

/-- The lower of two rates. -/
def lowerRate (a b : Nat × Nat) : Nat × Nat := if b.1 * a.2 < a.1 * b.2 then b else a

/-- The press line-rate ceiling over the bars given (R23), as a fraction of lines/s. -/
def State.ceilingRate (s : State) (bars : List Nat) : Nat × Nat := (bars.flatMap s.barCeilings).foldl lowerRate (125000, 1)

/-- The press line-rate ceiling in whole lines/s, as it is reported. -/
def State.ceiling (s : State) (bars : List Nat) : Nat := (s.ceilingRate bars).1 / (s.ceilingRate bars).2

/-- The bars of the run that are enabled. -/
def State.runBars (s : State) (r : Run) : List Nat := (List.range 10).filter fun b => bit r.bars b && (s.bar b).enabled

/-- Drive SPEED_LIMIT_N (R23, R273): time asserted counts in SPEED_LIMIT_US. It stands asserted at a throttle level (14 R370). -/
def setLimit (on : Bool) (ceiling : Nat) (s : State) : State :=
  let on := on || decide (1 ≤ s.thm.level)
  if s.board.speedLimit == on then s
  else
    let s := if on then s else bumpTime (ctr 7 0 3) s.fire.limitSince s
    let s := (s.onBoard fun b => { b with speedLimit := on }).onFire fun f => { f with limitSince := if on then some s.tb1 else none }
    post evSpeedLimit unitFir (b2n on) ceiling (s.emit (.pin .speedLimitN (!on)))

/-- Speed of the web channel in the run direction, 2^-32 frets/s; 0 while it is invalid, stalled or against the run. -/
def State.runSpeed (s : State) : Nat :=
  match s.fire.run, s.webChan with
  | some r, some c => if c.speedValid && !c.stalled then (max 0 (r.sgn * c.speed)).toNat else 0
  | _, _ => 0

/-- Compute the ceiling anew and compare the estimated line rate with it (R23): assert at 97 %, release below 95 %. -/
def checkLimit (s : State) : State :=
  match s.fire.run with
  | some r =>
    let (num, den) := s.ceilingRate (s.runBars r)
    let ceiling := s.ceiling (s.runBars r)
    let rate := 100 * s.runSpeed * den
    let unit := num * r.pitch * 2 ^ 32
    let s := s.onRun fun r => { r with ceiling }
    if 97 * unit ≤ rate then setLimit true ceiling s
    else if rate < 95 * unit then setLimit false ceiling s else s
  | none => setLimit false 125000 s

end Sys2Proof.Machine
end

