-- ==== Sys2Proof/Machine/Slot.lean ====
section
/-!
DEFINITION. Fetching and checking a slot on both transports (spec/03_command_interface.md, R53 to R78,
Table 3-16 checks 1 to 6) and the authentication counters (spec/04_security_and_debug.md, R94, R108).
The table of what each opcode does is an argument, given in Machine/Commands.lean.
-/
namespace Sys2Proof.Machine

/-- What an opcode checks and does. -/
abbrev OpTable := Nat → (Cmd → State → Option Reply) × (Cmd → State → Ans)

/-- Fields of a slot (Table 3-9). -/
structure SlotView where
  version : Nat
  flags : Nat
  opcode : Nat
  tag : Nat
  length : Nat
  seq : Nat
  pblkLen : Nat
  pblkAddr : Nat
  pblkCrc : Nat
  auth : Bool
  counter : Nat
  mac : List Nat

/-- A slot's fields. -/
def viewSlot (b : List Byte) : SlotView :=
  { version := rd b 0 1, flags := rd b 1 1, opcode := rd b 2 2, tag := rd b 4 2, length := rd b 6 2, seq := rd b 8 4
    pblkLen := rd b 0x0C 4, pblkAddr := rd b 0x10 8, pblkCrc := rd b 0x18 4, auth := bit (rd b 1 1) 0
    counter := rd b 0x68 8, mac := nats (slice b 0x70 16) }

/-- Reserved bits of the header and the bytes after the inline parameters are 0 (R7, R55, R56); the flags
and the header name no field, the parameter area names WHERE 1. -/
def reservedCheck (b : List Byte) (v : SlotView) : Option Reply :=
  let stop := if v.auth then 0x68 else 0x80
  let bad := (List.range (stop - (0x20 + v.length))).find? fun i => b.getD (0x20 + v.length + i) 0 != 0
  if extraBits v.flags 7 || rd b 0x1C 4 != 0 then some (Reply.err .badParam)
  else bad.map fun i => Reply.bad (v.length + i)

/-- The message that the tag covers (Table 3-15). -/
def macMessage (b : List Byte) (ring role : Nat) (pblk : List Byte) : List Nat :=
  nats (slice b 0 0x68 ++ slice b 0x68 8 ++ toLe 1 ring ++ toLe 1 role ++ toLe 6 0 ++ pblk)

/-- The tag of a slot is the one the ring's role key gives (R68). -/
def tagValid (b : List Byte) (ring : Nat) (pblk : List Byte) (s : State) : Bool :=
  let role := (s.ring ring).role
  match s.roleKey role with
  | some k => cmac (keyBytes k) (macMessage b ring role pblk) == (viewSlot b).mac
  | none => false

/-- The counter of a ring and role. -/
def State.counter (s : State) (ring role : Nat) : Counter := s.sec.counters.getD (4 * ring + role) {}

/-- Change the counter of a ring and role. -/
def State.onCounter (ring role : Nat) (f : Counter → Counter) (s : State) : State :=
  s.onSec fun c => { c with counters := upd (4 * ring + role) f c.counters }

/-- Queue a write of the journal (R94). -/
def journal (j : JournalItem) (s : State) : State := s.onNor fun n => { n with queue := n.queue ++ [j] }

/-- A counter c is accepted (R94): whether the slot is held for a reservation, and the state. -/
def acceptCounter (ring role c : Nat) (s : State) : Bool × State :=
  let k := s.counter ring role
  if k.mark ≤ c then
    (true, journal (.counter ring role (c + 65536) true) (s.onCounter ring role fun k => { k with pending := true }))
  else
    let s := s.onCounter ring role fun k => { k with last := c }
    if k.mark ≤ c + 32768 && !k.pending then
      (false, journal (.counter ring role (c + 65536) false) (s.onCounter ring role fun k => { k with pending := true }))
    else (false, s)

/-- EV_AUTH_REJECT, at most once a second a ring, with the rejections since the last (R108). -/
def authReject (ring : Nat) (replay : Bool) (s : State) : State :=
  let s := s.onRing ring fun r =>
    if replay then { r with rejReplay := min 65535 (r.rejReplay + 1) } else { r with rejAuth := min 65535 (r.rejAuth + 1) }
  let r := s.ring ring
  match s.stat.rates.find? (fun x => x.code == evAuthReject && x.unit == unitRing ring) with
  | some x =>
    if within s x.since 1 1 then s
    else
      let s := post evAuthReject (unitRing ring) ring (r.rejAuth + 65536 * r.rejReplay) s
      (s.onStat fun t => { t with rates := t.rates.map fun x => if x.code == evAuthReject && x.unit == unitRing ring then { x with since := s.tb1 } else x }).onRing ring
        fun r => { r with rejAuth := 0, rejReplay := 0 }
  | none =>
    let s := post evAuthReject (unitRing ring) ring (r.rejAuth + 65536 * r.rejReplay) s
    (s.onStat fun t => { t with rates := { code := evAuthReject, unit := unitRing ring, since := s.tb1, count := 0 : Rate } :: t.rates }).onRing ring
      fun r => { r with rejAuth := 0, rejReplay := 0 }

/-- Check 6 for a slot with its parameter block: a status, or whether the slot is now held. -/
def authenticate (b : List Byte) (ring : Nat) (pblk : List Byte) (mustAuth : Bool) (s : State) : Except Reply Bool × State :=
  let v := viewSlot b
  let role := (s.ring ring).role
  let k := s.counter ring role
  if !v.auth then
    if mustAuth || (s.sec.prot.rings.getD ring {}).authRequired then (.error (Reply.err .authFail), authReject ring false s)
    else (.ok false, s)
  else if !tagValid b ring pblk s then (.error (Reply.err .authFail), authReject ring false s)
  else if k.last < v.counter && v.counter < 0xFFFFFFFFFFFFFFFF then
    let (held, s) := acceptCounter ring role v.counter s
    (.ok held, s)
  else (.error (Reply.err .replay), authReject ring true s)

/-- Checks 7 onward for a slot that has passed 1 to 6, with the reserved bytes of the slot among check 10. -/
def launchSlot (tab : OpTable) (op : Nat) (pre : Option Reply) (q : Cmd) (s : State) : State :=
  match pre with
  | none => launch op (tab op).1 (tab op).2 q s
  | some r =>
    let s := s.onHif fun h => { h with inflight := h.inflight ++ [{ cmd := q, opcode := op }] }
    match gateCheck op q s with
    | some g => deliver q.id g s
    | none => deliver q.id r s

/-- Checks 2 to 5 of Table 3-16. On Ethernet PBLK_LEN equals DLEN, which is at most 1,328, and PBLK_ADDR is 0 (R76). -/
def slotChecks (b : List Byte) (ring : Nat) (pblk : List Byte) (eth : Bool) (s : State) : Option Reply :=
  let v := viewSlot b
  let agreed := if v.opcode = 0x0102 then decide (1 ≤ v.version) && decide (v.version ≤ 0x0F) else v.version == (s.ring ring).agreed
  firstFail
    [ (!agreed, { status := .version, detail := 0x0004, aux := 0x22 }),
      (decide ((if v.auth then 72 else 96) < v.length) || decide (1048576 < v.pblkLen) || (eth && (v.pblkLen != pblk.length || decide (1328 < pblk.length))), Reply.err .badLength),
      ((s.flying (ring, v.tag)).isSome, Reply.err .badParam 0x0002),
      (decide (v.pblkLen ≠ 0) && (if eth then v.pblkAddr != 0 else v.pblkAddr % 64 != 0), Reply.err .badParam 0x0007),
      (decide (v.pblkLen = 0) && (v.pblkAddr != 0 || v.pblkCrc != 0), Reply.err .badParam 0x0007),
      (decide (v.pblkLen ≠ 0) && crc32c pblk != v.pblkCrc, Reply.err .badParam 0x0003) ]

/-- The command of a slot. -/
def slotCmd (b : List Byte) (ring : Nat) (pblk : List Byte) (descs : List Desc) (data : List Byte) (src : Option EthFrom) : Cmd :=
  let v := viewSlot b
  { ring, tag := v.tag, seq := v.seq, flags := v.flags, params := slice b 0x20 v.length, pblk, descs, data
    counter := if v.auth then v.counter else 0, src }

/-- A slot is held until the reservation of its counter is in the journal; it is in flight meanwhile (02 R33, 04 R94). -/
def park (b : List Byte) (ring : Nat) (q : Cmd) (s : State) : State :=
  let v := viewSlot b
  (s.onHif fun h => { h with inflight := h.inflight ++ [{ cmd := q, opcode := v.opcode, parked := true }] }).onRing ring
    fun g => { g with held := some { cmd := q, opcode := v.opcode, since := s.tb1, pre := reservedCheck b v } }

/-- After checks 1 to 5: authentication, a hold for a reservation, or the start (R68, R69, R94). -/
def admitSlot (tab : OpTable) (b : List Byte) (ring : Nat) (pblk : List Byte) (q : Cmd) (mustAuth : Bool) (s : State) : State :=
  let v := viewSlot b
  match authenticate b ring pblk mustAuth s with
  | (.error r, s) => deliverTo v.opcode q r s
  | (.ok true, s) => park b ring q s
  | (.ok false, s) => launchSlot tab v.opcode (reservedCheck b v) q s

/-- A slot at SQ_HEAD is fetched (R53 to R58, R70): a PCIe error halts the ring, a wrong SEQ halts it
with a completion, and the other checks follow in order. -/
def fetchSlot (tab : OpTable) (ring : Nat) (slot pblk : List Byte) (descs : List Desc) (data : List Byte) (pcieError : Bool) (s : State) : State :=
  let r := s.ring ring
  let v := viewSlot slot
  let pblk := padTo v.pblkLen pblk
  let q := slotCmd slot ring pblk descs data none
  if !s.mayFetch ring || r.ethernet || r.sqHead = r.sqTail then s
  else if pcieError then haltRing ring 0x03 s
  else
    let s := s.onRing ring fun r => { r with sqHead := (r.sqHead + 1) % 2 ^ r.sqLog2 }
    if v.seq ≠ r.expSeq then
      deliverTo v.opcode q (Reply.err .badParam 0x0001) (haltRing ring 0x01 s)
    else
      let s := s.onRing ring fun r => { r with expSeq := (r.expSeq + 1) % 2 ^ 32 }
      match slotChecks slot ring pblk false s with
      | some e => deliverTo v.opcode q e s
      | none => admitSlot tab slot ring pblk q false s

/-- A datagram or IP packet that is dropped and counted (R75, R76). -/
def dropDatagram (port : Nat) (s : State) : State :=
  s.onHif fun h => { h with eth := upd port (fun p => { p with dropped := (p.dropped + 1) % 2 ^ 32 }) h.eth }

/-- An answer to a slot that fails checks 2 to 6: at most 100 in a second on a port, the excess dropped
and counted (R77). -/
def failAnswer (port op : Nat) (q : Cmd) (r : Reply) (s : State) : State :=
  let recent := ((s.hif.eth.getD port {}).failAnswers.filter fun t => within s t 1 1)
  if 100 ≤ recent.length then dropDatagram port s
  else
    deliverTo op q r (s.onHif fun h => { h with eth := upd port (fun p => { p with failAnswers := s.tb1 :: recent }) h.eth })

/-- A command datagram's payload (R76 to R78). DESIGN CHOICE (log 106): one whose DLEN is not the number of its bytes, or that comes
while its ring may not fetch (64 in flight, a held slot, a stop), is dropped and counted. -/
def takeDatagram (tab : OpTable) (port : Nat) (from_ : EthFrom) (bytes : List Byte) (s : State) : State :=
  let ring := rd bytes 5 1
  let slot := slice bytes 16 128
  let pblk := bytes.drop 144
  let v := viewSlot slot
  let q := slotCmd slot ring pblk [] [] (some { from_ with port })
  let r := s.ring ring
  if bytes.length < 144 || rd bytes 0 4 ≠ 0x50434D4C || rd bytes 4 1 ≠ 1 || 8 ≤ ring || !r.ethernet || !r.enable
      || rd bytes 6 2 ≠ pblk.length then dropDatagram port s
  else if v.auth && tagValid slot ring pblk s && (r.kept.any fun k => k.counter == v.counter && k.tag == v.tag) then
    match r.kept.find? fun k => k.counter == v.counter && k.tag == v.tag with
    | some k => sendDatagram { from_ with port } k.bytes s
    | none => s
  else if v.auth && tagValid slot ring pblk s && (s.hif.inflight.any fun e => e.cmd.ring == ring && e.cmd.tag == v.tag && e.cmd.counter == v.counter) then s
  else if !s.mayFetch ring then dropDatagram port s
  else match slotChecks slot ring pblk true s with
    | some e => failAnswer port v.opcode q e s
    | none =>
      match authenticate slot ring pblk true s with
      | (.error e, s) => failAnswer port v.opcode q e s
      | (.ok true, s) => park slot ring q s
      | (.ok false, s) => launchSlot tab v.opcode (reservedCheck slot v) q s

/-- The port takes frames: enabled, its link up, untagged or with the configured VLAN (R75). -/
def ethAccepts (port : Nat) (vlan : Option Nat) (s : State) : Bool :=
  let p := s.hif.eth.getD port {}
  s.bar0 && p.enable && p.linkUp && (match vlan with
    | none => true
    | some v => bit p.vlan 15 && p.vlan % 4096 == v)

/-- ARP_REQUEST (R75): an ARP request for the device's address is answered. -/
def execArpRequest (dt port : Nat) (vlan : Option Nat) (mac ip target : Nat) (s : State) : Host.Outcome State Fault Refusal :=
  let s := advance dt s
  onUnit (decide (port < 2))
    (if ethAccepts port vlan s && target == (s.hif.eth.getD port {}).ip then s.emit (.arpReply port mac ip) else s)

/-- The IPv4 groups that a port uses: those of PTP over UDP (R75): 224.0.1.129, and in the peer-delay profile 224.0.0.107. -/
def State.groups (s : State) (port : Nat) : List Nat :=
  let t := s.tim.ports.getD port {}
  if t.role = 0 || t.l2 then [] else 0xE0000181 :: if t.p2p then [0xE000006B] else []

/-- Membership reports for the groups that a port uses (R75). -/
def reportGroups (port : Nat) (s : State) : State :=
  if (s.hif.eth.getD port {}).linkUp then s.emits ((s.groups port).map fun g => .igmpReport port g) else s

/-- ICMP_ECHO_REQUEST (R75), and what else comes in IP: an echo request (protocol 1, type 8) to the device's address is answered, an
IGMP query (protocol 2, type 0x11) brings reports (PRESUMED, log 115), any other packet is dropped and counted. -/
def execIcmpEchoRequest (dt port : Nat) (vlan : Option Nat) (ip target protocol type : Nat) (bytes : List Byte) (s : State) :
    Host.Outcome State Fault Refusal :=
  let s := advance dt s
  onUnit (decide (port < 2))
    (if !ethAccepts port vlan s then s
     else if protocol = 1 ∧ type = 8 ∧ target = (s.hif.eth.getD port {}).ip then s.emit (.icmpReply port ip bytes)
     else if protocol = 2 ∧ type = 0x11 ∧ s.groups port ≠ [] then reportGroups port s
     else dropDatagram port s)

/-! LINK_ETH_CONFIG (R79, Table 3-19a). -/

/-- Checks of LINK_ETH_CONFIG. -/
def linkEthConfigCheck (q : Cmd) (s : State) : Option Reply :=
  firstFail (shape q 24 [(0, 1), (1, 1), (2, 2), (4, 4), (8, 2)] ++
    [ (decide (1 < q.u8 0), Reply.bad 0),
      (extraBits (q.u8 1) 7, Reply.bad 1),
      (extraBits (q.u16 8) 0x8FFF, Reply.bad 8),
      (s.isRetired (0x0C00 + q.u8 0), Reply.errUnit .retired 0 (0x0C00 + q.u8 0)),
      ((s.hif.eth.getD (q.u8 0) {}).retrain.isSome, Reply.errUnit .busy 0 (0x0C00 + q.u8 0)) ])

/-- The address part of the configuration. -/
def EthPort.address (q : Cmd) (p : EthPort) : EthPort :=
  { p with udp := if q.u16 2 = 0 then 31820 else q.u16 2, ip := q.u32 4, vlan := q.u16 8 }

/-- LINK_ETH_CONFIG: a change of MODE takes effect after the port has retrained; a port that is
disabled goes down at once, and a change of address alone takes effect at once (R79). -/
def linkEthConfigEffect (q : Cmd) (s : State) : Ans :=
  let n := q.u8 0
  let p := s.hif.eth.getD n {}
  let enable := bit (q.u8 1) 0
  let same := p.enable == enable && p.is25 == bit (q.u8 1) 1 && p.fec == bit (q.u8 1) 2
  let put (f : EthPort → EthPort) (s : State) := s.onHif fun h => { h with eth := upd n f h.eth }
  if same then .done .good (put (EthPort.address q) s)
  else
    let s := put (fun p => { p with enable, is25 := bit (q.u8 1) 1, fec := bit (q.u8 1) 2, linkUp := false }) s
    if enable then .wait (put (fun p => { p with retrain := some q.id }) s)
    else .done .good (put (EthPort.address q) s)

/-- LINK_ETH_CONFIG (R79). -/
def execLinkEthConfig (q : Cmd) (s : State) : Host.Outcome State Fault Refusal :=
  runCmd 0x0B08 linkEthConfigCheck linkEthConfigEffect q s

/-- The link of a port comes up, or stays down for 1 s after a change of MODE (R79). -/
def ethRetrained (port : Nat) (up : Bool) (s : State) : State :=
  let p := s.hif.eth.getD port {}
  let put (f : EthPort → EthPort) (s : State) := s.onHif fun h => { h with eth := upd port f h.eth }
  if !p.enable then s
  else if up then
    let s := reportGroups port (put (fun p => { p with linkUp := true, retrain := none, waiting := [] }) s)
    let s := p.waiting.foldl (fun s w => s.emit (.datagram port w.1 w.2)) s
    match p.retrain with
    | some id =>
      match s.flying id with
      | some e => finish id .good (put (EthPort.address e.cmd) s)
      | none => s
    | none => s
  else
    match p.retrain with
    | some id => finish id (Reply.errUnit .timeout 0 (0x0C00 + port)) (put (fun p => { p with enable := false, linkUp := false, retrain := none }) s)
    | none => put (fun p => { p with linkUp := false }) s

/-- ETH_PORT_RETRAINED (R79): the port has retrained, or its link has not come up within 1 s. -/
def execEthPortRetrained (dt port : Nat) (linkUp : Bool) (s : State) : Host.Outcome State Fault Refusal :=
  onUnit (decide (port < 2)) (ethRetrained port linkUp (advance dt s))

end Sys2Proof.Machine
end

