-- ==== Sys2Proof/Machine/Link.lean ====
section
/-!
DEFINITION. Lanes, retry, markers, course bring-up, time transfer and the LINK opcodes
(spec/11_course_links_and_queues.md). Line and stamp packets, flushes and claims of a takeover stand in
Machine/Stamp.lean and Machine/Pair.lean.
-/
namespace Sys2Proof.Machine

/-! Ownership. -/

/-- This device claims courses (R307): unpaired, or active in a pair. -/
def State.claims (s : State) : Bool :=
  s.pair.st == .off || s.pair.st == .active || s.pair.st == .activeAlone

/-- The identifier of the armed run, 0 when none is. -/
def State.runId (s : State) : Nat := (s.fire.run.map (·.id)).getD 0

/-- Send a CLAIM (Table 11-6). -/
def sendClaim (l epoch : Nat) (planned : Option Nat) (again : Bool) (s : State) : State :=
  let s := sendCtrl l 0x06
    (toLe 4 epoch ++ toLe 1 (b2n planned.isSome) ++ toLe 3 0 ++ toLe 8 Config.uid ++ toLe 4 s.runId ++ toLe 4 0 ++ toLe 8 (planned.getD 0)) s
  s.onCourse l fun c => { c with claim := some { epoch := epoch % 2 ^ 32, planned := planned.isSome, since := s.tb1, again } }

/-! Management messages (17 R439, Table 17-10). -/

/-- Send a MGMT message, to wait for its reply. -/
def sendMgmt (l : Nat) (w : MgmtWait) (msg : List Byte) (s : State) : State :=
  let s := s.onCourse l fun c => { c with mgmt := c.mgmt ++ [{ w with since := s.tb1 }] }
  if (s.course l).up then sendCtrl l 0x09 msg s else s

/-- Ask a bridge for the next part of a record (R439): its header first, which gives LENGTH, then up to 1,008 bytes at a time. -/
def askMir (l kind : Nat) (cmd : CmdId) (slot : Nat) (part : List Byte) (s : State) : State :=
  let n := if part.isEmpty then 24 else min 1008 (rd part 8 4 - part.length)
  let mid := (s.course l).mgmtId
  let s := s.onCourse l fun c => { c with mgmtId := (c.mgmtId + 1) % 65536 }
  sendMgmt l { mid, kind, cmd, slot, part } (toLe 1 1 ++ toLe 1 0 ++ toLe 2 mid ++ toLe 1 slot ++ toLe 3 0 ++ toLe 4 part.length ++ toLe 2 n ++ toLe 2 0) s

/-- A course is up: its records are no longer fresh (R441), and those held through P3 are read again (R445). -/
def refreshMirs (l : Nat) (s : State) : State :=
  let s := s.onBoard fun b => { b with mirs := b.mirs.map fun m => if m.path == 0x80 + l then { m with fresh := false } else m }
  let s := s.onBars fun b => { b with ctxs := b.ctxs.map fun c => if (c.owner.map (·.1)) == some l then { c with complete := false } else c }
  match (s.course l).reread with
  | slot :: _ => askMir l 2 (0, 0) slot [] s
  | [] => s

/-! Bring-up (R308, Table 11-8). -/

/-- A bring-up starts: every class, counter and time history starts again (R295, R298, R303), and so do the markers. A LINK_TRAIN, or
the first bring-up, takes the configuration (R318); a LINK_TRAIN also frees the lanes that are restored (R316). -/
def startTrain (l : Nat) (cmd : Option CmdId) (noClaim : Bool) (s : State) : State :=
  let m := (s.lane (2 * l)).mseq
  let s := s.onCourse l fun c =>
    { c with
      run := if cmd.isNone && c.wanted then c.run else c.cfg
      up := false, wanted := true, tried := s.tb1, prbs := false
      train := some { cmd, noClaim, since := s.tb1, stepAt := s.tb1, step := 2 }
      duo := false, rxOk := 0, cls := List.replicate 3 {}, waiting := [], markAt := s.tb1, pos := 0, out := [], hot := []
      owned := false, claim := none, prio := [], prioWait := false, rtts := [], delay := 0, delayValid := false, t1 := none
      retries := 0, stompedSent := 0, stampSince := none }
  let s := [2 * l, 2 * l + 1].foldl (fun s n => s.onLane n fun q => { q with
    bip := 0, hdr := 0, down := false, bad := none, badPeer := none, mseq := m, alignSent := none, parity := 0, blocks := 0
    pinned := if cmd.isSome then q.retired else q.pinned }) s
  checkLimit s

/-- A bring-up ends in a failure (R308): after a LINK_TRAIN the course stays down; the device's own is run again (R309). -/
def failTrain (l : Nat) (r : Reply) (s : State) : State :=
  match (s.course l).train with
  | none => s
  | some t =>
    let s := s.onCourse l fun c => { c with train := none, up := false, wanted := c.wanted && t.cmd.isNone }
    match t.cmd with
    | some id => finish id r s
    | none => s

/-- The last step: the course is up, EV_COURSE_UP, and LINK_TRAIN completes (Tables 11-8, 11-13). -/
def courseUp (l : Nat) (s : State) : State :=
  match (s.course l).train with
  | none => s
  | some t =>
    let lanes := lanesUp l s
    let s := s.onCourse l fun c => { c with train := none, up := true, silent := 0 }
    let c := s.course l
    let s := checkLimit (post evCourseUp (unitCourse l) l (lanes + 256 * c.run.version) (refreshMirs l s))
    match t.cmd with
    | some id =>
      finish id (.good (toLe 1 lanes ++ toLe 1 c.run.version ++ toLe 1 (b2n c.owned) ++ toLe 1 0
        ++ toLe 4 (u32 (tUs (s.tb1 - t.since)).toNat) ++ toLe 8 c.bridgeUid)) s
    | none => s

/-- Move a bring-up to a step. -/
def trainStep (l n : Nat) (s : State) : State :=
  s.onCourse l fun c => { c with train := c.train.map fun t => { t with step := n, stepAt := s.tb1 } }

/-- Step 6: the claim, or without one the end (R307). -/
def trainClaim (l : Nat) (s : State) : State :=
  match (s.course l).train with
  | none => s
  | some t =>
    if t.noClaim || !s.claims then courseUp l s
    else sendClaim l ((s.course l).epoch + 1) none false (trainStep l 6 s)

/-- This device's HELLO (Table 11-6). -/
def helloBytes (l : Nat) (s : State) : List Byte :=
  toLe 1 1 ++ toLe 1 2 ++ toLe 1 0 ++ toLe 1 (lanesUp l s) ++ toLe 8 Config.uid ++ toLe 4 0 ++ toLe 8 0
    ++ toLe 4 queueCap ++ toLe 1 (s.course l).run.version ++ toLe 3 0

/-- PAIR_HELLO (15 Table 15-2), with a new SESSION nonce, a free value (log 8). -/
def sendPairHello (s : State) : State :=
  let n := s.freeVal Config.siteSession % 2 ^ 64
  let s := s.useFree.onPair fun p => { p with session := n, txCounter := 1, rxCounter := 0, judged := false }
  let i := s.sec.running
  pairSend .ctrl 0x41
    (toLe 8 Config.uid ++ toLe 4 i.fwVersion ++ toLe 2 i.featLevel ++ toLe 2 i.ckptFormat ++ toLe 1 s.sec.lifecycle.code
      ++ toLe 8 n ++ toLe 1 (b2n s.pair.prefer + 2 * b2n s.pair.wasActive) ++ toLe 1 s.pair.st.code) s

/-- Steps 2 and 3 have passed on every lane that can still pass: HELLO follows; the pair link is up and
PAIR_HELLO follows (15 R392). -/
def trainLanesDone (l : Nat) (s : State) : State :=
  if l = 10 then
    sendPairHello (s.onCourse 10 fun c => { c with train := none, up := true })
  else sendCtrl l 0x01 (helloBytes l s) (trainStep l 4 s)

/-- Look whether steps 2 and 3 have passed: each usable lane is locked and deskewed, or down. -/
def trainLook (l : Nat) (s : State) : State :=
  match (s.course l).train with
  | some t =>
    if t.step = 2 && lanesUp l s != 0
        && ([2 * l, 2 * l + 1].all fun n => !laneUsable n s || rxOkLane n s || (s.lane n).down) then trainLanesDone l s
    else s
  | none => s

/-- A course that has lost every lane is down (R309). -/
def checkCourseDown (l : Nat) (s : State) : State :=
  if (s.course l).up && ([2 * l, 2 * l + 1].all fun n => !laneUsable n s || (s.lane n).down) then
    let s := s.onCourse l fun c => { c with up := false, tried := s.tb1, owned := false }
    checkLimit (if l < 10 then post evCourseDown (unitCourse l) l 0 s else s)
  else s

/-! Retry (R295 to R298). -/

/-- Charge a retry (R297): to each lane with a BIP error, at either end, in the marker interval in which the failed packet
was sent, else to the lane that carried its START block. -/
def chargeRetry (l : Nat) (p : SentPacket) (s : State) : State :=
  let within (x : Option (Int × Int)) : Bool := x.any fun i => decide (i.1 ≤ p.time) && decide (p.time ≤ i.2)
  let hit := [2 * l, 2 * l + 1].filter fun n => within (s.lane n).bad || within (s.lane n).badPeer
  let lanes := if hit.isEmpty then [p.lane] else hit
  if p.noCount then s else lanes.foldl (fun s n => upset (unitLane n) s) s

/-- A packet of a class that has not begun. -/
def OutPacket.fresh (k : Cls) (p : OutPacket) : Bool := p.cls == k && p.blocks.isNone

/-- Resend a class from a SEQ onward, in order, after the packet that is open and before those of the class that have not begun: one
retry (R297). -/
def resendFrom (l : Nat) (k : Cls) (seq : Nat) (s : State) : State :=
  let s := pump l s
  let c := s.course l
  let again := (c.at k).unacked.dropWhile fun p => p.seq != seq
  match again with
  | [] => s
  | p :: _ =>
    let later := (c.hot ++ c.out).filter (·.fresh k)
    let s := s.onCourse l fun c =>
      { (c.onCls k fun x => { x with
          resend := some (seq, s.tb1)
          unacked := (x.unacked.takeWhile fun p => p.seq != seq) ++ again.map fun p => { p with time := s.tb1, noCount := false } }) with
        retries := c.retries + 1
        hot := c.hot.filter fun p => !p.fresh k
        out := c.out.filter fun p => !p.fresh k }
    let s := again.foldl (fun s p => match later.find? (·.seq == p.seq) with
      | some o => putOut l o s
      | none => sendPacket l k p none s) s
    let s := chargeRetry l p s
    if l < 10 then postLimited evLinkRetry (unitCourse l) l 1 1 1000 true (bump (ctr 9 l 0) 1 s) else s

/-- A link is in use for packets: up or in bring-up. -/
def Course.open (c : Course) : Bool := c.up || c.train.isSome

/-- A header error on a lane (R285): an invalid sync header, a control block of an unknown type. -/
def headerError (n : Nat) (s : State) : State :=
  let s := s.onLane n fun q => { q with hdr := q.hdr + 1 }
  if n < 20 then bump (ctr 9 (linkOf n) 4) 1 s else s

/-- A block whose CRC8 fails is discarded and counted (R286); it is a CRC error on its lane (02 R35). -/
def badLinkBlock (n : Nat) (s : State) : State := upset (unitLane n) (headerError n s)

/-- The receiver takes stream blocks of a lane: the latest marker does not put the peer's stream on the other lane alone (R289). -/
def listens (n : Nat) (s : State) : Bool :=
  (s.lane n).prbs.isNone && (s.course (linkOf n)).rxSolo.all fun k => k == n % 2

/-- What a packet's CRC-32C says: correct, inverted, or wrong (R294). -/
inductive PacketCrc where
  | good | stomped | bad
deriving DecidableEq, Repr, Inhabited

/-- Judge a packet's CRC-32C, stored after its START block and payload (R292). -/
def judgeCrc (start bytes : List Byte) (crc : Nat) : PacketCrc :=
  let want := crc32c (start ++ bytes)
  if crc = want then .good else if crc = 0xFFFFFFFF - want then .stomped else .bad

/-- Change the receiver's side of a class: a packet has been accepted, `seq` its SEQ (R295, R298). -/
def ClsLink.accept (seq n : Nat) (x : ClsLink) : ClsLink :=
  { x with rxSeq := (seq + 1) % 65536, nakSince := none, freed := x.freed + flitsOf n }

/-- A packet arrives on a version 1 course (R301): one that fails is discarded and counted, and so is a gap in SEQ. -/
def receiveV1 (l : Nat) (k : Cls) (seq n : Nat) (ok : Bool) (s : State) : State :=
  s.onCourse l fun c =>
    if ok then { (c.onCls k (·.accept seq n)) with rxGaps := c.rxGaps + b2n (seq != (c.at k).rxSeq) } else { c with rxFailed := c.rxFailed + 1 }

/-- A packet arrives on a version 2 course, or the pair link (R295, R296). -/
def receiveV2 (l : Nat) (k : Cls) (seq n : Nat) (ok : Bool) (s : State) : State :=
  let x := (s.course l).at k
  if ok && seq == x.rxSeq then
    let (held, inj) := takeInject 0x05 none (s.course l).injects
    let s := s.onCourse l fun c => { (c.onCls k fun x => { x.accept seq n with ackHeld := held.isSome }) with injects := inj }
    if held.isSome then s else sendLink l (k.num + 1) seq s
  else if x.nakSince.isSome then s
  else sendLink l (0x11 + k.num) x.rxSeq (s.onCourse l fun c => c.onCls k fun x => { x with nakSince := some s.tb1 })

/-- A packet has arrived whole or been cut short (R293), its START block on a lane (R292 to R296, R301). -/
def receivePacket (n : Nat) (k : Cls) (start bytes : List Byte) (crc : Nat) (whole : Bool) (s : State) : State :=
  let l := linkOf n
  if !(s.course l).open || !listens n s then s
  else
    let whole := whole && bytes.length == 4 * rd start 3 2
    let judged := judgeCrc start bytes crc
    let s := if whole && judged == .bad then upset (unitLane n) s else s
    let ok := whole && judged != .bad
    let s := if ok && judged == .stomped then s.onCourse l fun c => { c with rxStomped := c.rxStomped + 1 } else s
    if (s.course l).run.version = 1 then receiveV1 l k (rd start 1 2) bytes.length ok s else receiveV2 l k (rd start 1 2) bytes.length ok s

/-- The class that a START block opens (Table 11-2). -/
def classOfStart (b : Nat) : Option Cls := [Cls.data, .prio, .ctrl].find? fun k => k.startType == b

/-- PACKET_RECEIVE (R295). The content of a stomped packet is discarded (R294): the rows of contents, such as BRIDGE_STATUS, stand
for packets accepted with a correct CRC (DESIGN CHOICE, log 129). -/
def execPacketReceive (dt lane : Nat) (start bytes : List Byte) (crc : Nat) (whole : Bool) (s : State) : Host.Outcome State Fault Refusal :=
  let s := advance dt s
  onUnit (decide (lane < 22) && start.length == 8 && decide (crc < 2 ^ 32)) (match classOfStart (rd start 0 1) with
    | some k => receivePacket lane k start bytes crc whole s
    | none => headerError lane s)

/-- A LINK block arrives on a lane (Table 11-5), with its CRC8 (R286). -/
def receiveLink (n kind arg crc : Nat) (f : State → State) (s : State) : State :=
  if !listens n s then s
  else if rd (linkBlock kind arg) 7 1 ≠ crc then badLinkBlock n s
  else f s

/-- ACK_RECEIVE (R297): what it covers leaves the retry buffer. -/
def takeAck (l : Nat) (k : Cls) (seq : Nat) (s : State) : State :=
  let x := (s.course l).at k
  if x.unacked.any fun p => p.seq == seq then
    drain l (s.onCourse l fun c => c.onCls k fun x =>
      { x with unacked := (x.unacked.dropWhile fun p => p.seq != seq).drop 1, resend := none })
  else s

/-- ACK_RECEIVE. -/
def execAckReceive (dt lane : Nat) (cls : Cls) (seq crc : Nat) (s : State) : Host.Outcome State Fault Refusal :=
  onUnit (decide (lane < 22) && decide (seq < 65536) && decide (crc < 256)) (receiveLink lane (0x01 + cls.num) seq crc (takeAck (linkOf lane) cls seq) (advance dt s))

/-- NAK_RECEIVE (R297): resend from the named SEQ, unless a resend for it began within ACK_TIMEOUT. -/
def takeNak (l : Nat) (k : Cls) (seq : Nat) (s : State) : State :=
  let c := s.course l
  if c.run.version = 1 then s
  else
    let s := if l < 10 then bump (ctr 9 l 1) 1 s else s
    match (c.at k).resend with
    | some (q, t) => if q = seq && within s t c.run.ackTimeout 1000000 then s else resendFrom l k seq s
    | none => resendFrom l k seq s

/-- NAK_RECEIVE. -/
def execNakReceive (dt lane : Nat) (cls : Cls) (seq crc : Nat) (s : State) : Host.Outcome State Fault Refusal :=
  onUnit (decide (lane < 22) && decide (seq < 65536) && decide (crc < 256)) (receiveLink lane (0x11 + cls.num) seq crc (takeNak (linkOf lane) cls seq) (advance dt s))

/-- CREDIT_RECEIVE (R298): the limit is raised, and what waited for credit is sent. -/
def takeCredit (l : Nat) (k : Cls) (limit : Nat) (s : State) : State :=
  let x := (s.course l).at k
  if (s.course l).open && decide (0 < signed 32 (limit + 2 ^ 32 - x.limit)) then
    drain l (s.onCourse l fun c => c.onCls k fun x => { x with limit := limit % 2 ^ 32 })
  else s

/-- CREDIT_RECEIVE. -/
def execCreditReceive (dt lane : Nat) (cls : Cls) (limit crc : Nat) (s : State) : Host.Outcome State Fault Refusal :=
  onUnit (decide (lane < 22) && decide (limit < 2 ^ 32) && decide (crc < 256)) (receiveLink lane (0x21 + cls.num) limit crc (takeCredit (linkOf lane) cls limit) (advance dt s))

/-- ACK_TIMEOUT (R297): no ACK has covered the oldest packet within ACK_TIMEOUT. -/
def execAckTimeout (dt link : Nat) (cls : Cls) (s : State) : Host.Outcome State Fault Refusal :=
  let s := pump link (advance dt s)
  let c := s.course link
  onUnit (decide (link ≤ 10)) (match (c.at cls).unacked with
    | p :: _ =>
      let begun := (c.hot ++ c.out).all fun o => !(o.fresh cls && o.seq == p.seq)
      if c.open && begun && passed s p.time c.run.ackTimeout 1000000 then resendFrom link cls p.seq s else s
    | [] => s)

/-- NAK_REPEAT (R296): every 20 us until the expected SEQ arrives. -/
def execNakRepeat (dt link : Nat) (cls : Cls) (s : State) : Host.Outcome State Fault Refusal :=
  let s := advance dt s
  let x := (s.course link).at cls
  onUnit (decide (link ≤ 10)) (match x.nakSince with
    | some t =>
      if (s.course link).open && passed s t 20 1000000 then
        sendLink link (0x11 + cls.num) x.rxSeq (s.onCourse link fun c => c.onCls cls fun x => { x with nakSince := some s.tb1 })
      else s
    | none => s)

/-- Capacity of a receive buffer, flits: CTRL 256 (R298); those of the pair link's other classes the
manual leaves open (log 13). -/
def rxCap (k : Cls) : Nat := match k with
  | .ctrl => 256
  | .prio => 512
  | .data => 40960

/-- CREDIT_SEND (R298): when LIMIT has advanced by 64 flits, and in any case every 10 us. -/
def execCreditSend (dt link : Nat) (cls : Cls) (s : State) : Host.Outcome State Fault Refusal :=
  let s := advance dt s
  let x := (s.course link).at cls
  let limit := (rxCap cls + x.freed) % 2 ^ 32
  onUnit (decide (link ≤ 10))
    (if (s.course link).open && (link = 10 || cls == .ctrl)
        && (decide (64 ≤ (limit + 2 ^ 32 - x.limitSent) % 2 ^ 32) || passed s x.creditSince 10 1000000) then
       sendLink link (0x21 + cls.num) limit (s.onCourse link fun c => c.onCls cls fun x => { x with limitSent := limit, creditSince := s.tb1 })
     else s)

/-! Markers (R288, R289). -/

/-- A BIP error on a lane (R289), with the marker interval it lay in. -/
def bipError (n : Nat) (s : State) : State :=
  let s := s.onLane n fun q => { q with bip := q.bip + 1, bad := some (q.alignAt, s.tb1) }
  if n < 20 then bump (ctr 9 (linkOf n) (2 + n % 2)) 1 s else s

/-- Deskew of a lane whose marker has come (R288): with the other lane when both have brought the same MSEQ, 64 blocks apart at most;
alone where the other is not in use or not in lock (DEDUCED, log 130). -/
def deskew (n : Nat) (s : State) : State :=
  let m := if n % 2 = 0 then n + 1 else n - 1
  let q := s.lane n
  let o := s.lane m
  if !laneUsable m s || !o.lock then s.onLane n fun q => { q with deskewed := true }
  else if o.rxMseq != q.rxMseq then s
  else
    let near := decide ((q.alignAt - o.alignAt).natAbs * (s.course (linkOf n)).blockRate ≤ 64 * 2 ^ 32)
    (s.onLane n fun q => { q with deskewed := near }).onLane m fun q => { q with deskewed := near }

/-- The receiver's mode after a marker with SOLO set or clear on a lane (R289). -/
def followMode (n : Nat) (solo : Bool) (c : Course) : Course :=
  if solo then { c with rxSolo := some (n % 2) } else if c.rxSolo == some (n % 2) then { c with rxSolo := none } else c

/-- An ALIGN arrives (R288, R289). -/
def takeAlign (n : Nat) (b : List Byte) (bip : Nat) (s : State) : State :=
  let l := linkOf n
  let s := if (s.lane n).rxMseq.isSome && rd b 4 1 ≠ bip then bipError n s else s
  let s := deskew n (s.onLane n fun q => { q with rxMseq := some (rd b 3 1), alignAt := s.tb1 })
  checkLimit (trainLook l (s.onCourse l fun c => followMode n (bit (rd b 2 1) 0) { c with rxOk := rd b 2 1 / 2 % 4 }))

/-- The types of control blocks (Table 11-2). -/
def blockTypes : List Nat := [0x1E, 0x2D, 0x33, 0x4B, 0x55, 0x66]

/-- A block arrives that is taken for a marker (R285, R286): discarded and counted with an invalid sync header, an unknown type or a
CRC8 that fails; one of another type is no marker. -/
def receiveAlign (n hdr : Nat) (b : List Byte) (bip : Nat) (s : State) : State :=
  if (s.lane n).prbs.isSome then s
  else if hdr = 0 || hdr = 3 || (hdr = 2 && !blockTypes.contains (rd b 0 1)) then headerError n s
  else if hdr ≠ 2 || rd b 0 1 ≠ 0x2D then s
  else if crc8 (b.take 7) ≠ rd b 7 1 then badLinkBlock n s
  else takeAlign n b bip s

/-- ALIGN_RECEIVE. -/
def execAlignReceive (dt lane hdr : Nat) (bytes : List Byte) (bip : Nat) (s : State) : Host.Outcome State Fault Refusal :=
  onUnit (decide (lane < 22) && decide (hdr < 4) && bytes.length == 8) (receiveAlign lane hdr bytes bip (advance dt s))

/-- The mode of the next marker (R289, R316): duo while the peer reports both lanes and neither is
retired or down (R287), else solo on the lane that it reports. A change clears the time history (R303). -/
def chooseMode (l : Nat) (s : State) : State :=
  let c := s.course l
  let ok (n : Nat) := laneUsable (2 * l + n) s && !(s.lane (2 * l + n)).down
  let duo := c.rxOk == 3 && ok 0 && ok 1
  let carry := if bit c.rxOk 0 && ok 0 then 0 else if bit c.rxOk 1 && ok 1 then 1
    else if ok 0 then (if ok 1 then c.carry else 0) else 1
  let changed := c.duo != duo
  let s' := s.onCourse l fun c => { c with duo, carry, rtts := if changed then [] else c.rtts }
  if changed && !duo && c.up && l < 10 then post evLaneSolo (unitCourse l) l (2 * l + carry) s' else s'

/-- BIP8 of a lane (Table 11-3): the parity of the blocks sent since its marker before, the IDLE blocks among them in each block time
that carried nothing else. -/
def laneBip (n : Nat) (s : State) : Nat :=
  let q := s.lane n
  match q.alignSent with
  | some t =>
    let idle := (s.tb1 - t).toNat * (s.course (linkOf n)).blockRate / 2 ^ 32 - 1 - q.blocks
    q.parity ^^^ if idle % 2 = 1 then 0x1E else 0
  | none => q.parity

/-- A lane's marker is due (R288): 4,096 blocks after the one before for the first of a pair, and then at once for the other lane. -/
def alignDue (n : Nat) (s : State) : Bool :=
  let q := s.lane n
  let o := s.lane (if n % 2 = 0 then n + 1 else n - 1)
  if o.mseq = (q.mseq + 1) % 256 then true
  else o.mseq == q.mseq && q.alignSent.all fun t => passed s t 4096 (s.course (linkOf n)).blockRate

/-- The stream begins a marker interval, its mode chosen anew, the lower lane first (R288, R289). -/
def startInterval (l : Nat) (s : State) : State :=
  chooseMode l (s.onCourse l fun c => { c with markAt := s.tb1, pos := 0 })

/-- A lane sends an ALIGN (Table 11-3). -/
def sendAlign (n : Nat) (s : State) : State :=
  let l := linkOf n
  if !(s.course l).sending || (s.lane n).prbs.isSome || s.thm.power == .p3 || !alignDue n s then s
  else
    let s := pump l s
    let bip := laneBip n s
    let m := (s.lane n).mseq
    let s := if m = (s.lane (if n % 2 = 0 then n + 1 else n - 1)).mseq then startInterval l s else s
    let c := s.course l
    let mode := b2n (!c.duo && c.carry == n % 2) + 2 * b2n (rxOkLane (2 * l) s) + 4 * b2n (rxOkLane (2 * l + 1) s)
    let b := toLe 1 0x2D ++ toLe 1 (n % 2) ++ toLe 1 mode ++ toLe 1 m ++ toLe 1 bip ++ toLe 1 l ++ toLe 1 0
    let s := sendBlock n { hdr := 2, bytes := b ++ toLe 1 (crc8 b) } s
    checkLimit (s.onLane n fun q => { q with mseq := (m + 1) % 256, alignSent := some s.tb1, parity := 0, blocks := 0 })

/-- ALIGN_SEND (R288). -/
def execAlignSend (dt lane : Nat) (s : State) : Host.Outcome State Fault Refusal :=
  onUnit (decide (lane < 22)) (sendAlign lane (advance dt s))

/-! Block lock (R287, R473). -/

/-- BLOCK_LOCK_LOST (R287): a loss of lock; the course goes on in solo from its next marker. -/
def execBlockLockLost (dt lane : Nat) (s : State) : Host.Outcome State Fault Refusal :=
  let s := advance dt s
  onUnit (decide (lane < 24))
    (if !(s.lane lane).lock then s
     else
       let s := s.onLane lane fun q => { q with lock := false, lostSince := some s.tb1, rxMseq := none, deskewed := false, slip := 0, slipSince := s.tb1 }
       let s := if (s.lane lane).retired then s else lockLoss (unitLane lane) s
       checkLimit (post evLaneLockLost (unitLane lane) lane 0 s))

/-- BLOCK_LOCK_GAINED (R287). -/
def execBlockLockGained (dt lane : Nat) (s : State) : Host.Outcome State Fault Refusal :=
  let s := advance dt s
  onUnit (decide (lane < 24))
    (if (s.lane lane).lock then s
     else checkLimit (trainLook (linkOf lane) (s.onLane lane fun q => { q with lock := true, lostSince := none, down := false })))

/-- HUNT_SLIP (R287, R473): on A1 firmware slips an unlocked lane by one bit every 39 us. -/
def execHuntSlip (dt lane : Nat) (s : State) : Host.Outcome State Fault Refusal :=
  let s := advance dt s
  let q := s.lane lane
  onUnit (decide (lane < 24))
    (if !q.lock && passed s q.slipSince 39 1000000 then s.onLane lane fun q => { q with slip := (q.slip + 1) % 66, slipSince := s.tb1 } else s)

/-- LANE_DOWN (R287, R309): a lane that has not regained lock within 10 ms is down; a course without a
lane is down. -/
def execLaneDown (dt lane : Nat) (s : State) : Host.Outcome State Fault Refusal :=
  let s := advance dt s
  onUnit (decide (lane < 24)) (match (s.lane lane).lostSince with
    | some t =>
      if !(s.lane lane).lock && !(s.lane lane).down && passed s t 10 1000 then
        let s := post evLaneDown (unitLane lane) lane 0 (s.onLane lane fun q => { q with down := true })
        checkLimit (if lane < 22 then checkCourseDown (linkOf lane) s else s)
      else s
    | none => s)

/-- COURSE_RETRAIN (R309): every 100 ms a down course runs its bring-up again. -/
def execCourseRetrain (dt course : Nat) (s : State) : Host.Outcome State Fault Refusal :=
  let s := advance dt s
  let c := s.course course
  onUnit (decide (course ≤ 10))
    (if c.wanted && !c.up && c.train.isNone && !c.prbs && passed s c.tried 100 1000 && s.thm.power != .p3 then
       startTrain course none false s
     else s)

/-- Bound of a step of Table 11-8 in nanoseconds: lock with A1's hunt and two marker intervals, HELLO,
two time exchanges, the claim. -/
def trainBound (c : Course) (step : Nat) : Nat :=
  if step = 2 then 3600000 + 2 * (if c.run.rate = 0 then 10490 else 26210)
  else if step = 4 then 100000
  else if step = 5 then 2000 * c.cfg.timeInterval
  else 50000

/-- A step of a bring-up has not finished within its bound (R308): a lane is left down and the course
comes up on the other, or the command ends with ST_TIMEOUT, naming the lane. -/
def trainTimeout (l : Nat) (s : State) : State :=
  match (s.course l).train with
  | none => s
  | some t =>
    if !passed s t.stepAt (trainBound (s.course l) t.step) 1000000000 then s
    else
      let bad := [2 * l, 2 * l + 1].filter fun n => laneUsable n s && !rxOkLane n s
      let lane := (bad.head?).getD (2 * l)
      if t.step = 2 then
        let s := bad.foldl (fun s n => s.onLane n fun q => { q with down := true, lostSince := some (q.lostSince.getD s.tb1) }) s
        if lanesUp l s = 0 then failTrain l (Reply.errUnit .timeout 0x0195 (unitLane lane)) s
        else trainLanesDone l s
      else failTrain l (Reply.errUnit .timeout 0x0195 (unitLane lane)) s

/-- LINK_TRAIN_TIMEOUT (R308). -/
def execLinkTrainTimeout (dt course : Nat) (s : State) : Host.Outcome State Fault Refusal :=
  onUnit (decide (course ≤ 10)) (trainTimeout course (advance dt s))

/-- A bridge's HELLO (R308, Table 11-6): its identity, versions, epoch and owner; in bring-up the version
and the UID are checked and step 5 or 6 follows. -/
def takeHello (l : Nat) (b : List Byte) (s : State) : State :=
  if !(s.course l).open then s
  else
    let owner := rd b 0x10 8
    let s := s.onCourse l fun c => { c with
      verMin := rd b 0 1, verMax := rd b 1 1, bridgeUid := rd b 4 8, epoch := rd b 0x0C 4, owner
      dataCap := rd b 0x18 4 }
    let c := s.course l
    match c.train with
    | some t =>
      if t.step ≠ 4 then s
      else if c.run.version < c.verMin || c.verMax < c.run.version then failTrain l (Reply.errUnit .state 0x0192 (unitCourse l)) s
      else if c.run.bridgeUid ≠ 0 && c.run.bridgeUid ≠ c.bridgeUid then failTrain l (Reply.errUnit .state 0x0193 (unitCourse l)) s
      else if c.run.version = 2 then trainStep l 5 s
      else trainClaim l s
    | none => s

/-- BRIDGE_HELLO. -/
def execBridgeHello (dt course : Nat) (bytes : List Byte) (s : State) : Host.Outcome State Fault Refusal :=
  onUnit (decide (course < 10)) (takeHello course bytes (advance dt s))

/-- OWNER_CHANGED (R306): the device stops sending line and stamp packets on the course. -/
def execOwnerChanged (dt course epoch owner : Nat) (s : State) : Host.Outcome State Fault Refusal :=
  let s := advance dt s
  onUnit (decide (course < 10))
    (if !(s.course course).open || owner = Config.uid then s
     else post evCourseClaimedAway (unitCourse course) course epoch
       (s.onCourse course fun c => { c with owner, epoch, owned := false, claim := none, prio := [] }))

/-! Time transfer (R303). -/

/-- Send TIME_SYNC; it gets its T1 as its START block leaves (R303, `beginPacket`). An armed injection 0x09 keeps it back (R291). -/
def sendTimeSync (l : Nat) (s : State) : State :=
  let c := s.course l
  let (kept, inj) := takeInject 0x09 none c.injects
  let s := s.onCourse l fun c => { c with injects := inj, syncSince := s.tb1, syncId := (c.syncId + 1) % 65536 }
  if kept.isSome then s else sendCtrl l 0x04 (timeSyncBytes l 0 c.syncId s) s

/-- PTIME_SYNC to the standby, as TIME_SYNC (15 R389, R394). -/
def pairTimeSync (s : State) : State :=
  let c := s.course 10
  let t1 := s.tb3
  let s := s.onCourse 10 fun c => { c with syncSince := s.tb1, syncId := (c.syncId + 1) % 65536, t1 := some (t1, c.syncId) }
  pairSend .ctrl 0x42
    (toLe 4 (t1.fdiv (2 ^ 32) % 2 ^ 32).toNat ++ toLe 4 (t1.fmod (2 ^ 32)).toNat ++ toLeS 4 c.delay
      ++ toLe 2 c.syncId ++ toLe 2 (b2n c.delayValid) ++ toLeS 4 (s.tb 3).adj) s

/-- TIME_SYNC_SEND (R303): every TIME_INTERVAL on each version 2 course that is up, or in step 5. -/
def execTimeSyncSend (dt course : Nat) (s : State) : Host.Outcome State Fault Refusal :=
  let s := advance dt s
  let c := s.course course
  onUnit (decide (course ≤ 10))
    (if course = 10 then
       (if s.mirrors && c.up && passed s c.syncSince c.cfg.timeInterval 1000000 then pairTimeSync s else s)
     else if c.run.version = 2 && (c.up || (c.train.map (·.step)) == some 5) && passed s c.syncSince c.cfg.timeInterval 1000000 then
       sendTimeSync course s
     else s)

/-- One exchange of R303 over a history: rtt, the new history, mean, and whether the path has stepped. -/
def timeExchange (rtt : Int) (hist : List Int) : List Int × Int × Option Int :=
  let mean := hist.sum.fdiv hist.length
  let step := if 0 < hist.length && decide (35 < (rtt - mean).natAbs) then some (rtt - mean) else none
  let hist := (rtt :: (if step.isSome then [] else hist)).take 8
  (hist, hist.sum.fdiv hist.length, step)

/-- A TIME_ECHO arrives (R303). -/
def takeEcho (l syncId turn : Nat) (s : State) : State :=
  let c := s.course l
  match c.t1 with
  | none => s
  | some (t1, id) =>
    if id ≠ syncId || !c.open then s
    else
      let rtt := (s.tb3 - c.cfg.rxLat - t1) - turn
      let (hist, mean, step) := timeExchange rtt c.rtts
      let s := match step with
        | some d => post evCoursePathStep (unitCourse l) l (p32 (tNs d)) s
        | none => s
      let s := s.onCourse l fun c => { c with
        t1 := none, rtts := hist, delay := sar (mean + c.cfg.asym + 1) 1, delayValid := decide (2 ≤ hist.length) }
      let s := bumpMax (ctr 9 l 13) (tNs rtt) (bumpMin (ctr 9 l 12) (tNs rtt) s)
      match c.train with
      | some t => if t.step = 5 && (s.course l).delayValid then trainClaim l s else s
      | none => s

/-- TIME_ECHO. -/
def execTimeEcho (dt course syncId turn : Nat) (_offset : Int) (s : State) : Host.Outcome State Fault Refusal :=
  onUnit (decide (course < 10)) (takeEcho course syncId turn (advance dt s))

/-! LINK opcodes (R318, Tables 11-13 to 11-16). -/

/-- The course is in use (DETAIL 0x0190): its bar is enabled, or it lies in RUN_BARS of an armed run. -/
def courseInUse (l : Nat) (s : State) : Bool :=
  decide (l < 10) && ((s.bars.bars.getD l {}).enabled || (match s.fire.run with
    | some r => bit r.bars l
    | none => false))

/-- TX_EQ is all zero, or inside the ranges of Table 18-11. -/
def txEqBad (pre main post : Nat) : Bool :=
  !(pre == 0 && main == 0 && post == 0)
    && (decide (15 < pre) || decide (main < 24) || decide (63 < main) || decide (31 < post) || decide (63 < pre + main + post))

/-- Checks of LINK_COURSE_CONFIG. -/
def linkCourseConfigCheck (q : Cmd) (s : State) : Option Reply :=
  firstFail (shape q 40 [(0, 1), (1, 1), (2, 1), (3, 1), (4, 1), (5, 3), (8, 2), (10, 2), (12, 4), (16, 4), (20, 4), (24, 8)] ++
    [ (decide (9 < q.u8 0), Reply.bad 0 0x0198),
      (q.u8 1 != 1 && q.u8 1 != 2, Reply.bad 1),
      (decide (1 < q.u8 2), Reply.bad 2),
      (extraBits (q.u8 3) 0x1F, Reply.bad 3),
      (extraBits (q.u8 4) 3, Reply.bad 4),
      (txEqBad (q.u8 5) (q.u8 6) (q.u8 7), Reply.bad 5),
      (q.u16 8 != 0 && (decide (q.u16 8 < 10) || decide (1000 < q.u16 8)), Reply.bad 8),
      (q.u16 10 != 0 && (decide (q.u16 10 < 5) || decide (1000 < q.u16 10)), Reply.bad 10),
      (s.isRetired (unitCourse (q.u8 0)), Reply.errUnit .retired 0 (unitCourse (q.u8 0))),
      (s.holding (.course (q.u8 0)), Reply.errUnit .busy 0 (unitCourse (q.u8 0))),
      (courseInUse (q.u8 0) s, Reply.errUnit .state 0x0190 (unitCourse (q.u8 0))) ])

/-- The configuration of LINK_COURSE_CONFIG, its defaults filled in. -/
def courseCfgOf (q : Cmd) : CourseCfg :=
  let eq0 := q.u8 5 = 0 && q.u8 6 = 0 && q.u8 7 = 0
  { version := q.u8 1, rate := q.u8 2, enable := bit (q.u8 3) 0, inverts := q.u8 3 / 2
    lanes := if q.u8 4 = 0 then 3 else q.u8 4
    pre := if eq0 then (if q.u8 2 = 0 then 4 else 0) else q.u8 5
    main := if eq0 then 48 else q.u8 6
    post := if eq0 then (if q.u8 2 = 0 then 10 else 6) else q.u8 7
    timeInterval := if q.u16 8 = 0 then 100 else q.u16 8
    ackTimeout := if q.u16 10 = 0 then 20 else q.u16 10
    asym := q.s32 12, txLat := q.s32 16, rxLat := q.s32 20, bridgeUid := q.u64 24 }

/-- LINK_COURSE_CONFIG: times apply from the next exchange, the rest at the next LINK_TRAIN (R318). -/
def linkCourseConfigEffect (q : Cmd) (s : State) : Ans :=
  .done .good (s.onCourse (q.u8 0) fun c => { c with cfg := courseCfgOf q })

/-- LINK_COURSE_CONFIG (R301, R318). -/
def execLinkCourseConfig (q : Cmd) (s : State) : Host.Outcome State Fault Refusal :=
  runCmd 0x0B01 linkCourseConfigCheck linkCourseConfigEffect q s

/-- Checks of LINK_TRAIN. -/
def linkTrainCheck (q : Cmd) (s : State) : Option Reply :=
  firstFail (shape q 8 [(0, 1), (1, 1)] ++
    [ (decide (9 < q.u8 0), Reply.bad 0 0x0198),
      (extraBits (q.u8 1) 1, Reply.bad 1),
      (s.isRetired (unitCourse (q.u8 0)), Reply.errUnit .retired 0 (unitCourse (q.u8 0))),
      ((s.lane (2 * q.u8 0)).retired && (s.lane (2 * q.u8 0 + 1)).retired, Reply.errUnit .retired 0 (unitLane (2 * q.u8 0))),
      (s.holding (.course (q.u8 0)), Reply.errUnit .busy 0 (unitCourse (q.u8 0))),
      (!(s.course (q.u8 0)).cfg.enable, Reply.errUnit .state 0x0191 (unitCourse (q.u8 0))) ])

/-- LINK_TRAIN: exclusive for its course and not abortable (R308). -/
def linkTrainEffect (q : Cmd) (s : State) : Ans :=
  let l := q.u8 0
  let s := hold q [.course l] false s
  let s := [2 * l, 2 * l + 1].foldl (fun s n => s.onLane n fun x => { x with prbs := none }) s
  .wait (trainLook l (startTrain l (some q.id) (bit (q.u8 1) 0) s))

/-- LINK_TRAIN (R308). -/
def execLinkTrain (q : Cmd) (s : State) : Host.Outcome State Fault Refusal :=
  runCmd 0x0B02 linkTrainCheck linkTrainEffect q s

/-- Checks of LINK_LANE_SLIP. -/
def linkLaneSlipCheck (q : Cmd) (s : State) : Option Reply :=
  let l := linkOf (q.u8 0)
  firstFail (shape q 8 [(0, 1), (1, 1)] ++
    [ (decide (21 < q.u8 0), Reply.bad 0 0x0198),
      (decide (q.u8 1 < 1) || decide (65 < q.u8 1), Reply.bad 1),
      ((s.lane (q.u8 0)).retired, Reply.errUnit .retired 0 (unitLane (q.u8 0))),
      (s.holding (if l = 10 then .pairLink else .course l), Reply.errUnit .busy 0 (unitCourse l)),
      (courseInUse l s, Reply.errUnit .state 0x0190 (unitCourse l)),
      ((s.lane (q.u8 0)).lock && (s.course l).up, Reply.errUnit .state 0x0196 (unitLane (q.u8 0))) ])

/-- LINK_LANE_SLIP: whether the lane is then in lock, and its invalid headers, are free values (log 8). -/
def linkLaneSlipEffect (q : Cmd) (s : State) : Ans :=
  let v := s.freeVal Config.siteSlip
  let lock := v % 2 == 1
  let errs := v / 2 % 2 ^ 32
  let s := s.useFree.onLane (q.u8 0) fun x => { x with
    slip := (x.slip + q.u8 1) % 66, slipSince := s.tb1, lock, hdr := x.hdr + errs, deskewed := x.deskewed && lock
    lostSince := if lock then none else some (x.lostSince.getD s.tb1), down := x.down && !lock }
  let s := if q.u8 0 < 20 then bump (ctr 9 (linkOf (q.u8 0)) 4) errs s else s
  .done (.good (toLe 1 (b2n lock) ++ toLe 3 0 ++ toLe 4 errs)) s

/-- LINK_LANE_SLIP (R318). -/
def execLinkLaneSlip (q : Cmd) (s : State) : Host.Outcome State Fault Refusal :=
  runCmd 0x0B03 linkLaneSlipCheck linkLaneSlipEffect q s

/-- Checks of LINK_PRBS. -/
def linkPrbsCheck (q : Cmd) (s : State) : Option Reply :=
  let l := linkOf (q.u8 0)
  firstFail (shape q 8 [(0, 1), (1, 1), (2, 1), (3, 1)] ++
    [ (decide (21 < q.u8 0), Reply.bad 0 0x0198),
      (decide (5 < q.u8 1), Reply.bad 1),
      (decide (1 < q.u8 2), Reply.bad 2),
      (extraBits (q.u8 3) 1, Reply.bad 3),
      ((s.lane (q.u8 0)).retired, Reply.errUnit .retired 0 (unitLane (q.u8 0))),
      (s.holding (if l = 10 then .pairLink else .course l), Reply.errUnit .busy 0 (unitCourse l)),
      (courseInUse l s, Reply.errUnit .state 0x0190 (unitCourse l)) ])

/-- The result of LINK_PRBS: LOCKED, ERRORS, BITS. -/
def prbsResult (p : Option Prbs) : List Byte :=
  match p with
  | some p => toLe 1 (b2n p.locked) ++ toLe 3 0 ++ toLe 4 (u32 p.errors) ++ toLe 8 p.bits
  | none => []

/-- LINK_PRBS (R290): OP 1 to 3 put the lane into PRBS, so that it leaves its course and the course is
down until LINK_TRAIN; 0 stops, 4 reads, 5 reads and clears. The generator's register starts at any value but 0, a free value (log 8). -/
def linkPrbsEffect (q : Cmd) (s : State) : Ans :=
  let n := q.u8 0
  let l := linkOf n
  let now := (s.lane n).prbs
  match q.u8 1 with
  | 0 => .done (.good (prbsResult now)) (s.onLane n fun x => { x with prbs := none })
  | 4 => .done (.good (prbsResult now)) s
  | 5 => .done (.good (prbsResult now)) (s.onLane n fun x => { x with prbs := x.prbs.map fun p => { p with errors := 0, bits := 0 } })
  | op =>
    let p31 := q.u8 2 == 1
    let p : Prbs := { gen := bit op 0, chk := bit op 1, p31, invert := bit (q.u8 3) 0, genReg := 1 + s.freeVal Config.sitePrbs % ((if p31 then 2 ^ 31 else 2 ^ 9) - 1) }
    let up := (s.course l).up
    let s := s.useFree.onLane n fun x => { x with prbs := some p, rxMseq := none, deskewed := false }
    let s := s.onCourse l fun c => { c with up := false, wanted := false, prbs := true, train := none, owned := false, out := [], hot := [] }
    .done (.good (prbsResult (some p))) (checkLimit (if up && l < 10 then post evCourseDown (unitCourse l) l 0 s else s))

/-- LINK_PRBS (R290). -/
def execLinkPrbs (q : Cmd) (s : State) : Host.Outcome State Fault Refusal :=
  runCmd 0x0B04 linkPrbsCheck linkPrbsEffect q s

/-- One bit into a checker (R290): it seeds its register from the first 9 or 31 bits, then compares every
bit; 64 correct bits lock it, 64 errors within 1,024 bits unlock it and seed it again, locked or not (log 47). -/
def prbsBit (p : Prbs) (b : Bool) : Prbs :=
  let n := if p.p31 then 31 else 9
  let tap := if p.p31 then 28 else 5
  let b := b != p.invert
  match p.reg with
  | none =>
    let seed := p.seed ++ [b]
    if seed.length < n then { p with seed }
    else { p with seed := [], reg := some (seed.foldl (fun r x => (2 * r + b2n x) % 2 ^ n) 0), run := 0, window := [] }
  | some r =>
    let want := bit r (n - 1) != bit r (tap - 1)
    let err := want != b
    let run := if err then 0 else p.run + 1
    let p := { p with reg := some ((2 * r + b2n want) % 2 ^ n) }
    let window := (err :: p.window).take 1024
    let counted := p.locked
    let p := { p with run, window, locked := p.locked || decide (64 ≤ run)
                      bits := p.bits + b2n counted, errors := if counted then min 0xFFFFFFFF (p.errors + b2n err) else p.errors }
    if 64 ≤ (window.filter id).length then { p with locked := false, reg := none, seed := [], run := 0, window := [] } else p

/-- The generator's next bit (R290), and its register after it. -/
def Prbs.next (p : Prbs) : Bool × Prbs :=
  let n := if p.p31 then 31 else 9
  let b := bit p.genReg (n - 1) != bit p.genReg ((if p.p31 then 28 else 5) - 1)
  (b != p.invert, { p with genReg := (2 * p.genReg + b2n b) % 2 ^ n })

/-- At most n bits of a generator. -/
def Prbs.stream : Nat → Prbs → List Bool × Prbs
  | 0, p => ([], p)
  | n + 1, p =>
    let (b, p) := p.next
    let (bs, p) := p.stream n
    (b :: bs, p)

/-- Bits of a generator with the armed injections 0x01: each flips one (R291). -/
def flipBits : List Bool → List (Nat × Bool × Nat) → List Bool × List (Nat × Bool × Nat)
  | [], inj => ([], inj)
  | b :: bs, inj =>
    let (hit, inj) := takeLaneInject 0x01 inj
    let (bs, inj) := flipBits bs inj
    ((b != hit.isSome) :: bs, inj)

/-- A lane in PRBS sends as many bits as it takes (R290). -/
def sendPrbs (n bits : Nat) (s : State) : State :=
  match (s.lane n).prbs with
  | none => s
  | some p =>
    if !p.gen then s
    else
      let (bs, p) := p.stream bits
      let (bs, inj) := flipBits bs (s.lane n).injects
      (s.onLane n fun x => { x with prbs := some p, injects := inj }).emit (.prbs n bs)

/-- PRBS_CHECKER_INPUT (R290). -/
def execPrbsCheckerInput (dt lane : Nat) (bits : List Bool) (s : State) : Host.Outcome State Fault Refusal :=
  let s := sendPrbs lane bits.length (advance dt s)
  onUnit (decide (lane < 22)) (s.onLane lane fun x => { x with prbs := x.prbs.map fun p => if p.chk then bits.foldl prbsBit p else p })

/-- Checks of LINK_INJECT: kinds 0x01 to 0x03 name a lane, 0x04 to 0x09 a course (Table 11-14). -/
def linkInjectCheck (q : Cmd) (s : State) : Option Reply :=
  let k := q.u8 1
  firstFail (shape q 8 [(0, 1), (1, 1), (2, 1), (3, 1), (4, 2)] ++
    [ (decide (k < 1) || decide (9 < k), Reply.bad 1 0x0198),
      ((decide (k ≤ 3) && decide (21 < q.u8 0)) || (decide (4 ≤ k) && (decide (q.u8 0 < 0x80) || decide (0x89 < q.u8 0))), Reply.bad 0 0x0198),
      (decide (2 < q.u8 2), Reply.bad 2),
      (extraBits (q.u8 3) 1, Reply.bad 3),
      (q.u16 4 == 0, Reply.bad 4),
      (decide (k ≤ 3) && (s.lane (q.u8 0)).retired, Reply.errUnit .retired 0 (unitLane (q.u8 0))),
      (decide (4 ≤ k) && s.isRetired (unitCourse (q.u8 0 - 0x80)), Reply.errUnit .retired 0 (unitCourse (q.u8 0 - 0x80))) ])

/-- LINK_INJECT (R291): the injection is armed. A lane that has only IDLE blocks to send has them take kind 0x03. -/
def linkInjectEffect (q : Cmd) (s : State) : Ans :=
  let k := q.u8 1
  let nc := bit (q.u8 3) 0
  if k ≤ 3 then
    let s := s.onLane (q.u8 0) fun x => { x with injects := x.injects ++ [(k, nc, q.u16 4)] }
    .done .good (pump (linkOf (q.u8 0)) s)
  else .done .good (s.onCourse (q.u8 0 - 0x80) fun c => { c with injects := c.injects ++ [(k, q.u8 2, nc, q.u16 4)] })

/-- LINK_INJECT (R291). -/
def execLinkInject (q : Cmd) (s : State) : Host.Outcome State Fault Refusal :=
  runCmd 0x0B05 linkInjectCheck linkInjectEffect q s

/-- Checks of LINK_MARKS. -/
def linkMarksCheck (q : Cmd) (s : State) : Option Reply :=
  firstFail (shape q 16 [(0, 1), (1, 1), (4, 4), (8, 4)] ++
    [ (decide (9 < q.u8 0), Reply.bad 0 0x0198),
      (decide (1 < q.u8 1), Reply.bad 1),
      (decide (queueCap < q.u32 4), Reply.bad 4 0x0197),
      (decide (q.u32 4 < q.u32 8), Reply.bad 8 0x0197),
      (s.isRetired (unitCourse (q.u8 0)), Reply.errUnit .retired 0 (unitCourse (q.u8 0))) ])

/-- LINK_MARKS (R315): the mark is set and armed, and meets the present depth at once. -/
def linkMarksEffect (q : Cmd) (s : State) : Ans :=
  let l := q.u8 0
  let s := s.onCourse l fun c => { c with marks := upd (q.u8 1) (fun m => { m with level := q.u32 4, hyst := q.u32 8, armed := true }) c.marks }
  .done .good (checkMarks l s)

/-- LINK_MARKS (R315). -/
def execLinkMarks (q : Cmd) (s : State) : Host.Outcome State Fault Refusal :=
  runCmd 0x0B09 linkMarksCheck linkMarksEffect q s

/-- Checks of LINK_STATUS. -/
def linkStatusCheck (q : Cmd) (_s : State) : Option Reply :=
  firstFail (shape q 16 [(0, 1), (1, 1), (8, 8)] ++
    [ (decide (10 < q.u8 0), Reply.bad 0 0x0198),
      (extraBits (q.u8 1) 1, Reply.bad 1),
      (addrBad q 8, Reply.bad 8) ])

/-- STATE of LINK_STATUS. -/
def Course.stateCode (c : Course) : Nat :=
  if c.prbs then 5 else if c.train.isSome then 2 else if c.up then (if c.duo then 3 else 4)
  else if c.cfg.enable || c.wanted then 1 else 0

/-- The structure of LINK_STATUS (Table 11-15). -/
def linkStatusStruct (l : Nat) (s : State) : List Byte :=
  let c := s.course l
  let d := c.at .data
  let lane (n : Nat) := let x := s.lane (2 * l + n)
    toLe 1 (b2n x.lock) ++ toLe 1 (b2n (bit c.rxOk n)) ++ toLe 1 (b2n x.retired) ++ toLe 1 0 ++ toLe 4 (u32 x.bip)
  toLe 8 c.bridgeUid ++ toLe 4 c.epoch ++ toLe 4 d.limit ++ toLe 4 d.sent
    ++ toLe 4 ((c.cls.map (·.unacked.length)).sum) ++ toLe 4 (u32 c.retries) ++ toLe 4 (u32 c.stompedSent)
    ++ lane 0 ++ lane 1
    ++ (match c.status with
        | some b => padTo 32 b.bytes ++ toLe 4 (u32 (tUs (s.tb1 - b.time)).toNat)
        | none => List.replicate 32 0 ++ toLe 4 0xFFFFFFFF)

/-- LINK_STATUS: the inline result, the structure for ADDR, and with CLEAR the sticky bits and PEAK
read and cleared in one step (R315, R422). -/
def linkStatusEffect (q : Cmd) (s : State) : Ans :=
  let l := q.u8 0
  let c := s.course l
  let owner := if c.owned then 1 else if c.owner = 0 then 0 else 2
  let sticky := b2n (c.marks.getD 0 {}).sticky + 2 * b2n (c.marks.getD 1 {}).sticky
  let res := toLe 1 c.stateCode ++ toLe 1 c.run.version ++ toLe 1 owner ++ toLe 1 sticky
    ++ toLe 4 c.depth ++ toLe 4 c.peak ++ toLeS 4 c.delay
  let s' := if bit (q.u8 1) 0 then
      s.onCourse l fun c => { c with marks := c.marks.map fun m => { m with sticky := false }, peak := c.depth }
    else s
  .done (.withExt res (q.u64 8) (linkStatusStruct l s)) s'

/-- LINK_STATUS (R318). -/
def execLinkStatus (q : Cmd) (s : State) : Host.Outcome State Fault Refusal :=
  runCmd 0x0B07 linkStatusCheck linkStatusEffect q s

end Sys2Proof.Machine
end

