-- ==== Sys2Proof/Machine/FireOps.lean ====
section
/-!
DEFINITION. Shared operations of the run: geometry of rows and targets, frames, the web estimate, updates
and cancellations of stamps, the speed limit (spec/10_firing.md R256 to R276, spec/01_print_model.md R23
to R27, spec/09_bar_rendering.md R224).
-/
namespace Sys2Proof.Machine

/-- The offset d of a row: BAR_OFFSET + STITCH_D + ROW_D (09 R224). -/
def Bar.rowD (b : Bar) (h row : Nat) : Int :=
  (b.conf.offset : Int) + (b.place h).stitch + (((b.place h).rows.getD row {}).d : Nat)

/-- The reference offset d_h of a head: the smallest of its rows' (09 R224). -/
def Bar.refD (b : Bar) (h : Nat) : Int :=
  (((List.range (b.place h).rows.length).map fun r => b.rowD h r).min?).getD 0

/-- A bar is in print in the armed run (09 R244). -/
def State.inPrint (s : State) (b : Nat) : Bool :=
  match s.fire.run with
  | some r => (s.bar b).enabled && bit r.bars b
  | none => false

/-- The bar's course runs protocol version 1, with no stamps (10 R272). -/
def State.isV1 (s : State) (b : Nat) : Bool := (s.course b).run.version == 1

/-! Frames (10 R256). -/

/-- n frames on from a frame start, each at its own capo position or where the one before it ends. -/
def framesOn (capos : List (Nat × Int)) (r : Run) : Nat → FrameStart → FrameStart
  | 0, f => f
  | n + 1, f => framesOn capos r n
      { frame := f.frame + 1, line := f.line + r.frameLines
        capo := (getKey (f.frame + 1) capos).getD (f.capo + r.sgn * (r.frameLines * r.pitch : Nat)) }

/-- Where a frame not before the newest known one starts. -/
def State.startOf (s : State) (r : Run) (frame : Nat) : FrameStart :=
  match r.starts.find? (·.frame == frame), r.starts with
  | some f, _ => f
  | none, f :: _ => framesOn s.fire.capos r (frame - f.frame) f
  | none, [] => {}

/-- The frame to which a run line belongs. -/
def State.frameOf (s : State) (r : Run) (n : Nat) : FrameStart :=
  match r.starts with
  | [] => {}
  | f :: _ =>
    if f.line ≤ n then framesOn s.fire.capos r ((n - f.line) / max 1 r.frameLines) f
    else (r.starts.find? fun g => decide (g.line ≤ n)).getD {}

/-- The boundary of run line n that the web meets first, w_f (10 R261). -/
def State.lineStart (s : State) (r : Run) (n : Nat) : Int :=
  let f := s.frameOf r n
  f.capo + r.sgn * (((n - f.line) * r.pitch : Nat) : Int)

/-- ALIGN in force of a bar in the run direction; it does not apply on a version 1 course (10 R261, R272). -/
def State.alignOf (s : State) (r : Run) (b : Nat) : Int :=
  if s.isV1 b then 0 else if r.reverse then (s.bar b).alignR else (s.bar b).alignF

/-- The target T of an offset for run line n, frets (10 R261). -/
def State.target (s : State) (r : Run) (b : Nat) (d : Int) (n : Nat) : Int :=
  s.lineStart r n + d - r.sgn * s.alignOf r b

/-- The remaining distance to a target, in units of 2^-32 frets. -/
def Run.remaining (r : Run) (t : Int) : Int := r.sgn * t * 2 ^ 32 - r.progress

/-- A head in the run. -/
def Run.headRun (r : Run) (b h : Nat) : Option HeadRun := r.heads.find? fun x => x.bar == b && x.head == h

/-- Replace a head in the run. -/
def State.putHead (h : HeadRun) (s : State) : State :=
  s.onRun fun r => { r with heads := r.heads.map fun x => if x.bar == h.bar && x.head == h.head then h else x }

/-- The lead that acts on a bar: its own in catch-up (09 R248). -/
def State.leadOf (s : State) (b : Nat) : Nat := (s.bar b).catchLead.getD s.fire.lead

/-! The web's newest pair and fire times (10 R260, R262). -/

/-- The fire stamp of a target from a channel's newest pair and speed, where the signs agree (10 R262). -/
def Channel.fireTime (c : Channel) (sgn t : Int) : Option Int :=
  match c.pairs with
  | [] => none
  | p :: _ =>
    let dq := t * 2 ^ 32 - p.pos
    if c.speedValid && !c.stalled && decide (0 < sgn * dq) && decide (0 < sgn * c.speed) then
      let num := (dq * 2 ^ 32).natAbs
      let den := c.speed.natAbs
      some (p.time + (((2 * num + den) / (2 * den) : Nat) : Int))
    else none

/-- Stamps whose time has come have fired: the row keeps the last of them. -/
def RowRun.settle (now : Int) (r : RowRun) : RowRun :=
  match (r.ahead.filter fun x => decide (x.time ≤ now)).getLast? with
  | some x => { r with ahead := r.ahead.filter (fun x => decide (now < x.time)), lastFire := some x.time, lastLine := some x.line }
  | none => r

/-- A stamp entry of a row (Table 10-4). -/
def State.stampEntry (s : State) (h : HeadRun) (row op line : Nat) (time : Int) : PrioEntry :=
  { run := s.runId, target := ((s.bar h.bar).place h.head).slot + 32 * row, op, line, time }

/-- Hand entries of a bar to its course and count them (STAMPS_FIRE, STAMPS_UPDATE, STAMPS_CANCEL). -/
def sendStamps (b : Nat) (es : List PrioEntry) (s : State) : State :=
  if es.isEmpty || s.isV1 b || !s.carries b then s
  else
    let n (op : Nat) : Int := ((es.filter (·.op == op)).length : Nat)
    bump (ctr 8 b 7) (n 3) (bump (ctr 8 b 6) (n 1) (bump (ctr 8 b 5) (n 0) (pushPrio b es s)))

/-- Lines inserted in rising order. -/
def insertLine (n : Nat) : List Nat → List Nat
  | [] => [n]
  | x :: xs => if n < x then n :: x :: xs else if n = x then x :: xs else x :: insertLine n xs

/-- Cancel the FIREs of a head whose time lies more than 2 us ahead. `keep`: they are to be stamped
again (R276). The number cancelled comes with the state. -/
def cancelHead (keep : Bool) (sn : State × Nat) (h : HeadRun) : State × Nat :=
  let s := sn.1
  let now := s.tb3
  let late (x : Stamp) : Bool := decide (now + usT 2 < x.time)
  let rows := h.rows.map fun r =>
    let r := r.settle now
    { r with
      ahead := r.ahead.filter fun x => !late x
      again := if keep then (r.ahead.filter late).foldl (fun l x => insertLine x.line l) r.again else r.again }
  let es := h.rows.flatMap fun r => (r.ahead.filter late).map fun x => s.stampEntry h r.row 3 x.line 0
  (sendStamps h.bar es (s.putHead { h with rows }), sn.2 + es.length)

/-- Cancel every FIRE whose time lies more than 2 us ahead, in the whole run. -/
def cancelRun (keep : Bool) (s : State) : State × Nat :=
  match s.fire.run with
  | some r => r.heads.foldl (cancelHead keep) (s, 0)
  | none => (s, 0)

/-! Updates of stamps sent (10 R267). -/

/-- Recompute the stamps of a row from the targets of its lines: the row after it, and the UPDATEs. -/
def updateRow (c : Channel) (sgn now fMin : Int) (tgt : Nat → Int) (r : RowRun) : RowRun × List Stamp :=
  let r := r.settle now
  let go := r.ahead.foldl (fun (acc : Option Int × List Stamp × List Stamp) x =>
    let (prev, kept, ups) := acc
    let keep := (some x.time, kept ++ [x], ups)
    if x.time ≤ now + usT 2 then keep
    else match c.fireTime sgn (tgt x.line) with
      | none => keep
      | some t =>
        let t := match prev with
          | some p => max t (p + fMin)
          | none => t
        if (2 : Nat) ^ 62 < (t - x.time).natAbs * c.speed.natAbs then
          let x := { x with time := t }
          (some t, kept ++ [x], ups ++ [x])
        else keep) (r.lastFire, [], [])
  ({ r with ahead := go.2.1 }, go.2.2)

/-- Recompute the stamps of a head at a new pair (R267). -/
def updateHead (c : Channel) (run : Run) (s : State) (h : HeadRun) : State :=
  let fMin := match ((s.bar h.bar).place h.head).ctx with
    | some x => (s.ctx x).fMin
    | none => 0
  let rows := h.rows.map fun r => updateRow c run.sgn s.tb3 fMin (fun n => s.target run h.bar ((s.bar h.bar).rowD h.head r.row) n) r
  let es := rows.flatMap fun x => x.2.map fun st => s.stampEntry h x.1.row 1 st.line st.time
  sendStamps h.bar es (s.putHead { h with rows := rows.map (·.1) })

/-! The web estimate, reversals and resumption (10 R260, R276, 01 R26, R27). -/

/-- The estimate of the web position from the newest pair (R260). -/
def Channel.estQ (c : Channel) (sgn now : Int) : Option Int :=
  match c.scale, c.pairs with
  | some _, p :: _ =>
    let age := now - p.time
    some (if c.speedValid && !c.stalled && decide (0 < sgn * c.speed) && decide (0 ≤ age) && decide (age * 1000 ≤ 2 ^ 32)
      then p.pos + sar (c.speed * age) 32 else p.pos)
  | _, _ => none

/-- Travel of the web against the run up to a position, each stretch of it counted (01 R27): the run after it, and the whole frets
that it adds to REVERSE_FRETS. -/
def Run.travelBack (pos : Int) (r : Run) : Run × Int :=
  match r.against with
  | some last =>
    let q := r.backQ + max 0 (r.sgn * (last - pos))
    ({ r with against := some pos, backQ := q }, q.fdiv (2 ^ 32) - r.backQ.fdiv (2 ^ 32))
  | none => (r, 0)

/-- Count the travel against the run up to the newest pair (01 R27). -/
def countBack (s : State) : State :=
  match s.fire.run, s.webChan.bind fun c => c.pairs.head? with
  | some r, some p => bump (ctr 7 0 2) (r.travelBack p.pos).2 (s.onRun fun r => (r.travelBack p.pos).1)
  | _, _ => s

/-- Progress never moves back; when it advances after a reversal, the web has resumed (R260, R276). -/
def advanceProgress (s : State) : State :=
  match s.fire.run, s.webChan with
  | some r, some c =>
    match c.estQ r.sgn s.tb3 with
    | none => s
    | some est =>
      let s := countBack (s.onFire fun f => { f with est := some est })
      if r.progress < r.sgn * est then
        let back : Int := ((s.fire.run.map fun (r : Run) => r.backQ).getD 0).fdiv (2 ^ 32)
        let s := s.onRun fun r => { r with progress := r.sgn * est, against := none, backQ := 0, backing := false }
        if r.against.isSome then post evWebResumed unitFir (u32 back.toNat) 0 s else s
      else s
  | _, _ => s

/-- What a new pair of the web channel does to the run (R260, R267, R23). -/
def runOnPair (s : State) : State :=
  match s.fire.run, s.webChan with
  | some _, some c =>
    let s := advanceProgress s
    let s := match s.fire.run with
      | some r => if r.against.isSome || s.fire.inhibit then s else r.heads.foldl (updateHead c r) s
      | none => s
    checkLimit s
  | _, _ => s

/-- A change of the web's direction is recognised (05 R120). Against the run it is a reversal (R276): every FIRE more than 2 us ahead
is cancelled and will be stamped again; `turn` is pos_q32 of the furthest point. -/
def webReversed (dir turn : Int) (s : State) : State :=
  match s.fire.run with
  | none => s
  | some r =>
    if dir = r.sgn then s.onRun fun r => { r with backing := false }
    else
      let (s, n) := cancelRun true s
      let s := bump (ctr 7 0 1) 1 s
      let s := s.onRun fun r => { r with backing := true, against := some (r.against.getD turn) }
      post evWebReversed unitFir n (((r.sgn * r.progress).fdiv (2 ^ 32)).emod (2 ^ 32)).toNat s

end Sys2Proof.Machine
end

