-- ==== Sys2Proof/Machine/RingRange.lean ====
section
/-!
DEFINITION. Which run lines fall due, and the ring range that follows from them: the contone lines still to be read
(spec/10_firing.md, R264; spec/09_bar_rendering.md, R220, R242; spec/08_composition_and_colour.md, R193).
-/
namespace Sys2Proof.Machine

/-! Lines that fall due (10 R264). -/

/-- Lines of a frame that lie within a distance of a point with offset d: of those, how many (10 R261, R264). -/
def dueIn (s : State) (r : Run) (b : Nat) (d : Int) (dist : Nat) (f : FrameStart) : Nat :=
  let x : Int := ((dist * r.pitch : Nat) : Int) * 2 ^ 32 + r.progress - (r.sgn * (f.capo + d) - s.alignOf r b) * 2 ^ 32
  if x < 0 then 0 else min r.frameLines ((x / ((r.pitch * 2 ^ 32 : Nat) : Int)).toNat + 1)

/-- The first run line whose remaining distance, for an offset, is above `dist` lines. -/
def State.firstBeyond (s : State) (r : Run) (b : Nat) (d : Int) (dist : Nat) : Nat :=
  let known := r.starts.reverse
  let last := r.starts.headD {}
  let frames := known ++ (List.range 8).map fun i => framesOn s.fire.capos r (i + 1) last
  match frames.find? fun f => decide (dueIn s r b d dist f < r.frameLines) with
  | some f => f.line + dueIn s r b d dist f
  | none => last.line + 9 * r.frameLines

/-- The first run line that every head of a bar can still print (R242). -/
def State.nextBarLine (s : State) (r : Run) (b : Nat) : Nat :=
  if !r.ticked then 0 else
  let r := { r with progress := r.tickProgress }
  (((s.bar b).placed.map fun h => s.firstBeyond r b ((s.bar b).refD h) (s.leadOf b)).max?).getD 0

/-! The ring range (09 R220). -/

/-- Contone lines of a frame of L print lines (08 R193). -/
def Run.contoneLines (r : Run) : Nat := if r.pitch = 64 then ceilDiv r.frameLines 2 else r.frameLines

/-- A run line's contone line a, its neighbour an (a itself at 600 lpi), and the bounds of its frame's (09 R230). -/
structure ContoneLines where
  a : Nat := 0
  an : Nat := 0
  lo : Nat := 0
  hi : Nat := 0
deriving DecidableEq, Repr, Inhabited

/-- The contone lines of a run line (09 R230). -/
def State.contoneOf (s : State) (r : Run) (n : Nat) : ContoneLines :=
  let f := s.frameOf r n
  let k := n - f.line
  let per := r.contoneLines
  let lo := f.frame * per
  let a := lo + (if r.pitch = 64 then k / 2 else k)
  let an := if r.pitch ≠ 64 then a else if k % 2 = 0 then (if a = lo then a else a - 1) else min (a + 1) (lo + per - 1)
  { a, an, lo, hi := lo + per }

/-- SY of a bar under an image, 0 for ink bars. -/
def Bar.syOf (b : Bar) (i : BarImage) : Nat := if b.conf.kind = 1 then i.derive.sy else 0

/-- SY of a bar. -/
def Bar.sy (b : Bar) : Nat := b.syOf b.act

/-- The greatest SY under which a line of the bar may still be rendered. -/
def Bar.syMost (b : Bar) : Nat := b.olds.foldl (fun m x => max m (b.syOf x.2)) b.sy

/-- The first contone line of the run that a bar's run line reads. -/
def State.lineBottom (s : State) (r : Run) (b n : Nat) : Nat :=
  let c := s.contoneOf r n
  min c.a c.an - min (s.bar b).syMost (min c.a c.an - c.lo)

/-- The lowest run line that a bar of the run has still to read: for one not enabled, the next that it could print. -/
def State.barOldest (s : State) (r : Run) (b : Nat) : Nat :=
  let mine := if (s.bar b).enabled then r.heads.filter fun h => h.bar == b else []
  let open_ := mine.map fun h => (((h.due.filter fun d => !d.committed).map (·.line)).min?).getD h.nextDue
  (open_.min?).getD (s.nextBarLine r b)

/-- The oldest contone line still in the ring range (R220), over the bars in the run with placed heads. -/
def State.ringOldest (s : State) (r : Run) : Nat :=
  let bars := (List.range 10).filter fun b => bit r.bars b && !(s.bar b).placed.isEmpty
  ((bars.map fun b => s.lineBottom r b (s.barOldest r b)).min?).getD s.cps.nextCl

/-- The bars that hold the oldest line. -/
def State.ringHolders (s : State) (r : Run) (oldest : Nat) : List Nat :=
  (List.range 10).filter fun b => bit r.bars b && !(s.bar b).placed.isEmpty && s.lineBottom r b (s.barOldest r b) == oldest

/-- The oldest line of the ring range now, 0 with no run armed. -/
def State.oldestNow (s : State) : Nat := ((s.fire.run.map s.ringOldest).getD 0)

end Sys2Proof.Machine
end

