-- ==== Sys2Proof/Machine/Layer.lean ====
section
/-!
DEFINITION. Layers, slots, fences, flips and the readiness point; COLOUR_INK_LIMIT and COLOUR_CURVES
(spec/08_composition_and_colour.md, R187 to R199, R202 to R211, R215 to R218).
-/
namespace Sys2Proof.Machine

/-- Change one layer. -/
def State.onLayer (i : Nat) (f : Layer → Layer) (s : State) : State := s.onCps fun c => { c with layers := upd i f c.layers }
/-- A layer. -/
def State.layer (s : State) (i : Nat) : Layer := s.cps.layers.getD i {}

/-- Compose pipes in service. -/
def State.pipes (s : State) : Nat := ((List.range 5).filter fun i => !s.isRetired (0x0600 + i)).length

/-- Slice width S of a span width for n pipes (R188). -/
def sliceWidth (wc n : Nat) : Nat := 64 * ceilDiv wc (64 * max 1 n)

/-- Width of the compose span, the full width while no run is armed. -/
def State.spanWidth (s : State) : Nat :=
  match s.cps.span with
  | some (a, b) => b - a
  | none => 49152

/-- SPAN and SPAN_LIMIT of a configuration with an image's width (R196). -/
def sourceSpan (c : LayerCfg) (width : Nat) (s : State) : Nat × Nat :=
  let taps := if c.isSmooth then tapCount c.stepX else 1
  let chk := sliceWidth s.spanWidth (min 4 s.pipes)
  (min (ceilDiv ((chk - 1) * c.stepX) 65536 + taps) (width + taps), if c.isSmooth && tapCount c.stepY == 8 then 8192 else 16384)

/-- A configuration with what its image gives: format, size, span, coefficients (R192, R194, R196). -/
def LayerCfg.withImage (c : LayerCfg) (h : ImageHeader) (s : State) : LayerCfg :=
  let c := { c with format := h.format, depth := h.depth, inkMask := h.inkMask, width := h.width, height := h.height, channels := h.channels }
  let sp := sourceSpan c h.width s
  { c with span := sp.1, spanLimit := sp.2, coefX := if c.isSmooth then coefTable c.stepX else [], coefY := if c.isSmooth then coefTable c.stepY else [] }

/-! LAYER_CONFIG and LAYER_GUARD (R191, R192, R203). -/

/-- A repeat descriptor as given (Table 7-9). -/
def repeatOf (b : List Byte) : Repeat :=
  { geometry := rd b 0 1, mirrorX := bit (rd b 1 1) 0, mirrorY := bit (rd b 1 1) 1, shift := rd b 4 4, originX := rdS b 8 4, originY := rdS b 12 4 }

/-- A configuration as given (Table 8-5). -/
def layerCfgOf (q : Cmd) : LayerCfg :=
  { source := q.u8 1, smooth := bit (q.u8 2) 0, continuous := bit (q.u8 2) 1, policy := q.u8 3, job := q.u32 4, obj := q.u32 8
    palette := q.u8 12, recipe := q.u8 13, transform := q.u8 14, writeMask := q.u8 15, opacity := q.u16 16
    clip0 := q.u16 18, clip1 := if q.u16 20 = 0 then 49152 else q.u16 20
    stepX := q.u32 24, stepY := q.u32 28, destX := q.s32 32, destY := q.s64 40, rep := repeatOf (slice q.params 48 16) }

/-- SHIFT within the range of its GEOMETRY for an image (R174). -/
def shiftBad (r : Repeat) (h : ImageHeader) : Bool :=
  (r.geometry == 2 && decide (h.height ≤ r.shift)) || (r.geometry == 3 && decide (h.width ≤ r.shift))

/-- Checks that LAYER_CONFIG and LAYER_GUARD share: the values, then each command's own check of the state, then the states that both ask
for (03 Table 3-16). -/
def layerFieldChecks (q : Cmd) (own : List (Bool × Reply)) (s : State) : List (Bool × Reply) :=
  let c := layerCfgOf q
  let img := (s.imgOf c.job c.obj).map (·.h)
  let h := img.getD {}
  let step (v : Nat) : Bool := decide (v < 0x1000) || decide (0x40000 < v)
  let is := c.source == 1
  let w := c.withImage h s
  [ (decide (2 < c.source), Reply.bad 1),
    (extraBits (q.u8 2) 3, Reply.bad 2),
    (decide (2 < c.policy), Reply.bad 3),
    (decide (15 < c.palette), Reply.bad 12),
    (decide (1 < c.transform), Reply.bad 14),
    (decide (49152 < c.clip1) || decide (c.clip1 ≤ c.clip0), Reply.bad 20),
    (step c.stepX, Reply.bad 24),
    (step c.stepY, Reply.bad 28),
    (decide (3 < c.rep.geometry), Reply.bad 48),
    (extraBits (rd q.params 49 1) 3, Reply.bad 49),
    (if c.rep.geometry ≤ 1 then c.rep.shift != 0 else c.rep.shift == 0, Reply.bad 52),
    (is && (s.job c.job).any (·.usable) && img.isNone, Reply.bad 8 0x0147),
    (is && img.isSome && shiftBad c.rep h, Reply.bad 52) ] ++ own ++
  [ (is && !((s.job c.job).any (·.usable)), Reply.err .state 0x0141),
    (is && (h.format == 3 || h.format == 4) && (s.cps.transforms.getD c.transform none).isNone, Reply.err .state 0x0146),
    (is && decide (w.spanLimit < w.span), { status := .scalerWidth, detail := 0x0150, aux := w.span }) ]

/-- Fields of Table 8-5. -/
def layerFields : List (Nat × Nat) := [(0, 22), (24, 12), (40, 10), (52, 12)]

/-- Checks of LAYER_CONFIG (R192). -/
def layerConfigCheck (q : Cmd) (s : State) : Option Reply :=
  firstFail (shape q 64 layerFields ++
    [ (q.u8 0 == 7, Reply.bad 0 0x0143), (decide (7 < q.u8 0), Reply.bad 0) ]
    ++ layerFieldChecks q [(decide (q.u8 0 < 7) && !(s.layer (q.u8 0)).flips.isEmpty, Reply.err .state 0x014B)] s)

/-- The configuration that a command makes, and its result. -/
def madeCfg (q : Cmd) (s : State) : LayerCfg × Reply :=
  let c := layerCfgOf q
  if c.source = 1 then
    let c := c.withImage (((s.imgOf c.job c.obj).map (·.h)).getD {}) s
    (c, .good (toLe 4 c.span ++ toLe 4 c.spanLimit))
  else ({ c with span := 0, spanLimit := 16384 }, .good (toLe 4 0 ++ toLe 4 16384))

/-- Put a configuration in force: the layer is judged afresh. -/
def Layer.config (c : LayerCfg) (l : Layer) : Layer := { l with act := c, widthLost := false, pend := none, merged := [] }

/-- Keep a reply with a command in flight until it completes. -/
def keepFor (id : CmdId) (r : Reply) (s : State) : State := s.onFlying id fun e => { e with reply := some r }

/-- Finish a command with the reply kept for it. -/
def finishKept (s : State) (id : CmdId) : State := finish id (((s.flying id).bind (·.reply)).getD .good) s

/-- LAYER_CONFIG (R191): in force at once, or pending to the next readiness point. -/
def layerConfigEffect (q : Cmd) (s : State) : Ans :=
  let (c, r) := madeCfg q s
  if s.fire.run.isNone then .done r (s.onLayer (q.u8 0) (Layer.config c))
  else
    .wait (keepFor q.id r (s.onLayer (q.u8 0) fun l =>
      { l with pend := some (c, q.id), merged := l.merged ++ (l.pend.map (·.2)).toList }))

/-- LAYER_CONFIG (R192). -/
def execLayerConfig (q : Cmd) (s : State) : Host.Outcome State Fault Refusal := runCmd 0x0401 layerConfigCheck layerConfigEffect q s

/-- Checks of LAYER_GUARD (R203). -/
def layerGuardCheck (q : Cmd) (s : State) : Option Reply :=
  firstFail (shape q 64 layerFields ++
    [ (q.u8 0 != 7, Reply.bad 0 0x0143), (q.u8 3 != 2, Reply.bad 3 0x0143) ] ++ layerFieldChecks q [(s.fire.run.isSome, Reply.err .state 0x0144)] s)

/-- LAYER_GUARD (R203). -/
def layerGuardEffect (q : Cmd) (s : State) : Ans :=
  let (c, r) := madeCfg q s
  .done r (s.onLayer 7 (Layer.config c))

/-- LAYER_GUARD (R203). -/
def execLayerGuard (q : Cmd) (s : State) : Host.Outcome State Fault Refusal := runCmd 0x0407 layerGuardCheck layerGuardEffect q s

/-! LAYER_FLIP (R208, R209). -/

/-- What is wrong with the image of a flip (R209): the reply and parameter 2 of EV_LAYER_FLIP_REFUSED. -/
def flipFault (i job obj : Nat) (s : State) : Option (Reply × Nat) :=
  let c := (s.layer i).act
  if !((s.job job).any (·.usable)) then some (Reply.err .state 0x0141, 3)
  else match s.imgOf job obj with
    | none => some (Reply.bad 8 0x0147, 3)
    | some m =>
      if c.source != 1 || m.h.format != c.format || m.h.depth != c.depth || m.h.inkMask != c.inkMask then some (Reply.err .state 0x0148, 2)
      else
        let w := c.withImage m.h s
        if w.spanLimit < w.span then some ({ status := .scalerWidth, detail := 0x0150, aux := w.span }, 1) else none

/-- The frame that a flip targets (R208). -/
def flipTarget (l : Layer) (wanted : Nat) (s : State) : Nat :=
  if wanted = 0xFFFFFFFF then
    match (l.flips.map (·.target)).max? with
    | some t => t + 1
    | none => s.cps.nextFrame
  else wanted

/-- Checks of LAYER_FLIP before its image (R203, R208). -/
def layerFlipCheck (q : Cmd) (s : State) : Option Reply :=
  let l := s.layer (q.u8 0)
  let j := s.job (q.u32 4)
  let target := flipTarget l (q.u32 12) s
  firstFail (shape q 32 [(0, 3), (4, 28)] ++
    [ (q.u8 0 == 7, Reply.bad 0 0x0143), (decide (7 < q.u8 0), Reply.bad 0),
      (extraBits (q.u8 1) 3, Reply.bad 1),
      (decide (63 < q.u8 2), Reply.bad 2),
      (!(j.any (·.usable) || (bit (q.u8 1) 1 && j.any (·.st == .loading))), Reply.err .state 0x0141),
      (decide (4 ≤ l.flips.length), Reply.err .limit 0x014C),
      ((q.u32 12 != 0xFFFFFFFF && decide (target < s.cps.nextFrame)) || l.flips.any (fun f => decide (target ≤ f.target)), Reply.err .state 0x0142) ])

/-- Refuse a flip (R209): its event and, for a frame, its counter. -/
def refuseFlip (i code frame : Nat) (s : State) : State := addFor frame (ctr 5 0 4) 1 (post evLayerFlipRefused unitCtl i code s)

/-- LAYER_FLIP (R208): pending until its frame; a job that is known is checked at once. -/
def layerFlipEffect (q : Cmd) (s : State) : Ans :=
  let i := q.u8 0
  let l := s.layer i
  let bad := if (s.job (q.u32 4)).any (·.usable) then flipFault i (q.u32 4) (q.u32 8) s else none
  match bad with
  | some (r, code) => .done r (refuseFlip i code s.stat.cur.frame s)
  | none =>
    let f : Flip := { cmd := q.id, job := q.u32 4, obj := q.u32 8, target := flipTarget l (q.u32 12) s
                      wait := if bit (q.u8 1) 1 then some (q.u8 2, q.u32 16) else none
                      origin := if bit (q.u8 1) 0 then some (q.s32 20, q.s32 24) else none }
    .wait (setAbortable q.id true (s.onLayer i fun l => { l with flips := l.flips ++ [f] }))

/-- LAYER_FLIP (R208). -/
def execLayerFlip (q : Cmd) (s : State) : Host.Outcome State Fault Refusal := runCmd 0x0402 layerFlipCheck layerFlipEffect q s

/-- A pending flip is discarded (R211). -/
def dropFlip (s : State) (id : CmdId) : State :=
  finish id (Reply.err .cancelled 0x0149)
    (s.onCps fun c => { c with layers := c.layers.map fun l => { l with flips := l.flips.filter fun f => !(f.cmd == id) } })

/-- Every pending flip is discarded, at a run's end or on entry into P3 (R211). -/
def cancelFlips (s : State) : State := (s.cps.layers.flatMap fun l => l.flips.map (·.cmd)).foldl dropFlip s

/-! LAYER_FENCE (R207). -/

/-- Checks of LAYER_FENCE. -/
def layerFenceCheck (q : Cmd) (s : State) : Option Reply :=
  firstFail (shape q 8 [(0, 2), (4, 4)] ++
    [ (decide (63 < q.u8 0), Reply.bad 0), (extraBits (q.u8 1) 1, Reply.bad 1), (bit (q.u8 1) 0 && s.fire.run.isSome, Reply.err .state) ])

/-- LAYER_FENCE (R207). -/
def layerFenceEffect (q : Cmd) (s : State) : Ans :=
  let v := if bit (q.u8 1) 0 then q.u32 4 else max (s.cps.fences.getD (q.u8 0) 0) (q.u32 4)
  .done (.good (toLe 4 v)) (s.onCps fun c => { c with fences := upd (q.u8 0) (fun _ => v) c.fences })

/-- LAYER_FENCE (R207). -/
def execLayerFence (q : Cmd) (s : State) : Host.Outcome State Fault Refusal := runCmd 0x0403 layerFenceCheck layerFenceEffect q s

/-! Colour objects (R199, Tables 8-3 and 8-4). -/

/-- The common header: MAGIC, VERSION, COUNT where fixed, reserved bytes. -/
def colourHeader (o : List Byte) (magic : Nat) : Bool :=
  decide (16 ≤ o.length) && rd o 0 4 == magic && rd o 4 2 == 1 && allZero (slice o 10 6)

/-- A PALETTE object. -/
def paletteOf (o : List Byte) : Option Palette :=
  let n := rd o 6 2
  let t := rd o 8 2
  if colourHeader o 0x4C41504C && decide (1 ≤ n) && decide (n ≤ 256) && (decide (t < 256) || t == 0xFFFF) && o.length == 16 + 16 * n then
    some { entries := chunks 8 (numbers 2 (o.drop 16)), transparent := if t = 0xFFFF then none else some t }
  else none

/-- A TONE object. -/
def toneOf (o : List Byte) : Option (List (List Nat)) :=
  if colourHeader o 0x4E4F544C && rd o 6 2 == 3 && rd o 8 2 == 0 && o.length == 1558 then some (chunks 257 (numbers 2 (o.drop 16))) else none

/-- A CUBE object. -/
def cubeOf (o : List Byte) : Option (List (List Nat)) :=
  if colourHeader o 0x4255434C && rd o 6 2 == 33 && rd o 8 2 == 0 && o.length == 575008 then some (chunks 8 (numbers 2 (o.drop 16))) else none

/-- A CURVES object. -/
def curvesOf (o : List Byte) : Option Curves :=
  if colourHeader o 0x5652434C && rd o 6 2 == 8 && decide (rd o 8 2 < 256) && o.length == 4128 then
    some { enable := rd o 8 2, curves := chunks 257 (numbers 2 (o.drop 16)) }
  else none

/-- An object of a stored job. -/
def State.object (s : State) (job obj type : Nat) : Option (List Byte) :=
  match s.job job with
  | none => none
  | some j => ((directory j.bytes).find? fun e => e.id == obj && e.type == type).map (objBytes j.bytes)

/-- Checks of a SOURCE field, of its parameter block and of the objects it names with the offsets of their fields. Over Ethernet,
`big` objects come from a job alone (R215). -/
def sourceChecks (q : Cmd) (srcOff jobOff : Nat) (objs : List (Nat × Nat)) (missing : Nat) (big : Bool) (s : State) : List (Bool × Reply) :=
  let src := q.u8 srcOff
  [ (big && src == 0 && q.src.isSome, Reply.err .badLength),
    (decide (1 < src), Reply.bad srcOff),
    (if src = 0 then q.pblk.isEmpty else !q.pblk.isEmpty, Reply.err .badLength),
    (src == 1 && !((s.job (q.u32 jobOff)).any (·.usable)), Reply.err .state 0x0141) ]
    ++ objs.map fun x => (src == 1 && (s.object (q.u32 jobOff) (q.u32 x.1) x.2).isNone, Reply.bad x.1 missing)

/-- A malformed object, in the block or named by a field. -/
def objectFault (q : Cmd) (srcOff objOff blockOff detail : Nat) : Reply :=
  if q.u8 srcOff = 0 then Reply.badBlock blockOff detail else Reply.bad objOff detail

/-- A configuration uses a palette slot. -/
def LayerCfg.usesPalette (c : LayerCfg) (slot : Nat) : Bool :=
  c.palette == slot && (c.source == 2 || (c.source == 1 && [1, 2, 7].contains c.format))

/-- A configuration uses a transform slot. -/
def LayerCfg.usesTransform (c : LayerCfg) (slot : Nat) : Bool := c.transform == slot && c.source == 1 && [3, 4].contains c.format

/-- A slot is in use while a run is armed (R199): by a configuration, or by a frame with a line in the ring range. A flip
keeps its layer's slots. -/
def slotInUse (uses : LayerCfg → Bool) (s : State) : Bool :=
  s.fire.run.isSome &&
    ((s.cps.layers.any fun l => uses l.act || l.pend.any fun p => uses p.1)
      || s.cps.frames.any fun f => decide (s.oldestNow < f.firstCl + f.lines) && f.layers.any fun l => uses l.cfg)

/-- The object of LAYER_PALETTE. -/
def palObject (q : Cmd) (s : State) : Option Palette :=
  paletteOf (if q.u8 1 = 0 then q.pblk else (s.object (q.u32 4) (q.u32 8) 2).getD [])

/-- Checks of LAYER_PALETTE (R199). -/
def layerPaletteCheck (q : Cmd) (s : State) : Option Reply :=
  firstFail (shape q 16 [(0, 2), (4, 8)] true ++ [(decide (15 < q.u8 0), Reply.bad 0)] ++ sourceChecks q 1 4 [(8, 2)] 0x0147 false s ++
    [ ((palObject q s).isNone, objectFault q 1 8 0 0x014A), (slotInUse (·.usesPalette (q.u8 0)) s, Reply.err .state 0x0145) ])

/-- LAYER_PALETTE (R199). -/
def layerPaletteEffect (q : Cmd) (s : State) : Ans :=
  .done .good (s.onCps fun c => { c with palettes := upd (q.u8 0) (fun _ => (palObject q s).getD {}) c.palettes })

/-- LAYER_PALETTE (R199). -/
def execLayerPalette (q : Cmd) (s : State) : Host.Outcome State Fault Refusal := runCmd 0x0404 layerPaletteCheck layerPaletteEffect q s

/-- The TONE object of LAYER_TONE. -/
def toneObject (q : Cmd) (s : State) : Option (List (List Nat)) :=
  toneOf (if q.u8 1 = 0 then q.pblk.take 1558 else (s.object (q.u32 4) (q.u32 8) 3).getD [])

/-- The CUBE object of LAYER_TONE. -/
def cubeObject (q : Cmd) (s : State) : Option (List (List Nat)) :=
  cubeOf (if q.u8 1 = 0 then q.pblk.drop 0x640 else (s.object (q.u32 4) (q.u32 12) 4).getD [])

/-- Checks of LAYER_TONE (R199). -/
def layerToneCheck (q : Cmd) (s : State) : Option Reply :=
  firstFail (shape q 16 [(0, 2), (4, 12)] true ++ [(decide (1 < q.u8 0), Reply.bad 0)] ++ sourceChecks q 1 4 [(8, 3), (12, 4)] 0x0147 true s ++
    [ ((toneObject q s).isNone || (q.u8 1 == 0 && !allZero (slice q.pblk 1558 42)), objectFault q 1 8 0 0x014A),
      ((cubeObject q s).isNone, objectFault q 1 12 0x640 0x014A),
      (slotInUse (·.usesTransform (q.u8 0)) s, Reply.err .state 0x0145) ])

/-- LAYER_TONE (R199). -/
def layerToneEffect (q : Cmd) (s : State) : Ans :=
  .done .good (s.onCps fun c =>
    { c with transforms := upd (q.u8 0) (fun _ => some { tone := (toneObject q s).getD [], cube := (cubeObject q s).getD [] }) c.transforms })

/-- LAYER_TONE (R199). -/
def execLayerTone (q : Cmd) (s : State) : Host.Outcome State Fault Refusal := runCmd 0x0405 layerToneCheck layerToneEffect q s

/-! LAYER_ORDER, COLOUR_INK_LIMIT, COLOUR_CURVES (R191, R202, R204, R205). -/

/-- The first byte of ORDER at fault: an index above 6 or listed twice, or a byte after the listed ones. -/
def orderFault (q : Cmd) : Option Nat :=
  (List.range 7).find? fun i =>
    let v := q.u8 (4 + i)
    if i < q.u8 1 then decide (6 < v) || ((List.range i).any fun k => q.u8 (4 + k) == v) else v != 0

/-- Checks of LAYER_ORDER: its fields before MODE 2, which A1 refuses (A1-07). -/
def layerOrderCheck (q : Cmd) (_s : State) : Option Reply :=
  firstFail (shape q 16 [(0, 2), (4, 7), (12, 4)] ++
    [ (decide (2 < q.u8 0), Reply.bad 0), (decide (7 < q.u8 1), Reply.bad 1),
      ((orderFault q).isSome, Reply.bad (4 + (orderFault q).getD 0)),
      (q.u8 0 != 2 && q.u16 12 != 0, Reply.bad 12), (q.u8 0 != 2 && q.u16 14 != 0, Reply.bad 14),
      (q.u8 0 == 2, Reply.err .state 0x0140) ])

/-- LAYER_ORDER (R191). -/
def layerOrderEffect (q : Cmd) (s : State) : Ans :=
  let o : Order := { mode := q.u8 0, list := (List.range (q.u8 1)).map fun i => q.u8 (4 + i) }
  if s.fire.run.isNone then .done .good (s.onCps fun c => { c with order := o })
  else .wait (s.onCps fun c => { c with pendOrder := some (o, ((c.pendOrder.map (·.2)).getD []) ++ [q.id]) })

/-- LAYER_ORDER (R191). -/
def execLayerOrder (q : Cmd) (s : State) : Host.Outcome State Fault Refusal := runCmd 0x0406 layerOrderCheck layerOrderEffect q s

/-- Checks of COLOUR_INK_LIMIT (R204). -/
def colourInkLimitCheck (q : Cmd) (_s : State) : Option Reply :=
  firstFail (shape q 8 [(0, 5)] ++ [(q.u32 0 != 0 && (decide (q.u32 0 < 65535) || decide (524280 < q.u32 0)), Reply.bad 0)])

/-- COLOUR_INK_LIMIT (R191, R204). -/
def colourInkLimitEffect (q : Cmd) (s : State) : Ans :=
  let l : InkLimit := { limit := q.u32 0, mask := q.u8 4 }
  if s.fire.run.isNone then .done .good (s.onCps fun c => { c with limit := l })
  else .wait (s.onCps fun c => { c with pendLimit := some (l, ((c.pendLimit.map (·.2)).getD []) ++ [q.id]) })

/-- COLOUR_INK_LIMIT (R204). -/
def execColourInkLimit (q : Cmd) (s : State) : Host.Outcome State Fault Refusal :=
  runCmd 0x0501 colourInkLimitCheck colourInkLimitEffect q s

/-- The object of COLOUR_CURVES. -/
def curvesObject (q : Cmd) (s : State) : Option Curves :=
  curvesOf (if q.u8 0 = 0 then q.pblk else (s.object (q.u32 4) (q.u32 8) 5).getD [])

/-- Checks of COLOUR_CURVES (R199, R205). -/
def colourCurvesCheck (q : Cmd) (s : State) : Option Reply :=
  firstFail (shape q 16 [(0, 1), (4, 8)] true ++ sourceChecks q 0 4 [(8, 5)] 0x0147 true s ++
    [((curvesObject q s).isNone, objectFault q 0 8 0 0x014A)])

/-- COLOUR_CURVES (R191, R205). -/
def colourCurvesEffect (q : Cmd) (s : State) : Ans :=
  let k := (curvesObject q s).getD {}
  if s.fire.run.isNone then .done .good (s.onCps fun c => { c with curves := k })
  else .wait (s.onCps fun c => { c with pendCurves := some (k, ((c.pendCurves.map (·.2)).getD []) ++ [q.id]) })

/-- COLOUR_CURVES (R205). -/
def execColourCurves (q : Cmd) (s : State) : Host.Outcome State Fault Refusal := runCmd 0x0502 colourCurvesCheck colourCurvesEffect q s

/-! LAYER_STATUS (R216). -/

/-- STATE of a layer (Table 8-9). -/
def layerState (i : Nat) (s : State) : Nat :=
  let l := s.layer i
  if l.act.source = 0 then 0
  else if i ≠ 7 ∧ !s.cps.order.list.contains i then 4
  else if l.widthLost then 3 else if l.notReady then 2 else 1

/-- A LAYER_STATUS entry (Table 8-9). -/
def layerEntry (s : State) (i : Nat) : List Byte :=
  let l := s.layer i
  let f := l.flips.head?
  let w := f.bind (·.wait)
  toLe 1 i ++ toLe 1 (layerState i s) ++ toLe 1 l.act.policy ++ toLe 1 l.flips.length ++ toLe 4 l.act.job ++ toLe 4 l.act.obj
    ++ toLe 4 l.appliedFrame ++ toLe 4 ((f.map (·.target)).getD 0xFFFFFFFF) ++ toLe 1 ((w.map (·.1)).getD 0) ++ toLe 3 0
    ++ toLe 4 ((w.map (·.2)).getD 0) ++ toLe 4 ((w.map fun x => s.cps.fences.getD x.1 0).getD 0)
    ++ toLe 4 l.act.span ++ toLe 4 l.act.spanLimit ++ toLe 4 l.notReadyFrames ++ List.replicate 20 0

/-- Checks of LAYER_STATUS. -/
def layerStatusCheck (q : Cmd) (_s : State) : Option Reply :=
  firstFail (shape q 16 [(0, 1), (8, 8)] ++ [(decide (7 < q.u8 0) && q.u8 0 != 0xFF, Reply.bad 0), (addrBad q 8, Reply.bad 8)])

/-- LAYER_STATUS (R216). -/
def layerStatusEffect (q : Cmd) (s : State) : Ans :=
  let which := if q.u8 0 = 0xFF then List.range 8 else [q.u8 0]
  .done (.withExt (toLe 4 s.cps.nextFrame ++ toLe 1 s.cps.activeMask ++ toLe 1 s.pipes ++ toLe 1 s.cps.order.mode ++ toLe 1 0
      ++ toLe 2 (sliceWidth s.spanWidth s.pipes)) (q.u64 8) (which.flatMap (layerEntry s))) s

/-- LAYER_STATUS (R216). -/
def execLayerStatus (q : Cmd) (s : State) : Host.Outcome State Fault Refusal := runCmd 0x0408 layerStatusCheck layerStatusEffect q s

/-! The readiness point (R191, R206, R209, R210). -/

/-- Pending copies take effect, at a readiness point or at a run's end (R191, R258); the strip with them (13 R351). -/
def applyPendings (s : State) : State :=
  let c := s.cps
  let ids := (c.layers.flatMap fun l => l.merged ++ (l.pend.map (·.2)).toList) ++ ((c.pendOrder.map (·.2)).getD [])
    ++ ((c.pendLimit.map (·.2)).getD []) ++ ((c.pendCurves.map (·.2)).getD []) ++ ((s.clr.pendStrip.map (·.2)).getD [])
  let s := s.onCps fun c => { c with
    layers := c.layers.map fun l => match l.pend with
      | some (x, _) => l.config x
      | none => l
    order := (c.pendOrder.map (·.1)).getD c.order, pendOrder := none
    limit := (c.pendLimit.map (·.1)).getD c.limit, pendLimit := none
    curves := (c.pendCurves.map (·.1)).getD c.curves, pendCurves := none }
  let s := s.onClr fun k => match k.pendStrip with
    | some (st, _) => { k with strip := st, pendStrip := none }
    | none => k
  ids.foldl finishKept s

/-- What a readiness point makes of a layer's oldest due flip: nothing due, it waits, it is refused, it is applied. -/
inductive FlipPlan where
  | none | waits | refused (f : Flip) (r : Reply) (code : Nat) | applied (f : Flip)
deriving DecidableEq, Repr, Inhabited

/-- Judge a layer's oldest due flip (R209). A layer that has lost its width takes part, and stays not ready until it is
configured again (R196). -/
def planFlip (frame i : Nat) (s : State) : FlipPlan :=
  let l := s.layer i
  match l.flips with
  | [] => .none
  | f :: _ =>
    if frame < f.target then .none
    else
      let fence := f.wait.all fun w => decide (w.2 ≤ s.cps.fences.getD w.1 0)
      match s.job f.job with
      | some j =>
        if j.st = .loading ∨ (!fence ∧ j.usable) then .waits
        else match flipFault i f.job f.obj s with
          | some (r, code) => .refused f r code
          | none => .applied f
      | none => .refused f (Reply.err .state 0x0141) 3

/-- Carry a flip's plan out for a frame that is not stopped (R209). -/
def concludeFlip (frame i : Nat) (p : FlipPlan) (s : State) : State :=
  match p with
  | .refused f r code => finish f.cmd r (refuseFlip i code frame (s.onLayer i fun l => { l with flips := l.flips.drop 1 }))
  | .applied f =>
    let h := ((s.imgOf f.job f.obj).map (·.h)).getD {}
    let c := (s.layer i).act
    let rep := match f.origin with
      | some (x, y) => { c.rep with originX := x, originY := y }
      | none => c.rep
    let c := ({ c with job := f.job, obj := f.obj, rep }).withImage h s
    let delayed := decide (f.target < frame)
    let s := s.onLayer i fun l => { l with act := c, appliedFrame := frame, flips := l.flips.drop 1 }
    let s := addFor frame (ctr 5 0 3) (b2n delayed) (addFor frame (ctr 5 0 2) 1 s)
    finish f.cmd (.good (toLe 4 frame ++ toLe 4 f.target ++ toLe 4 (b2n delayed))) s
  | _ => s

/-- A layer is active (R189). -/
def State.active (s : State) (i : Nat) : Bool := (s.layer i).act.source != 0 && (i == 7 || s.cps.order.list.contains i)

/-- A frame whose number is a multiple of LADDER_EVERY carries a ladder for the next bar in turn (13 R353). DEDUCED (log 66): not a
stopped frame, all of whose lines print blank on every bar (R210). -/
def pushLadder (fr : FrameStart) (cls : Nat) (s : State) : State :=
  match s.clr.strip, s.fire.run with
  | some st, some r =>
    let bar := ((List.range 10).map fun i => (s.clr.ladderTurn + i) % 10).find? fun b => bit st.ladderBars b
    match bar with
    | some bar =>
      if st.ladderOn && fr.frame % max 1 st.ladderEvery == 0 then
        let lines := min r.frameLines (st.ladderStep * st.ladderPitch)
        let l : Ladder := { runId := r.id, frame := fr.frame, bar, line := fr.line, lines, firstCl := fr.frame * cls
                            cls := if r.pitch = 64 then ceilDiv lines 2 else lines, w0 := fr.capo, reverse := r.reverse, pitch := r.pitch
                            step := st.ladderStep, drop := st.ladderDrop, linePitch := st.ladderPitch, mark := st.mark }
        s.onClr fun k => { k with ladders := (l :: k.ladders).take 64, ladderTurn := (bar + 1) % 10 }
      else s
    | none => s
  | _, _ => s

/-- The ladder to which a run line belongs. -/
def State.ladderOf (s : State) (runId n : Nat) : Option Ladder :=
  s.clr.ladders.find? fun l => l.runId == runId && decide (l.line ≤ n) && decide (n < l.line + l.lines)

/-- The decisions of a frame's readiness point, for every layer at once (R206, R209, R210): the frame joins those held. -/
def readiness (fr : FrameStart) (lines : Nat) (s : State) : State :=
  let s := applyPendings s
  let n := fr.frame
  let plans := (List.range 7).map fun i => planFlip n i s
  let late (i : Nat) : Bool := s.active i && ((s.layer i).widthLost || plans.getD i .none == .waits)
  let nots := (List.range 8).filter late
  let policy (i : Nat) : Nat := if i = 7 then 2 else (s.layer i).act.policy
  let stops := nots.filter fun i => policy i == 2
  let mask (l : List Nat) : Nat := (l.map fun i => 2 ^ i).sum
  let stopped := !stops.isEmpty
  let s := nots.foldl (fun s i => post evLayerNotReady unitCtl (i + 256 * policy i) n s) s
  let s := s.onCps fun c => { c with layers := (indexed c.layers).map fun x =>
    { x.2 with notReady := nots.contains x.1, notReadyFrames := x.2.notReadyFrames + b2n (nots.contains x.1) } }
  let s := if stopped then post evFrameStopped unitCtl (mask stops) n s
    else (List.range 7).foldl (fun s i => concludeFlip n i (plans.getD i .none) s) (pushLadder fr lines s)
  let trans (i : Nat) : Bool := nots.contains i && ((s.layer i).widthLost || policy i == 1 || !(s.layer i).hadContent)
  let active := (List.range 8).filter s.active
  let layers := (List.range 8).map fun i => { cfg := (s.layer i).act, listed := s.active i, transparent := trans i : FrameLayer }
  let f : Frame := { number := n, layers, order := s.cps.order, limit := s.cps.limit, curves := s.cps.curves, stopped
                     capo := fr.capo, firstCl := n * lines, lines, strip := s.clr.strip }
  let s := setFor n (ctr 5 0 0) active.length s
  let s := setFor n (ctr 5 0 1) s.cps.order.mode s
  let s := setFor n (ctr 5 0 5) (mask nots) s
  let s := if stopped then setFor n (ctr 5 0 6) 1 s else s
  s.onCps fun c => { c with
    nextFrame := n + 1
    activeMask := mask active
    frames := f :: c.frames.filter fun g => decide (c.oldest < g.firstCl + g.lines)
    layers := (indexed c.layers).map fun x =>
      { x.2 with hadContent := x.2.hadContent || (!stopped && active.contains x.1 && !trans x.1) } }

/-! Cutting the span anew (R188, R196). -/

/-- At a contone line, the span is cut for the pipes in service; with three or fewer, layers that no longer fit lose their
width, in the frame of the line too. -/
def cutSpan (frame : Nat) (s : State) : State :=
  let n := s.pipes
  if n = s.cps.cutFor then s
  else
    let s := s.onCps fun c => { c with cutFor := n }
    if 3 < n then s
    else
      let lost := (List.range 8).filter fun i =>
        let l := s.layer i
        l.act.source == 1 && !l.widthLost && decide ((sourceSpan l.act l.act.width s).2 < (sourceSpan l.act l.act.width s).1)
      let s := s.onCps fun c => { c with
        layers := (indexed c.layers).map fun x => if lost.contains x.1 then { x.2 with widthLost := true } else x.2
        frames := c.frames.map fun f => if f.number == frame then
          { f with layers := (indexed f.layers).map fun x => if lost.contains x.1 then { x.2 with lost := true } else x.2 }
        else f }
      lost.foldl (fun s i => post evLayerWidthLost unitCtl i n s) s

end Sys2Proof.Machine
end

