-- ==== Sys2Proof/Machine/Queue.lean ====
section
/-!
DEFINITION. A course's line queue flit by flit: writing, committing, popping, dropping and flushing line packets
(spec/11_course_links_and_queues.md, R310 to R315).
-/
namespace Sys2Proof.Machine

/-- EV_WORK_DISCARDED: n items discarded by a unit, with a reason of Table 2-7 (02 R41). -/
def discardWork (unit n reason : Nat) (s : State) : State := if n = 0 then s else post evWorkDiscarded unit (u32 n) reason s

/-- Change a line of a head that has fallen due. -/
def State.onDue (b h n : Nat) (f : DueLine → DueLine) (s : State) : State :=
  s.onRun fun r => { r with heads := r.heads.map fun x =>
    if x.bar == b && x.head == h then { x with due := x.due.map fun d => if d.line == n then f d else d } else x }

/-! Writing (R311, R312). -/

/-- D as the producer sees it: flits popped in this clock still count (R311). -/
def Course.fill (c : Course) (now : Int) : Nat := c.depth + if c.freed.1 = now then c.freed.2 else 0

/-- The producer pushes the next flit of the packet it writes (R311, R312); the answer says whether a clock's push took place. With
injection 0x08 the push counts as one at full: the flit is dropped, and the packet will have DISCARD. Injections 0x06 and 0x07 give the
flit an ECC error (R291). -/
def pushFlit (l : Nat) (s : State) : State × Bool :=
  let c := s.course l
  match c.writing with
  | [] => (s, false)
  | w :: r =>
    let (full, inj) := takeInject 0x08 none c.injects
    if full.isSome then
      (postOnceFrame evQueueOverrun (unitCourse l) l (w.p.line % 2 ^ 32) (s.onCourse l fun c => { c with
        injects := inj, writing := { w with pushed := w.pushed + 1, p := { w.p with discard := true } } :: r }), true)
    else if queueCap ≤ c.fill s.tb1 then (s, false)
    else
      let (one, inj) := takeInject 0x06 none inj
      let (two, inj) := takeInject 0x07 none inj
      let at_ (o : Option Bool) : List (Nat × Bool) := o.toList.map fun nc => (c.flitAt, nc)
      let p := { w.p with flits := w.p.flits + 1, soft := w.p.soft ++ at_ one, hard := w.p.hard ++ at_ two }
      (s.onCourse l fun c => { c with
        injects := inj, flitAt := (c.flitAt + 1) % queueCap, writing := { w with pushed := w.pushed + 1, p } :: r }, true)

/-- Packets leave a queue unsent for a flush (R313): their rows get SKIP where no FIRE has been sent. -/
def flushed (l : Nat) (gone : List QueuePacket) (s : State) : State :=
  let held (h : HeadRun) (d : DueLine) : Bool := h.bar == l && gone.any fun p => p.head == h.head && p.line == d.line
  let drop (h : HeadRun) (d : DueLine) : DueLine := if held h d then { d with committed := true, skip := true, sent := true } else d
  let s := s.onRun fun r => { r with heads := r.heads.map fun h => { h with due := h.due.map (drop h) } }
  checkMarks l (bump (ctr 9 l 8) gone.length s)

/-- The packet being written commits (R311): it joins the queue, or is discarded for a flush that waited for it (R313). -/
def commitHead (l : Nat) (s : State) : State :=
  match (s.course l).writing with
  | [] => s
  | w :: r =>
    let s := s.onCourse l fun c => { c with writing := r }
    match w.flush with
    | some (n, f, ids) =>
      finishAll ids (.good (toLe 4 (n + 1) ++ toLe 4 (f + w.p.flits))) (discardWork (unitCourse l) (n + 1) 0x04 (flushed l [w.p] s))
    | none =>
      let s := s.onCourse l fun c => { c with queue := c.queue ++ [{ w.p with commitAt := s.tb1 }] }
      if w.render then
        (s.onDue l w.p.head w.p.line fun d => { d with committed := true, skip := d.skip || d.blank }).onBar l fun x =>
          { x with lastPushed := max x.lastPushed w.p.line }
      else s

/-- At most n clocks of the producer, up to the commit of the packet it writes. -/
def pushSome (l : Nat) : Nat → State → State
  | 0, s => s
  | n + 1, s => match pushFlit l s with
    | (s, false) => s
    | (s, true) =>
      if ((s.course l).writing.head?.map fun w => decide (w.total ≤ w.pushed)).getD true then commitHead l s else pushSome l n s

/-- Packets that no engine writes go into the queue whole, each in its turn, as far as there is room. -/
def pushWhole (l : Nat) : Nat → State → State
  | 0, s => s
  | n + 1, s => match (s.course l).writing with
    | w :: r =>
      if w.render then s
      else
        let s := pushSome l (w.total - w.pushed) s
        if (s.course l).writing.length ≤ r.length then pushWhole l n s else s
    | [] => s

/-- What waits to be pushed goes on. -/
def settleWriting (l : Nat) (s : State) : State := checkMarks l (pushWhole l (s.course l).writing.length s)

/-- A packet is to be written to a course's queue, behind those before it. -/
def writePacket (l : Nat) (p : QueuePacket) (render : Bool) (s : State) : State :=
  settleWriting l (s.onCourse l fun c => { c with writing := c.writing ++ [{ p := { p with flits := 0 }, total := p.flits, render }] })

/-- The engine goes on with the packet it writes, for some clocks (R311). -/
def writeOn (l clocks : Nat) (s : State) : State := settleWriting l (pushSome l clocks s)

/-- An engine writes a packet to this course. -/
def Course.written (c : Course) : Bool := c.writing.any (·.render)

/-- Packets that are being written, or wait to be, are given up: those with no flit in the queue go, the other commits with DISCARD
(R312). -/
def dropWriting (l : Nat) (f : Writing → Bool) (s : State) : State :=
  let give (w : Writing) : Option Writing :=
    if w.p.flits = 0 && w.flush.isNone then none else some { w with total := w.pushed, render := false, p := { w.p with discard := true, late := true } }
  let left := (s.course l).writing.filterMap fun w => if f w && w.p.stamp.isNone then give w else some w
  let s := s.onCourse l fun c => { c with writing := left }
  settleWriting l (if left.head?.any (fun w => w.total == w.pushed) then commitHead l s else s)

/-- What a course carries no more when its run stops: packets that no engine writes, with no flit in the queue. -/
def Course.unwritten (c : Course) : List QueuePacket := (c.writing.filter fun w => !w.render && w.p.flits == 0 && w.p.stamp.isNone).map (·.p)

/-- A line's packet has left completely (10 R266). -/
def Course.carried (c : Course) (slot n : Nat) : Bool := !(c.out.any fun p => p.cls == .data && p.kind == slot + 256 * (n % 65536))

/-! Reading (R311, R314). -/

/-- A flit reads with a corrected error (R314, 02 R35, R36): an upset against its location, the fourth within any 1 s permanent. -/
def softFlit (l : Nat) (s : State) (x : Nat × Bool) : State :=
  if x.2 then s
  else
    let times := s.tb1 :: ((getKey x.1 (s.course l).softAt).getD []).filter fun t => within s t 1 1
    let s := s.onCourse l fun c => { c with softAt := putKey x.1 times c.softAt }
    if 4 ≤ times.length then doom (unitCourse l) 0x01 s else s

/-- A flit reads uncorrectable (R314, 02 R36): the second time at its location since reset the fault is permanent. -/
def hardFlit (l : Nat) (s : State) (x : Nat × Bool) : State :=
  if x.2 then s
  else if (s.course l).hardAt.contains x.1 then doom (unitCourse l) 0x02 s
  else s.onCourse l fun c => { c with hardAt := x.1 :: c.hardAt }

/-- A packet's flits are read. -/
def readFlits (l : Nat) (p : QueuePacket) (s : State) : State := p.hard.foldl (hardFlit l) (p.soft.foldl (softFlit l) s)

/-- The consumer may pop a flit of a packet: it was committed in an earlier clock (R311). -/
def QueuePacket.visible (p : QueuePacket) (now : Int) : Bool := decide (p.commitAt < now)

/-- At most n flits of the packet in front are popped; the answer says whether it has left the queue. -/
def popFlits (l n : Nat) (s : State) : State × Bool :=
  match (s.course l).queue with
  | [] => (s, false)
  | p :: r =>
    let k := min n (p.flits - p.popped)
    let all := decide (p.flits ≤ p.popped + k)
    let s := s.onCourse l fun c => { c with
      queue := if all then r else { p with popped := p.popped + k } :: r
      freed := (s.tb1, k + if c.freed.1 = s.tb1 then c.freed.2 else 0) }
    (settleWriting l s, all)

/-- Flush a bar's course queue (R313): every committed packet that is not being popped is discarded at once, and the one that is being
written when it commits; `ids` then complete. The packets and flits discarded come with the state, none where a commit is
awaited. -/
def flushQueue (l : Nat) (ids : List CmdId) (s : State) : State × Option (Nat × Nat) :=
  let gone := (s.course l).queue.filter fun p => p.popped == 0
  let n := gone.length
  let f := (gone.map (·.flits)).sum
  let s := flushed l gone (s.onCourse l fun c => { c with queue := c.queue.filter fun p => p.popped != 0 })
  match (s.course l).writing with
  | w :: r =>
    if w.pushed = 0 then (discardWork (unitCourse l) n 0x04 s, some (n, f))
    else
      let (n₀, f₀, ids₀) := w.flush.getD (0, 0, [])
      (settleWriting l (s.onCourse l fun c => { c with writing := { w with flush := some (n₀ + n, f₀ + f, ids₀ ++ ids) } :: r }), none)
  | [] => (discardWork (unitCourse l) n 0x04 s, some (n, f))

end Sys2Proof.Machine
end

