-- ==== Sys2Proof/Machine/Bar.lean ====
section
/-!
DEFINITION. Bars: configuration, segments, maps, into and out of print (spec/09_bar_rendering.md, R223 to R226,
R232, R234, R235, R239, R242 to R245, R251 to R253).
-/
namespace Sys2Proof.Machine

/-- The largest row offset allowed (01 R17). -/
def maxOffset : Int := 67108863

/-! BAR_CONFIG (R223, R239). -/

/-- A configuration as given (Table 9-4). -/
def barCfgOf (q : Cmd) : BarCfg :=
  { kind := q.u8 1, channel := q.u8 2, bits := q.u8 3, interleave := q.u8 4, engine := q.u8 5, rle := bit (q.u8 6) 0
    comp := bit (q.u8 6) 1, nearest := bit (q.u8 6) 2, colFirst := q.u32 8, colLast := q.u32 12, offset := q.u32 16 }

/-- An engine is assigned to another bar. -/
def State.engineTaken (s : State) (bar engine : Nat) : Bool :=
  (List.range 10).any fun b => b != bar && (s.bar b).engine == engine

/-- The engine that ENGINE names for a bar (R239): ENGINE 0xFF with the bar's own engine retired takes BRE10 where it is in
service and free. -/
def State.engineFor (s : State) (bar engine : Nat) : Nat :=
  if engine ≠ 0xFF then engine
  else if s.isRetired (unitBre bar) && !s.isRetired (unitBre 10) && !s.engineTaken bar 10 then 10 else bar

/-- Every row of a bar's heads has an offset within R17. -/
def rowsFit (b : Bar) (off : Nat) : Bool :=
  b.placed.all fun h => (b.place h).rows.all fun r =>
    let d : Int := (off : Int) + (b.place h).stitch + (r.d : Nat)
    decide (0 ≤ d) && decide (d ≤ maxOffset)

/-- Checks of BAR_CONFIG. -/
def barConfigCheck (q : Cmd) (s : State) : Option Reply :=
  let b := q.u8 0
  let ink := decide (b < 8)
  let bar := s.bar b
  let e := s.engineFor b (q.u8 5)
  firstFail (shape q 24 [(0, 7), (8, 12)] ++
    [ (decide (9 < b), Reply.bad 0),
      (q.u8 1 != (if ink then 0 else 1), Reply.bad 1 0x016A),
      (if ink then decide (7 < q.u8 2) else q.u8 2 != 0, Reply.bad 2 0x016A),
      (q.u8 3 != 1 && q.u8 3 != 2, Reply.bad 3),
      (!([1, 2, 4].contains (q.u8 4)), Reply.bad 4),
      (decide (10 < q.u8 5) && q.u8 5 != 0xFF, Reply.bad 5),
      (extraBits (q.u8 6) 7, Reply.bad 6),
      (decide (98303 < q.u32 8), Reply.bad 8),
      (decide (98303 < q.u32 12) || decide (q.u32 12 < q.u32 8), Reply.bad 12),
      (decide (67108863 < q.u32 16), Reply.bad 16),
      (!rowsFit bar (q.u32 16), Reply.bad 16 0x0161),
      (bar.placed.any (fun h => (bar.place h).rows.any fun r => decide (q.u8 4 ≤ r.phase)), Reply.bad 4),
      (s.engineTaken b e, Reply.bad 5 0x016C),
      (s.isRetired (unitBre e), Reply.errUnit .retired 0 (unitBre e)),
      (bar.enabled, Reply.err .state 0x0160) ])

/-- BAR_CONFIG (R223): a new interleave or span leaves the segment set to be committed again. -/
def barConfigEffect (q : Cmd) (s : State) : Ans :=
  let c := barCfgOf q
  let e := s.engineFor (q.u8 0) (q.u8 5)
  .done .good (s.onBar (q.u8 0) fun b =>
    { b with cfg := some c, engine := e
             committed := b.committed && b.conf.interleave == c.interleave && b.conf.colFirst == c.colFirst && b.conf.colLast == c.colLast })

/-- BAR_CONFIG (R223). -/
def execBarConfig (q : Cmd) (s : State) : Host.Outcome State Fault Refusal := runCmd 0x0601 barConfigCheck barConfigEffect q s

/-! BAR_HEAD_MAP (R224). -/

/-- The rows given (Table 9-5). -/
def givenRows (q : Cmd) : List RowCfg :=
  (List.range (q.u8 3)).map fun i => { d := q.u16 (16 + 8 * i), nozzles := q.u16 (18 + 8 * i), phase := q.u8 (20 + 8 * i) }

/-- The first fault of the row entries. -/
def rowFault (q : Cmd) (b : Bar) : Option Reply :=
  firstFail ((List.range 8).flatMap fun i =>
    let o := 16 + 8 * i
    let d : Int := (b.conf.offset : Int) + q.s32 4 + (q.u16 o : Nat)
    if i < q.u8 3 then
      [ (decide (16383 < q.u16 o), Reply.bad o), (q.u16 (o + 2) == 0 || decide (16384 < q.u16 (o + 2)), Reply.bad (o + 2)),
        (decide (b.conf.interleave ≤ q.u8 (o + 4)), Reply.bad (o + 4)),
        (decide (d < 0) || decide (maxOffset < d), Reply.bad o 0x0161) ]
    else [((List.range 5).any fun k => q.u8 (o + k) != 0, Reply.bad o)])

/-- The lowest free head context in service: a retired one is given to no head (R39, R40). -/
def State.freeCtx (s : State) : Option Nat :=
  (List.range 256).find? fun h => (s.ctx h).owner.isNone && !(s.ctx h).retired && !s.isRetired (unitHead h)

/-- Nozzles of a bar but one head's. -/
def Bar.nozzlesBut (b : Bar) (h : Nat) : Nat :=
  ((b.placed.filter (· != h)).map fun x => ((b.place x).rows.map (·.nozzles)).sum).sum

/-- Checks of BAR_HEAD_MAP. -/
def barHeadMapCheck (q : Cmd) (s : State) : Option Reply :=
  let b := s.bar (q.u8 0)
  let h := q.u8 1
  let rem := q.u8 2 == 1
  firstFail (shape q 80 ([(0, 9)] ++ (List.range 8).map fun i => (16 + 8 * i, 5)) ++
    [ (decide (9 < q.u8 0), Reply.bad 0), (decide (31 < h), Reply.bad 1), (decide (1 < q.u8 2), Reply.bad 2),
      (rem && (b.place h).ctx.isNone, Reply.bad 1),
      (!rem && (q.u8 3 == 0 || decide (8 < q.u8 3)), Reply.bad 3),
      (!rem && (decide (31 < q.u8 8) || b.placed.any fun x => x != h && (b.place x).slot == q.u8 8), Reply.bad 8),
      (!rem && (rowFault q b).isSome, (rowFault q b).getD {}),
      ((b.place h).ctx.any fun c => s.isRetired (unitHead c), Reply.errUnit .retired 0 (unitHead ((b.place h).ctx.getD 0))),
      (b.enabled, Reply.err .state 0x0160),
      (!rem && ((b.place h).ctx.isNone && s.freeCtx.isNone
        || decide (131072 < b.nozzlesBut h + ((givenRows q).map (·.nozzles)).sum)), Reply.err .limit 0x0169) ])

/-- Drop a head's segments; the set then stands to be committed again. -/
def Bar.dropSegs (h : Nat) (b : Bar) : Bar :=
  { b with segs := b.segs.map fun g => if g.valid && g.head == h then {} else g }

/-- A bar image without the nozzle entries that a test picks. -/
def BarImage.dropNozzles (p : NozzleEntry → Bool) (i : BarImage) : BarImage := { i with nozzles := i.nozzles.filter fun n => !p n }

/-- The record that stands for a head place, once read at its slot (17 R440, R441). -/
def State.headRecord (s : State) (bar slot : Nat) : List Byte :=
  ((s.board.mirs.find? fun m => m.path == 0x80 + bar && m.slot == slot && m.st == 0 && m.fresh && rd m.bytes 6 1 == 1).map (·.bytes)).getD []

/-- BAR_HEAD_MAP (R224): remove a head, or place or replace one. A replaced head stays enabled only at its bridge slot; a context
that is retired stays so (R39). -/
def barHeadMapEffect (q : Cmd) (s : State) : Ans :=
  let bn := q.u8 0
  let h := q.u8 1
  let old := (s.bar bn).place h
  if q.u8 2 = 1 then
    let ctx := old.ctx.getD 0
    let s := s.onCtx ctx fun c => { retired := c.retired }
    .done (.good (toLe 1 ctx)) (s.onBar bn fun b =>
      { (b.dropSegs h) with heads := upd h (fun _ => {}) b.heads, act := b.act.dropNozzles fun n => n.head == h })
  else
    let ctx := (old.ctx.orElse fun _ => s.freeCtx).getD 0
    let same := old.ctx.isSome && old.slot == q.u8 8
    let rec_ := s.headRecord bn (q.u8 8)
    let rows := givenRows q
    let s := s.onCtx ctx fun c =>
      let c : HeadCtx := if same then c else { retired := c.retired }
      { c with owner := some (bn, h), mir := rec_, complete := !rec_.isEmpty }
    let s := s.onBar bn fun b =>
      { b with
        heads := upd h (fun _ => { ctx := some ctx, rows, stitch := q.s32 4, slot := q.u8 8 }) b.heads
        committed := b.committed && !(b.segs.any fun g => g.valid && g.head == h)
        act := b.act.dropNozzles fun n => n.head == h && (rows.getD n.row {}).nozzles != (old.rows.getD n.row {}).nozzles }
    let ds := (List.range rows.length).map fun r => (s.bar bn).rowD h r
    .done (.good (toLe 1 ctx ++ toLe 3 0 ++ toLeS 4 (ds.min?.getD 0) ++ toLeS 4 (ds.max?.getD 0))) s

/-- BAR_HEAD_MAP (R224). -/
def execBarHeadMap (q : Cmd) (s : State) : Host.Outcome State Fault Refusal := runCmd 0x0602 barHeadMapCheck barHeadMapEffect q s

/-! BAR_SEGMENTS (R225, R226). -/

/-- A segment entry (Table 9-7); one without VALID is empty. -/
def segOf (b : List Byte) : Seg :=
  if bit (rd b 3 1) 0 then
    { valid := true, head := rd b 0 1, row := rd b 1 1, step := rdS b 2 1, nozzle0 := rd b 4 2, nozzles := rd b 6 2, col0 := rd b 8 4
      lowA := rd b 12 4, lowB := rd b 16 4, highA := rd b 20 4, highB := rd b 24 4 }
  else {}

/-- Lowest and highest column of a segment. -/
def Seg.span (g : Seg) : Int × Int :=
  let last := (g.col0 : Int) + ((g.nozzles : Int) - 1) * g.step
  (min (g.col0 : Int) last, max (g.col0 : Int) last)

/-- The segment's nozzle that prints a column. -/
def Seg.nozzleAt (g : Seg) (x : Nat) : Option Nat :=
  let i := ((x : Int) - g.col0).tdiv g.step
  if g.valid && g.step != 0 && decide ((g.col0 : Int) + i * g.step = x) && decide (0 ≤ i) && decide (i < g.nozzles) then some (g.nozzle0 + i.toNat) else none

/-- A segment against its bar (Table 9-12, 0x0162): outside the span, outside its row's nozzles, or a nozzle in two. -/
def segOutside (b : Bar) (all : List Seg) (i : Nat) (g : Seg) : Bool :=
  let rows := (b.place g.head).rows
  let (lo, hi) := g.span
  (b.place g.head).ctx.isNone || decide (rows.length ≤ g.row) || !([-4, -2, -1, 1, 2, 4].contains g.step) || g.nozzles == 0
    || decide ((rows.getD g.row {}).nozzles < g.nozzle0 + g.nozzles)
    || decide (lo < (b.conf.colFirst : Int)) || decide ((b.conf.colLast : Int) < hi)
    || (all.take i).any fun x => x.valid && x.head == g.head && x.row == g.row
        && decide (x.nozzle0 < g.nozzle0 + g.nozzles) && decide (g.nozzle0 < x.nozzle0 + x.nozzles)

/-- The ramps of a segment (0x0163). -/
def rampBad (g : Seg) : Bool :=
  let (lo, hi) := g.span
  (g.lowA : Int) != lo || decide (g.lowB < g.lowA) || decide (1024 < g.lowB - g.lowA) || decide (hi + 1 < (g.lowB : Int))
    || (g.highB : Int) != hi + 1 || decide (g.highB < g.highA) || decide (1024 < g.highB - g.highA) || decide ((g.highA : Int) < lo)

/-- The coverage rule of R226 at a column, over the segments of one phase. -/
def coverBad (gs : List Seg) (x : Nat) : Bool :=
  let on (g : Seg) (c : Nat) : Bool := (g.nozzleAt c).isSome
  let here := gs.filter fun g => on g x
  let pair (u v : Seg) : Bool :=
    u.head != v.head && u.highA == v.lowA && u.highB == v.lowB && decide (u.highA ≤ x) && decide (x < u.highB)
      && (List.range (u.highB - u.highA)).all fun i => on u (u.highA + i) && on v (u.highA + i)
  match here with
  | [] => false
  | [_] => false
  | [u, v] => !(pair u v || pair v u)
  | _ => true

/-- The segments whose rows fire in a phase. -/
def phaseSegs (b : Bar) (segs : List Seg) (phase : Nat) : List Seg :=
  segs.filter fun g => g.valid && ((b.place g.head).rows.getD g.row {}).phase == phase

/-- The first column at fault (R226). -/
def coverFault (b : Bar) (segs : List Seg) : Option Nat :=
  let phases := (List.range b.conf.interleave).map (phaseSegs b segs)
  ((List.range (b.conf.colLast + 1 - b.conf.colFirst)).find? fun i => phases.any fun gs => coverBad gs (b.conf.colFirst + i)).map
    fun i => b.conf.colFirst + i

/-- The entries after a BAR_SEGMENTS. -/
def newSegs (q : Cmd) (b : Bar) : List Seg :=
  let base := if bit (q.u8 1) 1 then List.replicate 128 ({} : Seg) else b.segs
  (indexed base).map fun x => if q.u8 2 ≤ x.1 ∧ x.1 < q.u8 2 + q.u8 3 then segOf (slice q.pblk (32 * (x.1 - q.u8 2)) 32) else x.2

/-- A reserved bit or byte of a segment entry that is not zero. -/
def segReserved (q : Cmd) : Option Nat :=
  (List.range (q.u8 3)).findSome? fun i =>
    if extraBits (rd q.pblk (32 * i + 3) 1) 1 then some (32 * i + 3)
    else if rd q.pblk (32 * i + 28) 4 ≠ 0 then some (32 * i + 28) else none

/-- Checks of BAR_SEGMENTS. -/
def barSegmentsCheck (q : Cmd) (s : State) : Option Reply :=
  let b := s.bar (q.u8 0)
  let segs := newSegs q b
  let commit := bit (q.u8 1) 0
  let place (i : Nat) : Nat := 32 * (i - q.u8 2)
  let outside := (indexed segs).find? fun x => x.2.valid && segOutside b segs x.1 x.2
  let ramp := (indexed segs).find? fun x => x.2.valid && rampBad x.2
  let cover := coverFault b segs
  firstFail (shape q 8 [(0, 4)] true ++
    [ (decide (9 < q.u8 0), Reply.bad 0), (extraBits (q.u8 1) 3, Reply.bad 1), (decide (127 < q.u8 2), Reply.bad 2),
      (decide (128 < q.u8 2 + q.u8 3), Reply.bad 3), (q.pblk.length != 32 * q.u8 3, Reply.err .badLength),
      ((segReserved q).isSome, Reply.badBlock ((segReserved q).getD 0)),
      (commit && outside.isSome, Reply.badBlock (place ((outside.map (·.1)).getD 0)) 0x0162),
      (commit && ramp.isSome, Reply.badBlock (place ((ramp.map (·.1)).getD 0)) 0x0163),
      (commit && cover.isSome, { status := .badParam, detail := 0x0164, offset := cover.getD 0 }),
      (b.enabled, Reply.err .state 0x0160) ])

/-- BAR_SEGMENTS (R226): SEGMENTS, COLUMNS and CLOCKS are those of the set as written, committed or not. -/
def barSegmentsEffect (q : Cmd) (s : State) : Ans :=
  let b := s.bar (q.u8 0)
  let segs := newSegs q b
  let cols := ((List.range b.conf.interleave).map fun ph =>
    ((List.range (b.conf.colLast + 1 - b.conf.colFirst)).filter fun i =>
      (phaseSegs b segs ph).any fun g => (g.nozzleAt (b.conf.colFirst + i)).isSome).length).sum
  let clocks := ((segs.filter (·.valid)).map fun g => ceilDiv g.nozzles 16).sum
  .done (.good (toLe 4 (segs.filter (·.valid)).length ++ toLe 4 cols ++ toLe 4 clocks))
    (s.onBar (q.u8 0) fun b => { b with segs, committed := bit (q.u8 1) 0 })

/-- BAR_SEGMENTS (R226). -/
def execBarSegments (q : Cmd) (s : State) : Host.Outcome State Fault Refusal := runCmd 0x0603 barSegmentsCheck barSegmentsEffect q s

/-! The pending copy of a bar (R244). -/

/-- A bar's image takes effect; a new trim generation starts its window (13 R347). -/
def setImage (b : Nat) (i : BarImage) (s : State) : State :=
  let new := (s.bar b).act.gen != i.gen
  let s := s.onBar b fun x => { x with act := i }
  if new then s.onClr fun k => { k with bars := upd b (fun w => { w with startW := none, sums := [], bands := [], firstW := none }) k.bars } else s

/-- Write a bar's image: at once while the bar has no line boundaries, else the pending copy. -/
def barWrite (b : Nat) (f : BarImage → BarImage) (s : State) : State :=
  if s.inPrint b then s.onBar b fun x => { x with pend := some (f (x.pend.getD x.act)) }
  else setImage b (f (s.bar b).act) s

/-- A command that writes a bar's image completes when the image takes effect. -/
def barWriteCmd (b : Nat) (f : BarImage → BarImage) (r : Reply) (q : Cmd) (s : State) : Ans :=
  let s := barWrite b f s
  if s.inPrint b then .wait (keepFor q.id r (s.onBar b fun x => { x with pendCmds := x.pendCmds ++ [q.id] })) else .done r s

/-- A bar's pending copy takes effect and its commands complete. -/
def applyBar (b : Nat) (s : State) : State :=
  let x := s.bar b
  x.pendCmds.foldl finishKept (setImage b (x.pend.getD x.act) (s.onBar b fun x => { x with pend := none, pendCmds := [] }))

/-- The generation that a write starts (13 R347): one above the newest written. -/
def Bar.nextGen (b : Bar) : Nat := ((b.pend.getD b.act).gen + 1) % 2 ^ 32

/-- The record of a bar's trims and generation (15 R395, log 12). -/
def recordTrims (b : Nat) (trims : List (Nat × List Nat)) (gen : Nat) (s : State) : State :=
  stateRecord (toLe 1 1 ++ toLe 1 b ++ toLe 4 gen ++ trims.flatMap fun z => toLe 1 z.1 ++ z.2.flatMap (toLe 2)) s

/-- The record of nozzle states of a bar (15 R395, log 12). -/
def recordNozzles (b : Nat) (es : List NozzleEntry) (s : State) : State :=
  stateRecord (toLe 1 3 ++ toLe 1 b ++ es.flatMap fun n => toLe 1 n.head ++ toLe 1 n.row ++ toLe 2 n.nozzle ++ toLe 2 n.entry) s

/-! BAR_SCREEN, BAR_NOZZLE_MAP, BAR_DERIVE (R232, R234, R235). -/

/-- The planes of a SCREEN object (Table 9-8). -/
def screenOf (o : List Byte) : Option (List Byte) :=
  if colourHeader o 0x5243534C && rd o 6 2 == 3 && rd o 8 2 == 0 && o.length == 196624 then some (o.drop 16) else none

/-- The planes that BAR_SCREEN gives. -/
def screenObject (q : Cmd) (s : State) : Option (List Byte) :=
  screenOf (if q.u8 1 = 0 then q.pblk else (s.object (q.u32 4) (q.u32 8) 6).getD [])

/-- Checks of BAR_SCREEN. -/
def barScreenCheck (q : Cmd) (s : State) : Option Reply :=
  firstFail (shape q 16 [(0, 2), (4, 8)] true ++ [(decide (9 < q.u8 0), Reply.bad 0)] ++ sourceChecks q 1 4 [(8, 6)] 0x0165 false s ++
    [((screenObject q s).isNone, objectFault q 1 8 0 0x0165)])

/-- BAR_SCREEN (R234). -/
def barScreenEffect (q : Cmd) (s : State) : Ans := barWriteCmd (q.u8 0) (fun i => { i with planes := screenObject q s }) .good q s

/-- BAR_SCREEN (R234). -/
def execBarScreen (q : Cmd) (s : State) : Host.Outcome State Fault Refusal := runCmd 0x0604 barScreenCheck barScreenEffect q s

/-- The factory map of a row in a module record (17 Table 17-6). -/
def factoryMap (mir : List Byte) (row nozzles : Nat) : Option (List Nat) :=
  match (mirTags mir).1.find? fun e => e.1 == 0x0104 && rd e.2 0 1 == row with
  | some e => if e.2.length = 4 + 2 * nozzles then some (numbers 2 (e.2.drop 4)) else none
  | none => none

/-- The entries that BAR_NOZZLE_MAP gives, none where the record holds no map. -/
def mapEntries (q : Cmd) (s : State) : Option (List Nat) :=
  let p := (s.bar (q.u8 0)).place (q.u8 1)
  if q.u8 3 = 0 then some (numbers 2 q.pblk)
  else factoryMap (s.ctx (p.ctx.getD 0)).mir (q.u8 2) (p.rows.getD (q.u8 2) {}).nozzles

/-- Checks of BAR_NOZZLE_MAP. -/
def barNozzleMapCheck (q : Cmd) (s : State) : Option Reply :=
  let p := (s.bar (q.u8 0)).place (q.u8 1)
  let es := mapEntries q s
  let wrong := (es.getD []).findIdx? fun e => decide (0x3FF < e)
  firstFail (shape q 16 [(0, 8)] true ++
    [ (decide (9 < q.u8 0), Reply.bad 0), (decide (31 < q.u8 1) || p.ctx.isNone, Reply.bad 1),
      (decide (p.rows.length ≤ q.u8 2), Reply.bad 2), (decide (1 < q.u8 3), Reply.bad 3),
      (q.u8 3 == 1 && q.u16 4 != 0, Reply.bad 4), (q.u8 3 == 1 && q.u16 6 != 0, Reply.bad 6),
      (q.pblk.length != (if q.u8 3 = 0 then 2 * q.u16 6 else 0), Reply.err .badLength),
      (decide ((p.rows.getD (q.u8 2) {}).nozzles < q.u16 4 + q.u16 6), Reply.bad 6),
      (es.isNone, Reply.bad 3 0x0166),
      (wrong.isSome, if q.u8 3 = 0 then Reply.badBlock (2 * wrong.getD 0) 0x0166 else Reply.bad 3 0x0166) ])

/-- Entries written into a bar image from nozzle `first` of a row on. -/
def BarImage.putNozzles (h row first : Nat) (es : List Nat) (i : BarImage) : BarImage :=
  let i := i.dropNozzles fun n => n.head == h && n.row == row && decide (first ≤ n.nozzle) && decide (n.nozzle < first + es.length)
  { i with nozzles := i.nozzles ++ ((indexed es).filter fun x => x.2 != 0x0300).map fun x => { head := h, row, nozzle := first + x.1, entry := x.2 } }

/-- BAR_NOZZLE_MAP (R232): a change of the map starts a trim generation (13 R347). -/
def barNozzleMapEffect (q : Cmd) (s : State) : Ans :=
  let gen := (s.bar (q.u8 0)).nextGen
  barWriteCmd (q.u8 0) (fun i => { i.putNozzles (q.u8 1) (q.u8 2) (q.u16 4) ((mapEntries q s).getD []) with gen }) .good q s

/-- BAR_NOZZLE_MAP (R232). -/
def execBarNozzleMap (q : Cmd) (s : State) : Host.Outcome State Fault Refusal := runCmd 0x0605 barNozzleMapCheck barNozzleMapEffect q s

/-- Checks of BAR_DERIVE. -/
def barDeriveCheck (q : Cmd) (_s : State) : Option Reply :=
  firstFail (shape q 16 [(0, 5)] true ++
    [ (q.u8 0 != 8 && q.u8 0 != 9, Reply.bad 0), (decide (7 < q.u8 1) && q.u8 1 != 0xFF, Reply.bad 1),
      (decide (8 < q.u8 3), Reply.bad 3), (decide (8 < q.u8 4), Reply.bad 4),
      (q.pblk.length != (if q.u8 1 = 0xFF then 0 else 578), Reply.err .badLength) ])

/-- BAR_DERIVE (R235). -/
def barDeriveEffect (q : Cmd) (s : State) : Ans :=
  barWriteCmd (q.u8 0) (fun i =>
    let ts := if q.u8 1 = 0xFF then i.derive.tables else putKey (q.u8 1) (numbers 2 q.pblk) i.derive.tables
    { i with derive := { mask := q.u8 2, sx := q.u8 3, sy := q.u8 4, tables := ts } }) .good q s

/-- BAR_DERIVE (R235). -/
def execBarDerive (q : Cmd) (s : State) : Host.Outcome State Fault Refusal := runCmd 0x0606 barDeriveCheck barDeriveEffect q s

/-! Heads in the run. -/

/-- A head of a bar with rows as placed joins the run from a line on; what an earlier part in the run has pushed still fires (R243). -/
def joinHead (b h rows first : Nat) (r : Run) : HeadRun :=
  let old := (r.headRun b h).getD {}
  { bar := b, head := h, nextDue := first, due := old.due
    rows := (List.range rows).map fun i => (old.rows.find? (·.row == i)).getD { row := i, next := first } }

/-- The heads of a bar join the run from a line on. -/
def joinRun (b first : Nat) (s : State) : State :=
  let x := s.bar b
  s.onRun fun r => { r with heads := r.heads.filter (fun y => y.bar != b) ++ x.placed.map fun h => joinHead b h (x.place h).rows.length first r }

/-! BAR_ENABLE and BAR_DISABLE (R242, R243). -/

/-- Why a bar cannot be enabled (R242). -/
def barEnableFault (b : Nat) (s : State) : Option Reply :=
  let x := s.bar b
  firstFail
    [ (x.cfg.isNone || !x.committed || x.act.planes.isNone || (x.conf.kind == 1 && x.act.derive.mask == 0), Reply.err .state 0x0167),
      (s.isRetired (unitBre x.engine), Reply.errUnit .retired 0 (unitBre x.engine)),
      ((match s.fire.run with
        | some r => !bit r.bars b
        | none => false), Reply.err .state 0x0175) ]

/-- Checks of BAR_ENABLE; on a bar that is enabled nothing is asked. -/
def barEnableCheck (q : Cmd) (s : State) : Option Reply :=
  let b := q.u8 0
  match firstFail (shape q 8 [(0, 1)] ++ [(decide (9 < b), Reply.bad 0)]) with
  | some r => some r
  | none => if (s.bar b).enabled then none else barEnableFault b s

/-- A bar is enabled (R242): its first run line comes with the state. -/
def enableBar (b : Nat) (s : State) : State × Nat :=
  let first := match s.fire.run with
    | some r => s.nextBarLine r b
    | none => 0
  let s := s.onBar b fun x => { x with enabled := true, firstLine := first, lastPushed := 0 }
  (post evBarEnabled (unitBre (s.bar b).engine) b (first % 2 ^ 32) (joinRun b first s), first)

/-- BAR_ENABLE (R242). -/
def barEnableEffect (q : Cmd) (s : State) : Ans :=
  let b := q.u8 0
  if (s.bar b).enabled then .done (.good (toLe 8 (s.bar b).firstLine)) s
  else
    let (s, first) := enableBar b s
    .done (.good (toLe 8 first)) s

/-- BAR_ENABLE (R242). -/
def execBarEnable (q : Cmd) (s : State) : Host.Outcome State Fault Refusal := runCmd 0x0607 barEnableCheck barEnableEffect q s

/-- Lines of a bar that have fallen due and have no packet in the queue. -/
def unpushed (b : Nat) (s : State) : Nat :=
  match s.fire.run with
  | some r => ((r.heads.filter fun h => h.bar == b).map fun h => (h.due.filter fun d => !d.committed).length).sum
  | none => 0

/-- An engine swap ends (Table 9-3 step 4): EV_BAR_ENGINE_SWAP and the retired engine's EV_UNIT_RETIRED. -/
def endSwap (b : Nat) (s : State) : State :=
  match (s.bar b).swapping with
  | none => s
  | some (_, u, crit) =>
    post evUnitRetired u u crit (post evBarEngineSwap (unitBre 10) b 10 (s.onBar b fun x => { x with swapping := none }))

/-- A head's lines that have fallen due and are not pushed are dropped (R245); their number comes with the state. -/
def dropHeadLines (b h : Nat) (s : State) : State × Nat :=
  let n := match s.fire.run.bind fun r => r.headRun b h with
    | some r => (r.due.filter fun d => !d.committed).length
    | none => 0
  let s := dropWriting b (fun w => w.p.head == h && w.render) s
  (s.onRun fun r => { r with heads := r.heads.map fun y => if y.bar == b && y.head == h then { y with due := y.due.filter (·.committed) } else y }, n)

/-- Disable a head at its bar's line boundary for a command or for the device (R245): a retirement of its context at the same
boundary governs (02 R42). -/
def switchOff (b : Nat) (s : State) (o : Nat × Option CmdId) : State :=
  let c := (((s.bar b).place o.1).ctx).getD 256
  let gone := s.isRetired (unitHead c) || s.isDoomed (unitHead c)
  let (s, n) := dropHeadLines b o.1 (s.onCtx c fun x => { x with enabled := false })
  let s := discardWork (unitHead c) n (if gone then 0x02 else 0x01) s
  match o.2 with
  | some id => if gone then finish id (.errUnit .retired 0 (unitHead c)) s else finishKept s id
  | none => s

/-- Enable a head at its bar's line boundary (17 R441); a halt that has not come to its line boundary is over too (10 R279). -/
def switchOn (b : Nat) (s : State) (o : Nat × CmdId) : State :=
  finishKept (s.onCtx ((((s.bar b).place o.1).ctx).getD 256) fun c => { c with enabled := true, halted := none, haltAt := none }) o.2

/-- Enable or disable the heads that wait for a bar's line boundary. -/
def switchHeads (b : Nat) (s : State) : State :=
  let x := s.bar b
  let s := s.onBar b fun x => { x with headOff := [], headOn := [] }
  x.headOn.foldl (switchOn b) (x.headOff.foldl (switchOff b) s)

/-- A head stands halted from a run line on: EV_HEAD_HALTED, the state record, and no further packets (10 R278, 15 R395). -/
def standHalted (c n : Nat) (s : State) : State :=
  let s := s.onCtx c fun x => { x with halted := some n, haltAt := none }
  stateRecord (toLe 1 4 ++ toLe 2 c ++ toLe 8 n) (post evHeadHalted (unitHead c) c (n % 2 ^ 32) s)

/-- Row lines of a head that have fallen due at or after a line and are not stamped. -/
def heldRows (b : Bar) (h : HeadRun) (n : Nat) (packed : Bool) : Nat :=
  ((h.due.filter fun d => decide (n ≤ d.line) && (packed || !d.committed)).map fun d =>
    (h.rows.filter fun r => (b.firingRows h.head d.line).contains r.row && decide (r.next ≤ d.line)).length).sum

/-- At a bar's line boundary its heads that are being halted get no further line packets (10 Table 10-6). -/
def haltHeads (b : Nat) (s : State) : State :=
  (s.bar b).placed.foldl (fun s h =>
    let c := (((s.bar b).place h).ctx).getD 0
    match (s.ctx c).haltAt with
    | none => s
    | some n =>
      let held := ((s.fire.run.bind fun r => r.headRun b h).map fun x => heldRows (s.bar b) x n false).getD 0
      let s := s.onRun fun r => { r with heads := r.heads.map fun x => if x.bar == b && x.head == h then
        { x with due := x.due.filter fun d => d.committed || decide (d.line < n) } else x }
      standHalted c n (bump (ctr 8 b 4) held s)) s

/-- What waits for a bar's line boundary, but its disabling, takes effect (R244, R245, 10 R278). -/
def settleBar (b : Nat) (s : State) : State := haltHeads b (switchHeads b (applyBar b s))

/-- A bar leaves print (R243, R244): its unpushed lines are discarded, and what waits for its line boundary takes effect (02 R30). The
number discarded comes with the state. -/
def leavePrint (b reason : Nat) (s : State) : State × Nat :=
  let n := unpushed b s
  let s := dropWriting b (·.render) s
  let s := s.onRun fun r => { r with heads := r.heads.map fun h => if h.bar = b then { h with due := h.due.filter (·.committed) } else h }
  let s := s.onBar b fun x => { x with enabled := false, disabling := none, fronts := [], catchLead := none, olds := [] }
  let s := if (List.range 10).all fun b => (s.bar b).fronts.isEmpty then s.onBars fun x => { x with catchUp := none } else s
  let s := settleBar b (endSwap b (discardWork (unitBre (s.bar b).engine) n reason s))
  (post evBarDisabled (unitBre (s.bar b).engine) b n s, n)

/-- BAR_DISABLE takes effect (R243): with its engine retired at the same boundary, the retirement governs (02 R42). -/
def disableBar (b : Nat) (ids : List CmdId) (flush : Bool) (s : State) : State :=
  let e := unitBre (s.bar b).engine
  let retired := s.isRetired e || s.isDoomed e
  let last := (s.bar b).lastPushed
  let (s, n) := leavePrint b (if retired then 0x02 else 0x01) s
  let s := if flush then (flushQueue b [] s).1 else s
  finishAll ids (if retired then Reply.errUnit .retired 0 e else .good (toLe 8 last ++ toLe 4 n)) s

/-- Checks of BAR_DISABLE. -/
def barDisableCheck (q : Cmd) (_s : State) : Option Reply :=
  firstFail (shape q 8 [(0, 2)] ++ [(decide (9 < q.u8 0), Reply.bad 0), (extraBits (q.u8 1) 1, Reply.bad 1)])

/-- BAR_DISABLE (R243): at the bar's next line boundary, or at once where it has none. -/
def barDisableEffect (q : Cmd) (s : State) : Ans :=
  let b := q.u8 0
  let x := s.bar b
  if !x.enabled then .done (.good (toLe 8 x.lastPushed ++ toLe 4 0)) s
  else if s.inPrint b then
    let (ids, f) := x.disabling.getD ([], false)
    .wait (s.onBar b fun x => { x with disabling := some (ids ++ [q.id], f || bit (q.u8 1) 0) })
  else .wait (disableBar b [q.id] (bit (q.u8 1) 0) s)

/-- BAR_DISABLE (R243). -/
def execBarDisable (q : Cmd) (s : State) : Host.Outcome State Fault Refusal := runCmd 0x0608 barDisableCheck barDisableEffect q s

/-! The line boundary of a bar (R244). -/

/-- At a line boundary the image in force is kept for the lines of earlier ticks that are not rendered yet (R244): a new one holds
for every head of the lines from the next tick on. -/
def keepImage (b : Nat) (s : State) : State :=
  match s.fire.run, (s.bar b).pend with
  | some r, some _ =>
    let ticks := (r.heads.filter fun h => h.bar == b).flatMap fun h => (h.due.filter fun d => !d.committed).map (·.tick)
    s.onBar b fun x => { x with olds := (x.olds.filter fun o => ticks.any fun t => decide (t < o.1)) ++ if ticks.isEmpty then [] else [(r.nextTick, x.act)] }
  | _, _ => s

/-- The image under which a bar's line is rendered (R244): the one in force at the tick at which it fell due. -/
def Bar.imageAt (b : Bar) (tick : Nat) : BarImage := ((b.olds.find? fun o => decide (tick < o.1)).map (·.2)).getD b.act

/-- A bar's next line boundary comes, or it has none: what waits for it takes effect. -/
def barBoundary (b : Nat) (s : State) : State :=
  let s := settleBar b (keepImage b s)
  match (s.bar b).disabling with
  | some (ids, flush) => disableBar b ids flush s
  | none => s

/-! BAR_STATUS (R251). -/

/-- Next run line of a bar that falls due. -/
def State.barNext (s : State) (b : Nat) : Nat :=
  match s.fire.run with
  | some r => (((r.heads.filter fun h => h.bar == b).map (·.nextDue)).min?).getD 0
  | none => 0

/-- STATE of a bar (Table 9-10). -/
def barState (b : Nat) (s : State) : Nat :=
  let x := s.bar b
  if x.cfg.isNone then 0 else if !x.enabled then 1 else if !s.inPrint b then 2 else if x.fronts.isEmpty then 3 else 4

/-- The BAR_STATUS structure (Table 9-11). -/
def barStatusBlock (b : Nat) (s : State) : List Byte :=
  let x := s.bar b
  let r := s.fire.run.getD {}
  let newest := ((s.cps.ring.map (·.cl)).max?).getD 0
  toLe 4 (if s.fire.run.isSome then r.ringLines else 0) ++ toLe 4 (if s.fire.run.isSome then r.ringPages else 0)
    ++ toLe 8 s.oldestNow ++ toLe 8 newest ++ toLe 1 x.fronts.length ++ toLe 1 x.placed.length ++ toLe 6 0
    ++ x.placed.flatMap fun h =>
      let p := x.place h
      toLe 1 h ++ toLe 1 (p.ctx.getD 0) ++ toLe 1 (b2n (s.ctx (p.ctx.getD 0)).enabled) ++ toLe 1 p.rows.length ++ toLeS 4 (x.refD h)
        ++ toLe 4 ((p.rows.map (·.nozzles)).sum) ++ toLe 4 (x.act.nozzles.filter fun n => n.head == h && decide (2 ≤ n.entry % 4)).length

/-- Checks of BAR_STATUS. -/
def barStatusCheck (q : Cmd) (_s : State) : Option Reply :=
  firstFail (shape q 16 [(0, 1), (8, 8)] ++ [(decide (9 < q.u8 0), Reply.bad 0), (addrBad q 8, Reply.bad 8)])

/-- BAR_STATUS (R251). -/
def barStatusEffect (q : Cmd) (s : State) : Ans :=
  let b := q.u8 0
  let x := s.bar b
  .done (.withExt (toLe 1 (barState b s) ++ toLe 1 x.engine ++ toLe 1 x.placed.length ++ toLe 1 (s.leadOf b) ++ toLe 8 (s.barNext b) ++ toLe 4 x.load)
    (q.u64 8) (if q.src.isNone && q.u64 8 == 0 then [] else barStatusBlock b s)) s

/-- BAR_STATUS (R251). -/
def execBarStatus (q : Cmd) (s : State) : Host.Outcome State Fault Refusal := runCmd 0x0609 barStatusCheck barStatusEffect q s

end Sys2Proof.Machine
end

