-- ==== Sys2Proof/Machine/Render.lean ====
section
/-!
DEFINITION. Rendering a head's line: from the ring's contone to drops and the line packet; lines that are late
(spec/09_bar_rendering.md, R227 to R238; spec/10_firing.md, R265).
-/
namespace Sys2Proof.Machine

/-- All that the rendering of a bar's line reads. -/
structure LineEnv where
  bar : Bar := {}
  /-- heads that print -/
  prints : List Nat := []
  /-- heads placed and enabled -/
  line : Nat := 0
  pitch : Nat := 64
  /-- contone line a of the run and its neighbour, a itself at 600 lpi (09 R230) -/
  a : Nat := 0
  an : Nat := 0
  /-- the frame's contone lines -/
  lo : Nat := 0
  hi : Nat := 0
  u0 : Nat := 0
  u1 : Nat := 0
  /-- lowest web coordinate of the line -/
  wLine : Int := 0
  ring : List RingLine := []
  /-- the line is a ladder line (13 R353): its ladder, whether this bar prints it -/
  ladder : Option (Ladder × Bool) := none
deriving Repr, Inhabited

/-- The environment of a bar's run line that fell due at a tick. -/
def State.lineEnv (s : State) (r : Run) (b n tick : Nat) : LineEnv :=
  let c := s.contoneOf r n
  let w := s.lineStart r n
  let span := s.cps.span.getD (0, 0)
  { bar := { s.bar b with act := (s.bar b).imageAt tick }, prints := (s.bar b).placed.filter fun h => s.headPrints b h, line := n
    pitch := r.pitch, a := c.a, an := c.an, lo := c.lo, hi := c.hi
    u0 := span.1, u1 := span.2, wLine := if r.reverse then w - r.pitch + 1 else w, ring := s.cps.ring
    ladder := (s.ladderOf r.id n).map fun l => (l, l.bar == b) }

/-- The contone lines that a line of a bar reads (09 R220, R221): upscaling neighbour and spreading lines included. -/
def LineEnv.needs (e : LineEnv) : List Nat :=
  let sy := e.bar.sy
  let first := min e.a e.an - min sy (min e.a e.an - e.lo)
  let last := min (e.hi - 1) (max e.a e.an + sy)
  (List.range (last + 1 - first)).map (first + ·)

/-- A ring line holds columns first to last of a plane (09 R221). -/
def RingLine.holds (l : RingLine) (plane first last : Nat) : Bool :=
  match l.part with
  | none => true
  | some ps => (List.range (last + 1 - first)).all fun i => ps.any fun p => p.1 == plane && decide (p.2.1 ≤ first + i) && decide (first + i < p.2.2)

/-- Planes that a bar reads (09 R222). -/
def Bar.planes (b : Bar) : List Nat := if b.conf.kind = 0 then [b.conf.channel] else List.range 8

/-- Contone columns that a segment reads, within the span: neighbours and spreading included (09 R246). -/
def Bar.segCols (b : Bar) (u0 u1 : Nat) (g : Seg) : Nat × Nat :=
  let sx : Int := if b.conf.kind = 1 then (b.act.derive.sx : Nat) else 0
  let (lo, hi) := g.span
  ((clampI (lo.fdiv 2 - 1 - sx) u0 u1).toNat, (clampI (hi.fdiv 2 + 2 + sx) u0 u1).toNat)

/-- Every ring read of a head's line is valid (09 R221): the slot holds the line, and the planes cover the columns. -/
def LineEnv.ready (e : LineEnv) (h : Nat) : Bool :=
  e.ladder.isSome ||
  (let cols := ((e.bar.firingRows h e.line).flatMap fun row => e.bar.rowSegs h row).map (e.bar.segCols e.u0 e.u1)
  e.needs.all fun cl => e.ring.any fun l => l.cl == cl && e.bar.planes.all fun p => cols.all fun c => c.1 == c.2 || l.holds p c.1 (c.2 - 1))

/-- A ring byte; a poisoned line reads as 0 (09 R222). -/
def LineEnv.ringAt (e : LineEnv) (c cl u : Nat) : Nat :=
  match e.ring.find? fun l => l.cl == cl with
  | some l => if l.bad.contains (c, (u - e.u0) / 64 * 64) || decide (u < e.u0) then 0 else ((l.planes.getD c []).getD (u - e.u0) 0).toNat
  | none => 0

/-- The value G of a functional bar (09 R235). -/
def deriveG (d : Derive) (c8 : List Nat) : Nat :=
  let sum := min 255 (c8.sum / 4)
  let j := sum / 16
  let fj := sum % 16
  let acc := ((List.range 8).map fun c =>
    if bit d.mask c then
      let v := c8.getD c 0
      let i := v / 16
      let fi := v % 16
      let tab (i j : Nat) : Nat := ((getKey c d.tables).getD []).getD (17 * i + j) 0
      tab i j * (16 - fi) * (16 - fj) + tab (i + 1) j * fi * (16 - fj) + tab i (j + 1) * (16 - fi) * fj + tab (i + 1) (j + 1) * fi * fj
    else 0).sum
  min 255 ((acc + 32768) / 65536)

/-- The bar's contone at a pixel, s or F (09 R230, R235). -/
def LineEnv.src (e : LineEnv) (cl u : Nat) : Nat :=
  if e.bar.conf.kind = 0 then e.ringAt e.bar.conf.channel cl u
  else
    let d := e.bar.act.derive
    let g (cl u : Nat) : Nat := deriveG d ((List.range 8).map fun c => e.ringAt c cl u)
    let us := (List.range (2 * d.sx + 1)).filterMap fun i => if d.sx ≤ u + i ∧ e.u0 ≤ u + i - d.sx ∧ u + i - d.sx < e.u1 then some (u + i - d.sx) else none
    let cs := (List.range (2 * d.sy + 1)).filterMap fun i => if d.sy ≤ cl + i ∧ e.lo ≤ cl + i - d.sy ∧ cl + i - d.sy < e.hi then some (cl + i - d.sy) else none
    ((cs.flatMap fun c => us.map fun u => g c u).max?).getD 0

/-- The upscaled value e of a nozzle column (09 R230). -/
def LineEnv.upscaled (e : LineEnv) (x : Nat) : Nat :=
  let u := x / 2
  let un := if x % 2 = 0 then max e.u0 (u - 1) else min (e.u1 - 1) (u + 1)
  if e.bar.conf.nearest then e.src e.a u
  else if e.pitch = 64 then
    let p := 3 * e.src e.a u + e.src e.an u
    let q := 3 * e.src e.a un + e.src e.an un
    (3 * p + q + 8) / 16
  else (3 * e.src e.a u + e.src e.a un + 2) / 4

/-- The trim curve of a zone, the identity where none is written (09 R231). -/
def BarImage.trim (i : BarImage) (z : Nat) : List Nat := (getKey z i.trims).getD ((List.range 17).map (1024 * ·))

/-- A trim curve at a value (09 R231). -/
def trimAt (p : List Nat) (e : Nat) : Nat := p.getD (e / 16) 0 * (16 - e % 16) + p.getD (e / 16 + 1) 0 * (e % 16)

/-- The trimmed value of an upscaled one at a column (09 R231). -/
def BarImage.trimmed (i : BarImage) (x e : Nat) : Nat :=
  let (z0, z1, f) :=
    if x < 384 then (0, 0, 0)
    else if 768 * 127 ≤ x - 384 then (127, 127, 0)
    else ((x - 384) / 768, (x - 384) / 768 + 1, (x - 384) % 768)
  let y := (trimAt (i.trim z0) e * (768 - f) + trimAt (i.trim z1) e * f + 384) / 768
  min 65535 ((y * 257 + 512) / 1024)

/-- v of a column (09 R231). -/
def LineEnv.value (e : LineEnv) (x : Nat) : Nat := e.bar.act.trimmed x (e.upscaled x)

/-- A threshold, 255 while no planes are loaded (09 R234, R253). -/
def BarImage.threshold (i : BarImage) (t ys xs : Nat) : Nat :=
  match i.planes with
  | some p => (p.getD (65536 * t + 256 * ys + xs) 255).toNat
  | none => 255

/-- Row of the tiles for a line (09 R234). -/
def LineEnv.ys (e : LineEnv) : Nat := ((e.wLine.fdiv e.pitch) % 256).toNat

/-- A nozzle map entry (09 R232, R253). -/
def BarImage.nozzle (i : BarImage) (h row n : Nat) : Nat :=
  ((i.nozzles.find? fun x => x.head == h && x.row == row && x.nozzle == n).map (·.entry)).getD 0x0300

/-- The nozzles that cover a column on the line, the one that the overlap gives the drop first (09 R227). -/
def LineEnv.covering (e : LineEnv) (x : Nat) : List (Seg × Nat) :=
  let segs := if e.bar.committed then phaseSegs e.bar e.bar.segs (e.line % max 1 e.bar.conf.interleave) else []
  let here := segs.filterMap fun g => (g.nozzleAt x).map fun n => (g, n)
  match here with
  | [p, q] =>
    let low (p q : Seg × Nat) : Bool := p.1.lowA == q.1.highA && p.1.lowB == q.1.highB && decide (p.1.lowA ≤ x) && decide (x < p.1.lowB)
    let (l, h) := if low p q then (p, q) else (q, p)
    let w := (2 * (x - l.1.lowA) + 1) * 128 / max 1 (l.1.lowB - l.1.lowA)
    if e.bar.act.threshold 0 ((e.ys + 128) % 256) ((x + 128) % 256) < w then [l, h] else [h, l]
  | l => l

/-- A printing nozzle (09 R232). -/
def LineEnv.printing (e : LineEnv) (p : Seg × Nat) : Bool :=
  e.prints.contains p.1.head && decide (e.bar.act.nozzle p.1.head p.1.row p.2 % 4 < 2)

/-- The nozzle that prints a column, where there is one. -/
def LineEnv.printer (e : LineEnv) (x : Nat) : Option (Seg × Nat) := (e.covering x).find? e.printing

/-- A failed column (09 R232). -/
def LineEnv.failed (e : LineEnv) (x : Nat) : Bool :=
  (e.covering x).any (fun p => e.prints.contains p.1.head) && (e.printer x).isNone

/-- The neighbours L and R of a failed column (09 R233). -/
def LineEnv.sides (e : LineEnv) (f : Nat) : Option Nat × Option Nat :=
  let ok (x : Nat) : Bool := (e.printer x).isSome
  let l := if 1 ≤ f ∧ ok (f - 1) then some (f - 1) else if 2 ≤ f ∧ e.failed (f - 1) ∧ ok (f - 2) then some (f - 2) else none
  let r := if ok (f + 1) then some (f + 1) else if e.failed (f + 1) ∧ ok (f + 2) then some (f + 2) else none
  (l, r)

/-- What a printing column gains from a failed one (09 R233). -/
def LineEnv.share (e : LineEnv) (x f : Nat) : Nat :=
  if !e.failed f then 0
  else
    let v := e.value f
    match e.sides f with
    | (some l, some r) => (if l = x then v / 2 else 0) + (if r = x then v - v / 2 else 0)
    | (some l, none) => if l = x then v else 0
    | (none, some r) => if r = x then v else 0
    | _ => 0

/-- q of a printing column (09 R233). -/
def LineEnv.ink (e : LineEnv) (x : Nat) (p : Seg × Nat) : Nat :=
  let gain := e.bar.act.nozzle p.1.head p.1.row p.2 / 4 % 256
  let near := [2, 1].filterMap (fun k => if k ≤ x then some (x - k) else none) ++ [x + 1, x + 2]
  let acc := e.value x + (if e.bar.conf.comp then (near.map (e.share x)).sum else 0)
  min 65535 ((acc * gain + 96) / 192)

/-- The drop of a value at a column (09 R234). -/
def LineEnv.drop (e : LineEnv) (x q : Nat) : Nat :=
  let beyond (t : Nat) : Bool := decide (e.bar.act.threshold t e.ys (x % 256) * 257 + 128 < q)
  if e.bar.conf.bits = 1 then b2n (beyond 0)
  else if beyond 2 then 3 else if beyond 1 then 2 else b2n (beyond 0)

/-- The column of a row's nozzle, where a committed segment holds it. -/
def Bar.columnOf (b : Bar) (h row n : Nat) : Option (Nat × Seg) :=
  match (b.rowSegs h row).find? fun g => decide (g.nozzle0 ≤ n) && decide (n < g.nozzle0 + g.nozzles) with
  | some g => some (((g.col0 : Int) + ((n - g.nozzle0 : Nat) : Int) * g.step).toNat, g)
  | none => none

/-- The drop of a ladder line at a nozzle (13 R353): the rung's columns fire LADDER_DROP, where the nozzle is not DISABLED and
the overlap gives it the column. -/
def LineEnv.rungDrop (e : LineEnv) (l : Ladder) (h row n : Nat) : Nat :=
  match e.bar.columnOf h row n with
  | none => 0
  | some (x, g) =>
    let fires (p : Seg × Nat) : Bool := e.prints.contains p.1.head && e.bar.act.nozzle p.1.head p.1.row p.2 % 4 != 3
    if x % max 1 l.step == (e.line - l.line) / max 1 l.linePitch && (e.covering x).find? fires == some (g, n) then (if e.bar.conf.bits = 1 then 1 else l.drop) else 0

/-- The drop codes of a row's nozzles on the line. -/
def LineEnv.rowDrops (e : LineEnv) (h row : Nat) : List Nat :=
  (List.range ((e.bar.place h).rows.getD row {}).nozzles).map fun n => match e.ladder with
  | some (l, mine) => if mine then e.rungDrop l h row n else 0
  | none =>
    match e.bar.columnOf h row n with
    | none => 0
    | some (x, g) => match e.printer x with
      | some p => if p == (g, n) then e.drop x (e.ink x p) else 0
      | none => 0

/-- The words of drop codes (09 R236). -/
def dropWords (bits : Nat) (ds : List Nat) : List Nat :=
  (chunks (32 / max 1 bits) ds).map fun c => ((indexed c).map fun x => x.2 * 2 ^ (bits * x.1)).sum

/-- Leading zero words. -/
def zeroRun : List Nat → Nat
  | 0 :: r => zeroRun r + 1
  | _ => 0

/-- Words up to the next pair of zero words. -/
def literalRun : List Nat → Nat
  | [] => 0
  | 0 :: 0 :: _ => 0
  | _ :: r => literalRun r + 1

/-- Run-length tokens of words (09 R237), over at most `fuel` tokens. -/
def rleTokens : Nat → List Nat → List Nat
  | 0, _ => []
  | f + 1, w =>
    if w.isEmpty then []
    else
      let z := zeroRun w
      if 2 ≤ z then (2 ^ 31 + z) :: rleTokens f (w.drop z)
      else
        let n := literalRun w
        n :: w.take n ++ rleTokens f (w.drop n)

/-- A row block (Table 9-2). -/
def rowBlock (row coding : Nat) (words : List Nat) : List Byte := toLe 1 row ++ toLe 1 coding ++ toLe 2 (4 * words.length) ++ words.flatMap (toLe 4)

/-- Words of a row (09 R236). -/
def Bar.rowWords (b : Bar) (h row : Nat) : Nat := ceilDiv (((b.place h).rows.getD row {}).nozzles * b.conf.bits) 32

/-- The coded row of words (09 R237, R238). -/
def codeRow (rle : Bool) (row : Nat) (words : List Nat) : List Byte :=
  let t := rleTokens (words.length + 1) words
  if rle && decide (t.length < words.length) then rowBlock row 1 t else rowBlock row 0 words

/-- A blank packet's payload (10 R265): one token a row on version 2, raw zeros on version 1. -/
def blankPayload (b : Bar) (h n : Nat) (v1 : Bool) : List Byte :=
  (b.firingRows h n).flatMap fun row =>
    if v1 then rowBlock row 0 (List.replicate (b.rowWords h row) 0) else rowBlock row 1 [2 ^ 31 + b.rowWords h row]

/-- A packet for the queue of a bar's course (11 Table 11-10). -/
def linePacket (s : State) (b h n : Nat) (bytes : List Byte) (late : Bool) : QueuePacket :=
  { slot := ((s.bar b).place h).slot, head := h, line := n, bytes, flits := ceilDiv (8 + bytes.length) 64, late }

/-- A line's blank packet goes into the queue whole (10 R265, R272), behind the packet that is being written. -/
def commitLine (b h n : Nat) (bytes : List Byte) (late : Bool) (s : State) : State :=
  let s := s.onDue b h n fun d => { d with committed := true, late := d.late || late, skip := d.skip || late || d.blank }
  let s := s.onBar b fun x => { x with lastPushed := max x.lastPushed n }
  writePacket b (linePacket s b h n bytes late) false s

/-- A line is late (10 R265): the packet being written for it is discarded, a blank packet takes its place, SKIP for its rows, LINES_LATE,
EV_LINE_LATE once a frame. A course that is down takes no packet, and one that it has not sent goes (11 R309). -/
def lateLine (b h n : Nat) (s : State) : State :=
  let mine (p : QueuePacket) : Bool := p.head == h && p.line == n && p.stamp.isNone
  let s := dropWriting b (fun w => w.render && mine w.p) s
  let s := if (s.course b).up then commitLine b h n (blankPayload (s.bar b) h n (s.isV1 b)) true s
    else
      let s := checkMarks b (s.onCourse b fun c => { c with queue := c.queue.filter fun p => !mine p })
      s.onDue b h n fun d => { d with committed := true, late := true, skip := true, sent := true }
  postOnceKey evLineLate b unitFir b (n % 2 ^ 32) (bump (ctr 8 b 0) 1 s)

/-- The line of a head whose turn it is on its engine (09 R229): oldest tick, then smallest d_h, then lowest HEAD. -/
def State.nextRender (s : State) (b : Nat) : Option (HeadRun × DueLine) :=
  match s.fire.run with
  | none => none
  | some r =>
    let all := ((r.heads.filter fun h => h.bar == b).flatMap fun h => (h.due.filter fun d => !d.committed).map fun d => (h, d))
    let better (x y : HeadRun × DueLine) : Bool :=
      let dx := (s.bar b).refD x.1.head
      let dy := (s.bar b).refD y.1.head
      decide (x.2.tick < y.2.tick) || (x.2.tick == y.2.tick && (decide (dx < dy) || (dx == dy && decide (x.1.head < y.1.head))))
    all.foldl (fun best x => match best with
      | none => some x
      | some y => if better x y then some x else some y) none

/-- The send deadline of a head's line has passed (10 R265). -/
def State.pastDeadline (s : State) (r : Run) (b h n : Nat) : Bool :=
  decide (r.remaining (s.target r b ((s.bar b).refD h) n) ≤ ((3 * r.pitch : Nat) : Int) * 2 ^ 32)

/-- The device may commit line packets and form stamps: not a standby before its claim (10 R282). -/
def State.mayPrint (s : State) : Bool := s.pair.st != .standby && s.pair.st != .joining && s.thm.power == .p0

/-- Failed columns whose values this head's line shares or loses (09 R233): those whose drop the overlap gives the head. -/
def LineEnv.failures (e : LineEnv) (h : Nat) : List Nat :=
  ((e.bar.segs.filter fun g => g.valid && g.head == h && e.bar.committed
      && ((e.bar.place h).rows.getD g.row {}).phase == e.line % max 1 e.bar.conf.interleave).flatMap fun g =>
    (List.range g.nozzles).filterMap fun (i : Nat) =>
      let x := ((g.col0 : Int) + (i : Int) * g.step).toNat
      if e.failed x && ((e.covering x).head?.map (·.1)) == some g then some x else none)

/-- Contone columns taken as 0 for a head's line (09 R222): every column of each poisoned 64-byte line that its rows' segments read,
neighbours and spreading included, each plane and line of its own. -/
def LineEnv.poisonedCols (e : LineEnv) (h : Nat) : Nat :=
  let cols := ((e.bar.firingRows h e.line).flatMap fun row => e.bar.rowSegs h row).map (e.bar.segCols e.u0 e.u1)
  let bads := (e.ring.filter fun l => e.needs.contains l.cl).flatMap fun l => l.bad.filter fun x => e.bar.planes.contains x.1
  (bads.map fun x =>
    let lo := e.u0 + x.2
    if cols.any fun c => decide (c.1 < c.2) && decide (c.1 < lo + 64) && decide (lo < c.2) then min 64 (e.u1 - lo) else 0).sum

/-- Render a head's line, with its counters; its packet is the next that the engine writes (09 R229 to R237, R252, 11 R311). -/
def renderLine (e : LineEnv) (b h n : Nat) (s : State) : State :=
  let bar := s.bar b
  let rows := (bar.firingRows h n).map fun row => (row, e.rowDrops h row)
  let raws := rows.map fun x => (x.1, dropWords bar.conf.bits x.2)
  let bytes := raws.flatMap fun x => codeRow (bar.conf.rle && !s.isV1 b) x.1 x.2
  let count (d : Nat) : Int := ((rows.map fun x => (x.2.filter (· == d)).length).sum : Nat)
  let fails := if bar.conf.comp && e.ladder.isNone then e.failures h else []
  let lost := fails.filter fun x => (e.sides x) == (none, none)
  let cols := if e.ladder.isSome then 0 else e.poisonedCols h
  let s := bump (ctr 6 b 0) 1 s
  let s := bump (ctr 6 b 2) (count 1) (bump (ctr 6 b 3) (count 2) (bump (ctr 6 b 4) (count 3) s))
  let s := bump (ctr 6 b 5) (((raws.map fun x => 4 * x.2.length).sum : Nat)) (bump (ctr 6 b 6) (((bytes.length - 4 * raws.length : Nat))) s)
  let s := bump (ctr 6 b 7) (((fails.length - lost.length : Nat))) (bump (ctr 6 b 8) lost.length s)
  let s := bump (ctr 6 b 9) cols s
  let s := match lost.min? with
    | some x => postOnceFrame evCompensationGap (unitBre bar.engine) b x s
    | none => s
  writePacket b (linePacket s b h n bytes false) true s

/-- BRE10 is being loaded for a bar (Table 9-3 step 2): until 50 us after the verdict. -/
def State.swapBusy (s : State) (b : Nat) : Bool := (s.bar b).swapping.any fun x => !passed s x.1 50 1000000

/-- BRE10 has caught up with a bar it took over (Table 9-3 step 4): it is loaded, and no due line of the bar waits. -/
def settleSwap (b : Nat) (s : State) : State := if s.swapBusy b || (s.nextRender b).isSome then s else endSwap b s

/-- RENDER_HEAD_LINE (09 R229): the bar's engine takes its next due line and writes its packet for some clocks, a flit in each while the
queue has room (11 R311, R312), or goes on with the packet it writes. It waits while the ring does not hold what the line reads (R221);
it does not start a line past its send deadline, which it counts and which is late, nor one that fell due before its rows' start line in
catch-up (R247). -/
def execRenderHeadLine (dt bar clocks : Nat) (s : State) : Host.Outcome State Fault Refusal :=
  let s := advance dt s
  onUnit (decide (bar < 10))
   (settleSwap bar (match s.fire.run, s.nextRender bar with
    | some r, some (h, d) =>
      let e := s.lineEnv r bar d.line d.tick
      if !s.mayPrint || bit s.board.pllLost 1 || s.swapBusy bar || s.isRetired (unitBre (s.bar bar).engine) || s.isDoomed (unitBre (s.bar bar).engine) then s
      else if (s.course bar).written then writeOn bar clocks s
      else if s.pastDeadline r bar h.head d.line then lateLine bar h.head d.line (bump (ctr 6 bar 1) 1 s)
      else if !d.early && e.ready h.head then writeOn bar clocks (renderLine e bar h.head d.line s)
      else s
    | _, _ => s))

/-- A due line that its send deadline makes late: not committed, or not sent by a course that is down (10 R265, 11 R309). -/
def DueLine.open (up : Bool) (d : DueLine) : Bool := !d.committed || (!up && !d.sent && !d.late)

/-- SEND_DEADLINE (10 R265): the first of a head's due lines that it makes late has reached its deadline. -/
def execSendDeadline (dt bar head : Nat) (s : State) : Host.Outcome State Fault Refusal :=
  let s := advance dt s
  onUnit (decide (bar < 10) && decide (head < 32))
   (settleSwap bar (match s.fire.run with
    | none => s
    | some r => match (r.headRun bar head).bind (fun h => h.due.find? (·.open (s.course bar).up)) with
      | some d => if s.mayPrint && s.pastDeadline r bar head d.line then lateLine bar head d.line s else s
      | none => s))

/-- Render clocks of a head's line (09 R229). -/
def Bar.headClocks (b : Bar) (h n : Nat) : Nat :=
  ((b.firingRows h n).map fun row => ((b.rowSegs h row).map fun g => ceilDiv g.nozzles 16).sum).sum

/-- Render clocks of a bar over the head lines that have fallen due in one tick (09 R229). -/
def State.tickClocks (s : State) (r : Run) (b tick : Nat) : Nat :=
  ((r.heads.filter fun h => h.bar == b).map fun h =>
    ((h.due.filter fun d => d.tick == tick && !d.blank).map fun d => (s.bar b).headClocks h.head d.line).sum).sum

end Sys2Proof.Machine
end

