-- ==== Sys2Proof/Machine/Compose.lean ====
section
/-!
DEFINITION. The contone ring and what is written into it: normal composition, the colour ledger's bands, catch-up
(spec/08_composition_and_colour.md, R189, R206, R212 to R214, R217; spec/09_bar_rendering.md, R219 to R221, R246 to R250).
-/
namespace Sys2Proof.Machine

/-! The ring. -/

/-- Put a line into its slot (R219). -/
def putRing (lines : Nat) (l : RingLine) (s : State) : State :=
  s.onCps fun c => { c with ring := l :: c.ring.filter fun x => x.cl % max 1 lines != l.cl % max 1 lines }

/-! Ledger bands (08 R213, 13 R342, R343). -/

/-- Zone sums of a line's planes: zone by ink. -/
def zoneSums (u0 : Nat) (planes : List (List Byte)) : List (List Nat) :=
  (List.range 128).map fun z => planes.map fun p =>
    (((indexed p).filter fun x => (u0 + x.1) / 384 == z).map fun x => x.2.toNat).sum

/-- Sums added zone by zone and ink by ink. -/
def addSums (a b : List (List Nat)) : List (List Nat) :=
  (List.range 128).map fun z => (List.range 8).map fun c => ((a.getD z []).getD c 0) + ((b.getD z []).getD c 0)

/-- The zone mean of a sum over n pixels, Q8.8 (R213). -/
def zoneMean (sum n : Nat) : Nat := (sum * 256 + n / 2) / max 1 n

/-- A band closes (R213, 13 R343): into the ledger, where one is reserved. A band in which a ladder line was printed is
marked, and strip cells under the guard are kept out (13 R351, R353). -/
def closeBand (s : State) : State :=
  match s.cps.band, s.clr.ledgerBands with
  | some b, some n =>
    let runId := (s.fire.run.map (·.id)).getD 0
    let ladder := s.clr.ladders.any fun l => l.runId == runId && decide (l.firstCl < 64 * b.band + b.lines) && decide (64 * b.band < l.firstCl + l.cls)
    let e : LedgerEntry :=
      { runId, flags := 2 * b2n b.blank + 4 * b2n b.poisoned + 8 * b2n b.gap + 16 * b2n ladder, lines := b.lines, band := b.band, w0 := b.pos
        time := s.tb0, mean := b.sums.map fun z => z.map fun x => zoneMean x (384 * b.lines), guarded := b.guarded }
    (s.onClr fun k => { k with ledger := putKey (b.band % max 1 n) e k.ledger }).onCps fun c => { c with band := none }
  | _, _ => s.onCps fun c => { c with band := none }

/-- Add a line to the open band, opening it at its first line and closing it at its 64th (R213). -/
def addToBand (cl : Nat) (pos : Int) (blank poisoned guarded : Bool) (sums : List (List Nat)) (s : State) : State :=
  let b := match s.cps.band with
    | some b => b
    | none => { band := cl / 64, pos, sums := [], gap := cl % 64 != 0 : OpenBand }
  let b := { b with lines := b.lines + 1, blank := b.blank || blank, poisoned := b.poisoned || poisoned, guarded := b.guarded || guarded, sums := addSums b.sums sums }
  let s := s.onCps fun c => { c with band := some b }
  if cl % 64 = 63 then closeBand s else s

/-! Compose load (08 R189). -/

/-- Clocks per output pixel, in units of 2^-38 (R189). -/
def State.cpp (s : State) : Nat :=
  let act := (List.range 8).filter s.active
  let base := if act.length ≤ 4 then 2 ^ 36 else 2 ^ 37
  let dec := (act.map fun i =>
    let c := (s.layer i).act
    if c.source = 1 then c.channels * c.stepX * c.stepY else 0).sum
  max base dec

/-- Compose load in per mille at a rate of contone lines, as a fraction (R189): lines/s x S x cpp / 1.2 x 10^9. -/
def State.composeLoad (s : State) (rateNum rateDen : Nat) : Nat :=
  1000 * rateNum * sliceWidth s.spanWidth s.pipes * s.cpp / (rateDen * 2 ^ 38 * 1200000000)

/-- Contone lines per second at the web's present speed, in units of 2^-32. -/
def State.contoneRate (s : State) : Nat := ((s.webChan.map fun c => c.speed.natAbs).getD 0) / 128

/-! Composition (08 R206, R212). -/

/-- The frame held that a contone line of the run belongs to. -/
def State.clFrame (s : State) (cl : Nat) : Option Frame := s.cps.frames.find? fun f => decide (f.firstCl ≤ cl) && decide (cl < f.firstCl + f.lines)

/-- Run line of the first print line that a contone line serves. -/
def Run.lineOfCl (r : Run) (cl : Nat) : Nat :=
  let per := max 1 r.contoneLines
  cl / per * r.frameLines + (if r.pitch = 64 then 2 * (cl % per) else cl % per)

/-- The smallest row offset among the bars in the run. -/
def State.dMin (s : State) (r : Run) : Int :=
  (((List.range 10).flatMap fun b => if bit r.bars b then (s.bar b).placed.map fun h => (s.bar b).refD h else []).min?).getD 0

/-- RNG asks for a contone line once progress has come within LEAD + 256 lines of it (R206), and no later than its first print
line falls due on a head (log 20). -/
def State.asked (s : State) (r : Run) (cl : Nat) : Bool :=
  (r.heads.any fun h => decide (r.lineOfCl cl < h.nextDue)) || decide (r.sgn * (s.lineStart r (r.lineOfCl cl) + s.dMin r) * 2 ^ 32 - r.progress ≤ (((s.fire.lead + 256) * r.pitch : Nat) : Int) * 2 ^ 32)

/-- Lines beyond the last run line of a stop are not composed; a NOW or a HALT ends composition. -/
def Run.composes (r : Run) (cl : Nat) : Bool :=
  match r.stop with
  | some st => decide (st.mode < 2) && st.last.all fun l => decide (r.lineOfCl cl ≤ l)
  | none => true

/-- A line's pixels, counted in the record open at the time (16 R423), and for EV_COMPOSE_POISONED of their frame (R217). -/
def countPx (frame : Nat) (k : PxCount) (last : Bool) (s : State) : State :=
  let s := bump (ctr 5 0 9) k.limited (bump (ctr 5 0 8) k.blanked (bump (ctr 5 0 7) k.poisoned s))
  let s := s.onCps fun c => { c with frames := c.frames.map fun f =>
    if f.number = frame then { f with poisoned := f.poisoned + k.poisoned + k.blanked } else f }
  let total : Nat := ((s.cps.frames.find? (·.number == frame)).map (·.poisoned)).getD 0
  if last && decide (0 < total) then post evComposePoisoned 0x0700 frame (u32 total) s else s

/-- The strip over a composed line (13 R351): each patch for PATCH_BANDS bands in turn, kept out where the guard's alpha is not
0, and off a stopped frame, whose lines are all zeros (08 R210, 09 R221). Whether the guard kept a pixel comes with the planes. -/
def stripLine (s : State) (f : Frame) (cl u0 u1 : Nat) (planes : List (List Byte)) : List (List Byte) × Bool :=
  match f.strip with
  | none => (planes, false)
  | some st =>
    if f.stopped || !st.patchesOn || st.patches.isEmpty then (planes, false)
    else
      let patch := st.patches.getD (cl / 64 / max 1 st.patchBands % st.patches.length) {}
      let g := f.layers.getD 7 {}
      let img := s.imgOf g.cfg.job g.cfg.obj
      let keeps (u : Nat) : Bool := g.cfg.source != 0 && ((layerPx s g.cfg img u (cl - f.firstCl) cl).alpha != 0 || g.lost)
      let inside (u : Nat) : Bool := decide (384 * st.zone0 ≤ u) && decide (u < 384 * (st.zone0 + st.zones))
      let marks := (List.range (u1 - u0)).map fun i => if inside (u0 + i) then (if keeps (u0 + i) then 2 else 1) else 0
      ((indexed planes).map fun p => (p.2.zip marks).map fun x => if x.2 = 1 then BitVec.ofNat 8 (patch.ink.getD p.1 0) else x.1,
        marks.contains 2)

/-- Compose and write the next contone line of normal composition. -/
def composeNext (r : Run) (cl : Nat) (f : Frame) (s : State) : State :=
  let s := cutSpan f.number s
  let f := (s.clFrame cl).getD f
  let (u0, u1) := s.cps.span.getD (0, 0)
  let (planes, k) := composeLine s f cl u0 u1
  let (planes, guarded) := stripLine s f cl u0 u1 planes
  let s := putRing r.ringLines { cl, frame := f.number, planes } s
  let s := countPx f.number k (cl + 1 == f.firstCl + f.lines) s
  let s := bumpMax (ctr 5 0 10) (s.composeLoad s.contoneRate (2 ^ 32)) s
  let w := s.lineStart r (r.lineOfCl cl)
  let s := addToBand cl w f.stopped (decide (0 < k.poisoned + k.blanked)) guarded (zoneSums u0 planes) s
  s.onCps fun c => { c with nextCl := cl + 1, oldest := s.ringOldest r }

/-! Catch-up (09 R246 to R250). -/

/-- A bar's fronts at a claim (R246): rows in rising offset, a front taking those at most 3,072 frets from its nearest. -/
def splitFronts : Nat → List (Int × List (Nat × Nat)) → List Front
  | 0, _ => []
  | _, [] => []
  | f + 1, (d, c) :: rest =>
    let mine := rest.takeWhile fun x => decide (x.1 ≤ d + 3072)
    { dNear := d, dFar := (mine.getLast?.map (·.1)).getD d, cols := c ++ mine.flatMap (·.2) } :: splitFronts f (rest.drop mine.length)

/-- Insert in rising order of offset. -/
def insertOffset (x : Int × List (Nat × Nat)) : List (Int × List (Nat × Nat)) → List (Int × List (Nat × Nat))
  | [] => [x]
  | y :: r => if x.1 < y.1 then x :: y :: r else y :: insertOffset x r

/-- The fronts of a bar within a compose span. -/
def Bar.frontsIn (b : Bar) (u0 u1 : Nat) : List Front :=
  let rows := b.placed.flatMap fun h => (List.range (b.place h).rows.length).map fun r =>
    (b.rowD h r, (b.rowSegs h r).map (b.segCols u0 u1))
  splitFronts (rows.length + 1) (rows.foldl (fun l x => insertOffset x l) [])

/-- FW: contone columns in the union of a front's intervals (R246). -/
def Front.width (f : Front) (u0 u1 : Nat) : Nat :=
  ((List.range (u1 - u0)).filter fun i => f.cols.any fun c => decide (c.1 ≤ u0 + i) && decide (u0 + i < c.2)).length

/-- FD: contone lines of a front's window (R246). -/
def Front.depth (f : Front) (sy : Nat) : Nat := ceilDiv (f.dFar - f.dNear).toNat 128 + 2 + 2 * sy

/-- The compose span of a set of bars (08 R187). -/
def State.spanOf (s : State) (mask : Nat) : Nat × Nat :=
  let bars := (List.range 10).filter fun b => bit mask b && (s.bar b).cfg.isSome
  let lo := ((bars.map fun b => (s.bar b).conf.colFirst).min?).getD 0
  let hi := ((bars.map fun b => (s.bar b).conf.colLast).max?).getD 0
  (lo / 2 / 64 * 64, min 49152 (64 * ceilDiv (ceilDiv (hi + 1) 2) 64))

/-- What the evaluation of R249 gives. -/
structure CatchUp where
  holds : Bool := false
  /-- C_eff, px/s -/
  cEff : Nat := 0
  /-- fronts that C_eff does not reach (R250): bar, d_near -/
  blank : List (Nat × Int) := []
deriving DecidableEq, Repr, Inhabited

/-- Bytes per composed pixel that the layers fetch, in units of 2^-32 (R249). -/
def State.fetchPerPx (s : State) : Nat :=
  (((List.range 8).filter s.active).map fun i =>
    let c := (s.layer i).act
    if c.source = 1 then
      let worst := ((s.imgOf c.job c.obj).map fun m => imageWorst m.obj).getD 256
      c.channels * c.depth * c.stepX * c.stepY * 32 / max 1 worst
    else 0).sum

/-- Peak memory rate, bytes/s: 273.0 GB/s at 8,533 MT/s (R249, 01 R24). -/
def State.peak (s : State) : Nat := 273000000000 * s.store.memMts / 8533

/-- Ring reads of the bars given, bytes a contone line (01 Table 1-3, 09 R222). -/
def State.ringReads (s : State) (bars : List Nat) : Nat :=
  (bars.map fun b => ((s.bar b).conf.colLast + 1 - (s.bar b).conf.colFirst) / 2 * (s.bar b).planes.length).sum

/-- The next front to judge with what it costs: its bar, d_near, FW, and FW times FD, 0 once its window is complete. -/
structure FrontCost where
  bar : Nat := 0
  dNear : Int := 0
  width : Nat := 0
  burst : Nat := 0
deriving DecidableEq, Repr, Inhabited

/-- Insert in rising order of d_near. -/
def insertCost (x : FrontCost) : List FrontCost → List FrontCost
  | [] => [x]
  | y :: r => if x.dNear < y.dNear then x :: y :: r else y :: insertCost x r

/-- Evaluate catch-up at a web speed in mm/min over fronts of the bars given (R249, R250), with a quarter of C while throttled
(14 R370): the fronts that C_eff reaches, in ascending d_near. -/
def State.catchUpOf (s : State) (bars : List Nat) (fronts : List (Nat × Front)) (speed : Nat) : CatchUp :=
  let (u0, u1) := s.spanOf ((bars.map (2 ^ ·)).sum)
  let fw := fronts.map fun x => (x.1, x.2, x.2.width u0 u1)
  let wsum := (fw.map (·.2.2)).sum
  let planes := (fw.map fun x => x.2.2 * (s.bar x.1).planes.length).sum
  let c := s.pipes * 1200000000 * 2 ^ 38 / (max 1 s.cpp * if 1 ≤ s.thm.level then 4 else 1)
  let reads := s.ringReads bars * (speed * 50) / 127
  let have_ := 92 * s.peak / 100 - reads - 1000000000
  let per := s.fetchPerPx + planes * 2 ^ 32 / max 1 wsum
  let cEff := min c (have_ * 2 ^ 32 / max 1 per)
  let steady (w : Nat) : Bool := decide (w * (speed * 50) ≤ cEff * 127)
  let bursts (b : Nat) : Bool := decide (b * 1000000 ≤ cEff * 750)
  let near := fw.foldl (fun l x => insertCost
    { bar := x.1, dNear := x.2.1.dNear, width := x.2.2, burst := if x.2.1.start.isSome then 0 else x.2.2 * x.2.1.depth (s.bar x.1).sy } l) []
  let go := near.foldl (fun (acc : Nat × Nat × List (Nat × Int)) x =>
    let w := acc.1 + x.width
    let b := acc.2.1 + x.burst
    if steady w && bursts b then (w, b, acc.2.2) else (acc.1, acc.2.1, acc.2.2 ++ [(x.bar, x.dNear)])) (0, 0, [])
  { holds := go.2.2.isEmpty, cEff, blank := go.2.2 }

/-- Evaluate catch-up over every front of the bars given. -/
def State.catchUp (s : State) (bars : List Nat) (speed : Nat) : CatchUp :=
  let (u0, u1) := s.spanOf ((bars.map (2 ^ ·)).sum)
  s.catchUpOf bars (bars.flatMap fun b => ((s.bar b).frontsIn u0 u1).map fun f => (b, f)) speed

/-- The web's present speed, mm/min. -/
def State.webMmMin (s : State) : Nat := ((s.webChan.map fun c => c.speed.natAbs).getD 0) * 254 / (100 * 128 * 2 ^ 32)

/-- The contone line of the run that holds a run line. -/
def Run.clOf (r : Run) (n : Nat) : Nat :=
  let k := n % max 1 r.frameLines
  n / max 1 r.frameLines * r.contoneLines + (if r.pitch = 64 then k / 2 else k)

/-- The contone lines that a front's rows need for their next lines at a lead of n lines, neighbours and spreading included, first and
last (R247): between them lie the FD lines of its window. In a reverse run the row of the largest offset meets a line first. -/
def State.frontNeed (s : State) (r : Run) (b : Nat) (f : Front) (lead : Nat) : Nat × Nat :=
  let near := r.clOf (s.firstBeyond r b f.dNear lead)
  let far := r.clOf (s.firstBeyond r b f.dFar lead)
  let m := 1 + (s.bar b).sy
  (min near far - min (min near far) m, max near far + m)

/-- A front's window is not complete: a line that falls due for a row of it now comes before the row's start line. -/
def Front.opening (f : Front) : Bool := f.served && f.start.isNone

/-- The front in which a head's reference row lies. -/
def frontOf (fs : List Front) (d : Int) : Option Front := fs.find? fun f => decide (f.dNear ≤ d) && decide (d ≤ f.dFar)

/-- The lines that a bar's heads have due before a window is complete are not fired (R247). -/
def markEarly (b : Nat) (fs : List Front) (s : State) : State :=
  s.onRun fun r => { r with heads := r.heads.map fun h =>
    if h.bar == b && (frontOf fs ((s.bar b).refD h.head)).any Front.opening
    then { h with due := h.due.map fun d => if d.committed then d else { d with early := true } } else h }

/-- Begin catch-up at a claim (R246, R247): every bar in print gets its fronts and a lead of 4 lines; normal composition
restarts where the nearest front stands. -/
def beginCatchUp (s : State) : State :=
  match s.fire.run with
  | none => s
  | some r =>
    let (u0, u1) := s.spanOf r.bars
    let bars := s.runBars r
    let ev := s.catchUp bars s.webMmMin
    let place (b : Nat) (f : Front) : Front := { f with next := (s.frontNeed r b f 4).1, served := !ev.blank.contains (b, f.dNear) }
    let fronts := bars.map fun b => (b, ((s.bar b).frontsIn u0 u1).map (place b))
    let near := ((fronts.flatMap fun x => x.2.map fun f => (s.frontNeed r x.1 f 4).2).max?).getD 0
    let s := bars.foldl (fun s b => markEarly b ((getKey b fronts).getD []) s) s
    let s := bars.foldl (fun s b => s.onBar b fun x =>
      { x with fronts := (getKey b fronts).getD [], catchLead := some 4, catchSince := s.tb1 }) s
    let s := (s.onCps fun c => { c with span := some (u0, u1), ring := [], nextCl := near + 1, band := none, cutFor := 5 }).onBars fun x => { x with catchUp := some s.tb1 }
    post evCatchupBegin unitCtl (fronts.map (·.2.length)).sum (b2n ev.holds) s

/-- A front ends; with a bar's last one EV_CATCHUP_END is posted, and the device leaves catch-up with the last bar (R247, R248). -/
def endFront (b : Nat) (s : State) (keep : List Front) : State :=
  let s := s.onBar b fun x => { x with fronts := keep }
  if !keep.isEmpty then s
  else
    let s := post evCatchupEnd (unitBre (s.bar b).engine) b (tUs (s.tb1 - (s.bar b).catchSince) / 1000).toNat s
    if (List.range 10).all fun b => (s.bar b).fronts.isEmpty then s.onBars fun x => { x with catchUp := none } else s

/-- The fronts still running, each with its bar. -/
def State.allFronts (s : State) : List (Nat × Front) := (List.range 10).flatMap fun b => (s.bar b).fronts.map fun f => (b, f)

/-- The ring holds a contone line for a front: its slot, and the planes that its bar reads over its width. -/
def State.frontValid (s : State) (b : Nat) (f : Front) (cl : Nat) : Bool :=
  s.cps.ring.any fun l => l.cl == cl && (s.bar b).planes.all fun p => f.cols.all fun c => c.1 == c.2 || l.holds p c.1 (c.2 - 1)

/-- A front that C_eff did not reach (R250) ends once nearer fronts or normal composition have written all that it needs now, and gets its
window once the reserve that frees up reaches it. -/
def reserveFront (r : Run) (s : State) (x : Nat × Front) : State :=
  let (b, f) := x
  let (lo, hi) := s.frontNeed r b f (s.leadOf b)
  if (List.range (hi + 1 - lo)).all fun i => s.frontValid b f (lo + i) then endFront b s ((s.bar b).fronts.filter (· != f))
  else
    let going := s.allFronts.filter fun y => y.2.served || y == x
    if (s.catchUpOf (s.runBars r) going s.webMmMin).blank.isEmpty then
      s.onBar b fun y => { y with fronts := y.fronts.map fun g => if g = f then { f with served := true, next := (s.frontNeed r b f 4).1 } else g }
    else s

/-- Look again at the fronts left without a window, nearest first. -/
def reserveFronts (r : Run) (s : State) : State :=
  let left := s.allFronts.filter fun x => !x.2.served
  let nearest := left.foldl (fun best x => match best with
    | none => some x
    | some y => if x.2.dNear < y.2.dNear then some x else some y) (none : Option (Nat × Front))
  match nearest with
  | some x => reserveFront r s x
  | none => s

/-- The front to serve now: the nearest that is served and has a line to compose (R247). -/
def State.frontTurn (s : State) (r : Run) : Option (Nat × Front) :=
  let work := s.allFronts.filter fun x => x.2.served && (x.2.start.isNone || decide (x.2.next ≤ (s.frontNeed r x.1 x.2 (s.leadOf x.1)).2))
  work.foldl (fun best x => match best with
    | none => some x
    | some y => if x.2.dNear < y.2.dNear then some x else some y) none

/-- Compose one line of a front over its width, in the planes its bar reads (R247, R248). It ends when that line is valid; once its window
is complete, its rows' start line is the next to fall due. -/
def composeFront (r : Run) (b : Nat) (f : Front) (s : State) : State :=
  let (u0, u1) := s.cps.span.getD (0, 0)
  let planes := (s.bar b).planes
  let others := (s.bar b).fronts.filter (· != f)
  let old : Option RingLine := s.cps.ring.find? fun l => l.cl == f.next
  if s.frontValid b f f.next && f.start.isSome then endFront b s others
  else
    let s := match s.clFrame f.next with
      | some fr =>
        let part := planes.flatMap fun p => f.cols.map fun (c : Nat × Nat) => (p, c.1, c.2)
        let l := (old.getD { cl := f.next, frame := fr.number, planes := (stripLine s fr f.next u0 u1 (composeLine s fr f.next u0 u1).1).1, part := some [] })
        bump (ctr 6 b 12) 1 (putRing r.ringLines { l with part := l.part.map (· ++ part) } s)
      | none => s
    let next := f.next + 1
    let start := if f.start.isSome then f.start
      else if (s.frontNeed r b f 4).2 < next then some r.nextTick else none
    s.onBar b fun x => { x with fronts := x.fronts.map fun g => if g = f then { f with next, start } else g }

/-- COMPOSE_CONTONE_LINE (08 R212): the nearest front of catch-up that has work, or else the next contone line, once RNG
asks for it; it waits while its slot is still in the ring range (09 R220). -/
def execComposeContoneLine (dt : Nat) (s : State) : Host.Outcome State Fault Refusal :=
  let s := advance dt s
  .next (match s.fire.run with
    | none => s
    | some r =>
      if s.thm.power != .p0 || bit s.board.pllLost 1 || s.pipes == 0 then s
      else
      let s := reserveFronts r s
      match s.frontTurn r with
        | some (b, f) => composeFront r b f s
        | none =>
          let cl := s.cps.nextCl
          match s.clFrame cl with
          | none => s
          | some f =>
            if !s.asked r cl || !r.composes cl || s.pair.waits.any (·.frame == some f.number) then s
            else
              let oldest := s.ringOldest r
              if oldest + r.ringLines ≤ cl then
                if s.cps.waited = some cl then s
                else (s.ringHolders r oldest).foldl (fun s b => bump (ctr 6 b 10) 1 s) (s.onCps fun c => { c with waited := some cl })
              else composeNext r cl f s)

end Sys2Proof.Machine
end

