-- ==== Sys2Proof/Machine/CamOps.lean ====
section
/-!
DEFINITION. Exposures: the arming of a port's trigger and the records that its firings make
(spec/12_inspection_camera.md, R325, R326).
-/
namespace Sys2Proof.Machine

/-- A camera port. -/
def State.port (s : State) (k : Nat) : Port := s.cam.ports.getD k {}

/-- Change one port. -/
def State.onPort (k : Nat) (f : Port → Port) (s : State) : State := s.onCam fun c => { c with ports := upd k f c.ports }

/-- The configuration of a port. -/
def Port.conf (p : Port) : CamCfg := p.cfg.getD {}

/-- A port receives: the DP domain runs (R341), the port is enabled and in service. -/
def State.portLive (s : State) (k : Nat) : Bool :=
  let p := s.port k
  !s.held && p.enable && !p.retired && s.thm.power != .p2 && s.thm.power != .p3 && s.thm.power != .p4

/-- Change one trigger unit. -/
def State.onTrigger (u : Nat) (f : Trigger → Trigger) (s : State) : State :=
  s.onTim fun t => { t with triggers := upd u f t.triggers }

/-- The sign of the run's direction, + without a run. -/
def State.runSgn (s : State) : Int := (s.fire.run.map Run.sgn).getD 1

/-- The next target of X0 + j SPACING_F, j from 0, beyond a position in the run's direction (R325). -/
def Port.targetBeyond (p : Port) (sgn pos : Int) : Option Int :=
  let sp : Int := (max 1 p.spacing : Nat)
  if 0 < sgn then some (if pos < p.x0 then p.x0 else p.x0 + ((pos - p.x0).fdiv sp + 1) * sp)
  else if pos ≤ p.x0 then none
  else some (p.x0 + (-((-(pos - p.x0)).fdiv sp) - 1) * sp)

/-- The earlier frames of a port have all closed: none is open and no exposure awaits its Frame Start. -/
def Port.idle (p : Port) : Bool := p.frames.isEmpty && p.records.isEmpty

/-- Skip targets that the web has reached without an exposure (R325): the next one lies beyond P. -/
def skipTargets (k : Nat) (sgn pos : Int) (s : State) : State :=
  let p := s.port k
  match p.next with
  | none => s.onPort k fun p => { p with next := p.targetBeyond sgn pos }
  | some t =>
    if sgn * (t - pos) ≤ 0 then
      bump (ctr 10 k 6) ((sgn * (pos - t)).fdiv (max 1 p.spacing : Nat) + 1) (s.onPort k fun p => { p with next := p.targetBeyond sgn pos })
    else s

/-- Arm the port's trigger for its next target from the newest pair (R325): at most 1 ms ahead, and re-armed as pairs
arrive. A target whose firing time comes before the previous frame has closed is skipped when it falls due. -/
def armPort (k : Nat) (s : State) : State :=
  let p := s.port k
  if !(s.portLive k && p.mode == 0 && p.disabling.isNone) then s
  else match s.webP, s.webChan with
    | some pos, some c =>
      let sgn := s.runSgn
      let s := skipTargets k sgn pos s
      let u := p.conf.trigger
      let off (s : State) : State := s.onTrigger u fun t => { t with mode := 0, running := false }
      match (s.port k).next.bind (c.fireTime sgn) with
      | none => off s
      | some fire =>
        let at_ := fire - nsT p.conf.expMidNs
        if s.tb3 + msT 1 < at_ then off s
        else s.onTrigger u fun t => { t with
          mode := 1, running := true, tb := 3, actions := 2, camera := k, pulseW := p.pulseW, count := 1, fired := 0
          t := at_ * 2 ^ 16, period := 0, late := false }
    | _, _ => s

/-- A new pair of the web channel re-arms the ports in POSITION mode (R325). -/
def camOnPair (s : State) : State := (List.range 4).foldl (fun s k => armPort k s) s

/-- The marks and position of an exposure at its mid-exposure (R326): P_mid by R152 from the newest pair. -/
def Exposure.atMid (s : State) (e : Exposure) : Exposure :=
  let run := s.fire.run.map fun r => { r with heads := [] }
  let base := { e with run, capos := s.fire.capos, marks := if run.isNone then 0x400 else 0 }
  match s.webChan with
  | none => { base with pMid := some 0, marks := base.marks + 0x100 }
  | some c => match c.scale, c.pairs with
    | some _, p :: _ =>
      let dt := e.mid - p.time
      let fit := c.speedValid && decide (0 ≤ dt) && decide (dt * 1000 ≤ 2 ^ 32)
      let lost := !c.speedValid || c.stalled || decide (2 ^ 32 < dt * 1000)
      let against := run.isSome && decide (s.runSgn * c.speed < 0)
      { base with
        pMid := some (if fit then p.pos + sar (c.speed * dt) 32 else p.pos)
        marks := base.marks + 0x100 * b2n lost + 0x200 * b2n against }
    | _, _ => { base with pMid := some 0, marks := base.marks + 0x100 }

/-- A firing with the CAMERA action makes an exposure record (R326); a full queue discards it and counts it as missed. A frame whose
Frame Start came in the same TB clock and found no record takes it. -/
def makeExposure (port vc pulseW : Nat) (s : State) : State :=
  let s := s.emit (.pulse (.camTrig port vc) pulseW)
  let p := s.port port
  if !s.portLive port then s
  else if 8 ≤ (p.records.filter fun e => e.vc == vc).length then bump (ctr 10 port 7) 1 s
  else
    let e : Exposure := { vc, tb0 := s.tb0, tb3 := s.tb3, mid := s.tb3 + nsT p.conf.expMidNs, runId := s.fire.run.map (·.id) }
    match p.frames.find? fun f => f.vc == vc && f.exposure.isNone && f.opened == s.tb1 && p.mode != 2 && f.begun == 1 with
    | some f => s.onPort port fun p => { p with frames := p.frames.map fun x => if x.seq = f.seq then { x with exposure := some e } else x }
    | none => s.onPort port fun p => { p with records := p.records ++ [e] }

/-- The trigger of a port in POSITION mode falls due: its target is exposed, or skipped while the web moves against the
run, the speed is invalid or the previous frame has not closed (R325). The answer says whether it may fire. -/
def claimTarget (k : Nat) (s : State) : State × Bool :=
  let p := s.port k
  match s.webChan, p.next with
  | some c, some t =>
    let sgn := s.runSgn
    let good := c.speedValid && !c.stalled && decide (0 < sgn * c.speed) && p.idle
    let s := s.onPort k fun p => { p with next := p.targetBeyond sgn t }
    if good then (s, true) else (bump (ctr 10 k 6) 1 s, false)
  | _, _ => (s, false)

end Sys2Proof.Machine
end

