-- ==== Sys2Proof/Machine/Measure.lean ====
section
/-!
DEFINITION. From a frame's lines to its report: the fronts, measurement pixels, their place on the web, cells,
histograms, sharpness (spec/12_inspection_camera.md, R329 to R334).
-/
namespace Sys2Proof.Machine

/-- A raster of samples. -/
abbrev Raster := Array (Array Nat)

/-- A raster of rows. -/
def rasterOf (rows : List (List Nat)) : Raster := (rows.map fun r => r.toArray).toArray

/-- A sample, the coordinates clamped to the raster (12, The fronts). -/
def Raster.px (r : Raster) (x y : Int) : Nat :=
  let row := r.getD (clampI y 0 ((r.size : Int) - 1)).toNat #[]
  row.getD (clampI x 0 ((row.size : Int) - 1)).toNat 0

/-- A raster computed from another, coordinate by coordinate. -/
def Raster.image (r : Raster) (f : Nat → Nat → Nat) : Raster :=
  ((List.range r.size).map fun y => ((List.range (r.getD y #[]).size).map fun x => f x y).toArray).toArray

/-- CFA position (12, The fronts). -/
def cfaPos (x y : Nat) : Nat := 2 * (y % 2) + x % 2

/-- Colour at a CFA position of a pattern: 0 red, 1 green, 2 blue (Table 12-5). -/
def cfaColour (cfa p : Nat) : Nat :=
  (([[0, 1, 1, 2], [1, 0, 2, 1], [1, 2, 0, 1], [2, 1, 1, 0]] : List (List Nat)).getD cfa []).getD p 0

/-- Bits of a sample of a data type (R321). -/
def rawBits (dataType : Nat) : Nat := if dataType = 0x2B then 10 else if dataType = 0x2C then 12 else 14

/-- A raw sample widened to 16 bits (R329). -/
def widenRaw (n raw : Nat) : Nat := (raw * 2 ^ (16 - n)) ||| (raw / 2 ^ (2 * n - 16))

/-- A value clamped to 16 bits. -/
def clamp16 (v : Int) : Nat := (clampI v 0 65535).toNat

/-- Black level (R329). -/
def CamParams.black (p : CamParams) (pos v : Nat) : Nat :=
  clamp16 (sar (((v : Int) - (p.bl.getD pos 0 : Nat)) * (p.blg.getD pos 0 : Nat) + 8192) 14)

/-- The standard front (R329). -/
def standardFront (p : CamParams) (cfa : Nat) (v : Raster) : Raster :=
  let x := v.image fun px py => p.black (cfaPos px py) (v.px px py)
  let x2 := x.image fun px py =>
    let s4 := x.px (px - 1) py + x.px (px + 1) py + x.px px (py - 1) + x.px px (py + 1)
    clamp16 ((x.px px py : Int) - (((p.k.getD (cfaPos px py) 0) * s4 + 131072) / 2 ^ 18 : Nat))
  x2.image fun px py =>
    let c := x2.px px py
    if cfaColour cfa (cfaPos px py) ≠ 1 then c
    else
      let mg := (x2.px (px - 1) (py - 1) + x2.px (px + 1) (py - 1) + x2.px (px - 1) (py + 1) + x2.px (px + 1) (py + 1) + 2) / 4
      if ((c : Int) - mg).natAbs ≤ p.giThr then (c + mg + 1) / 2 else c

/-- The curve LIN, or another of 257 points, the identity where none is written (R330, R341). -/
def curveOr (c : Option (List Nat)) (v : Nat) : Nat := match c with
  | some p => curve257 p v
  | none => v

/-- A merged pixel from its linearised exposures, longest first (R330): the last one present is taken whatever its value. -/
def mergePx (p : CamParams) : List (Nat × Nat) → Nat
  | [] => 0
  | [x] => min 65535 ((x.2 * p.g.getD x.1 0 + 32768) / 65536)
  | x :: r => if x.2 < p.sat then min 65535 ((x.2 * p.g.getD x.1 0 + 32768) / 65536) else mergePx p r

/-- The wide-range front on the exposures of one line: exposure, samples widened (R330). -/
def wideLine (p : CamParams) (y : Nat) (es : List (Nat × List Nat)) : List Nat :=
  let n := ((es.map fun e => e.2.length).max?).getD 0
  (List.range n).map fun x => mergePx p (es.map fun e => (e.1, curveOr p.lin (p.black (cfaPos x y) (e.2.getD x 0))))

/-- The output of the front for a frame's lines (R328 to R330). On a standard port the lines delivered make up the frame
in their order; on a wide-range port each index makes up one line. -/
def CamFrame.front (f : CamFrame) (c : CamCfg) : Raster :=
  let wide (l : CamLine) : List Nat := l.px.map (widenRaw (rawBits c.dataType))
  if c.wide then
    let ys := (List.range f.merged).filter fun y => f.taken.any fun l => l.y == y
    rasterOf (ys.map fun y => wideLine f.params y ((List.range 3).filterMap fun e =>
      (f.taken.find? fun l => l.y == y && l.vc == e).map fun l => (e, wide l)))
  else standardFront f.params c.cfa (rasterOf (f.taken.map wide))

/-- A measurement pixel before and after the matrix (R331). -/
structure MeasPx where
  raw : List Nat := []
  rgb : List Nat := []
  m : List Nat := []
  clipped : Bool := false
deriving DecidableEq, Repr, Inhabited

/-- Red, green and blue of a quad (R331). -/
def quadRaw (cfa : Nat) (r : Raster) (qx qy : Nat) : List Nat :=
  let at_ (pos : Nat) : Nat := r.px (2 * qx + pos % 2 : Nat) (2 * qy + pos / 2 : Nat)
  let of (colour : Nat) : List Nat := ((List.range 4).filter fun pos => cfaColour cfa pos == colour).map at_
  let green := of 1
  [(of 0).getD 0 0, (green.getD 0 0 + green.getD 1 0 + 1) / 2, (of 2).getD 0 0]

/-- The gain of a column, Q2.14 (R331). -/
def CamParams.gain (p : CamParams) (qx : Nat) : Nat := (getKey qx p.cg).getD 16384

/-- Red, green and blue with the column gain (R331). -/
def gained (gain : Nat) (raw : List Nat) : List Nat := raw.map fun v => min 65535 ((v * gain + 8192) / 16384)

/-- The measurement channels of red, green and blue (R331). -/
def measure (p : CamParams) (rgb : List Nat) : List Nat :=
  (List.range 3).map fun j =>
    let sum := ((List.range 3).map fun i => p.a.getD (3 * j + i) 0 * (rgb.getD i 0 : Nat)).sum
    curveOr (p.mc.map fun c => c.getD j []) (clamp16 (sar (sum + 2048) 12 + p.off.getD j 0))

/-- The measurement pixels, row by row (R331). -/
def measureFrame (p : CamParams) (cfa width : Nat) (r : Raster) : List (List MeasPx) :=
  (List.range (r.size / 2)).map fun qy => (List.range (width / 2)).map fun qx =>
    let raw := quadRaw cfa r qx qy
    let rgb := gained (p.gain qx) raw
    { raw, rgb, m := measure p rgb
      clipped := [0, 1, 2, 3].any fun (pos : Nat) => r.px (2 * qx + pos % 2 : Nat) (2 * qy + pos / 2 : Nat) == 65535 }

/-! Place on the web (R332). -/

/-- Nozzle column of measurement column m. -/
def CamParams.column (p : CamParams) (m : Nat) : Int := p.colOrigin + sar ((m : Int) * p.colStep) 16

/-- Web coordinate of measurement row r. -/
def CamParams.webOf (p : CamParams) (pMid : Int) (r : Nat) : Int :=
  pMid - (p.camD : Nat) + p.rowOrigin + sar ((r : Int) * p.rowStep) 16

/-- The run line that occupies a web coordinate: its frame and its line in the frame (R18, R25). -/
def State.lineAt (s : State) (r : Run) (w : Int) : Option (FrameStart × Nat) :=
  let newest := r.starts.head?
  let ahead := match newest with
    | some f => (List.range 17).map fun n => framesOn s.fire.capos r n f
    | none => []
  let find (f : FrameStart) : Option (FrameStart × Nat) :=
    let o := r.sgn * (w - f.capo)
    let k := (o / (max 1 r.pitch : Nat)).toNat
    if 0 ≤ o ∧ k < r.frameLines ∧ (r.frames = 0 ∨ f.frame < r.frames) then some (f, k) else none
  (ahead ++ r.starts.drop 1).findSome? find

/-- The boundary of a contone line of the run that the web meets first; `last` asks for the one it leaves by. -/
def State.clEdge (s : State) (r : Run) (cl : Nat) (last : Bool) : Int :=
  let per := max 1 r.contoneLines
  let k := cl % per * (if r.pitch = 64 then 2 else 1)
  let beyond := if last then min (if r.pitch = 64 then 2 else 1) (r.frameLines - k) else 0
  (s.startOf r (cl / per)).capo + r.sgn * (((k + beyond) * r.pitch : Nat) : Int)

/-- The band of a web coordinate in the run, and whether a margin of it keeps the row out (R332). -/
def State.bandAt (s : State) (r : Run) (marginF : Nat) (w : Int) : Option (Nat × Bool) :=
  (s.lineAt r w).map fun (f, k) =>
    let a := f.frame * r.contoneLines + (if r.pitch = 64 then k / 2 else k)
    let b := a / 64
    let near := decide (r.sgn * (w - s.clEdge r (64 * b) false) < (marginF : Int)) || decide (r.sgn * (s.clEdge r (64 * b + 63) true - w) < (marginF : Int))
    (b, near)

/-! Statistics (R333). -/

/-- Sums of a cell being filled: pixels, channel sums, pixels kept out by a margin. -/
structure CellSum where
  count : Nat := 0
  sums : List Nat := [0, 0, 0]
  kept : Bool := false
deriving DecidableEq, Repr, Inhabited

/-- Add to one cell. -/
def addCell (key : Nat) (f : CellSum → CellSum) (cs : List (Nat × CellSum)) : List (Nat × CellSum) :=
  putKey key (f ((getKey key cs).getD {})) cs

/-- The zone of a nozzle column, where it has one, and whether the margin of the zone keeps it out (R332). -/
def zoneAt (marginN : Nat) (n : Int) : Option (Nat × Bool) :=
  if n < 0 ∨ 98303 < n then none
  else
    let o := n.toNat % 768
    some (n.toNat / 768, decide (o < marginN) || decide (768 - o < marginN))

/-- Cells of a frame (R333): key 128 times the band's offset plus the zone. -/
def cellSums (cols : List (Option (Nat × Bool))) (rows : List (Option (Nat × Bool))) (first : Nat) (px : List (List MeasPx)) :
    List (Nat × CellSum) :=
  (rows.zip px).foldl (fun acc row => match row.1 with
    | none => acc
    | some (b, nearB) =>
      if 512 ≤ b - first then acc
      else (cols.zip row.2).foldl (fun acc x => match x.1 with
        | none => acc
        | some (z, nearZ) =>
          let key := 128 * (b - first) + z
          if nearB || nearZ then addCell key (fun c => { c with kept := true }) acc
          else if x.2.clipped then acc
          else addCell key (fun c => { c with count := c.count + 1, sums := (c.sums.zip x.2.m).map fun v => v.1 + v.2 }) acc) acc) []

/-- A mean rounded half up. -/
def meanOf (sum n : Nat) : Nat := (sum + n / 2) / max 1 n

/-- A cell from its sums. -/
def cellOf (x : Nat × CellSum) : Cell :=
  { bandOff := x.1 / 128, zone := x.1 % 128, isPartial := x.2.kept, count := x.2.count, mean := x.2.sums.map fun v => meanOf v x.2.count }

/-- Histograms of the three channels over the ROI (R333). -/
def histograms (roi : List Nat) (px : List (List MeasPx)) : List (List Nat) :=
  let inside := ((px.drop (roi.getD 2 0)).take (roi.getD 3 0 + 1 - roi.getD 2 0)).flatMap fun r => (r.drop (roi.getD 0 0)).take (roi.getD 1 0 + 1 - roi.getD 0 0)
  (List.range 3).map fun j =>
    (inside.foldl (fun (h : Array Nat) p => h.modify (p.m.getD j 0 / 256) (· + 1)) (Array.replicate 256 0)).toList

/-- Sharpness of each zone, Q16.16 (R333). -/
def sharpness (cols : List (Option Nat)) (px : List (List MeasPx)) : List Nat :=
  let pairs := px.flatMap fun row =>
    let line := cols.zip row
    (line.zip (line.drop 1)).filterMap fun p => match p.1.1, p.2.1 with
      | some z, some y => if z = y then some (z, (((p.2.2.m.getD 1 0 : Nat) : Int) - (p.1.2.m.getD 1 0 : Nat)).natAbs) else none
      | _, _ => none
  let acc := pairs.foldl (fun (h : Array (Nat × Nat)) p => h.modify p.1 fun v => (v.1 + p.2, v.2 + 1)) (Array.replicate 128 (0, 0))
  acc.toList.map fun v => if v.2 = 0 then 0 else (v.1 * 65536 + v.2 / 2) / v.2

/-- What a closed frame gives: its pixels, the web coordinates of its rows and its report. -/
structure Measured where
  px : List (List MeasPx) := []
  rows : List Int := []
  report : Report := {}
deriving DecidableEq, Repr, Inhabited

/-- The state in which an exposure's run is placed. -/
def Exposure.world (e : Exposure) (s : State) : State := s.onFire fun f => { f with run := e.run, capos := e.capos }

/-- Reduce a frame (R329 to R334). A frame with OVERFLOW has no statistics; a frame with no exposure record has no place on the
web, and its times and position are not stated: they are free (log 8). -/
def reduceFrame (port : Nat) (c : CamCfg) (f : CamFrame) (s : State) : Measured :=
  let lost := bit f.marks 4
  let px := if lost then [] else measureFrame f.params c.cfa c.width (f.front c)
  let e := f.exposure.getD { tb0 := (s.freeVal Config.siteCamera : Nat), mid := (s.useFree.freeVal Config.siteCamera : Nat), pMid := some ((s.useFree.useFree.freeVal Config.siteCamera : Nat) : Int) }
  let pMid := (e.pMid.getD 0).fdiv (2 ^ 32)
  let run := if f.exposure.isSome then e.run else none
  let w := e.world s
  let ws := (List.range px.length).map (f.params.webOf pMid)
  let rows := ws.map fun x => run.bind fun r => w.bandAt r f.params.marginF x
  let first := ((rows.filterMap fun r => r.map (·.1)).min?).getD 0
  let cut := rows.any fun r => match r with
    | some (b, _) => decide (512 ≤ b - first)
    | none => false
  let zones := (List.range (c.width / 2)).map fun m => zoneAt f.params.marginN (f.params.column m)
  let cells := ((cellSums zones rows first px).filter fun x => x.2.count != 0).map cellOf
  let marks := f.marks + (if cut && !bit f.marks 11 then 0x800 else 0)
  { px, rows := ws
    report :=
      { port, vc := f.vc, marks, seq := f.seq, rows := px.length, cols := c.width / 2, gen := f.gen, tb0 := e.tb0 + (e.mid - e.tb3), lines := f.lines
        tb3 := e.mid, runId := if run.isNone then 0 else e.runId.getD 0, pMid, bandFirst := first
        bands := ((cells.map fun x => x.bandOff + 1).max?).getD 0, cells
        hist := if lost then [] else histograms f.params.roi px
        sharp := if lost then [] else sharpness (zones.map fun z => z.map (·.1)) px } }

/-- The bytes of a report (Table 12-2). -/
def Report.bytes (r : Report) : List Byte :=
  toLe 1 r.port ++ toLe 1 r.vc ++ toLe 2 r.marks ++ toLe 4 r.seq ++ toLe 2 r.rows ++ toLe 2 r.cols ++ toLe 4 r.gen
    ++ encT r.tb0 ++ toLe 2 r.lines ++ toLe 2 0 ++ encT r.tb3 ++ toLe 4 r.runId ++ toLeS 8 r.pMid ++ toLe 8 r.bandFirst
    ++ toLe 2 r.bands ++ toLe 2 0 ++ toLe 4 r.cells.length ++ toLe 4 (0xE60 + 16 * r.cells.length) ++ toLe 20 0
    ++ ((List.range 3).flatMap fun j => (List.range 256).flatMap fun i => toLe 4 ((r.hist.getD j []).getD i 0))
    ++ ((List.range 128).flatMap fun z => toLe 4 (r.sharp.getD z 0))
    ++ (r.cells.flatMap fun c => toLe 2 c.bandOff ++ toLe 1 c.zone ++ toLe 1 (b2n c.isPartial) ++ toLe 4 c.count
        ++ ((List.range 3).flatMap fun j => toLe 2 (c.mean.getD j 0)) ++ toLe 2 0)

/-- Marks that keep a frame from the loop (Table 12-1): all but BANDS_CUT. -/
def excludingMarks : Nat := 0x17FF

end Sys2Proof.Machine
end

