-- ==== Sys2Proof/Machine/Loop.lean ====
section
/-!
DEFINITION. What CLP does with a frame report: cells against the ledger, the loop's sums and trim updates, the strip,
the ladder (spec/13_colour_constancy_and_nozzle_health.md, R343 to R354).
-/
namespace Sys2Proof.Machine

/-! The model (R345, R346). -/

/-- T(c, e), the absorbance fraction of an ink at a contone, in the order of the formula. -/
def Profile.fraction (p : Profile) (c : Nat) (e : B64) : B64 :=
  let t (i : Nat) : B64 := B64.ofInt ((p.tone.getD c []).getD i 0 : Nat)
  let x := e.div (B64.ofInt 16)
  let i := (min x.floor 15).toNat
  let g := x.sub (B64.ofInt i)
  (((t i).mul ((B64.ofInt 1).sub g)).add ((t (i + 1)).mul g)).div (B64.ofInt 32768)

/-- Tinv(c, t): the contone of an absorbance fraction. -/
def Profile.contone (p : Profile) (c : Nat) (t : B64) : B64 :=
  let tone (i : Nat) : B64 := B64.ofInt ((p.tone.getD c []).getD i 0 : Nat)
  let t := (({} : B64).max t).min (B64.ofInt 1)
  let i := ((List.range 16).find? fun i => t.le ((tone (i + 1)).div (B64.ofInt 32768))).getD 15
  let num := (t.mul (B64.ofInt 32768)).sub (tone i)
  let den := (tone (i + 1)).sub (tone i)
  (B64.ofInt 16).mul ((B64.ofInt i).add (num.div den))

/-- K[c][j] / 4096. -/
def Profile.absorb (p : Profile) (c j : Nat) : B64 := (B64.ofInt ((p.solid.getD c []).getD j 0 : Nat)).div (B64.ofInt 4096)

/-- What a cell says of an ink: its node and log2 r; an outlier; or nothing (R346). -/
inductive Verdict where
  | none | outlier | node (i : Nat) (logR : B64)
deriving DecidableEq, Repr, Inhabited

/-- Evaluate a cell for one ink (R346): `e` is the contone of each ink, `aobs` the observed absorbance. -/
def Profile.judge (p : Profile) (cfg : LoopCfg) (e : List B64) (aobs : Nat → B64) (c : Nat) : Verdict :=
  let ec := e.getD c {}
  let j := p.primary.getD c 0
  let term (c : Nat) : B64 := (p.absorb c j).mul (p.fraction c (e.getD c {}))
  let pred := B64.sum ((List.range 8).map term)
  let a := term c
  if ec.lt (B64.ofInt cfg.xMin) || a.lt (((B64.ofInt cfg.dominance).div (B64.ofInt 256)).mul pred) then .none
  else
    let i := (min ((ec.div (B64.ofInt 16)).nearest) 16).toNat
    if i = 0 then .none
    else
      let r := (B64.ofInt 1).add (((aobs j).sub pred).div a)
      if r.le (ratio 1 4) || (B64.ofInt 4).le r then .outlier else .node i r.log2

/-! Sums and windows (R346, R347). -/

/-- Add to a node's sums. -/
def addNode (zone node : Nat) (v : B64) (n : Nat) : List NodeSum → List NodeSum
  | [] => [{ zone, node, s := v, n }]
  | x :: r => if x.zone = zone ∧ x.node = node then { x with s := x.s.add v, n := x.n + n } :: r else x :: addNode zone node v n r

/-- Change a bar's window. -/
def State.onWindow (b : Nat) (f : LoopBar → LoopBar) (s : State) : State := s.onClr fun k => { k with bars := upd b f k.bars }

/-- A bar's window. -/
def State.window (s : State) (b : Nat) : LoopBar := s.clr.bars.getD b {}

/-- The bars that the loop trims with an ink (R346). -/
def State.loopBars (s : State) (c : Nat) : List Nat :=
  (List.range 8).filter fun b => bit s.clr.cfg.bars b && (s.bar b).conf.channel == c && (s.bar b).cfg.isSome

/-- A cell counts for a bar when its band lies at or beyond START_W (R347). -/
def countCell (sgn w0 : Int) (band zone node : Nat) (v : B64) (n b : Nat) (s : State) : State :=
  match (s.window b).startW with
  | none => s
  | some st =>
    if sgn * (w0 - st) < 0 then s
    else s.onWindow b fun w => { w with
      sums := addNode zone node v n w.sums
      bands := if w.bands.contains band then w.bands else band :: w.bands
      firstW := w.firstW.orElse fun _ => some w0 }

/-- A matched cell is evaluated for each ink that the loop trims (R346). -/
def loopCell (p : Profile) (sgn : Int) (e : LedgerEntry) (c : Cell) (s : State) : State :=
  let cont := (List.range 8).map fun i => (B64.ofInt ((e.mean.getD c.zone []).getD i 0 : Nat)).div (B64.ofInt 256)
  let aobs (j : Nat) : B64 :=
    ((B64.ofInt ((p.white.getD c.zone []).getD j 0 : Nat)).div (B64.ofInt (max (c.mean.getD j 0) 1 : Nat))).log2
  (List.range 8).foldl (fun s ink =>
    let bars := s.loopBars ink
    if bars.isEmpty then s
    else match p.judge s.clr.cfg cont aobs ink with
      | .none => s
      | .outlier => bump (ctr 11 0 2) 1 s
      | .node i l => bars.foldl (fun s b => countCell sgn e.w0 e.band c.zone i ((B64.ofInt c.count).mul l) c.count b s) s) s

/-! The strip (R352). -/

/-- CIELAB of X, Y, Z under the D50 white of the measurement units (R352). -/
def labOf (xyz : List B64) : List B64 :=
  let f (v white : B64) : B64 :=
    let t := v.div white
    if (ratio 216 24389).lt t then t.cbrt else (((ratio 24389 27).mul t).add (B64.ofInt 16)).div (B64.ofInt 116)
  let fx := f (xyz.getD 0 {}) (B64.ofInt 63189)
  let fy := f (xyz.getD 1 {}) (B64.ofInt 65535)
  let fz := f (xyz.getD 2 {}) (B64.ofInt 54073)
  [((B64.ofInt 116).mul fy).sub (B64.ofInt 16), (B64.ofInt 500).mul (fx.sub fy), (B64.ofInt 200).mul (fy.sub fz)]

/-- The colour difference ΔE*ab of two measurements (R352). -/
def deltaE (a b : List B64) : B64 :=
  B64.sqrt (B64.sum (((labOf a).zip (labOf b)).map fun x => (x.1.sub x.2).mul (x.1.sub x.2)))

/-- A value in units of 0.01. -/
def hundredths (x : B64) : Nat := ((B64.ofInt 100).mul x).nearest.toNat

/-- An occurrence is complete: its average against the target (R352). -/
def closeOccurrence (st : Strip) (o : Occurrence) (s : State) : State :=
  if o.count = 0 then s
  else
    let avg := o.sums.map fun (v : Nat) => (B64.ofInt v).div (B64.ofInt o.count)
    let tgt := ((st.patches.getD o.patch {}).target).map fun (v : Nat) => B64.ofInt v
    let de := deltaE avg tgt
    let s := bumpMax (ctr 11 0 5) (hundredths de : Nat) s
    if (ratio st.deLimit 100).lt de then postKeyed evStripDeviation (0x1000 + o.patch) 0x1000 o.patch (u32 (hundredths de)) 1 1 false s else s

/-- A matched strip cell joins its occurrence; the one before it is complete when the next begins (R352). -/
def stripCell (port : Nat) (e : LedgerEntry) (c : Cell) (s : State) : State :=
  match s.clr.strip with
  | none => s
  | some st =>
    if !st.patchesOn || st.patches.isEmpty || c.isPartial || decide (c.zone < st.zone0) || decide (st.zone0 + st.zones ≤ c.zone) then s
    else
      let number := e.band / max 1 st.patchBands
      let o := s.clr.occ.find? fun o => o.port == port
      let same := match o with
        | some o => o.runId == e.runId && o.number == number
        | none => false
      let s := match o with
        | some o => if same then s else closeOccurrence st o s
        | none => s
      let base : Occurrence := if same then o.getD {} else { port, runId := e.runId, number, patch := number % st.patches.length }
      let new := { base with sums := (base.sums.zip c.mean).map (fun v => v.1 + v.2), count := base.count + 1 }
      s.onClr fun k => { k with occ := new :: k.occ.filter fun o => o.port != port }

/-! Cells against the ledger (R344). -/

/-- The ledger entry that a cell of a report needs, where the ledger still holds it. -/
def Colour.entryOf (k : Colour) (band : Nat) : Option LedgerEntry :=
  k.ledgerBands.bind fun n => getKey (band % max 1 n) k.ledger

/-- A strip cell of a band under the guard is excluded (R351). -/
def State.stripKept (s : State) (e : LedgerEntry) (zone : Nat) : Bool :=
  match s.clr.strip with
  | some st => st.patchesOn && e.guarded && decide (st.zone0 ≤ zone) && decide (zone < st.zone0 + st.zones)
  | none => false

/-- One cell of a report (R344). `fit` says that the port and the frame may feed the loop. -/
def feedCell (fit : Bool) (sgn : Int) (r : Report) (c : Cell) (s : State) : State :=
  let band := r.bandFirst + c.bandOff
  let entry := s.clr.entryOf band
  let mine := entry.filter fun e => e.runId == r.runId && e.band == band && e.flags &&& 0x1F == 0
  match (if fit && decide (s.clr.cfg.minCell ≤ c.count) then mine else none) with
  | some e =>
    if s.stripKept e c.zone then bump (ctr 11 0 1) 1 s
    else
      let s := s.onClr fun k => { k with ledger := k.ledger.map fun x => if x.2.runId = e.runId ∧ x.2.band = e.band then (x.1, { x.2 with flags := x.2.flags ||| 0x20 }) else x }
      let s := stripCell r.port e c (bump (ctr 11 0 0) 1 s)
      match s.clr.profile with
      | some p => if s.clr.st = .stopped then s else loopCell p sgn e c s
      | none => s
  | none =>
    let s := bump (ctr 11 0 1) 1 s
    let gone := match entry with
      | some e => fit && e.flags &&& 1 == 0 && (e.runId != r.runId || decide (band < e.band))
      | none => false
    if gone then postLimited evLedgerMiss (unitCam r.port) r.port 1 1 1 true s else s

/-! Updates (R348, R349). -/

/-- The smallest row offset of a bar. -/
def State.barDMin (s : State) (b : Nat) : Int :=
  let x := s.bar b
  ((x.placed.flatMap fun h => (List.range (x.place h).rows.length).map fun r => x.rowD h r).min?).getD 0

/-- CAM_D_max: the largest CAM_D among the LOOP ports (R349). -/
def State.camDMax (s : State) : Nat := (((s.cam.ports.filter fun p => p.enable && p.loop).map fun p => p.params.camD).max?).getD 0

/-- A window's update is early (R349). -/
def State.early (s : State) (sgn : Int) (b : Nat) : Bool :=
  let w := s.window b
  match w.firstW, w.wStart with
  | some f, some st => decide (sgn * (f - st) < 2 * ((s.camDMax : Nat) - s.barDMin b))
  | _, _ => true

/-- P_new of one node, and whether TRIM_RANGE clamped it (R348). -/
def newPoint (p : Profile) (cfg : LoopCfg) (gain : B64) (c i old : Nat) (x : NodeSum) : Nat × Bool :=
  let f := (x.s.div (B64.ofInt x.n)).exp2
  let o := B64.ofInt old
  let xo := (({} : B64).max (o.div (B64.ofInt 64))).min (B64.ofInt 256)
  let pt := (B64.ofInt 64).mul (p.contone c ((p.fraction c xo).div f))
  let lim := B64.ofInt cfg.maxStep
  let step := (lim.neg.max (gain.mul (pt.sub o))).min lim
  let v := (old : Int) + step.nearest
  let lo := max 0 (1024 * (i : Int) - (cfg.trimRange : Nat))
  let hi := min 32767 (1024 * (i : Int) + (cfg.trimRange : Nat))
  ((max lo (min v hi)).toNat, decide (v < lo) || decide (hi < v))

/-- CAM_CALIBRATE holds trim writes back (R357). -/
def State.trimsHeld (s : State) : Bool := s.cam.ports.any fun p => match p.cal with
  | some c => !c.released
  | none => false

/-- A bar's window closes and its trims are updated in one pending copy (R348). -/
def updateTrims (sgn : Int) (b : Nat) (p : Profile) (s : State) : State :=
  let x := s.bar b
  let c := x.conf.channel
  let cfg := s.clr.cfg
  let early := s.early sgn b
  let gain := (B64.ofInt (if early then max 1 (cfg.gain / 4) else cfg.gain : Nat)).div (B64.ofInt 256)
  let sums := (s.window b).sums.filter fun n => decide (cfg.minPx ≤ n.n)
  let zones := (List.range 128).map fun z =>
    let old := x.act.trim z
    let pts := (List.range 17).map fun i =>
      match sums.find? fun n => n.zone == z && n.node == i with
      | some n => newPoint p cfg gain c i (old.getD i 0) n
      | none => (old.getD i 0, false)
    (z, pts)
  let clamped : Nat := (zones.map fun z => (z.2.filter (·.2)).length).sum
  let trims := (zones.map fun z => (z.1, z.2.map (·.1))).filter fun z => z.2 != (List.range 17).map (1024 * ·)
  let gen := x.nextGen
  let s := recordTrims b trims gen (barWrite b (fun i => { i with trims, gen }) s)
  let s := s.onWindow b fun w => { w with startW := none, sums := [], bands := [], firstW := none }
  let s := bump (ctr 11 0 3) 1 (bump (ctr 11 0 4) clamped s)
  let s := if 0 < clamped then post evLoopLimit 0x1000 b clamped s else s
  post evLoopUpdate 0x1000 b (gen % 2 ^ 31 + 2 ^ 31 * b2n early) s

/-- The loop's windows after a report: those that close are updated while the loop runs (R347, R350). -/
def checkWindows (sgn : Int) (s : State) : State :=
  match s.clr.profile with
  | none => s
  | some p =>
    if s.clr.st ≠ .running || s.trimsHeld then s
    else (List.range 8).foldl (fun s b =>
      let w := s.window b
      if bit s.clr.cfg.bars b && decide (s.clr.cfg.windowBands ≤ w.bands.length) && (w.sums.any fun n => decide (s.clr.cfg.minPx ≤ n.n))
      then updateTrims sgn b p s else s) s

/-! The ladder (R353, R354). -/

/-- The nozzle that a ladder fires at a column, with its place (R353). -/
def LineEnv.ladderNozzle (e : LineEnv) (x : Nat) : Option (Seg × Nat) :=
  (e.covering x).find? fun p => e.prints.contains p.1.head && e.bar.act.nozzle p.1.head p.1.row p.2 % 4 != 3

/-- Insert in rising order. -/
def insertB64 (x : B64) : List B64 → List B64
  | [] => [x]
  | y :: r => if x.le y then x :: y :: r else y :: insertB64 x r

/-- The lower median. -/
def lowerMedian (l : List B64) : Option B64 := (l.foldl (fun acc x => insertB64 x acc) [])[(l.length - 1) / 2]?

/-- Every LOOP port resolves the ladder's step, so that a nozzle may be marked (R354). -/
def State.canMark (s : State) (step : Nat) : Bool :=
  s.cam.ports.all fun p => !(p.enable && p.loop) || decide (ceilDiv p.params.colStep.natAbs 65536 ≤ step)

/-- A nozzle gains a strike, or loses its strikes (R354). -/
def strike (l : Ladder) (bar column : Nat) (nz : Seg × Nat) (hit : Bool) (s : State) : State :=
  let old := (s.clr.strikes.find? fun x => x.bar == bar && x.column == column).getD { bar, column }
  let put (x : Strike) (s : State) : State := s.onClr fun k => { k with
    strikes := (k.strikes.filter fun y => !(y.bar == bar && y.column == column)) ++ (if x.strikes = 0 && !x.suspect then [] else [x]) }
  if !hit then put { old with strikes := 0 } s
  else
    let n := min 255 (old.strikes + 1)
    let room := decide ((s.clr.strikes.filter (·.suspect)).length < 1024)
    if n = 2 then
      let s := put { old with strikes := n, suspect := old.suspect || room } s
      let s := bump (ctr 11 0 7) 1 (post evStreak 0x1000 bar column s)
      if l.mark && s.canMark l.step then
        let x := s.bar bar
        let entry := (x.pend.getD x.act).nozzle nz.1.head nz.1.row nz.2
        let gen := x.nextGen
        let made : NozzleEntry := { head := nz.1.head, row := nz.1.row, nozzle := nz.2, entry := entry / 4 * 4 + 2 }
        recordNozzles bar [made] (barWrite bar (fun i => { i.putNozzles made.head made.row made.nozzle [made.entry] with gen }) s)
      else s
    else put { old with strikes := n } s

/-- One rung in a frame (R354). -/
def readRung (p : Profile) (m : Measured) (cp : CamParams) (r : Run) (l : Ladder) (rung : Nat) (s : State) : State :=
  let first := l.line + rung * l.linePitch
  let lines := min l.linePitch (l.lines - rung * l.linePitch)
  let start := s.lineStart r first
  let end_ := start + r.sgn * ((lines * r.pitch : Nat) : Int)
  let margin : Int := cp.marginF
  let rows := ((m.rows.zip m.px).filter fun x => decide (margin ≤ r.sgn * (x.1 - start)) && decide (margin ≤ r.sgn * (end_ - x.1)) && decide (0 ≤ r.sgn * (x.1 - start)) && decide (0 < r.sgn * (end_ - x.1))).map (·.2)
  if rows.isEmpty || lines = 0 then s
  else
    let env := s.lineEnv r l.bar first r.nextTick
    let width := (rows.headD []).length
    let cols := (List.range width).map fun mcol =>
      let n0 := cp.column mcol
      let n1 := cp.column (mcol + 1)
      let xs := ((List.range (n1 - max 0 n0).toNat).map fun i => (max 0 n0).toNat + i).filter fun x => x % max 1 l.step == rung
      let fired := xs.filterMap fun x => (env.ladderNozzle x).map fun z => (x, z)
      let sum := (rows.map fun row => (row.getD mcol {}).m.getD 1 0).sum
      let mean := (B64.ofInt sum).div (B64.ofInt rows.length)
      let white := B64.ofInt ((p.white.getD (n0.toNat / 768) []).getD 1 0 : Nat)
      (fired, (white.div (mean.max (B64.ofInt 1))).log2)
    let ratios := (cols.filter fun c => !c.1.isEmpty).map fun c => c.2.div (B64.ofInt c.1.length)
    match lowerMedian ratios with
    | none => s
    | some u =>
      if u.m ≤ 0 then s
      else cols.foldl (fun s c =>
        let missing := ((((B64.ofInt c.1.length).mul u).sub c.2).div u).nearest
        c.1.foldl (fun s f =>
          if env.bar.act.nozzle f.2.1.head f.2.1.row f.2.2 % 4 = 2 then s else strike l l.bar f.1 f.2 (decide (1 ≤ missing)) s) s) s

/-- The ladders that a frame of a LOOP port shows (R354). -/
def readLadders (m : Measured) (cp : CamParams) (e : Exposure) (s : State) : State :=
  match s.clr.profile, e.run with
  | some p, some r =>
    (s.clr.ladders.filter fun l => l.runId == r.id).foldl (fun s l =>
      (List.range l.step).foldl (fun s rung =>
        let w := e.world s
        let out := readRung p m cp r l rung w
        out.onFire fun f => { f with run := s.fire.run, capos := s.fire.capos }) s) s
  | _, _ => s

/-- A port's cells are kept from the loop: a calibration is under way, or its parameters have not applied yet (R357). -/
def Port.kept (p : Port) (gen : Nat) : Bool := p.cal.isSome || (match p.holdGen with
  | some g => decide (gen < g)
  | none => false)

/-- A closed frame reaches CLP (R344): its cells, the windows, the ladders. -/
def feedLoop (k : Nat) (m : Measured) (f : CamFrame) (s : State) : State :=
  let p := s.port k
  let r := m.report
  let good := p.loop && r.marks &&& excludingMarks == 0
  let e := f.exposure.getD {}
  let sgn := (e.run.map Run.sgn).getD 1
  let s := r.cells.foldl (fun s c => feedCell (good && !p.kept r.gen) sgn r c s) s
  let s := if good then readLadders m f.params e s else s
  checkWindows sgn s

end Sys2Proof.Machine
end

