-- ==== Sys2Proof/Machine/Sys.lean ====
section
/-!
DEFINITION. SYS_IDENTIFY, SYS_HELLO, SYS_NOP (spec/03_command_interface.md, R80 to R83), SYS_HEALTH
(spec/16_events_and_statistics.md, R427), SYS_RESET, SYS_GPIO, SYS_CONFIG_SAVE
(spec/17_bring_up_and_discovery.md, R434, R443), SYS_FW_WRITE and SYS_FW_ACTIVATE
(spec/04_security_and_debug.md, R103 to R107).
-/
namespace Sys2Proof.Machine

/-- Role of a command's ring; a command the device replays runs as on an Owner ring (17 R435). -/
def State.cmdRole (s : State) (q : Cmd) : Nat := if q.ring < 8 then (s.ring q.ring).role else 0

/-- Checks of a command without parameters. -/
def noParams (q : Cmd) (_s : State) : Option Reply := firstFail (shape q 0 [])

/-- SYS_NOP does nothing (R81). -/
def sysNopEffect (_q : Cmd) (s : State) : Ans := .done .good s

/-- SYS_NOP (R81). -/
def execSysNop (q : Cmd) (s : State) : Host.Outcome State Fault Refusal := runCmd 0x0105 noParams sysNopEffect q s

/-- SYS_IDENTIFY's result (Table 3-21). -/
def identity (q : Cmd) (s : State) : List Byte :=
  toLe 2 0x8200 ++ toLe 1 0xA1 ++ toLe 1 0x22 ++ toLe 4 s.sec.running.fwVersion ++ toLe 2 s.sec.running.featLevel
    ++ toLe 2 s.hif.floor ++ toLe 1 s.sec.bootImage ++ toLe 1 q.ring ++ toLe 1 (s.cmdRole q) ++ toLe 1 0

/-- SYS_IDENTIFY (R81). -/
def sysIdentifyEffect (q : Cmd) (s : State) : Ans := .done (.good (identity q s)) s

/-- SYS_IDENTIFY (R81). -/
def execSysIdentify (q : Cmd) (s : State) : Host.Outcome State Fault Refusal := runCmd 0x0101 noParams sysIdentifyEffect q s

/-- The highest version v with CP_MIN and CP_MAX of the device (2 and 2, R72) within the host's range. -/
def agree (hostMin hostMax : Nat) : Option Nat := if hostMin ≤ 2 ∧ 2 ≤ hostMax then some 2 else none

/-- Checks of SYS_HELLO (R82): it carries ORDER_BARRIER. -/
def sysHelloCheck (q : Cmd) (_s : State) : Option Reply :=
  firstFail (shape q 16 [(0, 8)] ++
    [ (!bit q.flags 1, Reply.err .badParam),
      ((agree (q.u8 1) (q.u8 0)).isNone, { status := .version, detail := 0x0004, aux := 0x22 }) ])

/-- SYS_HELLO (R82): the agreed version, FEAT_HOST and HOST_ID of the ring. -/
def sysHelloEffect (q : Cmd) (s : State) : Ans :=
  let v := (agree (q.u8 1) (q.u8 0)).getD 2
  .done (.good (toLe 1 v ++ toLe 1 0 ++ toLe 2 s.hif.floor ++ toLe 2 s.sec.running.featLevel ++ toLe 2 0
      ++ toLe 4 s.sec.running.fwVersion ++ toLe 2 0x8200 ++ toLe 1 0xA1 ++ toLe 1 (s.cmdRole q)))
    (s.onRing q.ring fun r => { r with agreed := v, featHost := q.u16 2, hostId := q.u32 4 })

/-- SYS_HELLO (R82). -/
def execSysHello (q : Cmd) (s : State) : Host.Outcome State Fault Refusal := runCmd 0x0102 sysHelloCheck sysHelloEffect q s

/-! SYS_HEALTH (16 R427). -/

/-- A retired entry of Table 16-7. -/
def encRetired (r : Retired) : List Byte :=
  toLe 2 r.unit ++ toLe 1 r.criterion ++ toLe 1 (b2n r.before + 2 * b2n r.deviceFault) ++ toLe 4 0 ++ toLe 4 r.sec ++ toLe 4 r.frac

/-- The SYS_HEALTH structure (Table 16-7), with at most n retired entries. -/
def healthBlock (n : Nat) (s : State) : List Byte :=
  (s.hif.rings.flatMap fun r => toLe 2 r.featHost ++ toLe 2 0 ++ toLe 4 r.hostId)
    ++ (s.stat.retired.take n).flatMap encRetired

/-- SYS_HEALTH's inline result (Table 16-6). -/
def healthResult (s : State) : List Byte :=
  let flags := b2n s.board.fault + 2 * b2n s.thm.hold + 4 * b2n (decide (s.stat.lostAtHealth < s.hif.lost)) + 8 * b2n s.stat.overwritten
  toLe 2 flags ++ toLe 2 s.stat.retired.length ++ toLe 2 (s.stat.fault.getD 0xFFFF)
    ++ toLe 1 (if s.thm.hold then 3 else s.thm.level) ++ toLe 1 0 ++ toLe 4 ((s.tb 1).sec.emod (2 ^ 32)).toNat ++ toLe 4 s.hif.lost

/-- Checks of SYS_HEALTH. -/
def sysHealthCheck (q : Cmd) (_s : State) : Option Reply := firstFail (shape q 16 [(8, 8)] ++ [(addrBad q 8, Reply.bad 8)])

/-- SYS_HEALTH (16 R427): on Ethernet at most 85 retired entries. -/
def sysHealthEffect (q : Cmd) (s : State) : Ans :=
  .done (.withExt (healthResult s) (q.u64 8) (healthBlock (if q.src.isSome then 85 else s.stat.retired.length) s))
    (s.onStat fun t => { t with overwritten := false, lostAtHealth := s.hif.lost })

/-- SYS_HEALTH (16 R427). -/
def execSysHealth (q : Cmd) (s : State) : Host.Outcome State Fault Refusal := runCmd 0x0103 sysHealthCheck sysHealthEffect q s

/-! SYS_RESET and SYS_GPIO (17 R443). -/

/-- Checks of SYS_RESET (17 R443): not on a device ACTIVE in a pair, nor while a run is armed without
FORCE. -/
def sysResetCheck (q : Cmd) (s : State) : Option Reply :=
  firstFail (shape q 8 [(0, 1), (4, 4)] ++
    [ (extraBits (q.u8 0) 1, Reply.bad 0),
      (q.u32 4 != 0x54535252, Reply.bad 4),
      (s.pair.st == .active || (s.fire.run.isSome && !bit (q.u8 0) 0), Reply.err .state 0x0205) ])

/-- SYS_RESET writes its completion and then resets (17 R443, cause 3). -/
def sysResetEffect (_q : Cmd) (s : State) : Ans := .done .good (s.onSec fun c => { c with resetOrdered := some 3 })

/-- SYS_RESET (17 R443). -/
def execSysReset (q : Cmd) (s : State) : Host.Outcome State Fault Refusal := runCmd 0x0106 sysResetCheck sysResetEffect q s

/-- The bits of a set in a mask taken from a, the others from b. -/
def mergeBits (mask a b : Nat) : Nat := (a &&& mask) + (b &&& (0xFFFF - mask % 65536))

/-- Levels on the sixteen GPIO pins: an output's own level, or the level outside of an input and of an
open-drain output at 1. -/
def Board.levels (b : Board) : Nat :=
  ((List.range 16).map fun i =>
    let drives := bit b.gpioDir i && (!bit b.gpioOd i || !bit b.gpioOut i)
    if (if drives then bit b.gpioOut i else bit b.gpioIn i) then 2 ^ i else 0).sum

/-- Checks of SYS_GPIO. -/
def sysGpioCheck (q : Cmd) (_s : State) : Option Reply := firstFail (shape q 16 [(0, 8)])

/-- SYS_GPIO (17 Table 17-9): direction, open drain and levels of the pins in MASK. -/
def sysGpioEffect (q : Cmd) (s : State) : Ans :=
  let m := q.u16 0
  let s := s.onBoard fun b => { b with
    gpioDir := mergeBits m (q.u16 2) b.gpioDir, gpioOd := mergeBits m (q.u16 4) b.gpioOd, gpioOut := mergeBits m (q.u16 6) b.gpioOut }
  let pins := (List.range 16).filter fun i => bit m i && bit (q.u16 2) i
  let s := s.emits (pins.map fun i => .pin (.gpio i) (bit (q.u16 6) i))
  .done (.good (toLe 2 s.board.levels)) s

/-- SYS_GPIO (17 R443). -/
def execSysGpio (q : Cmd) (s : State) : Host.Outcome State Fault Refusal := runCmd 0x010B sysGpioCheck sysGpioEffect q s

/-! Writes to SPI NOR that a command waits for. Regions: 0 protection table, 1 key store, 2 image slot,
3 saved configuration, 4 board record, 5 boot directory. -/

/-- Begin a write to SPI NOR; its command waits for NOR_WRITE_DONE. -/
def beginNor (region : Nat) (bytes : List Byte) (id : CmdId) (s : State) : State :=
  (s.emit (.nor region bytes)).onSec fun c => { c with norWrites := c.norWrites ++ [(region, bytes, id)] }

/-! SYS_CONFIG_SAVE (17 R434). -/

/-- Size of a configuration record: a header of 8 bytes with each command's parameters and block, the
model's own layout (log 12). -/
def recordSize (cs : List (Nat × List Byte × List Byte)) : Nat := (cs.map fun c => 8 + c.2.1.length + c.2.2.length).sum

/-- Checks of SYS_CONFIG_SAVE (17 R434): SLOT 2 takes the board record from the parameter block. -/
def sysConfigSaveCheck (q : Cmd) (s : State) : Option Reply :=
  firstFail (shape q 8 [(0, 2)] true ++
    [ (decide (2 < q.u8 0), Reply.bad 0),
      (extraBits (q.u8 1) 1, Reply.bad 1),
      (decide (q.u8 0 = 2) == q.pblk.isEmpty || decide (65536 < q.pblk.length), Reply.err .badLength),
      (decide (q.u8 0 < 2) && decide (524288 < recordSize s.board.inForce), Reply.err .noSpace 0x0201) ])

/-- SYS_CONFIG_SAVE (17 R434): exclusive device-wide until the flash is written. -/
def sysConfigSaveEffect (q : Cmd) (s : State) : Ans :=
  let s := hold q [.device] false s
  if q.u8 0 = 2 then .wait (beginNor 4 q.pblk q.id s)
  else .wait (beginNor 3 [] q.id (s.onBoard fun b => { b with saving := some (q.u8 0, bit (q.u8 1) 0) }))

/-- SYS_CONFIG_SAVE (17 R434). -/
def execSysConfigSave (q : Cmd) (s : State) : Host.Outcome State Fault Refusal :=
  runCmd 0x0107 sysConfigSaveCheck sysConfigSaveEffect q s

/-! SYS_FW_WRITE and SYS_FW_ACTIVATE (04 R103 to R106). -/

/-- Slots that may not be written: the running image's, and during a trial the fallback's (04 R105). -/
def State.slotLocked (s : State) (n : Nat) : Bool := n == s.sec.bootImage || (s.sec.onTrial && n == s.nor.bootSlot)

/-- Checks of SYS_FW_WRITE (04 R105, Table 4-12). -/
def sysFwWriteCheck (q : Cmd) (s : State) : Option Reply :=
  firstFail (shape q 24 [(0, 1), (4, 20)] ++
    [ (decide (1 < q.u8 0), Reply.bad 0),
      (decide (12582912 < q.u32 4), Reply.bad 4) ] ++ dmaCheck q 8 16 (some (4, q.u32 4)) ++
    [ (s.holding (.fwSlot (q.u8 0)), Reply.err .busy),
      (s.slotLocked (q.u8 0), Reply.err .state) ])

/-- SYS_FW_WRITE (04 R105): the slot is erased, written and verified; abortable, and an aborted write
leaves it empty. -/
def sysFwWriteEffect (q : Cmd) (s : State) : Ans :=
  let n := q.u8 0
  let s := hold q [.fwSlot n] true s
  .wait (beginNor 2 (q.bulk (q.u32 4)) q.id (s.onNor fun f => { f with slots := upd n (fun _ => none) f.slots }))

/-- SYS_FW_WRITE (04 R105). -/
def execSysFwWrite (q : Cmd) (s : State) : Host.Outcome State Fault Refusal :=
  runCmd 0x0109 sysFwWriteCheck sysFwWriteEffect q s

/-- Checks of SYS_FW_ACTIVATE (04 R104, R106). -/
def sysFwActivateCheck (q : Cmd) (s : State) : Option Reply :=
  firstFail (shape q 8 [(0, 2)] ++
    [ (decide (2 < q.u8 0), Reply.bad 0),
      (decide (q.u8 0 = 0) && decide (1 < q.u8 1), Reply.bad 1),
      (decide (q.u8 0 = 0) && s.holding (.fwSlot (q.u8 1)), Reply.err .busy),
      (decide (q.u8 0 = 2) && !s.sec.confirmed, Reply.err .state),
      (decide (q.u8 0 = 0) && (slotFault (s.nor.slots.getD (q.u8 1) none) s.sec.fwRevoked s.sec.svnMin).isSome,
        Reply.err .verifyFail ((slotFault (s.nor.slots.getD (q.u8 1) none) s.sec.fwRevoked s.sec.svnMin).getD 0)) ])

/-- SYS_FW_ACTIVATE (04 R104, R106): SELECT names the next boot's trial image, CONFIRM makes the running
image permanent, COMMIT_SVN blows fuses up to its SVN. -/
def sysFwActivateEffect (q : Cmd) (s : State) : Ans :=
  match q.u8 0 with
  | 0 => .done .good ((s.emit (.nor 5 [])).onNor fun n => { n with trial := some (q.u8 1) })
  | 1 =>
    .done .good (((s.emit (.nor 5 [])).onNor fun n => { n with bootSlot := s.sec.bootImage }).onSec
      fun c => { c with confirmed := true, onTrial := false })
  | _ => .done .good (s.onSec fun c => { c with svnMin := max c.svnMin c.running.svn })

/-- SYS_FW_ACTIVATE (04 R106). -/
def execSysFwActivate (q : Cmd) (s : State) : Host.Outcome State Fault Refusal :=
  runCmd 0x010A sysFwActivateCheck sysFwActivateEffect q s

end Sys2Proof.Machine
end

