-- ==== Sys2Proof/Machine/CamPort.lean ====
section
/-!
DEFINITION. A camera port's parameters in step with the sensor, its frames' archive, calibration, disabling
(spec/12_inspection_camera.md, R335 to R341; spec/13_colour_constancy_and_nozzle_health.md, R355 to R357).
-/
namespace Sys2Proof.Machine

/-! Parameters (R335, R336). -/

/-- The sections of a new set, bit by bit, over an old one (Table 12-3). -/
def CamParams.merge (sections : Nat) (new old : CamParams) : CamParams :=
  let p := if bit sections 0 then { old with bl := new.bl, blg := new.blg } else old
  let p := if bit sections 1 then { p with k := new.k, giThr := new.giThr } else p
  let p := if bit sections 2 then { p with lin := new.lin } else p
  let p := if bit sections 3 then { p with sat := new.sat, g := new.g } else p
  let p := if bit sections 4 then { p with a := new.a, off := new.off } else p
  let p := if bit sections 5 then { p with mc := new.mc } else p
  let p := if bit sections 6 then { p with
    camD := new.camD, colOrigin := new.colOrigin, colStep := new.colStep, rowOrigin := new.rowOrigin, rowStep := new.rowStep
    marginN := new.marginN, marginF := new.marginF } else p
  let p := if bit sections 7 then { p with cg := new.cg.foldl (fun acc x => putKey x.1 x.2 acc) p.cg } else p
  if bit sections 8 then { p with roi := new.roi } else p

/-- S and N of every bar are cleared (13 R357). -/
def clearSums (s : State) : State :=
  s.onClr fun k => { k with bars := k.bars.map fun w => { w with sums := [], bands := [], firstW := none } }

/-- A port's waiting parameters apply at a frame, and their command completes (R336, 13 R356, R357). -/
def applyPend (k seq : Nat) (s : State) : State :=
  match (s.port k).pend with
  | none => s
  | some w =>
    let s := s.onPort k fun p => { p with params := w.params.merge w.sections p.params, gen := (p.gen + 1) % 2 ^ 32, pend := none }
    let gen := (s.port k).gen
    let s := post evCamParamsApplied (unitCam k) k seq s
    let s := match w.calib with
      | some r =>
        let s := clearSums (s.onPort k fun p => { p with cal := none, holdGen := some gen })
        let s := post evCamCalibrated (unitCam k) k (rd r 0 2) s
        match w.cmd with
        | some id => finish id (.good (r ++ toLe 4 gen)) s
        | none => s
      | none => match w.cmd with
        | some id => finish id (.good (toLe 4 seq ++ toLe 4 gen)) s
        | none => s
    s

/-- On a disabled port parameters apply at once; no frame carries them, so their SEQ is free (log 8). -/
def applyIdle (k : Nat) (s : State) : State :=
  match (s.port k).pend with
  | some w => if w.writes.isEmpty && !(s.port k).enable then (applyPend k (s.freeVal Config.siteCamera % 2 ^ 32) s).useFree else s
  | none => s

/-- SENSOR_DELAY in force: CAM_CONFIG's, else the camera record's; with neither it is free (R336). -/
def State.sensorDelay (s : State) (k : Nat) : Nat :=
  let c := (s.port k).conf
  if c.sensorDelay != 0xFF then c.sensorDelay
  else match s.board.mirs.find? fun m => m.path == k && m.slot == 0x50 && m.st == 0 with
    | some m => rd (mirTag 0x0201 m.bytes) 0 1
    | none => s.freeVal Config.siteCamera % 8

/-- The bytes of a sensor register write (R323). -/
def sensorWrite (fmt reg value : Nat) : List Byte :=
  let nr := if bit fmt 0 then 2 else 1
  let nv := 2 ^ (fmt / 2 % 4)
  (toLe nr reg).reverse ++ (toLe nv value).reverse

/-- Send the next sensor write of a port. -/
def sendSensor (k : Nat) (s : State) : State :=
  let c := (s.port k).conf
  match ((s.port k).pend.map (·.writes)).getD [] with
  | (reg, v) :: _ => s.emit (.i2c k c.i2cAddr (sensorWrite c.i2cFmt reg v))
  | [] => s

/-- The end of a sensor write (R323): a write not acknowledged is retried once, and then the command fails. -/
def sensorDone (k : Nat) (acked : Bool) (s : State) : State :=
  match (s.port k).pend with
  | none => s
  | some w =>
    if acked then
      applyIdle k (sendSensor k (s.onPort k fun p => { p with pend := some { w with writes := w.writes.drop 1, retried := false } }))
    else if !w.retried then sendSensor k (s.onPort k fun p => { p with pend := some { w with retried := true } })
    else
      let s := s.onPort k fun p => { p with pend := none }
      match w.cmd with
      | some id => finish id (Reply.errUnit .timeout 0x01A4 (unitCam k)) s
      | none => s

/-! Frames (R324, R322). -/

/-- A port's frames. -/
def State.onFrame (k seq : Nat) (f : CamFrame → CamFrame) (s : State) : State :=
  s.onPort k fun p => { p with frames := p.frames.map fun x => if x.seq = seq then f x else x }

/-- The exposures of a port's shot: one on a standard port. -/
def CamCfg.shots (c : CamCfg) : Nat := if c.wide then c.exposures else 1

/-- The place in a frame of a virtual channel. -/
def CamCfg.slot (c : CamCfg) (vc : Nat) : Nat := if c.wide then vc else 0

/-- The port expects the virtual channel. -/
def CamCfg.expects (c : CamCfg) (vc : Nat) : Bool := decide (vc < if c.wide then c.exposures else 4)

/-- The open frame of a virtual channel. -/
def Port.openOn (p : Port) (vc : Nat) : Option CamFrame :=
  let c := p.conf
  p.frames.reverse.find? fun f => (c.wide || f.vc == vc) && bit f.begun (c.slot vc) && !bit f.ended (c.slot vc)

/-- Mark a frame; a frame with CRC_ERR or HDR_ERR counts as one transient upset (R322). -/
def markFrame (k seq m : Nat) (s : State) : State :=
  let old := (((s.port k).frames.find? (·.seq == seq)).map (·.marks)).getD 0
  let s := s.onFrame k seq fun f => { f with marks := f.marks ||| m }
  if m &&& 0x0C != 0 && old &&& 0x0C == 0 then upset (unitCam k) s else s

/-- The archive's budget now, 2^-32 bytes (R338). -/
def Archive.now (a : Archive) (t : Int) : Int := min (a.rate * 1000000 * 2 ^ 32 : Nat) (a.budget + (a.rate * 1000000 : Nat) * (t - a.budgetAt))

/-- The archive keeps the frame (R337). -/
def Archive.keeps (a : Archive) (port seq marks : Nat) : Bool :=
  bit a.portMask port && marks &&& 0x10 == 0
    && ((a.keepEvery != 0 && seq % a.keepEvery == 0) || (a.keepMarked && marks &&& 0x07EF != 0))

/-- A frame that is not archived for lack of budget or space (R338). -/
def archiveSkip (k : Nat) (s : State) : State :=
  let s := s.onCam fun c => { c with archive := c.archive.map fun a => { a with skipped := a.skipped + 1 } }
  postLimited evCamArchiveSkipped (unitCam k) k 1 1 1 true (bump (ctr 10 k 10) 1 s)

/-- The oldest entries leave until `need` bytes fit. -/
def makeRoom (cap need : Nat) : List ArchEntry → List ArchEntry
  | [] => []
  | e :: r => if (((e :: r).map fun x => 64 + x.image.length).sum) + need ≤ cap then e :: r else makeRoom cap need r

/-- An archive entry that a read in flight uses (R337). -/
def State.entryRead (s : State) (entry : Nat) : Bool :=
  s.hif.inflight.any fun e => e.out.isSome && e.opcode == 0x0A06 && decide (e.cmd.u32 12 ≤ entry)
    && decide (entry < e.cmd.u32 12 + if e.cmd.u8 0 = 2 then 1 else e.cmd.u16 16)

/-- The image of a frame that the archive stores: measurement or raw (R337). -/
def archiveImage (stage : Nat) (c : CamCfg) (f : CamFrame) (m : Measured) : List Byte :=
  if stage = 0 then
    let w := c.width / 2
    encodeImage { type := 1, format := 5, depth := 16, inkMask := 7, width := w, height := m.px.length, stride := 6 * w }
      (m.px.flatMap fun r => r.flatMap fun p => p.m.flatMap (toLe 2))
  else
    let r := f.front c
    encodeImage { type := 1, format := 7, depth := 16, width := c.width, height := r.size, stride := 2 * c.width }
      (r.toList.flatMap fun l => l.toList.flatMap (toLe 2))

/-- Archive a closed frame where the archive keeps it (R337, R338, Table 12-4): not in place of an entry that a read uses. DEDUCED
(log 127): a frame without a line at its stage leaves nothing to store. -/
def archiveFrame (k : Nat) (f : CamFrame) (m : Measured) (s : State) : State :=
  let r := m.report
  match s.cam.archive with
  | none => s
  | some a =>
    if !a.keeps k r.seq r.marks || (if a.stage = 0 then m.px.isEmpty else f.taken.isEmpty) then s
    else
      let c := (s.port k).conf
      let image := archiveImage a.stage c f m
      let cap := a.pages * 2 ^ 21
      let need := 64 + image.length
      let left := makeRoom cap need a.entries
      let used := (a.entries.take (a.entries.length - left.length)).any fun e => s.entryRead e.entry
      if !f.funded || decide (2 ≤ s.thm.level) || decide (cap < need) || used then archiveSkip k s
      else
        let header := toLe 4 a.next ++ toLe 1 k ++ toLe 1 r.vc ++ toLe 2 r.marks ++ toLe 4 r.seq ++ toLe 4 0 ++ encT r.tb0 ++ toLe 4 0
          ++ toLeS 8 r.pMid ++ toLe 4 r.runId ++ toLe 4 0 ++ toLe 8 image.length ++ toLe 8 0
        let a := { a with
          entries := left ++ [{ entry := a.next, header, image }], next := (a.next + 1) % 2 ^ 32
          budget := a.now s.tb1 - (need : Int) * 2 ^ 32, budgetAt := s.tb1 }
        bump (ctr 10 k 9) 1 (s.onCam fun c => { c with archive := some a })

/-! Calibration (13 R355, R356). -/

/-- Mean of a list. -/
def meanB (l : List B64) : B64 := (B64.sum l).div (B64.ofInt (max 1 l.length : Nat))

/-- The pixels of a rectangle M_FIRST, M_LAST, R_FIRST, R_LAST, with their columns. -/
def rectPx {α : Type} (rect : List Nat) (px : List (List α)) : List (Nat × α) :=
  ((px.drop (rect.getD 2 0)).take (rect.getD 3 0 + 1 - rect.getD 2 0)).flatMap fun row =>
    ((indexed row).drop (rect.getD 0 0)).take (rect.getD 1 0 + 1 - rect.getD 0 0)

/-- Red, green and blue of a patch with column gains, averaged over its unclipped pixels, then over the frames (R355). -/
def patchMean (gain : Nat → Nat) (frames : List (List (List (List Nat × Bool)))) (rect : List Nat) : List B64 :=
  let each := frames.map fun f =>
    let px := ((rectPx rect f).filter fun x => !x.2.2).map fun x => gained (gain x.1) x.2.1
    (List.range 3).map fun i => meanB (px.map fun v => B64.ofInt (v.getD i 0 : Nat))
  (List.range 3).map fun i => meanB (each.map fun v => v.getD i {})

/-- The new column gains from the white patch (R356): columns outside it keep theirs. -/
def flatGains (p : CamParams) (frames : List (List (List (List Nat × Bool)))) (rect : List Nat) : List (Nat × Nat) :=
  let cols := (List.range (rect.getD 1 0 + 1 - rect.getD 0 0)).map (rect.getD 0 0 + ·)
  let g := cols.map fun x => meanB (frames.flatMap fun f => ((rectPx rect f).filter fun y => y.1 == x).map fun y =>
    (B64.ofInt ((gained (p.gain x) y.2.1).sum : Nat)).div (B64.ofInt 3))
  let mean := meanB g
  (cols.zip g).map fun x => (x.1, if x.2.m = 0 then 0 else (((B64.ofInt (p.gain x.1)).mul mean).div x.2).nearest.toNat)

/-- Eliminate a column from the rows below a pivot row. -/
def eliminate (i : Nat) (pivot : List B64) (rows : List (List B64)) : List (List B64) :=
  rows.map fun r =>
    let f := (r.getD i {}).div (pivot.getD i {})
    (r.zip pivot).map fun x => x.1.sub (f.mul x.2)

/-- Gaussian elimination with partial pivoting, forward part: the rows in triangular form, none when singular. -/
def forward : Nat → Nat → List (List B64) → Option (List (List B64))
  | 0, _, _ => some []
  | n + 1, i, rows =>
    let best := rows.foldl (fun (b : List B64) r => if ((b.getD i {}).abs).lt ((r.getD i {}).abs) then r else b) (rows.headD [])
    let at_ := (indexed rows).find? fun x => x.2 == best
    if (best.getD i {}).m = 0 then none
    else
      let swapped := match at_ with
        | some x => (rows.set x.1 (rows.headD [])).drop 1
        | none => rows.drop 1
      (forward n (i + 1) (eliminate i best swapped)).map (best :: ·)

/-- Back substitution, from the last row up. -/
def backSub (rows : List (List B64)) : List B64 :=
  ((indexed rows).reverse).foldl (fun (xs : List B64) r =>
    let known := (indexed xs).map fun x => (r.2.getD (r.1 + 1 + x.1) {}).mul x.2
    let rhs := known.foldl B64.sub (r.2.getLast?.getD {})
    (rhs.div (r.2.getD r.1 {})) :: xs) []

/-- The normal equations of one channel over the patches (R356). -/
def fitChannel (vs : List (List B64)) (refs : List B64) : Option (List B64) :=
  let ext := vs.map fun v => v ++ [B64.ofInt 1]
  let rows := (List.range 4).map fun i =>
    ((List.range 4).map fun j => B64.sum (ext.map fun v => (v.getD i {}).mul (v.getD j {})))
      ++ [B64.sum ((ext.zip refs).map fun x => (x.1.getD i {}).mul x.2)]
  (forward 4 0 rows).map backSub

/-- The determinant of three rows of three. -/
def det3 (a : List Int) : Int :=
  let g (i : Nat) : Int := a.getD i 0
  g 0 * (g 4 * g 8 - g 5 * g 7) - g 1 * (g 3 * g 8 - g 5 * g 6) + g 2 * (g 3 * g 7 - g 4 * g 6)

/-- A calibration's outcome: DETAIL of the rule broken (0 for none), its figures, its parameters (R356). -/
structure Fit where
  detail : Nat := 0
  mean : Nat := 0
  max : Nat := 0
  worst : Nat := 0
  params : CamParams := {}
deriving DecidableEq, Repr, Inhabited

/-- Compute a calibration (R356). -/
def calibrate (c : CamCal) (p : CamParams) : Fit :=
  let few := c.taken.any fun f => c.patches.any fun x => decide (((rectPx x.1 f).filter fun y => !y.2.2).length < 64)
  if few then { detail := 0x01B5 }
  else
    let gains := if c.flat then flatGains p c.taken ((c.patches.headD ([], [])).1) else []
    let gain (x : Nat) : Nat := (getKey x gains).getD (p.gain x)
    let means := c.patches.map fun x => patchMean gain c.taken x.1
    let refs (j : Nat) : List B64 := c.patches.map fun x => B64.ofInt (x.2.getD j 0 : Nat)
    let fits := (List.range 3).map fun j => (fitChannel means (refs j)).getD []
    let a := fits.flatMap fun f => (List.range 3).map fun i => ((B64.ofInt 4096).mul (f.getD i {})).nearestAway
    let off := fits.map fun f => (f.getD 3 {}).nearestAway
    let params : CamParams := { a, off, mc := none, cg := gains }
    let out := gains.any fun g => decide (g.2 < 8192) || decide (32767 < g.2)
    let wild := fits.any (·.isEmpty) || a.any (fun x => decide (x < -32768) || decide (32767 < x)) || decide (det3 a ≤ 0)
    let des := (means.zip c.patches).map fun x =>
      deltaE ((measure params (x.1.map fun v => v.nearest.toNat)).map fun v => B64.ofInt (v : Nat)) (x.2.2.map fun v => B64.ofInt (v : Nat))
    let mean := meanB des
    let most := des.foldl B64.max {}
    let worst := (((indexed des).find? fun x => x.2 == most).map (·.1)).getD 0
    let detail :=
      if out then 0x01B4 else if wild then 0x01B3
      else if (ratio c.meanMax 100).lt mean then 0x01B1
      else if (ratio c.maxMax 100).lt most then 0x01B2 else 0
    { detail, mean := hundredths mean, max := hundredths most, worst, params }

/-- The result of CAM_CALIBRATE before PARAM_GEN (Table 13-7). -/
def Fit.result (f : Fit) : List Byte := toLe 2 (min 65535 f.mean) ++ toLe 2 (min 65535 f.max) ++ toLe 1 f.worst ++ toLe 3 0

/-- A closed frame joins the calibration of its port; with the last one the calibration is computed: it is rejected, or waits
for the next frame as a CAM_PIPELINE does (R355, R356). -/
def calFrame (k : Nat) (m : Measured) (s : State) : State :=
  match (s.port k).cal with
  | none => s
  | some c =>
    if m.report.marks &&& 0x107F != 0 || decide (c.frames ≤ c.taken.length) then s
    else
      let c := { c with taken := c.taken ++ [m.px.map fun r => r.map fun p => (p.raw, p.clipped)] }
      if c.taken.length < c.frames then s.onPort k fun p => { p with cal := some c }
      else
        let f := calibrate c (s.port k).params
        if f.detail = 0 then
          s.onPort k fun p => { p with
            cal := some { c with taken := c.taken.map fun _ => [] }
            pend := some { cmd := some c.cmd, params := f.params, sections := 0x30 + 0x80 * b2n c.flat, calib := some f.result } }
        else
          finish c.cmd { status := .rejected, detail := f.detail, result := f.result, unit := unitCam k } (s.onPort k fun p => { p with cal := none })

/-! Closing frames (R334, R340). -/

/-- The trigger unit that a port holds is released. -/
def freeTrigger (k : Nat) (s : State) : State :=
  s.onTim fun t => { t with triggers := t.triggers.map fun x => if x.reserved = some k then { x with reserved := none, mode := 0, running := false } else x }

/-- The fields of a CAM_ENABLE are taken; the commands that brought them complete. -/
def takeEnable (k : Nat) (e : EnablePend) (s : State) : State :=
  let s := s.onPort k fun p => { p with enabling := none, mode := e.mode, loop := e.loop, pulseW := e.pulseW, spacing := e.spacing, x0 := e.x0 }
  finishAll e.cmds (.good (toLe 4 (s.port k).lastSeq)) s

/-- A port is enabled, or set anew while it is (R325): in POSITION mode its trigger unit is reserved; SEQ starts at 0 as the port is
enabled. -/
def enablePort (k : Nat) (e : EnablePend) (s : State) : State :=
  let s := freeTrigger k s
  let s := if e.mode = 0 then s.onTrigger (s.port k).conf.trigger fun t => { t with reserved := some k, mode := 0, running := false } else s
  armPort k (takeEnable k e (s.onPort k fun p => { p with enable := true, next := none, seq := if p.enable then p.seq else 0 }))

/-- The port is retired, or is to be at its next frame boundary (02 R42). -/
def State.portGone (s : State) (k : Nat) : Bool := (s.port k).retired || s.isDoomed (unitCam k)

/-- A port is disabled at its frame boundary (R339, R41): records are discarded, the trigger is released, a pending copy is taken (02 R30).
A retirement at the same boundary governs (02 R42). -/
def disablePort (k reason : Nat) (s : State) : State :=
  let p := s.port k
  let gone := s.portGone k
  let s := discardWork (unitCam k) p.records.length (if gone && reason = 1 then 2 else reason) s
  let s := (freeTrigger k s).onPort k fun p => { p with enable := false, records := [], next := none, disabling := none }
  let s := match p.enabling with
    | some e => takeEnable k e s
    | none => s
  let s := applyIdle k s
  match p.disabling with
  | some id => finish id (if gone then Reply.errUnit .retired 0 (unitCam k) else .good (toLe 4 p.lastSeq)) s
  | none => s

/-- The frame boundary of a port comes (02 R30, R41): it is disabled, enabled again by a later CAM_ENABLE, or set anew. -/
def portBoundary (k : Nat) (s : State) : State :=
  let p := s.port k
  match p.enabling with
  | none => if p.disabling.isSome || p.retired then disablePort k (if p.retired then 2 else 1) s else s
  | some e =>
    if p.disabling.isNone && !p.retired then enablePort k e s
    else if e.after && !s.portGone k then enablePort k e (disablePort k 1 (s.onPort k fun p => { p with enabling := none }))
    else disablePort k (if p.retired then 2 else 1) s

end Sys2Proof.Machine
end

