-- ==== Sys2Proof/Machine/Ptp.lean ====
section
/-!
DEFINITION. PTP: timestamps, the servo, path holds, the states of the domains
(spec/06_time_bases.md, R139 to R148).
-/
namespace Sys2Proof.Machine

/-- The time base that a domain drives: TB0 for A, TB2 for B (R139). -/
def domTb (d : Nat) : Nat := if d = 0 then 0 else 2

/-- Unit of a time base. -/
def unitTb (n : Nat) : Nat := 0x0D00 + n

/-- A domain. -/
def State.dom (s : State) (d : Nat) : Domain := s.tim.domains.getD d {}
/-- A port's PTP side. -/
def State.ptp (s : State) (p : Nat) : PtpPort := s.tim.ports.getD p {}
/-- Change a domain. -/
def State.onDom (d : Nat) (f : Domain → Domain) (s : State) : State := s.onTim fun t => { t with domains := upd d f t.domains }
/-- Change a port's PTP side. -/
def State.onPtp (p : Nat) (f : PtpPort → PtpPort) (s : State) : State := s.onTim fun t => { t with ports := upd p f t.ports }
/-- Change a time base. -/
def State.onTb (n : Nat) (f : Tb → Tb) (s : State) : State := s.onTim fun t => { t with tb := upd n f t.tb }
/-- Change TBF. -/
def State.onTbf (f : Tbf → Tbf) (s : State) : State := s.onTim fun t => { t with tbf := f t.tbf }

/-- Units of 2^-16 ns in a second. -/
def sec16 : Int := 1000000000 * 65536

/-- A time base converted by R135, in units of 2^-16 ns. -/
def Tb.t16 (t : Tb) : Int :=
  let (sec, ns) := toN30 t.t32
  sec * sec16 + (ns : Int) * 65536

/-- The servo of the domain works on TBF (Table 6-2). -/
def Domain.onTbf (d : Domain) : Bool := d.st == .acquiring || d.st == .joining || d.st == .recovering || d.st == .test

/-- The servo clock of a domain, in units of 2^-16 ns (R141). -/
def State.servoClock (s : State) (d : Nat) : Int :=
  if (s.dom d).onTbf then s.tim.tbf.t16 else (s.tb (domTb d)).t16

/-- A received time with 48-bit seconds, extended to the value nearest to the servo clock (R135). -/
def extend48 (now v : Int) : Int :=
  let span := (2 : Int) ^ 48 * sec16
  v + roundHalfUp (now - v) span * span

/-- ADJ from a rate in ppb, Q16.16 (R142, R134's clamp). -/
def adjOf (ppbQ16 : Int) : Int :=
  clampI (-roundHalfUp (ppbQ16 * 2 ^ 40) (1000000000 * 65536)) (-1099511628) 1099511628

/-- KP in force, Q16.16: 0.7 R by default (R142). -/
def Domain.kpOf (d : Domain) (log : Int) : Int :=
  if d.kp ≠ 0 then d.kp
  else if log ≤ 0 then (7 * 65536 * 2 ^ log.natAbs : Int).fdiv 10 else (7 * 65536 : Int).fdiv (10 * 2 ^ log.natAbs)

/-- KI in force, Q16.16: 0.05 R by default (R142). -/
def Domain.kiOf (d : Domain) (log : Int) : Int :=
  if d.ki ≠ 0 then d.ki
  else if log ≤ 0 then (65536 * 2 ^ log.natAbs : Int).fdiv 20 else (65536 : Int).fdiv (20 * 2 ^ log.natAbs)

/-- Set ADJ of a time base. -/
def setAdj (n : Nat) (adj : Int) (s : State) : State := noteAdj (s.onTb n fun t => { t with adj })

/-- The TB0 - TBF offset as firmware keeps it for the correction of 19 R474: as it stands after what moved either (DESIGN CHOICE, log 116). -/
def keepOffset (s : State) : State := s.onTim fun t => { t with tbfOffset := s.tb0 - toF32 t.tbf.sec t.tbf.ns }

/-- TBF as a capture or a snapshot gives it (R153, 19 R474): in the clock of its carry the raw seconds trail by one, and firmware adds
one where the latched TB0 and the kept offset imply it; whether it did. -/
def State.latchedTbf (s : State) : Int × Nat × Bool :=
  let f := s.tim.tbf
  let raw := if s.tim.tbfCarry then f.sec - 1 else f.sec
  let fixed := decide (f.ns ≤ 1) && raw + 1 == (toN30 (s.tb0 - s.tim.tbfOffset)).1
  (if fixed then raw + 1 else raw, f.ns, fixed)

/-- Set ADJ of a domain's servo clock; TBF takes the ADJ of the clock the servo drives (R134). -/
def setServoAdj (d : Nat) (adj : Int) (s : State) : State :=
  let s := s.onTbf fun t => { t with adj }
  if (s.dom d).onTbf then s else setAdj (domTb d) adj s

/-- A domain changes state; changes of domain A are counted (Table 6-15). -/
def setPtp (d : Nat) (st : Ptp) (s : State) : State :=
  if (s.dom d).st = st then s
  else
    let s := s.onDom d fun x => { x with st, good := 0, bad := 0 }
    if d = 0 then bump (ctr 3 0 1) 1 s else s

/-- The domain leaves LOCKED: its time base keeps the integrator value that it has then, until the next join (R145). -/
def holdRate (d : Nat) (s : State) : State :=
  if (s.dom d).st != .locked then s
  else
    let s := setAdj (domTb d) (adjOf (s.dom d).integ) s
    s.onDom d fun x => { x with holdSince := some s.tb1 }

/-- Enter RECOVERING with its cause (Table 6-14). -/
def recover (d cause : Nat) (s : State) : State :=
  post evTimeRecovering (unitTb (domTb d)) d cause (setPtp d .recovering (holdRate d s))

/-- Enter HOLDOVER, from LOCKED or RECOVERING: a new holdover begins (R143, R145). -/
def enterHoldover (d : Nat) (s : State) : State :=
  let s := (holdRate d s).onDom d fun x => { x with holdoverAt := some s.tb1, longPosted := false }
  post evTimeHoldover (unitTb (domTb d)) d 1 (setPtp d .holdover s)

/-- Triggers of a time base that a forward step of one or more periods has moved past a due T skip to the first T after the new
time, with the periods skipped (R151). A shorter step past T leaves T due, and the unit fires at once. -/
def stepTriggers (tb : Nat) (old new : Int) (s : State) : State :=
  if new ≤ old then s
  else (List.range 16).foldl (fun s u =>
    let t := s.tim.triggers.getD u {}
    let live := t.mode == 1 || (t.mode == 2 && t.running)
    if live && t.tb == tb && t.period != 0 && decide (old < t.t) && decide (t.t ≤ new) && decide (old + t.period ≤ new) then
      let n := ((new - t.t).fdiv t.period) + 1
      let s := s.onTim fun x => { x with triggers := upd u (fun t => { t with t := t.t + n * t.period }) x.triggers }
      let s := bump (ctr 3 0 5) n s
      postLimited evTriggerSkipped (0x0D10 + u) u (p32 n) 1 1000 false s
    else s) s

/-- Set a time base to a value in units of 2^-64 s, with EV_TIME_STEPPED (R146). -/
def stepTb (n : Nat) (sec : Int) (frac : Nat) (s : State) : State :=
  let old := s.tb n
  let s := keepOffset (s.onTb n fun t => { t with sec := wrapS 64 sec, frac })
  let new := s.tb n
  post evTimeStepped (unitTb n) n (p32 (tNs (new.t32 - old.t32))) (stepTriggers n old.t48 new.t48 s)

/-- The same for a join, which says so only when it moves the time base (R144). -/
def loadTb (n : Nat) (sec : Int) (frac : Nat) (s : State) : State :=
  if (s.tb n).sec = sec ∧ (s.tb n).frac = frac then s else stepTb n sec frac s

/-- The join by loading: TB0 or TB2 takes TBF's value in one clock (R144, R135). -/
def loadFromTbf (d : Nat) (s : State) : State :=
  let t := toF32 s.tim.tbf.sec s.tim.tbf.ns
  loadTb (domTb d) (t.fdiv (2 ^ 32)) ((t.fmod (2 ^ 32)).toNat * 2 ^ 32) s

/-- The join is complete: the servo drives TB0 or TB2 with TBF's rate (R144). -/
def lockDomain (d : Nat) (s : State) : State :=
  let s := keepOffset (setAdj (domTb d) s.tim.tbf.adj s)
  let s := s.onDom d fun x => { x with slewing := false, holdSince := none, holdoverAt := none, longPosted := false, lastReload := some (s.tb (domTb d)).sec }
  let s := setPtp d .locked s
  post evTimeLocked (unitTb (domTb d)) d ((s.dom d).servoPort.getD 0xFF) s

/-- Δ = TBF − TB0 (or TB2), with TBF converted by R135, in units of 2^-16 ns (R144). -/
def State.joinRemain (s : State) (d : Nat) : Int :=
  ((toF32 s.tim.tbf.sec s.tim.tbf.ns - (s.tb (domTb d)).t32) * 1000000000).fdiv (2 ^ 16)

/-- The added rate of a slew: JOIN_PPM in the direction that reduces Δ (R144). -/
def slewRate (d : Nat) (s : State) : State :=
  let x := s.dom d
  let ppm : Int := (x.joinPpm : Int) * 2 ^ 40 / 1000000
  let sign : Int := if 0 ≤ s.joinRemain d then 1 else -1
  setAdj (domTb d) (clampI (s.tim.tbf.adj + sign * ppm) (-1099511628) 1099511628) s

/-- Lock on TBF: JOINING, and at once LOCKED unless TB0 must be slewed for an armed run (R144); TEST where
TEST is set. -/
def lockTbf (d : Nat) (s : State) : State :=
  if (s.dom d).test then setPtp d .test s
  else
    let s := setPtp d .joining s
    if d = 0 && s.fire.run.isSome then slewRate d (s.onDom d fun x => { x with slewing := true })
    else lockDomain d (loadFromTbf d s)

/-- The end of a run steps the rest of a slew at once (R144). -/
def endSlew (s : State) : State :=
  if (s.dom 0).slewing && (s.dom 0).st == .joining then lockDomain 0 (loadFromTbf 0 s) else s

/-- The transitions of Table 6-2 that samples bring, checked before each sample in the table's order (R143). -/
def ptpTransitions (d : Nat) (s : State) : State :=
  let x := s.dom d
  match x.st with
  | .acquiring => if 16 ≤ x.good then lockTbf d s else s
  | .recovering => if 16 ≤ x.good then lockTbf d s else s
  | .joining =>
    if x.test then setPtp d .test (s.onDom d fun x => { x with slewing := false })
    else if (s.joinRemain d).natAbs < x.lockNs * 65536 then lockDomain d s
    else slewRate d s
  | .locked => if x.test then setPtp d .test (holdRate d s) else if 4 ≤ x.bad then recover d 2 s else s
  | .test => if x.test then s else setPtp d .acquiring s
  | _ => s

/-! Path holds (R147) and disagreement (R148). -/

/-- The other Ethernet port, when it serves the same domain. -/
def State.comparePort (s : State) (p : Nat) : Option Nat :=
  if (s.ptp (1 - p)).role == (s.ptp p).role && (s.ptp p).role != 0 then some (1 - p) else none

/-- A path hold on the servo port moves the role to a compare port that is not held; otherwise the servo
keeps its integrator value as ADJ (R147). -/
def holdServo (d p : Nat) (s : State) : State :=
  if (s.dom d).servoPort != some p then s
  else match s.comparePort p with
    | some o =>
      if (s.ptp o).hold.isNone && (s.ptp o).master.isSome then s.onDom d fun x => { x with servoPort := some o }
      else setServoAdj d (adjOf (s.dom d).integ) s
    | none => setServoAdj d (adjOf (s.dom d).integ) s

/-- A hold as a new mean path delay leaves it: none when its 16 samples agree (R147). -/
def stepHold (mpd last : Int) (limit : Int) (beyond : Bool) (now : Int) (h : PathHold) : Option PathHold :=
  if (mpd - last).natAbs > limit.natAbs then some { since := now }
  else if !h.looking && !beyond then some h
  else match h.first with
    | none => some { h with looking := true, first := some mpd, n := 1 }
    | some f =>
      if 4 * (mpd - f).natAbs ≤ limit.natAbs then
        if 15 ≤ h.n then none else some { h with looking := true, n := h.n + 1 }
      else some { h with looking := true, first := some mpd, n := 1 }

/-- The path-step check of a sample of a port (R147); a port without a reference takes its first one. -/
def pathCheck (d p : Nat) (mpd : Int) (s : State) : State :=
  let t := s.ptp p
  let limit : Int := (t.pathStepNs : Int) * 65536
  let last := t.mpd
  let s := s.onPtp p fun t => { t with mpd }
  match t.refMpd, t.hold with
  | none, _ => s.onPtp p fun t => { t with refMpd := some mpd }
  | some r, none =>
    if (mpd - r).natAbs > limit.natAbs then
      holdServo d p (bump (ctr 3 0 2) 1 (s.onPtp p fun t => { t with hold := some { since := s.tb1 }, offsets := [] }))
    else s
  | some r, some h =>
    match stepHold mpd last limit (passed s h.since 8 1) s.tb1 h with
    | some h => s.onPtp p fun t => { t with hold := some h }
    | none =>
      post evTimePathStep (unitEth p) p (p32 (sar (mpd - r) 16)) (s.onPtp p fun t => { t with hold := none, refMpd := some mpd, offsets := [] })

/-- Sum of the last 16 offsets of a port. -/
def PtpPort.sum (t : PtpPort) : Int := t.offsets.sum

/-- Two ports of a domain that follow the same grandmaster, neither held, each with 16 samples (R148). The
limit is that of the port whose sample came. -/
def disagreement (d p : Nat) (s : State) : State :=
  let a := s.ptp 0
  let b := s.ptp 1
  let same := match a.master, b.master with
    | some x, some y => x.identity == y.identity
    | _, _ => false
  if (s.comparePort 0).isNone || !same || a.hold.isSome || b.hold.isSome || a.offsets.length < 16 || b.offsets.length < 16 then s
  else
    let diff := a.sum - b.sum
    let limit := (s.ptp p).pathStepNs * 16
    let x := s.dom d
    if limit < 2 * diff.natAbs then
      if x.disagreeArmed then
        post evTimePortDisagree (unitTb (domTb d)) d (p32 (diff.fdiv 16)) (s.onDom d fun x => { x with disagree := true, disagreeArmed := false })
      else s.onDom d fun x => { x with disagree := x.disagree }
    else if 4 * diff.natAbs < limit then s.onDom d fun x => { x with disagreeArmed := true }
    else s

/-! The servo (R142). -/

/-- Step TBF, units of 2^-16 ns. -/
def stepTbf (by_ : Int) (s : State) : State := keepOffset ((s.onTbf (Tbf.add (by_ * 65536))).onTim fun t => { t with tbfCarry := false })

/-- One sample on the servo clock: offset in units of 2^-16 ns (R142). -/
def servo (d : Nat) (offset log : Int) (s : State) : State :=
  let x := s.dom d
  let e := sar offset 16
  let s := s.onDom d fun x => { x with
    lastE := e
    good := if e.natAbs < x.lockNs then x.good + 1 else 0
    bad := if x.unlockNs < e.natAbs then x.bad + 1 else 0 }
  let s := if d = 0 then bumpMax (ctr 3 0 0) e.natAbs s else s
  if x.onTbf && decide (x.stepNs < e.natAbs) then stepTbf (-offset) s
  else
    let lim : Int := 1000000 * 65536
    let integ := clampI (x.integ + x.kiOf log * e) (-lim) lim
    let rate := clampI (integ + x.kpOf log * e) (-lim) lim
    let s := s.onDom d fun x => { x with integ }
    let s := setServoAdj d (adjOf rate) s
    let s := keepOffset s
    if (s.dom d).slewing then slewRate d s else s

/-- A Sync that completes an exchange on a port (R142): ms = t2 − t1 − c. -/
def takeSample (d p : Nat) (ms : Int) (s : State) : State :=
  let t := s.ptp p
  match t.exchange with
  | none => s
  | some ex =>
    let mpd := if t.p2p then ex else sar (ms + ex) 1
    let s := if (s.dom d).servoPort == some p then ptpTransitions d s else s
    let s := pathCheck d p mpd s
    if (s.ptp p).hold.isSome then s
    else
      let offset := ms - mpd - t.asym
      let s := s.onPtp p fun t => { t with offsets := (sar offset 16 :: t.offsets).take 16 }
      let s := disagreement d p s
      if (s.dom d).servoPort == some p then servo d offset t.syncLog s else s

/-! BMCA and Announce (R139, R140). -/

/-- A grandmaster's rank in the BMCA's order (log 16). -/
def Gm.rank (g : Gm) : List Nat := [g.priority1, g.clockClass, g.clockAccuracy, g.variance, g.priority2, g.identity, g.stepsRemoved]

/-- One list of ranks precedes another. -/
def rankLt : List Nat → List Nat → Bool
  | a :: as, b :: bs => decide (a < b) || (a == b && rankLt as bs)
  | _, _ => false

/-- What the device itself would announce on a port; its accuracy reads unknown and its variance the largest (log 16). -/
def PtpPort.own (t : PtpPort) : Gm :=
  { identity := Config.uid, priority1 := t.priority1, priority2 := t.priority2, clockClass := t.clockClass, clockAccuracy := 0xFE, variance := 0xFFFF }

/-- The device may be master on a port: it is master-capable and the only port of its domain (R140). -/
def State.mayMaster (s : State) (p : Nat) : Bool := !s.isDoomed (unitEth p) && (s.ptp p).masterCapable && (s.comparePort p).isNone

/-- The BMCA selects the device on a port (Table 6-2). -/
def becomeMaster (d p : Nat) (s : State) : State :=
  let s := s.onPtp p fun t => { t with isMaster := true, master := none, syncAt := none, annAt := none }
  let s := s.onDom d fun x => { x with servoPort := none, gm := none, slewing := false, holdSince := none }
  post evTimeMaster (unitEth p) p 1 (setPtp d .master s)

/-- The BMCA selects another clock on a port in MASTER, or no longer lets it be one: ACQUIRING (Table 6-2). -/
def leaveMaster (d p : Nat) (s : State) : State :=
  let s := s.onPtp p fun t => { t with isMaster := false, lastAnnounce := some s.tb1, syncAt := none, annAt := none }
  post evTimeMaster (unitEth p) p 2 (setPtp d .acquiring s)

/-- Choose the servo port (R140): when a domain first has a master on both ports, port 0 on a tie, and when the BMCA comes to rank one
of them better; a port does not come back to the role because its hold has ended. `first`: the port had no master before. -/
def chooseServo (d p : Nat) (first : Bool) (s : State) : State :=
  match s.comparePort p with
  | none => s.onDom d fun x => { x with servoPort := some p }
  | some o =>
    match (s.ptp p).master, (s.ptp o).master with
    | some a, some b =>
      let better := if rankLt a.rank b.rank then some p else if rankLt b.rank a.rank then some o else none
      let pick := if first then some (better.getD 0) else if better = (s.dom d).better then none else better
      let s := s.onDom d fun x => { x with better }
      match pick with
      | some w => if (s.ptp w).hold.isSome then s else s.onDom d fun x => { x with servoPort := some w }
      | none => s
    | _, _ => s.onDom d fun x => { x with servoPort := some p }

/-- An Announce on a port (R140, R143). -/
def takeAnnounce (d p : Nat) (gm : Gm) (s : State) : State :=
  let t := s.ptp p
  if s.mayMaster p && rankLt t.own.rank gm.rank then
    if t.isMaster then s else becomeMaster d p (s.onPtp p fun t => { t with lastAnnounce := some s.tb1 })
  else
    let s := if t.isMaster then leaveMaster d p s else s
    let s := s.onPtp p fun t => { t with master := some gm, lastAnnounce := some s.tb1 }
    let s := chooseServo d p t.master.isNone s
    let x := s.dom d
    if x.servoPort != some p then s
    else
      let changed := match x.gm with
        | some g => g.identity != gm.identity
        | none => false
      let s := s.onDom d fun x => { x with gm := some gm }
      match x.st with
      | .holdover => recover d 1 s
      | .locked => if changed then recover d 3 s else s
      | _ => s

/-- A port has lost its master: the role moves, or the domain goes to HOLDOVER, or the device becomes master
(R140, R143, Table 6-2). -/
def loseMaster (d p : Nat) (s : State) : State :=
  let s := s.onPtp p fun t => { t with master := none, offsets := [], sync := none }
  if s.mayMaster p then becomeMaster d p s
  else if (s.dom d).servoPort != some p then s
  else match s.comparePort p with
    | some o =>
      if (s.ptp o).master.isSome then s.onDom d fun x => { x with servoPort := some o, gm := (s.ptp o).master }
      else
        let s := s.onDom d fun x => { x with servoPort := none }
        if (s.dom d).st == .locked || (s.dom d).st == .recovering then enterHoldover d s else s
    | none =>
      let s := s.onDom d fun x => { x with servoPort := none }
      if (s.dom d).st == .locked || (s.dom d).st == .recovering then enterHoldover d s else s

/-! Messages. -/

/-- A port takes PTP messages: enabled, its link up, serving a domain, not retired. -/
def State.ptpOn (s : State) (p : Nat) : Bool :=
  let e := s.hif.eth.getD p {}
  e.enable && e.linkUp && (s.ptp p).role != 0 && !s.isRetired (unitEth p)

/-- Where a port sends a message: EtherType 0x88F7, or UDP to the group of the profile's message, event messages to port 319 and
general ones to 320 (R139); peer-delay messages go to 224.0.0.107. -/
def PtpPort.route (t : PtpPort) (kind : Nat) : Nat × Nat :=
  if t.l2 then (0, 0)
  else (if [3, 6, 7].contains kind then 0xE000006B else 0xE0000181, if [0, 2, 3, 6].contains kind then 319 else 320)

/-- Send a PTP message. -/
def sendPtp (p kind seq : Nat) (time : Int) (s : State) : State :=
  let to_ := (s.ptp p).route kind
  s.emit (.ptp p kind seq time to_.1 to_.2)

/-- A message is an event message, which is timestamped (R141) and comes on UDP port 319. -/
def PtpMsg.isEvent : PtpMsg → Bool
  | .sync .. => true
  | .delayReq .. => true
  | .pdelayReq .. => true
  | .pdelayResp .. => true
  | _ => false

/-- A message comes by the port's transport, over UDP to the device's own address or to a group that the port uses, on the UDP port of
its kind (R75, R139). -/
def State.ptpArrives (s : State) (p : Nat) (via : PtpVia) (m : PtpMsg) : Bool :=
  match via with
  | .ethernet => (s.ptp p).l2
  | .udp _ address udpPort =>
    (address == (s.hif.eth.getD p {}).ip || (s.groups p).contains address) && !(s.ptp p).l2 && udpPort == (if m.isEvent then 319 else 320)

/-- A PTP message on a port that serves domain d, at its arrival (R139, R141, R142). -/
def takePtp (d p : Nat) (m : PtpMsg) (s : State) : State :=
  let t := s.ptp p
  let now := s.servoClock d + t.ingress
  match m with
  | .sync seq twoStep origin corr log =>
    if t.isMaster || t.master.isNone then s
    else
      let s := s.onPtp p fun t => { t with syncLog := log }
      if twoStep then s.onPtp p fun t => { t with sync := some (seq, now, corr) }
      else takeSample d p (now - extend48 now origin - corr) s
  | .followUp seq origin corr =>
    match t.sync with
    | some (n, t2, c) =>
      if n = seq && !t.isMaster && t.master.isSome then
        takeSample d p (t2 - extend48 t2 origin - (c + corr)) (s.onPtp p fun t => { t with sync := none })
      else s
    | none => s
  | .delayResp seq receive corr =>
    match t.reqSent with
    | some (n, t3) =>
      if n = seq && !t.p2p then s.onPtp p fun t => { t with exchange := some (extend48 t3 receive - t3 - corr), reqSent := none } else s
    | none => s
  | .pdelayResp seq twoStep receive corr =>
    match t.reqSent with
    | some (n, t1) =>
      if n = seq && t.p2p then
        if twoStep then s.onPtp p fun t => { t with presp := some (seq, now, receive, corr) }
        else s.onPtp p fun t => { t with exchange := some (sar (now - t1 - corr) 1), reqSent := none }
      else s
    | none => s
  | .pdelayRespFollowUp seq origin corr =>
    match t.reqSent, t.presp with
    | some (n, t1), some (m, t4, t2, c) =>
      if n = seq && m = seq then
        s.onPtp p fun t => { t with exchange := some (sar ((t4 - t1) - (origin - t2) - (c + corr)) 1), reqSent := none, presp := none }
      else s
    | _, _ => s
  | .delayReq seq =>
    if t.isMaster && !t.p2p then sendPtp p 5 seq ((s.tb (domTb d)).t16 + t.ingress) s else s
  | .pdelayReq seq =>
    if t.p2p then
      let s := sendPtp p 6 seq now s
      if t.twoStep then sendPtp p 7 seq (s.servoClock d - t.egress) s else s
    else s
  | .announce gm => takeAnnounce d p gm s

/-- PTP_MESSAGE (R139): a PTP message arrives on a port; one of another domain number is not the port's. One in UDP that the port does
not accept is an IP packet that is dropped and counted (R75). -/
def execPtpMessage (dt port : Nat) (via : PtpVia) (domainNumber : Nat) (msg : PtpMsg) (s : State) : Host.Outcome State Fault Refusal :=
  let s := advance dt s
  onUnit (decide (port < 2))
    (if s.ptpOn port && s.ptpArrives port via msg then
       if (s.ptp port).domainNumber == domainNumber then takePtp ((s.ptp port).role - 1) port msg s else s
     else match via with
       | .udp vlan _ _ => if ethAccepts port vlan s then dropDatagram port s else s
       | .ethernet => s)

/-- PATH_HOLD_EXPIRY (R147): 8 s after the step the device begins to look for 16 samples that agree. -/
def execPathHoldExpiry (dt port : Nat) (s : State) : Host.Outcome State Fault Refusal :=
  let s := advance dt s
  onUnit (decide (port < 2))
    (match (s.ptp port).hold with
      | some h => if passed s h.since 8 1 then s.onPtp port fun t => { t with hold := some { h with looking := true } } else s
      | none => s)

/-- A power of two times 1 s has passed since a moment. -/
def passedLog (s : State) (since : Int) (n : Nat) (log : Int) : Bool :=
  if 0 ≤ log then decide ((s.tb1 - since) ≥ (n : Int) * 2 ^ log.natAbs * 2 ^ 32)
  else decide ((s.tb1 - since) * 2 ^ log.natAbs ≥ (n : Int) * 2 ^ 32)

/-- ANNOUNCE_TIMEOUT (R143): a port has heard no Announce for ANNOUNCE_TIMEOUT intervals. -/
def execAnnounceTimeout (dt port : Nat) (s : State) : Host.Outcome State Fault Refusal :=
  let s := advance dt s
  let t := s.ptp port
  onUnit (decide (port < 2))
    (match t.lastAnnounce with
      | some at_ =>
        if t.role != 0 && !t.isMaster && passedLog s at_ t.announceTimeout t.logAnnounce then
          loseMaster (t.role - 1) port (s.onPtp port fun t => { t with lastAnnounce := none })
        else s
      | none => s)

/-- HOLDOVER_WARN (R145): a holdover has lasted HOLDOVER_WARN_S. -/
def execHoldoverWarn (dt domain : Nat) (s : State) : Host.Outcome State Fault Refusal :=
  let s := advance dt s
  let x := s.dom domain
  onUnit (decide (domain < 2))
    (match x.holdoverAt with
      | some at_ =>
        if x.st == .holdover && !x.longPosted && passed s at_ x.warnS 1 then
          post evTimeHoldoverLong (unitTb (domTb domain)) domain x.warnS (s.onDom domain fun x => { x with longPosted := true })
        else s
      | none => s)

/-- The interval since a sending has passed, or nothing has been sent. -/
def intervalDone (s : State) (at_ : Option Int) (log : Int) : Bool :=
  match at_ with
  | some a => passedLog s a 1 log
  | none => true

/-- A master's Sync with its Follow_Up in two-step operation, or its Announce (R139). -/
def sendMaster (d p : Nat) (announce : Bool) (s : State) : State :=
  let t := s.ptp p
  let time := (s.tb (domTb d)).t16 - t.egress
  if announce then
    let g := t.own
    let to_ := t.route 1
    (s.emit (.ptpAnnounce p t.seq time g.identity g.priority1 g.clockClass g.clockAccuracy g.variance g.priority2 to_.1 to_.2)).onPtp p fun t => { t with seq := (t.seq + 1) % 65536, annAt := some s.tb1 }
  else
    let s' := sendPtp p 0 t.seq time s
    let s' := if t.twoStep then sendPtp p 4 t.seq time s' else s'
    s'.onPtp p fun t => { t with seq := (t.seq + 1) % 65536, syncAt := some s.tb1 }

/-- PTP_MASTER_SEND (R139): a Sync or an Announce falls due on a port in MASTER. -/
def execPtpMasterSend (dt port : Nat) (announce : Bool) (s : State) : Host.Outcome State Fault Refusal :=
  let s := advance dt s
  let t := s.ptp port
  onUnit (decide (port < 2))
    (if s.ptpOn port && t.isMaster && (if announce then intervalDone s t.annAt t.logAnnounce else intervalDone s t.syncAt t.logSync) then
      sendMaster (t.role - 1) port announce s
    else s)

/-- PTP_DELAY_REQUEST (R139): a Delay_Req, or in the peer-delay profile a Pdelay_Req, falls due. -/
def execPtpDelayRequest (dt port : Nat) (s : State) : Host.Outcome State Fault Refusal :=
  let s := advance dt s
  let t := s.ptp port
  onUnit (decide (port < 2))
    (if s.ptpOn port && (t.p2p || (!t.isMaster && t.master.isSome)) && intervalDone s t.reqAt t.logDelay then
      let time := s.servoClock (t.role - 1) - t.egress
      (sendPtp port (if t.p2p then 3 else 2) t.seq time s).onPtp port
        fun t => { t with reqSent := some (t.seq, time), reqAt := some s.tb1, seq := (t.seq + 1) % 65536, presp := none }
    else s)

/-- TB3_RATE_STEP (R136): once a millisecond of TB1, ADJ of TB3 moves towards ADJ of TB0 by at most
TB3_RATE_STEP; on a standby the pair servo drives it (15 R394). -/
def execTb3RateStep (dt : Nat) (s : State) : Host.Outcome State Fault Refusal :=
  let s := advance dt s
  .next (if s.tim.pairServo || !passed s s.tim.lastRateStep 1 1000 then s
  else
    let lim : Int := (s.tim.tb3Step : Int) * 2 ^ 40 / 1000000000
    let diff := (s.tb 0).adj - (s.tb 3).adj
    setAdj 3 ((s.tb 3).adj + clampI diff (-lim) lim) ((noteAdj s).onTim fun t => { t with lastRateStep := s.tb1 }))

/-- TBF_RELOAD (R144): once a second of the time base while the domain is LOCKED, TBF is loaded from it. -/
def execTbfReload (dt domain : Nat) (s : State) : Host.Outcome State Fault Refusal :=
  let s := advance dt s
  let x := s.dom domain
  let t := s.tb (domTb domain)
  onUnit (decide (domain < 2))
    (if x.st == .locked && x.lastReload != some t.sec then
      let (sec, ns) := toN30 t.t32
      (keepOffset ((s.onTbf fun f => { f with sec, ns, sub := 0 }).onTim fun t => { t with tbfCarry := false })).onDom domain fun x => { x with lastReload := some t.sec }
    else s)

end Sys2Proof.Machine
end

