-- ==== Sys2Proof/Machine/Atan.lean ====
section
/-!
DEFINITION. The correctly rounded phase of a sine/cosine sample (spec/05_web_position.md, R114): the vector is
turned by half a step and then by halves of the quadrant, in fixed point with 256 fraction bits (log 17).
-/
namespace Sys2Proof.Machine

/-- Integer square root by its bits from k - 1 down, starting from r. -/
def isqrtGo (n : Nat) : Nat → Nat → Nat
  | 0, r => r
  | k + 1, r => isqrtGo n k (if (r + 2 ^ k) * (r + 2 ^ k) ≤ n then r + 2 ^ k else r)

/-- Largest r of at most k bits with r * r <= n. -/
def isqrt (k n : Nat) : Nat := isqrtGo n k 0

/-- 1 in the fixed point of the turning vectors. -/
def fpOne : Nat := 2 ^ 256

/-- cos and sin of pi / 2^(k+1), by halving the right angle k times. -/
def halfAngle : Nat → Nat × Nat
  | 0 => (0, fpOne)
  | k + 1 =>
    let c := (halfAngle k).1
    (isqrt 257 (fpOne * ((fpOne + c) / 2)), isqrt 257 (fpOne * ((fpOne - c) / 2)))

/-- The vector turned back by pi / 2^(k+1), in units 2^256 times smaller. -/
def turnBack (k : Nat) (v : Int × Int) : Int × Int :=
  let (c, s) := halfAngle k
  (v.1 * (c : Int) + v.2 * (s : Int), v.2 * (c : Int) - v.1 * (s : Int))

/-- Steps of pi/2048 in the angle of a vector of the upper half plane: from step 2^k down. -/
def phaseGo : Nat → Int × Int → Nat → Nat
  | 0, _, n => n
  | k + 1, v, n =>
    let w := turnBack (10 - k) v
    if 0 ≤ w.2 then phaseGo k w (n + 2 ^ k) else phaseGo k v n

/-- floor(angle * 4096 / (2 pi) + 1/2) of a vector of the first quadrant, y >= 0 and x > 0, or the origin: 0 to 1,024. -/
def quadrantPhase (x y : Int) : Nat :=
  let (c, s) := halfAngle 11
  -- turned on by half a step, pi / 4096
  let v : Int × Int := (x * (c : Int) - y * (s : Int), y * (c : Int) + x * (s : Int))
  phaseGo 11 v 0

/-- The phase of R114: floor(atan2(y, x) * 4096 / (2 pi) + 1/2) mod 4096. -/
def phaseOf (x y : Int) : Nat :=
  if 0 < x ∧ 0 ≤ y then quadrantPhase x y
  else if x ≤ 0 ∧ 0 < y then (1024 + quadrantPhase y (-x)) % 4096
  else if x < 0 ∧ y ≤ 0 then (2048 + quadrantPhase (-x) (-y)) % 4096
  else if y < 0 then (3072 + quadrantPhase (-y) x) % 4096
  else 0

end Sys2Proof.Machine
end

