-- ==== Sys2Proof/Machine/Sec.lean ====
section
/-!
DEFINITION. The SEC commands but SEC_PROTECT_WRITE (spec/04_security_and_debug.md, R89 to R101, R107).
-/
namespace Sys2Proof.Machine

/-- Codes of Table 4-14. -/
def Lifecycle.ofCode : Nat → Lifecycle
  | 0 => .blank | 1 => .provisioned | 2 => .locked | _ => .returned

/-- Codes of Table 4-14. -/
def Debug.ofCode : Nat → Debug
  | 0 => .off | 1 => .observe | _ => .full

/-- A cell of Table 4-10: none where it is unreachable, else whether it allows the active and the
standby role. -/
def stateCell (l : Lifecycle) (d : Debug) (p : Power) : Option (Bool × Bool) :=
  match l, d, p with
  | .blank, _, _ => some (false, false)
  | .returned, _, .p0 => none
  | .returned, _, _ => some (false, false)
  | .locked, .full, _ => none
  | .provisioned, .full, .p0 => none
  | .provisioned, .full, _ => some (false, false)
  | _, _, .p0 => some (true, true)
  | _, _, .p1 => some (true, true)
  | _, _, .p2 => some (false, true)
  | _, _, _ => some (false, false)

/-- The device's present cell allows the active role, the standby role. -/
def State.cell (s : State) : Bool × Bool := (stateCell s.sec.lifecycle s.sec.debug s.thm.power).getD (false, false)

/-- The device holds a pair role (04 R98, R100). -/
def State.pairRole (s : State) : Bool :=
  s.pair.st == .active || s.pair.st == .activeAlone || s.pair.st == .standby || s.pair.st == .joining

/-- Bits of a list of booleans, the first lowest. -/
def bitsOfList (bs : List Bool) : Nat := ((indexed bs).map fun b => if b.2 then 2 ^ b.1 else 0).sum

/-- SEC_STATUS's result (Table 4-14). -/
def secStatusResult (s : State) : List Byte :=
  let c := s.sec
  toLe 1 c.lifecycle.code ++ toLe 1 (Debug.code c.debug) ++ toLe 2 (bitsOfList (c.keys.map Option.isSome))
    ++ toLe 1 (bitsOfList ((indexed c.current).map fun x => x.2 == some (2 * x.1 + 1)))
    ++ toLe 1 c.svnMin ++ toLe 1 c.running.svn ++ toLe 1 (bitsOfList c.fwRevoked)
    ++ toLe 4 c.prot.generation ++ toLe 1 (b2n s.cell.1 + 2 * b2n s.cell.2)

/-- SEC_STATUS (R107). -/
def secStatusEffect (_q : Cmd) (s : State) : Ans := .done (.good (secStatusResult s)) s

/-- SEC_STATUS (R107). -/
def execSecStatus (q : Cmd) (s : State) : Host.Outcome State Fault Refusal := runCmd 0x0201 noParams secStatusEffect q s

/-- Checks of SEC_PROTECT_READ. -/
def secProtectReadCheck (q : Cmd) (_s : State) : Option Reply :=
  firstFail (shape q 16 [(0, 12)] ++ [(addrBad q 0, Reply.bad 0), (decide (q.u32 8 < 192), Reply.err .badLength)])

/-- SEC_PROTECT_READ (R107): the table in force. -/
def secProtectReadEffect (q : Cmd) (s : State) : Ans :=
  let t := s.sec.prot
  .done (.withExt (toLe 4 t.generation ++ toLe 4 t.crcOf) (q.u64 0) t.encode) s

/-- SEC_PROTECT_READ (R107). -/
def execSecProtectRead (q : Cmd) (s : State) : Host.Outcome State Fault Refusal :=
  runCmd 0x0202 secProtectReadCheck secProtectReadEffect q s

/-! Keys (R89 to R93). They are exclusive device-wide, not abortable, and write the NOR copy. -/

/-- The slot is some role's current one. -/
def State.isCurrent (s : State) (slot : Nat) : Bool := s.sec.current.contains (some slot)

/-- An Owner key exists. -/
def State.ownerKeyExists (s : State) : Bool := (s.sec.keys.getD 0 none).isSome || (s.sec.keys.getD 1 none).isSome

/-- The key that SEC_KEY_LOAD carries: clear, or unwrapped under the Owner's current key (R91). -/
def loadedKey (q : Cmd) (s : State) : Option Nat :=
  if q.u8 1 = 0 then some (rd q.params 8 16)
  else match s.roleKey 0 with
    | some k => (kwUnwrap (keyBytes k) (nats (slice q.params 8 24))).map fun bs => leNat (toBytes bs)
    | none => none

/-- Checks of SEC_KEY_LOAD (R91). -/
def secKeyLoadCheck (q : Cmd) (s : State) : Option Reply :=
  firstFail (shape q 32 [(0, 2), (8, 24)] ++
    [ (decide (8 < q.u8 0), Reply.bad 0),
      (decide (1 < q.u8 1), Reply.bad 1),
      (decide (q.u8 1 = 0) && !allZero (slice q.params 24 8), Reply.bad 24),
      (decide (q.u8 1 = 0) && (s.sec.lifecycle != .blank || decide (q.u8 0 ≠ 0) || s.ownerKeyExists), Reply.err .state),
      (decide (q.u8 1 = 1) && (s.roleKey 0).isNone, Reply.err .state),
      (s.isCurrent (q.u8 0), Reply.err .state),
      ((loadedKey q s).isNone, Reply.err .verifyFail) ])

/-- A role's other slot: the one that is not current. -/
def State.otherSlot (s : State) (role : Nat) : Nat :=
  if s.sec.current.getD role none = some (2 * role) then 2 * role + 1 else 2 * role

/-- Checks of SEC_KEY_ROTATE (R92). DESIGN CHOICE (log 108): a role without a current key is ST_STATE too. -/
def secKeyRotateCheck (q : Cmd) (s : State) : Option Reply :=
  firstFail (shape q 8 [(0, 1)] ++
    [ (decide (3 < q.u8 0), Reply.bad 0),
      ((s.sec.current.getD (q.u8 0) none).isNone || (s.sec.keys.getD (s.otherSlot (q.u8 0)) none).isNone, Reply.err .state) ])

/-- Checks of SEC_KEY_REVOKE (R93). -/
def secKeyRevokeCheck (q : Cmd) (s : State) : Option Reply :=
  let slot := q.u8 0
  firstFail (shape q 8 [(0, 1)] ++
    [ (decide (8 < slot) && !(decide (0x10 ≤ slot) && decide (slot ≤ 0x13)), Reply.bad 0),
      (s.sec.current.getD 0 none == some slot, Reply.err .state),
      (decide (slot = 0x10 + s.sec.running.keyIndex), Reply.err .state) ])

/-- The key store as the finished command leaves it (R91 to R93): OPCODE 0x0204, 0x0205 or 0x0206. DESIGN CHOICE (log 109):
EV_KEY_CHANGED of a rotation names the slot that has become current. -/
def changeKeys (op : Nat) (q : Cmd) (s : State) : State :=
  match op with
  | 0x0204 =>
    let slot := q.u8 0
    let s := s.onSec fun c => { c with keys := upd slot (fun _ => loadedKey q s) c.keys }
    let role := slot / 2
    let s := if decide (slot < 8) && (s.sec.current.getD role none).isNone then
        s.onSec fun c => { c with current := upd role (fun _ => some slot) c.current } else s
    post evKeyChanged unitCtl slot 1 s
  | 0x0205 =>
    let role := q.u8 0
    let fresh := s.otherSlot role
    let old := s.sec.current.getD role none
    let s := s.onSec fun c => { c with
      keys := match old with
        | some o => upd o (fun _ => none) c.keys
        | none => c.keys
      current := upd role (fun _ => some fresh) c.current }
    let s := s.onHif fun h => { h with stops := h.stops.filter (· != .role role) }
    post evKeyChanged unitCtl fresh 2 s
  | _ =>
    let slot := q.u8 0
    let s :=
      if 0x10 ≤ slot then s.onSec fun c => { c with fwRevoked := upd (slot - 0x10) (fun _ => true) c.fwRevoked }
      else s.onSec fun c => { c with
        keys := upd slot (fun _ => none) c.keys
        current := c.current.map fun k => if k == some slot then none else k }
    post evKeyChanged unitCtl slot 3 s

/-- The key store as SPI NOR holds it, wrapped under the device's own key (R90); the layout of what is wrapped is the model's (log 12). -/
def wrapStore (keys current : List (Option Nat)) : List Byte :=
  toBytes (kwWrap Config.deviceKey (nats ((keys.flatMap fun k => toLe 16 (k.getD 0))
    ++ toLe 2 (((indexed keys).map fun k => if k.2.isSome then 2 ^ k.1 else 0).sum)
    ++ (current.flatMap fun c => toLe 1 (c.getD 0xFF)) ++ toLe 2 0)))

/-- The key store that a saved copy unwraps to: none where the unwrap check fails (R90). -/
def unwrapStore (copy : List Byte) : Option (List (Option Nat) × List (Option Nat)) :=
  (kwUnwrap Config.deviceKey (nats copy)).map fun ns =>
    let b := toBytes ns
    ((List.range 9).map fun i => if bit (rd b 144 2) i then some (rd b (16 * i) 16) else none,
     (List.range 4).map fun r => if rd b (146 + r) 1 = 0xFF then none else some (rd b (146 + r) 1))

/-- The NOR copy of the key store follows the store (R90). -/
def saveKeys (s : State) : State := s.onNor fun n => { n with keyCopy := wrapStore s.sec.keys s.sec.current }

/-- A key command waits for the NOR copy of the store that it leaves, exclusive device-wide (R90, R107). -/
def keyWrite (op : Nat) (q : Cmd) (s : State) : Ans :=
  let left := (changeKeys op q s).sec
  .wait (beginNor 1 (wrapStore left.keys left.current) q.id (hold q [.device] false s))

/-- SEC_KEY_LOAD (R91). -/
def secKeyLoadEffect (q : Cmd) (s : State) : Ans := keyWrite 0x0204 q s

/-- SEC_KEY_LOAD (R91). -/
def execSecKeyLoad (q : Cmd) (s : State) : Host.Outcome State Fault Refusal := runCmd 0x0204 secKeyLoadCheck secKeyLoadEffect q s

/-- SEC_KEY_ROTATE stops fetching on every ring of the role while it runs (R92). -/
def secKeyRotateEffect (q : Cmd) (s : State) : Ans :=
  keyWrite 0x0205 q (s.onHif fun h => { h with stops := .role (q.u8 0) :: h.stops })

/-- SEC_KEY_ROTATE (R92). -/
def execSecKeyRotate (q : Cmd) (s : State) : Host.Outcome State Fault Refusal :=
  runCmd 0x0205 secKeyRotateCheck secKeyRotateEffect q s

/-- SEC_KEY_REVOKE (R93). -/
def secKeyRevokeEffect (q : Cmd) (s : State) : Ans := keyWrite 0x0206 q s

/-- SEC_KEY_REVOKE (R93). -/
def execSecKeyRevoke (q : Cmd) (s : State) : Host.Outcome State Fault Refusal :=
  runCmd 0x0206 secKeyRevokeCheck secKeyRevokeEffect q s

/-! Lifecycle and debug (R96 to R101). -/

/-- Every ring bound to Owner or Service has AUTH_REQUIRED (rule 0x0105 of Table 4-5). -/
def ProtTable.lockable (t : ProtTable) : Bool := t.rings.all fun e => decide (2 ≤ e.role) || e.authRequired

/-- The transition is in Table 4-8, its condition holds, and its cell is reachable (R96, R101). -/
def mayAdvance (to_ : Lifecycle) (s : State) : Bool :=
  match s.sec.lifecycle, to_ with
  | .blank, .provisioned => (s.roleKey 0).isSome
  | .provisioned, .locked => s.sec.debug != .full && s.sec.prot.lockable
  | .provisioned, .returned => s.thm.power != .p0 && !s.pairRole
  | .locked, .returned => s.thm.power != .p0 && !s.pairRole
  | _, _ => false

/-- Checks of SEC_LIFECYCLE (R96, Table 4-12). -/
def secLifecycleCheck (q : Cmd) (s : State) : Option Reply :=
  firstFail (shape q 8 [(0, 1), (4, 4)] ++
    [ (decide (q.u8 0 = 0) || decide (3 < q.u8 0), Reply.bad 0),
      (q.u32 4 != 0x53454C43, Reply.bad 4),
      (!mayAdvance (Lifecycle.ofCode (q.u8 0)) s, Reply.err .state) ])

/-- Set the debug state; EV_DEBUG_STATE is posted on every change (R98). -/
def setDebug (d : Debug) (s : State) : State :=
  if s.sec.debug = d then s
  else post evDebugState unitCtl (Debug.code s.sec.debug) d.code (s.onSec fun c => { c with debug := d })

/-- A transition's effect (Table 4-8). DESIGN CHOICE (log 110): the fall of debug from FULL to OFF that comes with PROVISIONED does
not reset the device. -/
def advanceLifecycle (to_ : Lifecycle) (s : State) : State :=
  let old := s.sec.lifecycle
  let s := s.onSec fun c => { c with lifecycle := to_ }
  let s := post evLifecycle unitCtl old.code to_.code s
  match to_ with
  | .provisioned => setDebug .off s
  | .returned =>
    let s := s.onSec fun c => { c with
      keys := List.replicate 9 none, current := List.replicate 4 none, counters := List.replicate 32 {} }
    setDebug .full (saveKeys (s.onNor fun n => { n with marks := List.replicate 32 0 }))
  | _ => s

/-- SEC_LIFECYCLE (R96). -/
def secLifecycleEffect (q : Cmd) (s : State) : Ans := .done .good (advanceLifecycle (Lifecycle.ofCode (q.u8 0)) s)

/-- SEC_LIFECYCLE (R96). -/
def execSecLifecycle (q : Cmd) (s : State) : Host.Outcome State Fault Refusal :=
  runCmd 0x0207 secLifecycleCheck secLifecycleEffect q s

/-- Checks of SEC_DEBUG (R98, R101). -/
def secDebugCheck (q : Cmd) (s : State) : Option Reply :=
  let d := Debug.ofCode (q.u8 0)
  firstFail (shape q 8 [(0, 1)] ++
    [ (decide (2 < q.u8 0), Reply.bad 0),
      (decide (q.u8 0 = 2) && s.sec.debug != .full && (s.thm.power == .p0 || s.pairRole || s.sec.lifecycle == .locked), Reply.err .state),
      ((stateCell s.sec.lifecycle d s.thm.power).isNone, Reply.err .state) ])

/-- SEC_DEBUG (R98): from FULL to a lower state the device resets after the completion, cause 5. -/
def secDebugEffect (q : Cmd) (s : State) : Ans :=
  let d := Debug.ofCode (q.u8 0)
  let lowered := s.sec.debug == .full && d != .full
  let s := setDebug d s
  .done .good (if lowered then s.onSec fun c => { c with resetOrdered := some 5 } else s)

/-- SEC_DEBUG (R98). -/
def execSecDebug (q : Cmd) (s : State) : Host.Outcome State Fault Refusal := runCmd 0x0208 secDebugCheck secDebugEffect q s

/-- Checks of SEC_COUNTER_READ (R107): then a role that is not Owner names only its own ring (R475). -/
def secCounterReadCheck (q : Cmd) (s : State) : Option Reply :=
  firstFail (shape q 8 [(0, 2)] ++
    [ (decide (7 < q.u8 0), Reply.bad 0),
      (decide (3 < q.u8 1) && q.u8 1 != 0xFF, Reply.bad 1),
      (q.u8 0 != q.ring && s.cmdRole q != 0, Reply.err .denied) ])

/-- SEC_COUNTER_READ (R107): L and J of a ring and role. -/
def secCounterReadEffect (q : Cmd) (s : State) : Ans :=
  let role := if q.u8 1 = 0xFF then (s.ring (q.u8 0)).role else q.u8 1
  let c := s.sec.counters.getD (4 * q.u8 0 + role) {}
  .done (.good (toLe 8 c.last ++ toLe 8 c.mark)) s

/-- SEC_COUNTER_READ (R107). -/
def execSecCounterRead (q : Cmd) (s : State) : Host.Outcome State Fault Refusal :=
  runCmd 0x0209 secCounterReadCheck secCounterReadEffect q s

end Sys2Proof.Machine
end

