-- ==== Sys2Proof/Machine/Time.lean ====
section
/-!
DEFINITION. The TIME commands but TIME_TRIGGER, and captures (spec/06_time_bases.md, R146, R149, R152 to
R155).
-/
namespace Sys2Proof.Machine

/-! TIME_CONFIG (Table 6-3). -/

/-- Checks of TIME_CONFIG. -/
def timeConfigCheck (q : Cmd) (_s : State) : Option Reply :=
  let lock := orDefault (q.u16 2) 100
  firstFail (shape q 24 [(0, 24)] ++
    [ (decide (1 < q.u8 0), Reply.bad 0),
      (extraBits (q.u8 1) 1, Reply.bad 1),
      (decide (10000 < lock), Reply.bad 2),
      (decide (orDefault (q.u16 4) 1000 ≤ lock), Reply.bad 4),
      (decide (500 < q.u16 6), Reply.bad 6),
      (q.u32 16 != 0 && (decide (q.u32 16 < 100) || decide (1000000000 < q.u32 16)), Reply.bad 16),
      (decide (10000 < q.u16 22), Reply.bad 22) ])

/-- TIME_CONFIG: a change of servo parameters applies from the next sample (R154). -/
def timeConfigEffect (q : Cmd) (s : State) : Ans :=
  let s := s.onDom (q.u8 0) fun d => { d with
    test := bit (q.u8 1) 0, lockNs := orDefault (q.u16 2) 100, unlockNs := orDefault (q.u16 4) 1000
    joinPpm := orDefault (q.u16 6) 100, kp := q.u32 8, ki := q.u32 12, stepNs := orDefault (q.u32 16) 1000
    warnS := orDefault (q.u16 20) 600 }
  .done .good (if q.u8 0 = 0 then s.onTim fun t => { t with tb3Step := orDefault (q.u16 22) 1000 } else s)

/-- TIME_CONFIG (R154). -/
def execTimeConfig (q : Cmd) (s : State) : Host.Outcome State Fault Refusal := runCmd 0x0901 timeConfigCheck timeConfigEffect q s

/-! TIME_READ (Tables 6-4, 6-5). -/

/-- The code of a PTP state (Table 6-12). -/
def Ptp.code : Ptp → Nat
  | .off => 0 | .acquiring => 1 | .joining => 2 | .locked => 3 | .holdover => 4 | .recovering => 5 | .master => 6 | .test => 7

/-- Checks of TIME_READ: ADDR 0 asks for no snapshot on PCIe. -/
def timeReadCheck (q : Cmd) (s : State) : Option Reply :=
  firstFail (shape q 16 [(0, 1), (8, 8)] ++
    [ (decide (3 < q.u8 0) && q.u8 0 != 0x0F, Reply.bad 0), (addrBad q 8, Reply.bad 8),
      (s.isRetired (0x0D00 + q.u8 0), Reply.errUnit .retired 0 (0x0D00 + q.u8 0)) ])

/-- The snapshot (Table 6-5), latched in one TB clock. -/
def timeSnapshot (s : State) : List Byte :=
  (s.tim.tb.flatMap fun t => encT t.t32) ++ encN30 s.latchedTbf.1 s.latchedTbf.2.1
    ++ toLeS 4 (s.tb 0).adj ++ toLeS 4 (s.tb 2).adj ++ toLeS 4 (s.tb 3).adj

/-- TIME_READ (Table 6-4). -/
def timeReadEffect (q : Cmd) (s : State) : Ans :=
  let n := q.u8 0
  let value := if n = 0x0F then encN30 s.latchedTbf.1 s.latchedTbf.2.1 else encT (s.tb n).t32
  let st := if n = 0 || n = 0x0F then (s.dom 0).st.code else if n = 2 then (s.dom 1).st.code else 0
  let ext := if q.src.isNone && q.u64 8 == 0 then [] else timeSnapshot s
  .done (.withExt (value ++ toLe 1 st) (q.u64 8) ext) s

/-- TIME_READ (R154). -/
def execTimeRead (q : Cmd) (s : State) : Host.Outcome State Fault Refusal := runCmd 0x0902 timeReadCheck timeReadEffect q s

/-! TIME_STEP (R146). -/

/-- Checks of TIME_STEP (R146). -/
def timeStepCheck (q : Cmd) (s : State) : Option Reply :=
  let st := (s.dom (q.u8 0 / 2)).st
  firstFail (shape q 24 [(0, 2), (4, 12)] ++
    [ (q.u8 0 != 0 && q.u8 0 != 2, Reply.bad 0),
      (decide (1 < q.u8 1), Reply.bad 1),
      (s.isRetired (0x0D00 + q.u8 0), Reply.errUnit .retired 0 (0x0D00 + q.u8 0)),
      ((decide (q.u8 0 = 0) && s.fire.run.isSome) || st == .joining || st == .locked || st == .test, Reply.err .state) ])

/-- TIME_STEP (R146): by an offset, or to a value. -/
def timeStepEffect (q : Cmd) (s : State) : Ans :=
  let n := q.u8 0
  let t := s.tb n
  let sec := rdS q.params 8 8
  let frac := rd q.params 4 4 * 2 ^ 32
  if q.u8 1 = 1 then .done .good (stepTb n sec frac s)
  else
    let total := t.frac + frac
    .done .good (stepTb n (t.sec + sec + (total / 2 ^ 64 : Nat)) (total % 2 ^ 64) s)

/-- TIME_STEP (R146). -/
def execTimeStep (q : Cmd) (s : State) : Host.Outcome State Fault Refusal := runCmd 0x0903 timeStepCheck timeStepEffect q s

/-! TIME_PTP_CONFIG (R139, R140, Table 6-7). -/

/-- Only one port of a domain may be master-capable (R140). -/
def masterClash (q : Cmd) (s : State) : Bool :=
  let o := s.ptp (1 - q.u8 0)
  q.u8 1 != 0 && o.role == q.u8 1 && o.masterCapable && bit (q.u8 3) 2

/-- Checks of TIME_PTP_CONFIG. -/
def timePtpConfigCheck (q : Cmd) (s : State) : Option Reply :=
  firstFail (shape q 32 [(0, 11), (12, 2), (16, 8)] ++
    [ (decide (1 < q.u8 0), Reply.bad 0),
      (decide (2 < q.u8 1), Reply.bad 1),
      (decide (127 < q.u8 2), Reply.bad 2),
      (extraBits (q.u8 3) 15 || masterClash q s, Reply.bad 3),
      (decide (q.s8 4 < -7) || decide (1 < q.s8 4), Reply.bad 4),
      (decide (q.s8 5 < -7) || decide (5 < q.s8 5), Reply.bad 5),
      (decide (q.s8 6 < -3) || decide (4 < q.s8 6), Reply.bad 6),
      (q.u8 7 == 1 || decide (10 < q.u8 7), Reply.bad 7),
      (q.u16 12 != 0 && decide (q.u16 12 < 20), Reply.bad 12),
      (s.isRetired (unitEth (q.u8 0)), Reply.errUnit .retired 0 (unitEth (q.u8 0))),
      (!(s.hif.eth.getD (q.u8 0) {}).enable, Reply.errUnit .state 0 (unitEth (q.u8 0))) ])

/-- The parameters of TIME_PTP_CONFIG on a port. -/
def PtpPort.configured (q : Cmd) (t : PtpPort) : PtpPort :=
  { t with
    role := q.u8 1, domainNumber := q.u8 2, p2p := bit (q.u8 3) 0, l2 := bit (q.u8 3) 1
    masterCapable := bit (q.u8 3) 2, twoStep := bit (q.u8 3) 3
    logSync := q.s8 4, logDelay := q.s8 5, logAnnounce := q.s8 6
    announceTimeout := orDefault (q.u8 7) 3, priority1 := q.u8 8, priority2 := q.u8 9
    clockClass := orDefault (q.u8 10) 248, pathStepNs := orDefault (q.u16 12) 200
    ingress := q.s32 16, egress := q.s32 20 }

/-- What a port keeps when it serves another domain: nothing of the old one but its ASYM. -/
def PtpPort.fresh (t : PtpPort) : PtpPort := { asym := t.asym }

/-- A domain starts again from nothing: OFF without a port, else ACQUIRING (Table 6-2); a port in MASTER whose domain both ports now
serve, or that is no longer master-capable, becomes a slave (R140). -/
def settleDomain (d : Nat) (s : State) : State :=
  let served := (s.ptp 0).role == d + 1 || (s.ptp 1).role == d + 1
  if !served then
    setPtp d .off (s.onDom d fun x => { x with servoPort := none, gm := none, slewing := false, holdSince := none })
  else
    let s := [0, 1].foldl (fun s p => if (s.ptp p).role == d + 1 && (s.ptp p).isMaster && !s.mayMaster p then leaveMaster d p s else s) s
    if (s.dom d).st == .off then setPtp d .acquiring s
    else match (s.dom d).servoPort with
      | some p => if (s.ptp p).role == d + 1 then s else s.onDom d fun x => { x with servoPort := none }
      | none => s

/-- TIME_PTP_CONFIG (R139, R140): a change of role takes the port out of its old domain, and one of the delay profile discards the
delay exchanges measured under the other. -/
def timePtpConfigEffect (q : Cmd) (s : State) : Ans :=
  let p := q.u8 0
  let old := (s.ptp p).role
  let s := if old = q.u8 1 then s else s.onPtp p PtpPort.fresh
  let s := if (s.ptp p).p2p = bit (q.u8 3) 0 then s
    else s.onPtp p fun t => { t with exchange := none, reqSent := none, presp := none }
  let s := s.onPtp p (PtpPort.configured q)
  let s := if old = q.u8 1 then s else s.onPtp p fun t => { t with lastAnnounce := some s.tb1 }
  .done .good (reportGroups p (settleDomain 1 (settleDomain 0 s)))

/-- TIME_PTP_CONFIG (R139). -/
def execTimePtpConfig (q : Cmd) (s : State) : Host.Outcome State Fault Refusal :=
  runCmd 0x0904 timePtpConfigCheck timePtpConfigEffect q s

/-- Checks of TIME_ASYMMETRY. -/
def timeAsymmetryCheck (q : Cmd) (s : State) : Option Reply :=
  firstFail (shape q 8 [(0, 1), (4, 4)] ++ [(decide (1 < q.u8 0), Reply.bad 0),
    (s.isRetired (unitEth (q.u8 0)), Reply.errUnit .retired 0 (unitEth (q.u8 0)))])

/-- TIME_ASYMMETRY (R149): the new value applies to the port's next sample. -/
def timeAsymmetryEffect (q : Cmd) (s : State) : Ans := .done .good (s.onPtp (q.u8 0) fun t => { t with asym := q.s32 4 })

/-- TIME_ASYMMETRY (R149). -/
def execTimeAsymmetry (q : Cmd) (s : State) : Host.Outcome State Fault Refusal :=
  runCmd 0x0905 timeAsymmetryCheck timeAsymmetryEffect q s

/-! TIME_STATUS (R155). -/

/-- Checks of TIME_STATUS. -/
def timeStatusCheck (q : Cmd) (_s : State) : Option Reply :=
  firstFail (shape q 16 [(0, 1), (8, 8)] ++ [(decide (1 < q.u8 0), Reply.bad 0), (addrBad q 8, Reply.bad 8)])

/-- The mean of a port's last 16 offsets, ns. -/
def PtpPort.mean (t : PtpPort) : Int := if t.offsets.isEmpty then 0 else t.sum.fdiv t.offsets.length

/-- The TIME_STATUS structure (Table 6-13). -/
def timeStatusBlock (d : Nat) (s : State) : List Byte :=
  let x := s.dom d
  let g := x.gm.getD {}
  let adj := if x.onTbf then s.tim.tbf.adj else (s.tb (domTb d)).adj
  toBytes (toBe 8 g.identity) ++ toLe 1 g.priority1 ++ toLe 1 g.priority2 ++ toLe 1 g.clockClass ++ toLe 1 0
    ++ toLe 2 g.stepsRemoved ++ toLe 2 g.utcOffset ++ toLeS 4 adj ++ toLeS 4 (sar x.integ 16)
    ++ toLeS 8 (if x.st = .joining then s.joinRemain d else 0)
    ++ (s.tim.ports.flatMap fun t => toLeS 4 (sar t.mpd 16))
    ++ (s.tim.ports.flatMap fun t => toLeS 4 (satS 32 t.mean))
    ++ (s.tim.ports.flatMap fun t => toLeS 4 t.asym)

/-- TIME_STATUS (R155, Tables 6-12 and 6-13). -/
def timeStatusEffect (q : Cmd) (s : State) : Ans :=
  let d := q.u8 0
  let x := s.dom d
  let flags := b2n (s.ptp 0).hold.isSome + 2 * b2n (s.ptp 1).hold.isSome + 4 * b2n x.disagree + 8 * b2n ((x.gm.map (·.utcValid)).getD false)
  let mpd := match x.servoPort with
    | some p => sar ((s.ptp p).refMpd.getD 0) 16
    | none => 0
  let held := match x.holdSince with
    | some t => if x.st = .holdover ∨ x.st = .recovering then (s.tb1 - t).fdiv (2 ^ 32) else 0
    | none => 0
  .done (.withExt (toLe 1 x.st.code ++ toLe 1 (x.servoPort.getD 0xFF) ++ toLe 2 flags ++ toLeS 4 (satS 32 x.lastE)
      ++ toLeS 4 mpd ++ toLeS 4 held) (q.u64 8) (timeStatusBlock d s)) s

/-- TIME_STATUS (R155). -/
def execTimeStatus (q : Cmd) (s : State) : Host.Outcome State Fault Refusal := runCmd 0x0908 timeStatusCheck timeStatusEffect q s

/-! Captures (R152, R153). -/

/-- A channel's position at TB3 time t, extrapolated from its newest pair (R152): the estimate and the
pair's position in 2^-32 frets, the age in ns, and NO_EXTRAP; none without a pair or a valid scale. -/
def Channel.estimate (c : Channel) (t : Int) : Option (Int × Int × Nat × Bool) :=
  match c.scale, c.pairs with
  | some _, p :: _ =>
    let dt := t - p.time
    let age := (min 0xFFFFFFFF (max 0 (tNs dt))).toNat
    if c.speedValid && decide (0 ≤ dt) && decide (dt * 1000 ≤ 2 ^ 32) then some (p.pos + sar (c.speed * dt) 32, p.pos, age, false)
    else some (p.pos, p.pos, age, true)
  | _, _ => none

/-- The channel a capture watches: an encoder, or the web position's. -/
def State.watched (s : State) (ch : Nat) : Option Channel :=
  if ch = 0xFF then s.pos.web.map s.chan else s.pos.ch[ch]?

/-- An entry latched now (R152, Table 6-11). TBF_FIXED is set where firmware has corrected TBF's seconds (19 A1-02, R474). -/
def captureEntry (ch : Nat) (overflow : Bool) (seq : Nat) (s : State) : CaptureEntry :=
  let est := (s.watched ch).bind fun c => c.estimate s.tb3
  let base : CaptureEntry :=
    { tbs := s.tim.tb.map fun t => (t.sec, t.frac / 2 ^ 32), tbfSec := s.latchedTbf.1, tbfNs := s.latchedTbf.2.1, seq }
  let fixed := 4 * b2n s.latchedTbf.2.2 + 8 * b2n overflow
  match est with
  | some (e, p, age, no) => { base with estPos := e, pairPos := p, ageNs := age, flags := b2n no + fixed }
  | none => { base with estPos := -(2 : Int) ^ 95, pairPos := -(2 : Int) ^ 95, flags := 3 + fixed }

/-- A capture unit latches (R152, R153): while a calibration holds the unit, the position is one of its
marks (05 R129); else a full unit drops and counts; the run of drops is reported when the
next entry is stored. -/
def latchCapture (u : Nat) (s : State) : State :=
  let c := s.tim.captures.getD u {}
  let put (f : Capture → Capture) (s : State) := s.onTim fun t => { t with captures := upd u f t.captures }
  if !c.enable then s
  else if s.pos.ch.any (fun x => (x.calib.map (·.capture)) == some u) then
    s.onPos fun p => { p with ch := p.ch.map fun x => match x.calib with
      | some k =>
        if k.capture = u && k.marks.length ≤ k.intervals then
          { x with calib := some { k with marks := ((x.estimate s.tb3).map (·.1)).toList ++ k.marks } }
        else x
      | none => x }
  else if 16 ≤ c.entries.length then
    bump (ctr 3 0 6) 1 (put (fun c => { c with lost := c.lost + 1, dropRun := c.dropRun + 1, seq := c.seq + 1 }) s)
  else
    let e := captureEntry c.channel (decide (0 < c.dropRun)) ((c.seq + 1) % 2 ^ 32) s
    let s := if 0 < c.dropRun then post evCaptureOverflow (0x0D20 + u) u (u32 c.dropRun) s else s
    put (fun c => { c with entries := c.entries ++ [e], seq := (c.seq + 1) % 2 ^ 32, dropRun := 0 }) s

/-- Every enabled capture unit with a source latches. -/
def latchFrom (source index : Nat) (s : State) : State :=
  (List.range 16).foldl (fun s u =>
    let c := s.tim.captures.getD u {}
    if c.enable && c.source == source && c.index == index then latchCapture u s else s) s

/-- An entry's bytes (Table 6-11). Positions are in 2^-32 frets. -/
def encCapture (e : CaptureEntry) : List Byte :=
  (e.tbs.flatMap fun t => toLe 4 t.2 ++ toLeS 8 t.1) ++ encN30 e.tbfSec e.tbfNs
    ++ toLeS 8 (e.estPos.fdiv (2 ^ 32)) ++ toLe 4 (e.estPos.fmod (2 ^ 32)).toNat
    ++ toLeS 8 (e.pairPos.fdiv (2 ^ 32)) ++ toLe 4 (e.pairPos.fmod (2 ^ 32)).toNat
    ++ toLe 4 e.ageNs ++ toLe 4 e.flags ++ toLe 4 e.seq

/-- Checks of TIME_CAPTURE (Table 6-10). -/
def timeCaptureCheck (q : Cmd) (s : State) : Option Reply :=
  let op := q.u8 1
  firstFail (shape q 16 [(0, 7), (8, 8)] ++
    [ (decide (15 < q.u8 0), Reply.bad 0),
      (decide (3 < op), Reply.bad 1),
      (op == 0 && decide (3 < q.u8 2), Reply.bad 2),
      (op == 0 && decide (q.u8 2 < 3) && decide (15 < q.u8 3), Reply.bad 3),
      (op == 0 && decide (2 < q.u8 4), Reply.bad 4),
      (op == 0 && decide (3 < q.u8 5) && q.u8 5 != 0xFF, Reply.bad 5),
      (op == 1 && (q.u8 6 == 0 || decide (16 < q.u8 6) || (q.src.isSome && decide (14 < q.u8 6))), Reply.bad 6),
      (addrBad q 8, Reply.bad 8),
      (s.isRetired (0x0D20 + q.u8 0), Reply.errUnit .retired 0 (0x0D20 + q.u8 0)),
      (s.holding (.capture (q.u8 0)), Reply.errUnit .busy 0 (0x0D20 + q.u8 0)),
      (op == 3 && !(s.tim.captures.getD (q.u8 0) {}).enable, Reply.errUnit .state 0 (0x0D20 + q.u8 0)) ])

/-- TIME_CAPTURE (R152, R153): configure, which reports a run of drops that it ends, read, disable, capture now. -/
def timeCaptureEffect (q : Cmd) (s : State) : Ans :=
  let u := q.u8 0
  let put (f : Capture → Capture) (s : State) := s.onTim fun t => { t with captures := upd u f t.captures }
  let result (n : Nat) (s : State) : List Byte :=
    let c := s.tim.captures.getD u {}
    toLe 1 n ++ toLe 1 c.entries.length ++ toLe 2 0 ++ toLe 4 c.lost
  match q.u8 1 with
  | 0 =>
    let lost := (s.tim.captures.getD u {}).dropRun
    let s := if 0 < lost then post evCaptureOverflow (0x0D20 + u) u (u32 lost) s else s
    let s := put (fun _ => { enable := true, source := q.u8 2, index := q.u8 3, edge := q.u8 4, channel := q.u8 5 }) s
    .done (.good (result 0 s)) s
  | 1 =>
    let got := (s.tim.captures.getD u {}).entries.take (q.u8 6)
    let s := put (fun c => { c with entries := c.entries.drop (q.u8 6) }) s
    .done (.withExt (result got.length s) (q.u64 8) (got.flatMap encCapture)) s
  | 2 =>
    let s := put (fun c => { c with enable := false }) s
    .done (.good (result 0 s)) s
  | _ =>
    let s := latchCapture u s
    .done (.good (result 0 s)) s

/-- TIME_CAPTURE (R153). -/
def execTimeCapture (q : Cmd) (s : State) : Host.Outcome State Fault Refusal := runCmd 0x0907 timeCaptureCheck timeCaptureEffect q s

/-! Starts of triggers (R150). -/

/-- A start reaches a trigger unit: one armed on start takes T = now + its delay; any other ignores it. -/
def startTrigger (u : Nat) (s : State) : State :=
  let t := s.tim.triggers.getD u {}
  if t.mode ≠ 2 then s
  else s.onTim fun x => { x with triggers := upd u (fun t => { t with running := true, t := (s.tb t.tb).t48 + t.delay }) x.triggers }

end Sys2Proof.Machine
end

