-- ==== Sys2Proof/Machine/Pos.lean ====
section
/-!
DEFINITION. Web position and speed: samples, pairs, speed, index pulses, faults, scale changes, the backup,
compare units, calibrations (spec/05_web_position.md, R109 to R132).
-/
namespace Sys2Proof.Machine

/-- Change one channel. -/
def State.onChan (ch : Nat) (f : Channel → Channel) (s : State) : State := s.onPos fun p => { p with ch := upd ch f p.ch }

/-- Change one compare unit. -/
def State.onCmp (u : Nat) (f : Compare → Compare) (s : State) : State := s.onPos fun p => { p with cmp := upd u f p.cmp }

/-- Counts in a check unit (Table 5-1). -/
def Channel.unit (c : Channel) : Int := if c.mode = 2 then 1024 else 1

/-- Counts of three signal periods (R122). -/
def Channel.validSpan (c : Channel) : Nat := if c.mode = 2 then 12288 else 12

/-- SCALE is in range: 2^-16 to 65,536 frets per count (R115). -/
def scaleOk (sc : Nat) : Bool := decide (2 ^ 16 ≤ sc) && decide (sc ≤ 2 ^ 48)

/-- The position that a channel without a valid scale reads (R115), in 2^-32 frets. -/
def noPosition : Int := -(2 : Int) ^ 95

/-- The channel carries the web role. -/
def State.isWeb (s : State) (ch : Nat) : Bool := s.pos.web == some ch

/-! Calibrations (R129) and scale changes (R116). -/

/-- Whatever spoils a calibration (R129). -/
def Channel.spoil (c : Channel) : Channel := { c with calib := c.calib.map fun k => { k with spoilt := true } }

/-- A new scale takes effect: the position does not move; with the first valid scale it starts at 0 unless a
SET_POSITION has acted (R116). -/
def Channel.rebase (sc : Nat) (c : Channel) : Channel :=
  match c.posQ with
  | some q => { c with q0 := q, k0 := c.k, scale := some sc, pend := none }
  | none =>
    let c := { c with scale := some sc, pend := none, pairs := [], hist := 0 }
    if c.posSet then c else { c with q0 := 0, k0 := c.k }

/-- A command that ordered a scale completes (R116); a calibration tells what it found (R129). -/
def orderDone (ch : Nat) (s : State) (o : ScaleOrder) : State :=
  match o.calib with
  | none => finish o.cmd .good s
  | some (ppm, old) =>
    let s := post evPosCalibrated (unitEnc ch) ch (p32 ppm) s
    finish o.cmd (.good (toLe 8 o.scale ++ toLe 8 old)) (stateRecord (toLe 1 2 ++ toLe 1 ch ++ toLe 8 o.scale) s)

/-- The newest waiting scale of a channel takes effect, and the commands that wait complete (R116, R129). -/
def applyScale (ch : Nat) (s : State) : State :=
  match (s.chan ch).pend with
  | none => s
  | some p => p.orders.foldl (orderDone ch) (s.onChan ch (Channel.rebase ((p.orders.getLast?.map (·.scale)).getD 0)))

/-- A scale ordered for a channel (R116): in digital mode the next sample is the next POS clock, so it takes
effect at once; in sine/cosine mode at the next conversion; on the web channel in a run after the next frame
boundary. DESIGN CHOICE (log 122): of several that wait the newest scale takes effect and all their commands complete with it. -/
def orderScale (ch : Nat) (o : ScaleOrder) (s : State) : State :=
  let boundary := s.isWeb ch && s.fire.run.isSome
  let older := ((s.chan ch).pend.map (·.orders)).getD []
  let s := s.onChan ch fun c => { c with pend := some { orders := older ++ [o], boundary } }
  if boundary || (s.chan ch).mode == 2 then s else applyScale ch s

/-- The marks of a calibration are all there: judge it (R129). It stays abortable until its scale takes effect. -/
def judgeCalib (ch : Nat) (k : Calib) (s : State) : State :=
  let c := s.chan ch
  let ms := (k.marks.zip k.marks.tail).map fun m => (m.1 - m.2).natAbs
  let sum := ms.sum
  let num := k.intervals * k.spacingNm * 48 * 2 ^ 32
  let den := 15875 * sum
  let big := (ms.max?).getD 0
  let small := (ms.min?).getD 0
  let old := c.scale.getD 0
  let new := if den = 0 then 0 else (2 * old * num + den) / (2 * den)
  let off := ((num : Int) - den).natAbs
  let s := s.onChan ch fun c => { c with calib := none }
  if den = 0 || decide (k.limitBp * den < off * 10000) || decide (k.spreadPpm * sum < (big - small) * k.intervals * 1000000)
      || k.spoilt || !scaleOk new then finish k.cmd (.err .rejected) s
  else
    let ppm := (((num : Int) - den) * 1000000).tdiv den
    orderScale ch { cmd := k.cmd, scale := new, calib := some (ppm, old) } s

/-- Judge every calibration whose marks are complete. -/
def settleCalibs (s : State) : State :=
  (List.range 4).foldl (fun s ch => match (s.chan ch).calib with
    | some k => if k.intervals < k.marks.length then judgeCalib ch k s else s
    | none => s) s

/-! Compare units (R127, R128). -/

/-- D of a compare unit. -/
def Compare.sgn (c : Compare) : Int := if c.reverse then -1 else 1

/-- A compare unit fires (R127, R128): its actions, then its count and its next value. The event's position is V
and its time the TB0 time of the confirming pair. -/
def fireCompare (u : Nat) (late : Bool) (pairTime : Int) (s : State) : State :=
  let c := s.pos.cmp.getD u {}
  let left := c.count - 1
  let last := c.count == 1
  let on := c.period != 0 && !last
  let s := s.onCmp u fun c => { c with
    count := if c.count = 0 then 0 else left, armed := on, behind := false
    value := if on then c.value + c.sgn * c.period else c.value }
  let s := match c.gpio with
    | some g => s.emit (.pulse (.gpio g) (125 * c.pulseUs))
    | none => s
  let s := match c.trigger with
    | some t => startTrigger t s
    | none => s
  let s := latchFrom 1 u s
  let s := match c.capture with
    | some k => if (s.tim.captures.getD k {}).source == 1 && (s.tim.captures.getD k {}).index == u then s else latchCapture k s
    | none => s
  let s := settleCalibs s
  if c.post then
    let t := s.tb0 - (s.tb3 - pairTime)
    let e := mkEvent evCompareFired (0x0E10 + u) u (b2n late) false s
    postEntry { e with pos := some c.value, sec := ((t.fdiv (2 ^ 32)).emod (2 ^ 32)).toNat, frac := (t.fmod (2 ^ 32)).toNat } s
  else s

/-- The channel that a compare unit watches. -/
def State.cmpChan (s : State) (c : Compare) : Option Nat := match c.ch with
  | some n => some n
  | none => s.pos.web

/-- What a new P does to an armed unit (R127). DESIGN CHOICE (log 124): counts, positions and values are integers without bound, since R10
does not say what a signed 64-bit count of frets does beyond its range. -/
def compareStep (u : Nat) (p t : Int) (s : State) : State :=
  let c := s.pos.cmp.getD u {}
  let x := c.sgn * (p - c.value)
  if !c.armed then s
  else if c.behind then (if x < 0 then s.onCmp u fun c => { c with behind := false } else s)
  else if 4 ≤ x then fireCompare u false t s else s

/-- The newest pair of a channel reaches the compare units that watch it. -/
def compareAll (ch : Nat) (s : State) : State :=
  match (s.chan ch).scale, (s.chan ch).pairs with
  | some _, p :: _ => (List.range 16).foldl (fun s u =>
      if s.cmpChan (s.pos.cmp.getD u {}) == some ch then compareStep u (p.pos.fdiv (2 ^ 32)) p.time s else s) s
  | _, _ => s

/-! The backup (R125, R126). -/

/-- Both channels can set the offset: valid speed, a position, no permanent fault. -/
def State.backupReady (s : State) (w b : Nat) : Bool :=
  let ok (n : Nat) : Bool := (s.chan n).speedValid && (s.chan n).scale.isSome && !(s.chan n).retired && !s.isDoomed (unitEnc n)
  ok w && ok b

/-- Set O where both channels allow it (R125). -/
def setBackupOffset (s : State) : State :=
  match s.pos.web, s.pos.backup with
  | some w, some b =>
    if s.backupReady w b.ch then
      match (s.chan w).posQ, (s.chan b.ch).posQ with
      | some pw, some pb => s.onPos fun p => { p with backup := p.backup.map fun b => { b with off := some (pw - pb), since := s.tb1 } }
      | _, _ => s
    else s
  | _, _ => s

/-- Check the divergence (R125): once beyond the limit, re-armed below half of it. -/
def checkDivergence (s : State) : State :=
  match s.pos.web, s.pos.backup with
  | some w, some b =>
    match (s.chan w).posQ, (s.chan b.ch).posQ, b.off with
    | some pw, some pb, some o =>
      let d := (pw - pb - o).natAbs
      let s := bumpMax (ctr 2 0 4) ((d / 2 ^ 32 : Nat) : Int) s
      if b.armed && decide (b.limit * 2 ^ 32 < d) then
        let s := s.onPos fun p => { p with backup := p.backup.map fun b => { b with armed := false } }
        post evEncoderDiverged (unitEnc w) w (u32 (d / 2 ^ 32)) (s.onChan w fun c => { c with diverged := true })
      else if !b.armed && decide (2 * d < b.limit * 2 ^ 32) then
        s.onPos fun p => { p with backup := p.backup.map fun b => { b with armed := true } }
      else s
    | _, _, _ => s
  | _, _ => s

/-- The fail-over at the first sample of the backup after the verdict (R126): O is folded into its Q0, and its
pairs move with it. -/
def takeFailover (ch : Nat) (s : State) : State :=
  match s.pos.failover, s.pos.backup with
  | some (w, lastPos), some b =>
    if b.ch ≠ ch then s
    else
      let o := b.off.getD (lastPos - ((s.chan ch).posQ.getD lastPos))
      let s := s.onChan ch fun c => { c with q0 := c.q0 + o, pairs := c.pairs.map fun p => { p with pos := p.pos + o } }
      let s := s.onPos fun p => { p with web := some ch, backup := none, failover := none }
      let s := bump (ctr 2 0 7) 1 s
      stateRecord (toLe 1 5 ++ toLe 1 ch) (post evEncoderFailover (unitEnc w) w ch s)
  | _, _ => s

/-! Faults (R111, R114, R124). -/

/-- An illegal transition or a signal fault counts (R122, R124, R129): the tally restarts, the sixteenth within
any 1 ms is permanent. -/
def encoderFault (ch : Nat) (s : State) : State :=
  let s := s.onChan ch fun c => { c.spoil with
    tally := c.k, faults := s.tb1 :: c.faults.filter fun t => within s t 1 1000 }
  if 16 ≤ (s.chan ch).faults.length then doom (unitEnc ch) 0x10 s else s

/-- An illegal transition (R111). -/
def illegalStep (ch : Nat) (s : State) : State :=
  let s := encoderFault ch (s.onChan ch fun c => { c with illegal := true })
  let s := if s.isWeb ch then bump (ctr 2 0 0) 1 s else s
  postLimited evEncoderIllegal (unitEnc ch) ch (s.chan ch).faults.length 1 1000 false s

/-- A signal fault (R114): 1 amplitude, 2 phase jump, 3 converter timeout; posted once a millisecond for each cause. -/
def signalFault (ch cause : Nat) (s : State) : State :=
  let s := encoderFault ch (s.onChan ch fun c => { c with signal := true })
  let s := if s.isWeb ch then bump (ctr 2 0 1) 1 s else s
  postKeyed evEncoderSignal (unitEnc ch + 65536 * cause) (unitEnc ch) ch cause 1 1000 false s

/-- A converter timeout (R113, R124): on every conversion for 1 ms it is permanent. -/
def converterTimeout (ch : Nat) (s : State) : State :=
  let s := signalFault ch 3 s
  let s := s.onChan ch fun c => { c with timeoutSince := c.timeoutSince.orElse fun _ => some s.tb1 }
  match (s.chan ch).timeoutSince with
  | some t => if passed s t 1 1000 then doom (unitEnc ch) 0x12 s else s
  | none => s

/-! Pairs and speed (R117 to R122). -/

/-- The speed of a new pair from the kept history (R118): none when no reference pair exists. -/
def speedFrom (digital : Bool) (window : Nat) (n : Pair) (hist : List Pair) : Option Int :=
  let fit := hist.filter fun m => !digital || (n.n - m.n) % 4 == 0
  let far := fit.find? fun m => decide ((window : Int) * 2 ^ 32 ≤ (n.time - m.time) * 1000000000)
  match far.orElse fun _ => fit.getLast? with
  | some m => some (((n.pos - m.pos) * 2 ^ 32).tdiv (n.time - m.time))
  | none => none

/-- Form the pair of a sample with its estimate (R117 to R119): a change of direction, or the first movement
after a stall, makes it the first of a new history. -/
def Channel.addPair (time delta : Int) (restart : Bool) (c : Channel) : Channel :=
  let p : Pair := { pos := c.posQ.getD noPosition, time, n := c.pairN }
  let fresh := restart || decide (delta * c.lastDelta < 0)
  let old := if fresh then [] else c.pairs.take (min 63 c.hist)
  let est := if c.scale.isNone then none else speedFrom (c.mode == 1) c.window p old
  { c with
    pairs := (p :: c.pairs).take 64, hist := old.length + 1, pairN := c.pairN + 1
    lastDelta := if delta = 0 then c.lastDelta else delta.sign
    speed := est.getD 0, made := est.isSome }

/-- Direction of travel (R120): the first is established, later ones are recognised reversals. The turning count
of a reversal comes with the channel. -/
def Channel.travel (c : Channel) : Channel × Option Int :=
  let h := (c.revHyst : Int) * c.unit
  let moved := c.k - c.furthest
  if c.dir = 0 then
    (if h ≤ moved.natAbs then { c with dir := moved.sign, furthest := c.k } else c, none)
  else if 0 < c.dir * moved then ({ c with furthest := c.k }, none)
  else if h ≤ -(c.dir * moved) then ({ c with dir := -c.dir, furthest := c.k, tally := c.k }, some c.furthest)
  else (c, none)

/-- The counts of the stall window at a moment, TB1, with the present count: those reached within the last STALL_MS, and the one in force as
it begins (R121; half-open, 02 R36). -/
def Channel.window121 (now : Int) (c : Channel) : List (Int × Int) :=
  let inside (t : Int) : Bool := decide ((now - t) * 1000 < (c.stallMs : Int) * 2 ^ 32)
  let old := c.moves.filter fun m => inside m.2
  let kept := old ++ (c.moves.find? fun m => !inside m.2).toList
  if kept.head?.any (fun m => m.1 == c.k) then kept else (c.k, now) :: kept

/-- The counts of a window lie within less than one check unit (R121). -/
def Channel.still (c : Channel) (moves : List (Int × Int)) : Bool :=
  match (moves.map (·.1)).max?, (moves.map (·.1)).min? with
  | some hi, some lo => decide (hi - lo < c.unit)
  | _, _ => true

/-- What a counted sample does beyond its count: pair, speed, direction, validity, comparisons (R117 to R127). -/
def afterCount (ch : Nat) (time delta : Int) (s : State) : State :=
  let c := s.chan ch
  let moves := c.window121 s.tb1
  let restart := c.stalled && !c.still moves
  let s := s.onChan ch fun c =>
    let c := { c with moves, stalled := c.stalled && c.still moves }
    let c := c.addPair time delta restart
    if c.stalled then { c with speed := 0 } else c
  let (c, turn) := (s.chan ch).travel
  let s := s.onChan ch fun _ => c
  let s := if c.speedValid || c.validSpan > (c.k - c.tally).natAbs then s
    else post evSpeedValid (unitEnc ch) ch 0 (s.onChan ch fun c => { c with speedValid := true })
  let s := match turn with
    | some k =>
      let s := s.onChan ch Channel.spoil
      if s.isWeb ch then webReversed c.dir (c.q0 + (k - c.k0) * ((c.scale.getD 0 : Nat) : Int)) s else s
    | none => s
  let s := takeFailover ch s
  let s := if (s.chan ch).calib.isSome then settleCalibs s else s
  let s := compareAll ch s
  if s.isWeb ch then
    let c := s.chan ch
    let v := c.speed.tdiv (2 ^ 32)
    let s := if c.made && c.speedValid then bumpMin (ctr 2 0 6) v (bumpMax (ctr 2 0 5) v s) else s
    camOnPair (runOnPair (checkDivergence s))
  else if (s.pos.backup.map (·.ch)) == some ch then checkDivergence s else s

/-! Index pulses (R123). -/

/-- An index pulse: reference, correction or error. -/
def indexPulse (ch : Nat) (forward : Bool) (s : State) : State :=
  let c := s.chan ch
  let idx := c.k.fdiv c.unit
  match c.indexRef with
  | none => s.onChan ch fun c => { c with indexRef := some idx, indexErrs := 0, unreferenced := false }
  | some r =>
    let e := if forward then r + c.indexPeriod else r - c.indexPeriod
    let d := idx - e
    if d.natAbs ≤ 2 then
      let s := s.onChan ch fun c =>
        let c := if d = 0 then c else c.spoil
        { c with k := c.k - d * c.unit, moves := c.moves.map fun m => (m.1 - d * c.unit, m.2), indexRef := some e, indexErrs := 0 }
      if s.isWeb ch then bump (ctr 2 0 2) 1 s else s
    else
      let s := s.onChan ch fun c => { c.spoil with
        indexErr := true, indexErrs := c.indexErrs + 1, indexRef := if 2 ≤ c.indexErrs then none else some e }
      let s := if s.isWeb ch then bump (ctr 2 0 3) 1 s else s
      let s := post evIndexError (unitEnc ch) ch (p32 d) s
      if c.indexErrs < 2 then s else doom (unitEnc ch) 0x11 s

/-! Digital samples (R110, R111). -/

/-- Place of an (A, B) state along 00, 10, 11, 01. -/
def quadPlace (a b : Bool) : Int := match a, b with
  | false, false => 0
  | true, false => 1
  | true, true => 2
  | false, true => 3

/-- A waiting scale takes effect at this sample (R116): at the first count after the boundary where it waits for one. -/
def scaleAtSample (ch : Nat) (counted : Bool) (s : State) : State :=
  match (s.chan ch).pend with
  | some p => if !p.boundary || (p.due && counted) then applyScale ch s else s
  | none => s

/-- POS counts: the device is not in reset, and in P0, P1 or P2 (R132). -/
def State.posRuns (s : State) : Bool := !s.held && s.thm.power != .p3 && s.thm.power != .p4 && !bit s.board.pllLost 10

/-- New accepted levels of a channel's inputs, first shown at a time of TB3 (R110, R111, R123). -/
def takeLevels (ch : Nat) (a b z : Bool) (time : Int) (s : State) : State :=
  let c := s.chan ch
  let step := (quadPlace a b - quadPlace c.a c.b).emod 4
  let bad := step == 2
  let delta : Int := if c.mode ≠ 1 ∨ step = 0 ∨ bad then 0 else if (step == 1) != c.invert then 1 else -1
  let s := s.onChan ch fun c => { c with a, b, z }
  if c.mode = 0 ∨ c.retired then s
  else
    let s := scaleAtSample ch (delta != 0) s
    let s := s.onChan ch fun c => { c with k := c.k + delta }
    let s := if c.mode = 1 ∧ bad then illegalStep ch s else s
    let dir := if delta = 0 then c.lastDelta else delta
    let rose := (z != c.zLow) && (c.z == c.zLow)
    let fell := (z == c.zLow) && (c.z != c.zLow)
    let s := if c.indexPeriod = 0 then s
      else if rose && decide (0 < dir) then indexPulse ch true s
      else if fell && decide (dir < 0) then indexPulse ch false s else s
    if delta = 0 then (if c.mode = 1 then takeFailover ch s else s) else afterCount ch time delta s

/-- ENCODER_EDGE (R110, R111): at this POS sample the inputs have held the levels given for a number of consecutive samples (log 18).
They are accepted from FILTER + 1 on; the edge's time is that of the first of those samples. -/
def execEncoderEdge (dt ch : Nat) (a b z : Bool) (held : Nat) (s : State) : Host.Outcome State Fault Refusal :=
  let s := advance dt s
  onUnit (decide (ch < 4))
    (if s.posRuns && decide ((s.chan ch).filter < held) then takeLevels ch a b z (s.tb3 - nsT (4 * (held - 1) : Nat)) s else s)

/-! Sine/cosine samples (R112 to R114). -/

/-- A raw value as a signed number (R114). -/
def Channel.raw (c : Channel) (v : Nat) : Int := signed 16 (if c.offsetBinary then (v % 65536) ^^^ 0x8000 else v)

/-- A completed conversion (R114). -/
def takeConversion (ch sinRaw cosRaw : Nat) (t0 : Int) (s : State) : State :=
  let c := s.chan ch
  let time := t0 + nsT c.aperture
  let x := sar ((c.raw cosRaw - c.cosOff) * c.cosGain) 14
  let y := sar ((c.raw sinRaw - c.sinOff) * c.sinGain) 14
  let r2 := x * x + y * y
  let s := s.onChan ch fun c => { c with conv := none, timeoutSince := none }
  let s := scaleAtSample ch false s
  if r2 < ((c.ampMin * c.ampMin : Nat) : Int) ∨ ((c.ampMax * c.ampMax : Nat) : Int) < r2 then signalFault ch 1 s
  else
    let phase := phaseOf x y
    match c.prevPhase with
    | none =>
      let s := s.onChan ch fun c => { c with k := phase, prevPhase := some phase, furthest := phase, tally := phase, moves := [((phase : Nat), s.tb1)] }
      afterCount ch time 0 s
    | some prev =>
      let delta := (((phase : Int) - prev + 2048).emod 4096) - 2048
      if 1536 < delta ∨ delta < -1536 then signalFault ch 2 s
      else
        let delta := if c.invert then -delta else delta
        let s := if delta = 0 then s else scaleAtSample ch true s
        afterCount ch time delta (s.onChan ch fun c => { c with k := c.k + delta, prevPhase := some phase })

/-- CONVERSION_COMPLETE (R112, R114): not before step 3 of Table 5-2. -/
def execConversionComplete (dt ch sinRaw cosRaw : Nat) (s : State) : Host.Outcome State Fault Refusal :=
  let s := advance dt s
  onUnit (decide (ch < 4)) (
    let c := s.chan ch
    match c.conv with
    | some t0 =>
      if s.posRuns && c.mode == 2 && !c.retired && decide (t0 + nsT (c.convNs + 32 * c.sckDiv : Nat) ≤ s.tb3) then
        takeConversion ch sinRaw cosRaw t0 s
      else s
    | none => s)

/-! Timed rows. -/

/-- COMPARE_CATCH_UP_FIRE (R127): a periodic unit whose value is already passed fires again. -/
def execCompareCatchUpFire (dt unit : Nat) (s : State) : Host.Outcome State Fault Refusal :=
  let s := advance dt s
  onUnit (decide (unit < 16)) (
    let c := s.pos.cmp.getD unit {}
    match (s.cmpChan c).map s.chan with
    | some x => match x.scale, x.pairs with
      | some _, p :: _ =>
        if c.armed && !c.behind && decide (4 ≤ c.sgn * (p.pos.fdiv (2 ^ 32) - c.value)) then fireCompare unit false p.time s else s
      | _, _ => s
    | none => s)

/-- ENCODER_STALL (R121): a whole STALL_MS has gone by with less than one check unit of movement. -/
def execEncoderStall (dt ch : Nat) (s : State) : Host.Outcome State Fault Refusal :=
  let s := advance dt s
  onUnit (decide (ch < 4)) (
    let c := s.chan ch
    let moves := c.window121 s.tb1
    let whole := moves.any fun m => passed s m.2 c.stallMs 1000
    if s.posRuns && c.mode != 0 && !c.retired && !c.stalled && whole && c.still moves then
      s.onChan ch fun c => { c with moves, stalled := true, speed := 0 }
    else s)

/-- BACKUP_OFFSET_REFRESH (R125): every 1 s while no run is armed. -/
def execBackupOffsetRefresh (dt : Nat) (s : State) : Host.Outcome State Fault Refusal :=
  let s := advance dt s
  .next (match s.pos.backup with
    | some b => if s.posRuns && s.fire.run.isNone && passed s b.since 1 1 then setBackupOffset s else s
    | none => s)

/-- POS_CALIBRATE_TIMEOUT (R129). -/
def execPosCalibrateTimeout (dt ch : Nat) (s : State) : Host.Outcome State Fault Refusal :=
  let s := advance dt s
  onUnit (decide (ch < 4)) (match (s.chan ch).calib with
    | some k => if decide (k.deadline ≤ s.tb1) then finish k.cmd (.err .timeout) (s.onChan ch fun c => { c with calib := none }) else s
    | none => s)

/-- CAPTURE_INPUT_EDGE (06 R152): a GPIO input shows a new level after its 2-sample filter. -/
def execCaptureInputEdge (dt gpio : Nat) (rising : Bool) (s : State) : Host.Outcome State Fault Refusal :=
  let s := advance dt s
  onUnit (decide (gpio < 16))
    (if bit s.board.gpioIn gpio == rising then s
     else
      let s := s.onBoard fun b => { b with gpioIn := setBit b.gpioIn gpio rising }
      if bit s.board.gpioDir gpio then s
      else settleCalibs ((List.range 16).foldl (fun s u =>
        let c := s.tim.captures.getD u {}
        let edge := c.edge == 2 || (c.edge == 0) == rising
        if c.enable && c.source == 0 && c.index == gpio && edge then latchCapture u s else s) s))

/-- At a frame boundary of a run (R116, R125): waiting scales fall due, O is set. -/
def posBoundary (s : State) : State :=
  setBackupOffset (s.onPos fun p => { p with ch := p.ch.map fun c => { c with pend := c.pend.map fun x => { x with due := true } } })

/-- When the run ends no boundary will come: a waiting scale takes effect at the next sample (R116). -/
def posRunEnd (s : State) : State :=
  (List.range 4).foldl (fun s ch => match (s.chan ch).pend with
    | some p =>
      if p.boundary then
        let s := s.onChan ch fun c => { c with pend := some { p with boundary := false } }
        if (s.chan ch).mode == 2 then s else applyScale ch s
      else s
    | none => s) s

/-! Commands (R130). -/

/-- A CHANNEL field: 0 to 3, or 0xFF for the channel carrying the web role. -/
def chanBad (v : Nat) : Bool := decide (3 < v) && v != 0xFF

/-- The channel that a CHANNEL field names. -/
def State.chanOf (s : State) (v : Nat) : Option Nat := if v = 0xFF then s.pos.web else some v

/-- The checks that concern the channel a command names: none carries the web role, it is retired, it is held. -/
def chanChecks (v : Nat) (holds : Bool) (s : State) : List (Bool × Reply) :=
  match s.chanOf v with
  | none => [(true, Reply.err .state)]
  | some c =>
    [ ((s.chan c).retired, Reply.errUnit .retired 0 (unitEnc c)),
      (holds && s.holding (.channel c), Reply.errUnit .busy 0 (unitEnc c)) ]

/-- Checks of POS_ENCODER_CONFIG (Table 5-5, R130). -/
def posEncoderConfigCheck (q : Cmd) (s : State) : Option Reply :=
  let sc := q.u8 1 == 2
  let ch := q.u8 0
  firstFail (shape q 40 [(0, 15), (16, 22)] ++
    [ (decide (3 < ch), Reply.bad 0),
      (decide (2 < q.u8 1), Reply.bad 1),
      (decide (1 < q.u8 2) || (q.u8 2 == 1 && q.u8 1 != 0 && s.pos.web.isSome && !s.isWeb ch), Reply.bad 2),
      (extraBits (q.u8 3) 7, Reply.bad 3),
      (decide (15 < q.u8 4), Reply.bad 4),
      (sc && decide (15 < q.u8 5), Reply.bad 5),
      (sc && decide (1000 < q.u16 6), Reply.bad 6),
      (q.u32 8 != 0 && (decide (q.u32 8 < 4) || decide (2 ^ 31 < q.u32 8)), Reply.bad 8),
      (sc && decide (2000 < q.u16 12), Reply.bad 12),
      (sc && (decide (q.u8 14 < 5) || decide (64 < q.u8 14)), Reply.bad 14),
      (q.u32 0x1C != 0 && (decide (q.u32 0x1C < 1000) || decide (1000000 < q.u32 0x1C)), Reply.bad 0x1C),
      (decide (10000 < q.u32 0x20), Reply.bad 0x20) ] ++ chanChecks ch true s ++
    [ (s.isWeb ch && s.fire.run.isSome, Reply.errUnit .state 0 (unitEnc ch)) ])

/-- POS_ENCODER_CONFIG (R109, R130): a channel starts anew; its count, base and scale stand. DESIGN CHOICE (log 123): a POS_SCALE that waits
on the channel is cancelled. -/
def posEncoderConfigEffect (q : Cmd) (s : State) : Ans :=
  let ch := q.u8 0
  let mode := q.u8 1
  let sc := mode == 2
  let web := q.u8 2 == 1 && mode != 0
  let s := match (s.chan ch).pend with
    | some p => finishAll (p.orders.map fun (o : ScaleOrder) => o.cmd) (.err .cancelled) s
    | none => s
  let s := s.onChan ch fun c =>
    { k := c.k, k0 := c.k0, q0 := c.q0, scale := c.scale, a := c.a, b := c.b, z := c.z
      illegal := c.illegal, signal := c.signal, indexErr := c.indexErr, diverged := c.diverged
      unreferenced := c.unreferenced, furthest := c.k, tally := c.k, moves := [(c.k, s.tb1)]
      mode, invert := bit (q.u8 3) 0, zLow := bit (q.u8 3) 1, offsetBinary := sc && bit (q.u8 3) 2
      filter := q.u8 4, trigger := if sc then q.u8 5 else 0, aperture := if sc then q.u16 6 else 0
      indexPeriod := q.u32 8, convNs := if sc then q.u16 12 else 0, sckDiv := if sc then q.u8 14 else 5
      sinOff := if sc then q.s16 16 else 0, cosOff := if sc then q.s16 18 else 0
      sinGain := if sc then q.u16 20 else 0, cosGain := if sc then q.u16 22 else 0
      ampMin := if sc then q.u16 24 else 0, ampMax := if sc then q.u16 26 else 0
      window := orDefault (q.u32 0x1C) 20000, stallMs := orDefault (q.u32 0x20) 100, revHyst := orDefault (q.u16 0x24) 4 }
  let s := s.onPos fun p => { p with
    web := if web then some ch else if p.web == some ch then none else p.web
    backup := if (web || mode == 0) && (p.backup.map (·.ch)) == some ch then none else p.backup }
  .done .good s

/-- POS_ENCODER_CONFIG (R130). -/
def execPosEncoderConfig (q : Cmd) (s : State) : Host.Outcome State Fault Refusal :=
  runCmd 0x0801 posEncoderConfigCheck posEncoderConfigEffect q s

/-- Checks of POS_SCALE (R115, R116, Table 5-6). -/
def posScaleCheck (q : Cmd) (s : State) : Option Reply :=
  firstFail (shape q 24 [(0, 2), (8, 16)] ++
    [ (chanBad (q.u8 0), Reply.bad 0),
      (extraBits (q.u8 1) 3, Reply.bad 1),
      (!bit (q.u8 1) 1 && !scaleOk (q.u64 8), Reply.bad 8) ] ++ chanChecks (q.u8 0) true s ++
    [ (bit (q.u8 1) 0 && ((s.chanOf (q.u8 0)).any s.isWeb) && s.fire.run.isSome, Reply.err .state) ])

/-- POS_SCALE (R116). -/
def posScaleEffect (q : Cmd) (s : State) : Ans :=
  let ch := (s.chanOf (q.u8 0)).getD 0
  let s := if bit (q.u8 1) 0 then
      s.onChan ch fun c => { c with
        q0 := q.s64 16 * 2 ^ 32, k0 := c.k, posSet := true, unreferenced := false, indexRef := none, indexErrs := 0 }
    else s
  if bit (q.u8 1) 1 then .done .good s
  else .wait (orderScale ch { cmd := q.id, scale := q.u64 8 } (setAbortable q.id true s))

/-- POS_SCALE (R116). -/
def execPosScale (q : Cmd) (s : State) : Host.Outcome State Fault Refusal := runCmd 0x0802 posScaleCheck posScaleEffect q s

/-- Checks of POS_READ (Table 5-7). -/
def posReadCheck (q : Cmd) (s : State) : Option Reply :=
  firstFail (shape q 16 [(0, 2), (8, 8)] ++
    [ (chanBad (q.u8 0), Reply.bad 0),
      (decide ((if q.src.isSome then 56 else 64) < q.u8 1), Reply.bad 1),
      (addrBad q 8, Reply.bad 8),
      ((s.chanOf (q.u8 0)).isNone, Reply.err .state) ])

/-- FLAGS of Table 5-8. -/
def posFlags (ch : Nat) (s : State) : Nat :=
  let c := s.chan ch
  bitsOfList [c.mode != 0, c.speedValid, c.dir == -1, c.stalled, c.retired, s.isWeb ch, (s.pos.backup.map (·.ch)) == some ch,
    c.pend.isSome, c.illegal, c.signal, c.indexErr, c.diverged, c.unreferenced, c.scale.isNone]

/-- The speed as read: 0 while invalid, stalled or without a scale (R115, R121, R122). -/
def Channel.speedRead (c : Channel) : Int := if c.speedValid && !c.stalled && c.scale.isSome then c.speed else 0

/-- A position of 96 bits: frets, then the fraction. -/
def encQ (q : Int) : List Byte := toLeS 8 (q.fdiv (2 ^ 32)) ++ toLe 4 (q.fmod (2 ^ 32)).toNat

/-- The POS_READ structure (Table 5-8). -/
def posReadBlock (ch n : Nat) (s : State) : List Byte :=
  let c := s.chan ch
  let ps := c.pairs.take n
  encQ (c.posQ.getD noPosition) ++ toLe 4 (posFlags ch s) ++ encT ((c.pairs.head?.map (·.time)).getD 0) ++ toLe 4 0
    ++ toLeS 8 c.speedRead ++ toLeS 8 c.k ++ toLe 8 (c.scale.getD 0) ++ toLe 1 (s.pos.web.getD 0xFF) ++ toLe 1 ps.length
    ++ toLe 6 0 ++ ps.flatMap fun p => encQ p.pos ++ encT p.time

/-- POS_READ (Tables 5-7 and 5-8). -/
def posReadEffect (q : Cmd) (s : State) : Ans :=
  let ch := (s.chanOf (q.u8 0)).getD 0
  let c := s.chan ch
  let p := (c.posQ.getD noPosition).fdiv (2 ^ 32)
  let ext := if q.src.isNone && q.u64 8 == 0 then [] else posReadBlock ch (q.u8 1) s
  .done (.withExt (toLeS 8 p ++ toLe 4 (posFlags ch s) ++ toLeS 4 (satS 32 (c.speedRead.tdiv (2 ^ 32)))) (q.u64 8) ext) s

/-- POS_READ (R130). -/
def execPosRead (q : Cmd) (s : State) : Host.Outcome State Fault Refusal := runCmd 0x0803 posReadCheck posReadEffect q s

/-- A field that names a unit or 0xFF for none. -/
def optUnit (v : Nat) : Option Nat := if v = 0xFF then none else some v

/-- Checks of POS_COMPARE (Table 5-9): of a disarming, only the unit and the options. -/
def posCompareCheck (q : Cmd) (s : State) : Option Reply :=
  let arm := q.u8 2 != 2
  let wide (o : Nat) : Bool := decide (15 < q.u8 o) && q.u8 o != 0xFF
  firstFail (shape q 32 [(0, 28)] ++
    [ (decide (15 < q.u8 0), Reply.bad 0),
      (chanBad (q.u8 1), Reply.bad 1),
      (decide (2 < q.u8 2), Reply.bad 2),
      (extraBits (q.u8 3) 3, Reply.bad 3),
      (wide 4, Reply.bad 4), (wide 5, Reply.bad 5), (wide 6, Reply.bad 6),
      (q.u8 7 == 0, Reply.bad 7),
      (q.u64 16 != 0 && (decide (q.u64 16 < 64) || decide (2 ^ 40 < q.u64 16)), Reply.bad 16) ] ++
    chanChecks (q.u8 1) false s ++
    [ (s.isRetired (0x0E10 + q.u8 0), Reply.errUnit .retired 0 (0x0E10 + q.u8 0)),
      (arm && q.u8 4 != 0xFF && s.isRetired (0x0D10 + q.u8 4), Reply.errUnit .retired 0 (0x0D10 + q.u8 4)),
      (arm && q.u8 5 != 0xFF && s.isRetired (0x0D20 + q.u8 5), Reply.errUnit .retired 0 (0x0D20 + q.u8 5)),
      (arm && q.u8 5 != 0xFF && s.holding (.capture (q.u8 5)), Reply.errUnit .busy 0 (0x0D20 + q.u8 5)) ])

/-- POS_COMPARE (R127, R128): arm, or disarm. A channel without a position leaves the unit in BEFORE. -/
def posCompareEffect (q : Cmd) (s : State) : Ans :=
  let u := q.u8 0
  if q.u8 2 = 2 then .done .good (s.onCmp u fun c => { c with armed := false })
  else
    let c : Compare :=
      { armed := true, ch := optUnit (q.u8 1), reverse := q.u8 2 == 1, post := bit (q.u8 3) 1, trigger := optUnit (q.u8 4)
        capture := optUnit (q.u8 5), gpio := optUnit (q.u8 6), pulseUs := q.u8 7, value := q.s64 8, period := q.u64 16
        count := q.u32 24 }
    let s := s.onCmp u fun _ => c
    match (s.cmpChan c).bind fun n => (s.chan n).posQ with
    | none => .done .good s
    | some pq =>
      let p := pq.fdiv (2 ^ 32)
      if c.sgn * (p - c.value) < 0 then .done .good s
      else if bit (q.u8 3) 0 then .done .good (fireCompare u true s.tb3 s)
      else .done .good (post evCompareBehind (0x0E10 + u) u (p32 (p - c.value)) (s.onCmp u fun c => { c with behind := true }))

/-- POS_COMPARE (R127). -/
def execPosCompare (q : Cmd) (s : State) : Host.Outcome State Fault Refusal := runCmd 0x0804 posCompareCheck posCompareEffect q s

/-- Checks of POS_BACKUP (R125). -/
def posBackupCheck (q : Cmd) (s : State) : Option Reply :=
  let b := q.u8 0
  let c := s.chan b
  firstFail (shape q 16 [(0, 1), (4, 4)] ++
    [ (chanBad b, Reply.bad 0),
      (b != 0xFF && (c.mode == 0 || s.isWeb b || c.scale.isNone), Reply.bad 0),
      (b != 0xFF && c.retired, Reply.errUnit .retired 0 (unitEnc b)),
      (s.pos.web.isNone, Reply.err .state) ])

/-- POS_BACKUP (R125). -/
def posBackupEffect (q : Cmd) (s : State) : Ans :=
  if q.u8 0 = 0xFF then .done .good (s.onPos fun p => { p with backup := none })
  else
    let b : Backup := { ch := q.u8 0, limit := orDefault (q.u32 4) 3024, since := s.tb1 }
    .done .good (setBackupOffset (s.onPos fun p => { p with backup := some b }))

/-- POS_BACKUP (R125). -/
def execPosBackup (q : Cmd) (s : State) : Host.Outcome State Fault Refusal := runCmd 0x0805 posBackupCheck posBackupEffect q s

/-- Checks of POS_CALIBRATE (R129, Table 5-11): the channel needs a scale to correct. -/
def posCalibrateCheck (q : Cmd) (s : State) : Option Reply :=
  firstFail (shape q 32 [(0, 3), (4, 4), (8, 12)] ++
    [ (chanBad (q.u8 0), Reply.bad 0),
      (decide (15 < q.u8 1), Reply.bad 1),
      (decide (q.u8 2 < 2) || decide (64 < q.u8 2), Reply.bad 2),
      (q.u16 4 == 0 || decide (500 < q.u16 4), Reply.bad 4),
      (decide (10000 < q.u16 6), Reply.bad 6),
      (decide (q.u64 8 < 1000000) || decide (100000000000 < q.u64 8), Reply.bad 8),
      (decide (q.u32 16 < 100) || decide (3600000 < q.u32 16), Reply.bad 16) ] ++ chanChecks (q.u8 0) true s ++
    [ (s.isRetired (0x0D20 + q.u8 1), Reply.errUnit .retired 0 (0x0D20 + q.u8 1)),
      (s.holding (.capture (q.u8 1)), Reply.errUnit .busy 0 (0x0D20 + q.u8 1)),
      ((s.chanOf (q.u8 0)).any fun c => (s.chan c).mode == 0 || (s.chan c).scale.isNone, Reply.err .state) ])

/-- POS_CALIBRATE (R129): exclusive for its channel and its capture unit, and abortable. -/
def posCalibrateEffect (q : Cmd) (s : State) : Ans :=
  let ch := (s.chanOf (q.u8 0)).getD 0
  let s := hold q [.channel ch, .capture (q.u8 1)] true s
  let k : Calib :=
    { cmd := q.id, capture := q.u8 1, intervals := q.u8 2, limitBp := q.u16 4, spreadPpm := orDefault (q.u16 6) 500
      spacingNm := q.u64 8, deadline := s.tb1 + msT (q.u32 16) }
  .wait (s.onChan ch fun c => { c with calib := some k })

/-- POS_CALIBRATE (R129). -/
def execPosCalibrate (q : Cmd) (s : State) : Host.Outcome State Fault Refusal :=
  runCmd 0x0806 posCalibrateCheck posCalibrateEffect q s

end Sys2Proof.Machine
end

