-- ==== Sys2Proof/Machine/Fire.lean ====
section
/-!
DEFINITION. The run as it goes: the web estimate, line ticks, readiness points, stamps, inhibit, halts, the run's end
(spec/10_firing.md, R256 to R278; spec/01_print_model.md, R20 to R27).
-/
namespace Sys2Proof.Machine

/-- Number of a power state (14 Table 14-2). -/
def Power.code : Power → Nat
  | .p0 => 0 | .p1 => 1 | .p2 => 2 | .p3 => 3 | .p4 => 4

/-- Enter a power state (14 R376): EV_POWER_STATE at every change. -/
def setPower (p : Power) (s : State) : State :=
  if s.thm.power == p then s else post evPowerState unitCtl s.thm.power.code p.code (s.onThm fun t => { t with power := p })

/-! Which lines the run has (R257, R258). -/

/-- The run's last line, once it is known. -/
def Run.lastLine (r : Run) : Option Nat :=
  let a := r.stop.bind (·.last)
  let b := if r.frames = 0 then none else some (r.frames * r.frameLines - 1)
  match a, b with
  | some x, some y => some (min x y)
  | some x, none => some x
  | none, y => y

/-- FRAMES is reached with the tick of the last line of frame FRAMES - 1: the run stops as END_OF_FRAME does (R257). -/
def Run.reachFrames (n : Nat) (r : Run) : Run :=
  if r.frames != 0 && r.stop.isNone && n + 1 == r.frames * r.frameLines then { r with stop := some { mode := 0, last := some n, reason := 2 } } else r

/-- Run line of the last press line tick, not beyond the run's last line. -/
def Run.tickedLine (r : Run) : Nat := min (r.nextTick - 1) (r.lastLine.getD (r.nextTick - 1))

/-- A run line that this device is to fire: not beyond the last, and not handed over (15 R408). -/
def Run.wants (r : Run) (n : Nat) : Bool := r.lastLine.all (fun l => decide (n ≤ l)) && r.handover.all fun h => decide (n < h)

/-- Where the next press line tick is raised (R20, R25); beyond the last line ticks go on at the pitch (log 22). -/
def State.tickPos (s : State) (r : Run) : Int :=
  match r.lastLine with
  | some l => if l < r.nextTick then s.lineStart r l + r.sgn * (((r.nextTick - l) * r.pitch : Nat) : Int) else s.lineStart r r.nextTick
  | none => s.lineStart r r.nextTick

/-- Heads of the run that print. -/
def State.runHeads (s : State) (r : Run) : List HeadRun :=
  r.heads.filter fun h => (s.runBars r).contains h.bar && s.headPrints h.bar h.head

/-- Some line is still to fall due. -/
def State.linesLeft (s : State) (r : Run) : Bool := r.wants r.nextTick || (s.runHeads r).any fun h => r.wants h.nextDue

/-- A press line tick is due: progress has reached its line's start. -/
def State.tickDue (s : State) (r : Run) : Bool :=
  r.against.isNone && !r.dueOver && s.linesLeft r && decide (r.sgn * s.tickPos r * 2 ^ 32 ≤ r.progress)

/-! Line ticks (R20 to R22, R264). -/

/-- Flags of a frame's record as it opens. -/
def State.openFlags (s : State) (r : Run) (frame : Nat) : Nat :=
  2 * b2n (s.cps.frames.any fun f => f.number == frame && f.stopped) + 32 * b2n r.test

/-- The frame boundary (R21, R257): the record closes and the next opens; scales and the backup offset take effect. -/
def frameBoundary (r : Run) (f : FrameStart) (s : State) : State :=
  posBoundary (closeRecord (if r.ticked then 0 else 8) { runId := r.id, frame := f.frame, flags := s.openFlags r f.frame, capo := f.capo } s)

/-- R22: the ticks' distance over the newest speed is less than 8.00 us. Whether the line is blanked comes with the state. -/
def tickOverspeed (r : Run) (pos : Int) (s : State) : Bool × State :=
  match r.lastTick, s.webChan with
  | some last, some c =>
    let num := (pos - last).natAbs * 2 ^ 32 * 1000000000
    if c.speedValid && !c.stalled && c.speed != 0 && decide (num < 8000 * c.speed.natAbs) then
      (true, postOnceKey evLineOverspeed unitFir unitFir (r.nextTick % 2 ^ 32) (num / c.speed.natAbs) (bump (ctr 7 0 0) 1 s))
    else (false, s)
  | _, _ => (false, s)

/-- One step of an alignment offset towards its target (R263). -/
def alignTowards (t a : Int) : Int := a + clampI (t - a) (-4) 4

/-- ALIGN of every bar moves by at most 4 frets a tick (R263). -/
def alignStep (s : State) : State :=
  (List.range 10).foldl (fun s b => match (s.bar b).alignTo with
    | none => s
    | some (f, r, ids) =>
      let x := s.bar b
      let nf := alignTowards f x.alignF
      let nr := alignTowards r x.alignR
      let s := s.onBar b fun x => { x with alignF := nf, alignR := nr }
      if nf = f ∧ nr = r then finishAll ids .good (s.onBar b fun x => { x with alignTo := none }) else s) s

/-- The lead moves by one line every 8 ticks, and so does that of a bar whose catch-up has ended (R268, 09 R248). -/
def leadStep (s : State) : State :=
  let s := s.onFire fun f => { f with leadTicks := min 8 (f.leadTicks + 1) }
  let back := (List.range 10).filter fun b => (s.bar b).catchLead.isSome && (s.bar b).fronts.isEmpty
  if s.fire.leadTicks < 8 || (s.fire.leadTo.isNone && back.isEmpty) then s
  else
    let s := s.onFire fun f => { f with leadTicks := 0 }
    let s := back.foldl (fun s b => s.onBar b fun x =>
      { x with catchLead := x.catchLead.bind fun n => if s.fire.lead ≤ n + 1 then none else some (n + 1) }) s
    match s.fire.leadTo with
    | none => s
    | some (t, ids) =>
      let l := if s.fire.lead < t then s.fire.lead + 1 else s.fire.lead - 1
      let s := s.onFire fun f => { f with lead := l }
      if l = t then finishAll ids .good (s.onFire fun f => { f with leadTo := none }) else s

/-- On a version 1 course the head would fire two lines less than F_min apart at the present speed (R272, R273; DEDUCED, log 117). -/
def State.v1Over (s : State) (r : Run) (h : HeadRun) (m n : Nat) : Bool :=
  let gap := (s.lineStart r n - s.lineStart r m).natAbs
  let fMin := match ((s.bar h.bar).place h.head).ctx with
    | some c => (s.ctx c).fMin
    | none => 0
  decide (((gap * 2 ^ 64 : Nat) : Int) < fMin * (s.runSpeed : Nat))

/-- What falls due on a head, line by line: the lines, its rows after them, and the row lines blanked for overspeed (R272). -/
structure DueStep where
  new : List DueLine := []
  rows : List RowRun := []
  tooFast : Nat := 0
deriving Repr, Inhabited

/-- One line of a head falls due: none where no row fires it. On a version 1 course it is blanked where R273 would skip it. -/
def dueLine (s : State) (r : Run) (h : HeadRun) (blank : Bool) (acc : DueStep) (n : Nat) : DueStep :=
  let fires := (s.bar h.bar).firingRows h.head n
  let v1 := s.isV1 h.bar
  let fast := v1 && !blank && acc.rows.any fun x => fires.contains x.row && x.lastSent.any fun m => s.v1Over r h m n
  if fires.isEmpty then acc
  else
    { new := acc.new ++ [{ line := n, blank := blank || fast, tick := r.nextTick
                           early := (frontOf (s.bar h.bar).fronts ((s.bar h.bar).refD h.head)).any Front.opening }]
      rows := if v1 && !blank && !fast then acc.rows.map fun x => if fires.contains x.row then { x with lastSent := some n } else x else acc.rows
      tooFast := acc.tooFast + if fast then fires.length else 0 }

/-- Lines of a head fall due (R264): those within the lead. A line that no row fires has neither packet nor stamp; a blanked
one has its blank packet at once (R272, R274, R277). -/
def dueHead (r : Run) (blank : Bool) (s : State) (h : HeadRun) : State :=
  let bar := s.bar h.bar
  let lim := s.firstBeyond r h.bar (bar.refD h.head) (s.leadOf h.bar)
  let lines := ((List.range (lim - h.nextDue)).map (h.nextDue + ·)).filter r.wants
  let blank := blank || (s.isV1 h.bar && s.fire.inhibit)
  let step := if s.headPrints h.bar h.head then lines.foldl (dueLine s r h blank) { rows := h.rows } else { rows := h.rows }
  let s := s.onRun fun r => { r with heads := r.heads.map fun x =>
    if x.bar == h.bar && x.head == h.head then { x with nextDue := x.nextDue + lines.length, due := x.due ++ step.new, rows := step.rows } else x }
  let c := (bar.place h.head).ctx.getD 256
  let s := if step.tooFast = 0 then s
    else postOnceKey evHeadOverspeed (unitHead c) (unitHead c) c step.tooFast (bump (ctr 8 h.bar 1) step.tooFast s)
  if s.mayPrint then
    (step.new.filter (·.blank)).foldl (fun s d => commitLine h.bar h.head d.line (blankPayload bar h.head d.line (s.isV1 h.bar)) false s) s
  else s

/-- The first line a bar renders under a trim generation gives START_W, and W_START (13 R347, R349). -/
def noteStart (r : Run) (b : Nat) (was : Nat) (s : State) : State :=
  if s.barNext b ≤ was then s
  else
    let w := s.lineStart r was
    s.onClr fun k => { k with bars := upd b (fun x => { x with startW := some (x.startW.getD w), wStart := some (x.wStart.getD w) }) k.bars }

/-- Render load of a bar in a tick at the present rate, per mille of a line period (01 R24, 09 R229). -/
def barLoad (r : Run) (b : Nat) (s : State) : State :=
  let clocks := ((s.fire.run.map fun x => s.tickClocks x b r.nextTick).getD 0)
  let rate := ((s.webChan.map fun c => c.speed.natAbs).getD 0)
  let load : Nat := 1000 * clocks * rate / (r.pitch * 2 ^ 32 * 1200000000)
  bumpMax (ctr 6 b 11) load (s.onBar b fun x => { x with load })

/-- Lines of a version 1 head that have fired by its own encoder (R272): their packets are sent and their targets reached. -/
def settleV1 (r : Run) (s : State) (h : HeadRun) : State :=
  if !s.isV1 h.bar then s
  else
    let bar := s.bar h.bar
    let gone (d : DueLine) : Bool := d.sent && (bar.firingRows h.head d.line).all fun row =>
      decide (r.remaining (s.target r h.bar (bar.rowD h.head row) d.line) ≤ 0)
    let last := ((h.due.filter gone).map (·.line)).max?
    s.putHead { h with due := h.due.filter (fun d => !gone d)
                       rows := h.rows.map fun x => match last with
                         | some n => { x with lastLine := some n }
                         | none => x }

/-- A press line tick (R20 to R22, R264). -/
def lineTick (r : Run) (s : State) : State :=
  let n := r.nextTick
  let pos := s.tickPos r
  let f := s.frameOf r n
  let s := if r.wants n && f.line == n then frameBoundary r f s else s
  let s := s.onRec fun c => { c with lines := c.lines + 1 }
  let s := if (s.ladderOf r.id n).isSome then bump (ctr 11 0 6) 1 s else s
  let (blank, s) := tickOverspeed r pos s
  let s := leadStep (alignStep s)
  let s := (s.runBars r).foldl (fun s b => bumpMin (ctr 7 0 4) (s.leadOf b) s) (bumpMin (ctr 7 0 4) s.fire.lead s)
  let s := (s.runBars r).foldl (fun s b => barBoundary b s) s
  let s := s.onRun fun r => { (r.reachFrames n) with ticked := true, lastTick := some pos, tickProgress := r.progress }
  match s.fire.run with
  | none => s
  | some r =>
    let was := (s.runBars r).map fun b => (b, s.barNext b)
    let s := (r.heads.filter fun h => (s.runBars r).contains h.bar).foldl (dueHead r blank) s
    let s := was.foldl (fun s x => barLoad r x.1 (noteStart r x.1 x.2 s)) s
    let s := r.heads.foldl (fun s h => match s.fire.run.bind fun r => r.headRun h.bar h.head with
      | some h => settleV1 r s h
      | none => s) s
    let beyond := r.stop.any fun st => decide (2 ≤ st.mode)
    let next := s.frameOf r (n + 1)
    checkLimit (s.onRun fun r => { r with nextTick := n + 1, dueOver := r.dueOver || beyond
                                          frame := if r.wants (n + 1) then next.frame else r.frame })

/-- The run is the copy that a standby holds of its active's (15 R398): checkpoints and records move it on. -/
def State.copies (s : State) : Bool := s.pair.st == .standby || s.pair.st == .joining

/-- LINE_TICK (01 R20): progress has reached the start of the next line. -/
def execLineTick (dt : Nat) (s : State) : Host.Outcome State Fault Refusal :=
  let s := advanceProgress (advance dt s)
  .next (match s.fire.run with
    | some r => if s.tickDue r && !s.copies then lineTick r s else s
    | none => s)

/-- WEB_ESTIMATE_UPDATE (R260). -/
def execWebEstimateUpdate (dt : Nat) (s : State) : Host.Outcome State Fault Refusal :=
  .next (checkLimit (advanceProgress (advance dt s)))

/-! Readiness points (08 R206). -/

/-- Where a frame's readiness point lies on progress, 2^-32 frets: D(c + d_min) - (LEAD + 256) p. -/
def State.readyPoint (s : State) (r : Run) (capo : Int) : Int :=
  (r.sgn * (capo + s.dMin r) - (((s.fire.lead + 256) * r.pitch : Nat) : Int)) * 2 ^ 32

/-- The readiness point of a frame has come: by its position, or since a line of the frame is about to fall due (log 20). -/
def State.readyNow (s : State) (r : Run) (f : FrameStart) : Bool :=
  decide (s.readyPoint r f.capo ≤ r.progress)
    || (s.runHeads r).any fun h => decide (r.remaining (s.target r h.bar ((s.bar h.bar).refD h.head) f.line) ≤ ((s.leadOf h.bar * r.pitch : Nat) : Int) * 2 ^ 32)

/-- A FRAME packet (15 R397): frame, capo position, first contone line, and a byte for each layer. -/
def sendFrame (f : Frame) (applied : List Nat) (s : State) : State :=
  if !s.mirrors then s
  else
    let n := s.pair.recordSeq
    let layer (i : Nat) : Nat := b2n (f.layers.getD i {}).listed + 2 * b2n (applied.contains i) + 4 * b2n (f.layers.getD i {}).transparent
    let s := pairSend .prio 0x03 (toLe 4 n ++ toLe 4 f.number ++ toLeS 8 f.capo ++ toLe 8 f.firstCl ++ toLe 1 (b2n f.stopped)
      ++ (List.range 8).flatMap fun i => toLe 1 (layer i)) s
    s.onPair fun p => { p with recordSeq := (n + 1) % 2 ^ 32, waits := p.waits ++ [{ seq := n, frame := some f.number, since := s.tb1 }] }

/-- The readiness point of the next frame: its capo position is decided, and its layers. -/
def readyFrame (r : Run) (f : FrameStart) (s : State) : State :=
  let s := s.onFire fun x => { x with capos := x.capos.filter fun c => c.1 != f.frame }
  let s := s.onRun fun r => { r with starts := if r.starts.any (·.frame == f.frame) then r.starts else f :: r.starts }
  let was := (List.range 8).map fun i => (s.layer i).appliedFrame
  let flips := (List.range 8).map fun i => (s.layer i).flips.length
  let s := readiness f r.contoneLines s
  let applied := (List.range 8).filter fun i => (s.layer i).flips.length < flips.getD i 0 && ((s.layer i).appliedFrame == f.frame || (s.layer i).appliedFrame != was.getD i 0)
  match s.cps.frames.head? with
  | some x => sendFrame x applied s
  | none => s

/-- READINESS_POINT (08 R206). -/
def execReadinessPoint (dt : Nat) (s : State) : Host.Outcome State Fault Refusal :=
  let s := advanceProgress (advance dt s)
  .next (match s.fire.run with
    | some r =>
      let f := s.startOf r s.cps.nextFrame
      if r.wants f.line && !r.dueOver && (r.stop.all fun st => decide (st.mode < 2)) && s.pair.st != .standby && s.pair.st != .joining && s.readyNow r f
      then readyFrame r f s else s
    | none => s)

/-! Stamps (R266, R270, R273, R275, R277). -/

/-- What becomes of a row's line. -/
inductive StampPlan where
  | wait | withheld | skip | unstamped (why : Nat) | inhibited | overspeed | fire (time : Int)
deriving DecidableEq, Repr, Inhabited

/-- Why a line whose target is reached was not stamped (Table 10-10). -/
def whyUnstamped (r : Run) (c : Option Channel) : Nat :=
  match c with
  | some c => if !c.speedValid || c.stalled then 1 else if r.sgn * c.speed ≤ 0 then 2 else 3
  | none => 1

/-- Judge the next line of a row (R266, R270, R273, R275, R277, R278). `sent`: its packet has been sent, without which no stamp goes
out on a course that carries any; `skip`: its rows get SKIP. -/
def planStamp (r : Run) (h : HeadRun) (row : RowRun) (n : Nat) (sent skip : Bool) (s : State) : StampPlan :=
  let bar := s.bar h.bar
  let c := s.ctx (((bar.place h.head).ctx).getD 256)
  let t := s.target r h.bar (bar.rowD h.head row.row) n
  let rem := r.remaining t
  if (c.halted.orElse fun _ => c.haltAt).any (fun x => decide (x ≤ n)) then .withheld
  else if !sent && s.carries h.bar then .wait
  else if skip then .skip
  else if rem ≤ 0 then .unstamped (whyUnstamped r s.webChan)
  else if ((4 * r.pitch : Nat) : Int) * 2 ^ 32 < rem ∨ r.against.isSome then .wait
  else match s.webChan.bind fun c => c.fireTime r.sgn t with
    | none => .wait
    | some time =>
      let ahead := time - s.tb3
      if 2 ^ 32 < ahead * 1000 then .wait
      else if ahead * 500000 < 2 ^ 32 then .unstamped 3
      else if s.fire.inhibit then .inhibited
      else
        let row := row.settle s.tb3
        match (row.ahead.getLast?.map (·.time)).orElse fun _ => row.lastFire with
        | some p => if time - p < c.fMin then .overspeed else .fire time
        | none => .fire time

/-- The next line of a row to be stamped (R270, R276): cancelled lines first, then the next due line that it fires; with whether
its packet has been sent and whether it is skipped. -/
def nextStamp (bar : Bar) (h : HeadRun) (row : RowRun) : Option (Nat × Bool × Bool) :=
  match row.again with
  | n :: _ => some (n, true, false)
  | [] => (h.due.find? fun d => decide (row.next ≤ d.line) && (bar.firingRows h.head d.line).contains row.row).map fun d => (d.line, d.sent, d.skip)

/-- A row's line is decided: it moves on; a line that every row has passed is no longer due. -/
def passLine (h : HeadRun) (row : RowRun) (n : Nat) (fired : Option Int) (s : State) : State :=
  let row := { row with
    again := row.again.filter (· != n)
    next := max row.next (n + 1)
    ahead := match fired with
      | some t => row.ahead ++ [{ line := n, time := t }]
      | none => row.ahead }
  let rows := h.rows.map fun x => if x.row == row.row then row else x
  let bar := s.bar h.bar
  let open_ (d : DueLine) : Bool := rows.any fun x => decide (x.next ≤ d.line) && (bar.firingRows h.head d.line).contains x.row
  s.putHead { h with rows, due := h.due.filter fun d => open_ d || !d.committed }

/-- A bar fires its first line after a takeover; with the last bar of the run EV_PAIR_TAKEOVER is posted (15 Table 15-9). -/
def noteFirst (b : Nat) (time : Int) (s : State) : State :=
  match s.pair.takeover, s.fire.run with
  | some (since, cause), some r =>
    let s := s.onPair fun p => { p with fired := setBit p.fired b true }
    if (s.runBars r).all fun b => bit s.pair.fired b then
      post evPairTakeover unitPair cause (u32 (tUs (s.tb1 - since + (time - s.tb3))).toNat) (s.onPair fun p => { p with takeover := none })
    else s
  | _, _ => s

/-- Carry out what was judged of a row's line. -/
def doStamp (h : HeadRun) (row : RowRun) (n : Nat) (p : StampPlan) (s : State) : State :=
  let c := ((s.bar h.bar).place h.head).ctx.getD 256
  let send (op : Nat) (t : Int) (s : State) : State := sendStamps h.bar [s.stampEntry h row.row op n t] s
  let skip (k : Nat) (s : State) : State := bump (ctr 8 h.bar k) 1 (send 2 0 (passLine h row n none s))
  match p with
  | .wait => s
  | .withheld => bump (ctr 8 h.bar 4) 1 (passLine h row n none s)
  | .skip => send 2 0 (passLine h row n none s)
  | .unstamped why => postOnceKey evLineUnstamped h.bar unitFir h.bar why (skip 2 s)
  | .inhibited => skip 3 s
  | .overspeed => postOnceKey evHeadOverspeed (unitHead c) (unitHead c) c 1 (skip 1 s)
  | .fire t => noteFirst h.bar t (send 0 t (passLine h (row.settle s.tb3) n (some t) s))

/-- Entries that the priority buffer holds: 32 KB of them (11 Table 11-9). -/
def prioCap : Nat := 4096

/-- STAMP_FORMATION (R266): the next line of a row, at one evaluation. It waits for room in the priority buffer (DESIGN CHOICE, log 128). -/
def execStampFormation (dt bar head row : Nat) (s : State) : Host.Outcome State Fault Refusal :=
  let s := pump bar (advanceProgress (advance dt s))
  onUnit (decide (bar < 10) && decide (head < 32) && decide (row < 8))
   (match s.fire.run with
    | none => s
    | some r => match r.headRun bar head with
      | none => s
      | some h => match h.rows.find? (·.row == row) with
        | none => s
        | some w => match nextStamp (s.bar bar) h w with
          | some (n, sent, skip) =>
            let sent := sent && (s.course bar).carried ((s.bar bar).place head).slot n
            if s.mayPrint && !s.isV1 bar && decide ((s.course bar).prio.length < prioCap) then doStamp h w n (planStamp r h w n sent skip s) s else s
          | none => s)

/-! The run's end (R258). -/

/-- The highest run line that a row of the run has fired. -/
def Run.lastFired (r : Run) : Nat :=
  ((r.heads.flatMap fun h => h.rows.flatMap fun x => x.lastLine.toList ++ x.ahead.map (·.line)).max?).getD 0

/-- A head has fired or skipped all that it was due to. -/
def State.headDone (s : State) (r : Run) (h : HeadRun) : Bool :=
  let prints := (s.runBars r).contains h.bar && s.headPrints h.bar h.head
  let bar := s.bar h.bar
  let gone (d : DueLine) : Bool := s.isV1 h.bar && d.sent && (bar.firingRows h.head d.line).all fun row =>
    decide (r.remaining (s.target r h.bar (bar.rowD h.head row) d.line) ≤ 0)
  (!prints || r.dueOver || !r.wants h.nextDue) && h.due.all gone
    && h.rows.all fun x => x.again.isEmpty && x.ahead.all fun a => decide (a.time ≤ s.tb3)

/-- Every row has fired or skipped the last line it was due to fire (R258). -/
def State.runDone (s : State) (r : Run) : Bool :=
  (r.dueOver || (r.lastLine.isSome && !r.wants r.nextTick)) && r.heads.all (s.headDone r)

/-- RUN_END to a course (R258): the RUN_END stamp, or on a version 1 course the control packet. -/
def sendRunEnd (r : Run) (last b : Nat) (s : State) : State :=
  if !bit r.bars b || !s.carries b then s
  else if s.isV1 b then sendCtrl b 0x03 (toLe 8 last) s
  else pushPrio b [{ run := r.id, op := 5, line := last }] s

/-- The last frame's record closes (R258): PARTIAL if the frame did not reach its last line. -/
def closeRun (r : Run) (s : State) : State :=
  let f := s.frameOf r r.tickedLine
  let part := r.ticked && decide (r.tickedLine + 1 < f.line + r.frameLines)
  let s := if part then bump (ctr 7 0 5) 1 s else s
  (closeRecord (if r.ticked then b2n part else 8) {} s).onStat fun t => { t with idleSince := s.tb1 }

/-- Lead and alignments that are still moving take effect at the run's end (log 23). -/
def settleSlews (s : State) : State :=
  let s := match s.fire.leadTo with
    | some (t, ids) => finishAll ids .good (s.onFire fun f => { f with lead := t, leadTo := none })
    | none => s
  (List.range 10).foldl (fun s b => match (s.bar b).alignTo with
    | some (f, r, ids) => finishAll ids .good (s.onBar b fun x => { x with alignF := f, alignR := r, alignTo := none })
    | none => s) s

/-- The run ends with a reason of EV_RUN_ENDED (R258). -/
def runEnd (reason : Nat) (s : State) : State :=
  match s.fire.run with
  | none => s
  | some r =>
    let last := (r.lastLine.getD (((r.heads.map (·.nextDue)).max?).getD 1 - 1))
    let s := (List.range 10).foldl (fun s b => sendRunEnd r last b s) s
    let fired := r.lastFired
    let begun := if r.ticked then (s.frameOf r r.tickedLine).frame + 1 else 0
    let s := closeRun r (closeBand s)
    let s := s.onStore fun t => { t with ring := 0 }
    let s := s.onCps fun c => { c with ring := [], frames := [], span := none, nextCl := 0, nextFrame := 0, oldest := 0, waited := none }
    let s := s.onFire fun f => { f with run := none, capos := [], lastLine := fired }
    let s := (s.onBars fun x => { x with catchUp := none }).onBars fun x =>
      { x with bars := x.bars.map fun b => { b with fronts := [], catchLead := none, firstLine := 0 } }
    let s := applyPendings (cancelFlips s)
    let s := (List.range 10).foldl (fun s b => barBoundary b s) s
    let s := settleSlews (endSlew (posRunEnd s))
    let s := setLimit false r.ceiling s
    let s := post evRunEnded unitFir r.id reason (checkLow s)
    let s := setPower (if s.thm.power == .p0 then .p1 else s.thm.power) s
    finishAll ((r.stop.map (·.cmds)).getD []) (.good (toLe 8 fired ++ toLe 4 begun ++ toLe 1 reason)) s

/-- Take packets out of a bar's queue before they are sent, as HALT does (R272, R278; DEDUCED, log 118): their rows are counted as withheld. A
packet that the course is sending is sent whole. -/
def dropUnsent (b : Nat) (p : QueuePacket → Bool) (s : State) : State :=
  let out (x : QueuePacket) : Bool := p x && x.stamp.isNone && x.popped == 0
  let gone := (s.course b).queue.filter out ++ (s.course b).unwritten.filter p
  let rows := (gone.map fun x => ((s.bar b).firingRows x.head x.line).length).sum
  let s := s.onCourse b fun c => { c with queue := c.queue.filter fun x => !out x }
  let s := s.onRun fun r => { r with heads := r.heads.map fun h => if h.bar = b then
    { h with due := h.due.filter fun d => !(gone.any fun x => x.head == h.head && x.line == d.line) } else h }
  dropWriting b (p ·.p) (checkMarks b (bump (ctr 8 b 4) rows s))

/-- Stop at once as HALT does, with a reason (R258): stamps more than 2 us ahead are cancelled, line packets not yet sent are dropped
(R272), and the run ends. -/
def haltRun (reason : Nat) (s : State) : State :=
  let bars := (s.fire.run.map (·.bars)).getD 0
  runEnd reason (((List.range 10).filter fun b => bit bars b).foldl (fun s b => dropUnsent b (fun _ => true) s) (cancelRun false s).1)

/-- RUN_END (R258). -/
def execRunEnd (dt : Nat) (s : State) : Host.Outcome State Fault Refusal :=
  let s := advanceProgress (advance dt s)
  .next (match s.fire.run with
    | some r => if s.runDone r && !s.copies then runEnd ((r.stop.map (·.reason)).getD 2) s else s
    | none => s)

/-! Print inhibit (R277). -/

/-- FIREs of a bar more than 2 us ahead. -/
def State.aheadOf (s : State) (r : Run) (b : Nat) : Nat :=
  ((r.heads.filter (·.bar == b)).map fun h => (h.rows.map fun x => (x.ahead.filter fun a => decide (s.tb3 + usT 2 < a.time)).length).sum).sum

/-- PRINT_INHIBIT_N changes, as filtered: on its assertion every FIRE more than 2 us ahead is cancelled for good. -/
def setInhibit (on : Bool) (s : State) : State :=
  let s := s.onFire fun f => { f with inhibit := on }
  let line := (s.fire.run.map (·.nextTick)).getD 0
  let s := match on, s.fire.run with
    | true, some r =>
      let s := (List.range 10).foldl (fun s b => bump (ctr 8 b 3) (s.aheadOf r b) s) s
      (cancelRun false s).1
    | _, _ => s
  post evPrintInhibit unitFir (b2n on) (line % 2 ^ 32) s

/-- PRINT_INHIBIT_ASSERT (R277): the TB domain samples the pin; while it does not run, only the level is kept (R282). -/
def execPrintInhibitAssert (dt : Nat) (s : State) : Host.Outcome State Fault Refusal :=
  let s := advance dt s
  .next (if s.fire.inhibit then s else if s.posRuns then setInhibit true s else s.onFire fun f => { f with inhibit := true })

/-- PRINT_INHIBIT_RELEASE (R277, R282). -/
def execPrintInhibitRelease (dt : Nat) (s : State) : Host.Outcome State Fault Refusal :=
  let s := advance dt s
  .next (if !s.fire.inhibit then s else if s.posRuns then setInhibit false s else s.onFire fun f => { f with inhibit := false })

/-! Halting a head (R278). -/

/-- N_h on a version 1 course, where the lines sent fire (R272): one above the last line of the head that is sent or being sent. -/
def haltLineV1 (q : List QueuePacket) (h : HeadRun) : Nat :=
  let going (n : Nat) : Bool := q.any fun x => x.head == h.head && x.line == n && x.popped != 0
  let sent := (h.due.filter fun (d : DueLine) => d.sent || going d.line).map fun (d : DueLine) => d.line + 1
  let fired := h.rows.filterMap fun (x : RowRun) => x.lastLine.map (· + 1)
  ((sent ++ fired).max?).getD 0

/-- N_h: the lowest run line that no row of the head has a FIRE for with its time before now + 2 us. -/
def haltLine (now : Int) (h : HeadRun) : Nat :=
  ((h.rows.filterMap fun x => (x.settle (now + usT 2 - 1)).lastLine.map (· + 1)).max?).getD 0

/-- Halt a head context (Table 10-6); one already halted changes nothing. -/
def haltHead (c : Nat) (s : State) : State :=
  let x := s.ctx c
  if x.halted.isSome || x.haltAt.isSome then s
  else match x.owner with
    | none => standHalted c 0 s
    | some (b, h) => match s.fire.run.bind fun r => r.headRun b h with
      | none => standHalted c 0 s
      | some hr =>
        let n := if s.isV1 b then haltLineV1 (s.course b).queue hr else haltLine s.tb3 hr
        let s := if s.isV1 b then dropUnsent b (fun x => x.head == h && decide (n ≤ x.line)) s else s
        let hr := ((s.fire.run.bind fun r => r.headRun b h).getD hr)
        let held := (hr.rows.map fun r => (r.ahead.filter fun a => decide (n ≤ a.line)).length).sum
        let s := s.putHead { hr with rows := hr.rows.map fun r => { r with ahead := r.ahead.filter fun a => decide (a.line < n), again := r.again.filter (· < n) } }
        let s := bump (ctr 8 b 4) held (sendStamps b [{ (s.stampEntry hr 0 4 n 0) with target := ((s.bar b).place h).slot }] s)
        if s.inPrint b then s.onCtx c fun x => { x with haltAt := some n } else standHalted c n s

end Sys2Proof.Machine
end

