-- ==== Sys2Proof/Machine/Print.lean ====
section
/-!
DEFINITION. The PRINT commands (spec/10_firing.md, R254 to R258, R263, R268, R280) and the chain of sums that PRINT_START
checks (spec/01_print_model.md, R24; spec/11_course_links_and_queues.md, R302).
-/
namespace Sys2Proof.Machine

/-! The chain of sums (01 R24). A line rate is a fraction, lines/s. -/

/-- Line rate at a web speed in mm/min. -/
def lineRate (speed pitch : Nat) : Nat × Nat := (speed * 768000, 60 * 254 * pitch)

/-- Course work of a bar's line in a phase: raw row bytes, line packets, stamp entries (01 R24, 11 R302). -/
def State.phaseWork (s : State) (n phase : Nat) : Nat × Nat × Nat :=
  let b := s.bar n
  let heads := ((b.placed.filter fun h => s.headPrints n h).map fun h => (h, b.firingRows h phase)).filter fun x => !x.2.isEmpty
  (s.phaseBytes n phase, heads.length, (heads.map (·.2.length)).sum)

/-- Lines by which a head's due line in a tick runs ahead of one whose offset is 0 (10 R264, 01 R20). -/
def State.headShift (s : State) (sgn : Int) (pitch n h : Nat) : Int :=
  let b := s.bar n
  let align := if s.isV1 n then 0 else if sgn < 0 then b.alignR else b.alignF
  (align - sgn * b.refD h).fdiv (max 1 pitch : Nat)

/-- Render clocks of a bar over the heads due in one tick of a phase, each on the line that it has due in that tick (09 R229). -/
def State.phaseClocks (s : State) (sgn : Int) (pitch n phase : Nat) : Nat :=
  let b := s.bar n
  ((b.placed.filter fun h => s.headPrints n h).map fun h =>
    b.headClocks h (((phase : Int) + s.headShift sgn pitch n h).emod (max 1 b.conf.interleave : Nat)).toNat).sum

/-- A bar's course payload at a rate, with the overhead beyond 6 % that stamps cost a version 2 course (R301, R302), exceeds 94 % of the block payload of its lanes (Table 1-4, 11 R302): 47.0 Gbit/s, 23.5 on
one lane, at 25.78125 Gbit/s. -/
def payloadOver (rate : Nat × Nat) (cap : Nat) (v1 : Bool) (w : Nat × Nat × Nat) : Bool :=
  let (rn, rd) := rate
  let k := rd * 2000000 / rn + 1
  let o := 16 * w.2.1 + (if v1 then 0 else 8 * w.2.2 + 32 * k) + 24
  let beyond := 800 * o * rn - 6 * cap * rd
  decide (94 * cap * rd < 800 * w.1 * rn + beyond)

/-- Block payload of a bar's course at the rate that its lanes run at, bit/s; a course that runs on one lane has half (11 R284,
R318). -/
def State.courseCap (s : State) (b : Nat) : Nat :=
  let lane := if (s.course b).run.rate = 1 then 10000000000 else 25000000000
  if s.onOneLane b then lane else 2 * lane

/-- Bytes that a row of blocks fetches: its index entries and its blocks (07 R175). -/
def Img.rowBytes (m : Img) (row : Nat) : Nat :=
  ((List.range m.h.blocksX).map fun x => 4 + (objBlock m.obj (row * m.h.blocksX + x)).length).sum

/-- Bytes that a layer fetches for a frame of contone lines: each row of blocks whole at each entry into it (log 24). -/
def fetchBytes (c : LayerCfg) (m : Img) (lines : Nat) : Nat :=
  let xs := if c.rep.geometry = 2 then [c.rep.originX, c.rep.originX + m.h.width] else [c.rep.originX]
  let rows (v : Nat) : List Nat :=
    let y := nearestPx (srcPos v c.destY c.stepY)
    (xs.filterMap fun x => (tilePixel c.rep m.h.width m.h.height x y).map fun p => p.2 / 4).eraseDups
  ((List.range lines).foldl (fun (acc : Nat × List Nat) v =>
    let now := rows v
    (acc.1 + ((now.filter fun r => !acc.2.contains r).map m.rowBytes).sum, now)) (0, [])).1

/-- The images that a layer may show in a run: its own, those of its job that a flip may give it (08 R209), and those of its pending
flips. -/
def State.layerImages (s : State) (i : Nat) : List Img :=
  let c := (s.layer i).act
  let own := match s.job c.job with
    | some j => ((directory j.bytes).filter (·.type == 1)).map fun e => (c.job, e.id)
    | none => []
  let all := (own ++ (s.layer i).flips.map fun f => (f.job, f.obj)).filterMap fun x => s.imgOf x.1 x.2
  all.filter fun m => m.h.format == c.format && m.h.depth == c.depth && m.h.inkMask == c.inkMask

/-- Bytes that a layer fetches for the job's largest frame, the one in which it shows the image that costs it most (R24, log 24). -/
def State.layerFetch (s : State) (i lines : Nat) : Nat :=
  let c := (s.layer i).act
  if c.source = 1 then (((s.layerImages i).map fun m => fetchBytes c m lines).max?).getD 0 else 0

/-- The first ceiling of Table 1-4 that a run exceeds at its greatest speed, worked out over the bars of RUN_BARS (R254). -/
def ceilingFault (sgn : Int) (mask speed pitch frameLines : Nat) (s : State) : Option Reply :=
  let (rn, rd) := lineRate speed pitch
  let bars := (List.range 10).filter fun b => bit mask b && (s.bar b).cfg.isSome
  let phases := bars.flatMap fun b => (List.range (s.bar b).conf.interleave).map fun ph => (b, ph)
  let work := phases.map fun x => (x.1, s.phaseWork x.1 x.2)
  let beyond := work.find? fun x => payloadOver (rn, rd) (s.courseCap x.1) (s.isV1 x.1) x.2
  let busy := phases.find? fun x => decide (9 * 1200000000 * rd < 10 * s.phaseClocks sgn pitch x.1 x.2 * rn)
  let (u0, u1) := s.spanOf mask
  let crd := if pitch = 64 then 2 * rd else rd
  let cls := if pitch = 64 then ceilDiv frameLines 2 else frameLines
  let compose := sliceWidth (u1 - u0) s.pipes * s.cpp
  let fetch := (((List.range 8).filter s.active).map fun i => s.layerFetch i cls).sum
  let ring := 8 * (u1 - u0) + s.ringReads bars
  firstFail
    [ (decide ((s.ceilingRate bars).1 * rd < rn * (s.ceilingRate bars).2), Reply.err .limit 0x0180),
      (beyond.isSome, Reply.errUnit .limit 0x0181 (unitCourse ((beyond.map (·.1)).getD 0))),
      (busy.isSome, Reply.errUnit .limit 0x0182 (unitBre ((busy.map fun x => (s.bar x.1).engine).getD 0))),
      (decide (9 * crd * 2 ^ 38 * 1200000000 < 10 * rn * compose), Reply.err .limit 0x0183),
      (decide (85 * 32000000 * s.store.memMts * (crd * rd * frameLines)
        < 100 * (ring * rn * rd * frameLines + fetch * rn * crd + 1000000000 * (crd * rd * frameLines))), Reply.err .limit 0x0184) ]

/-! PRINT_START (R254, R255). -/

/-- Smallest and largest row offset among bars (01 R17). -/
def State.offsets (s : State) (mask : Nat) : Int × Int :=
  let ds := (List.range 10).flatMap fun b =>
    if bit mask b then (s.bar b).placed.flatMap fun h => (List.range ((s.bar b).place h).rows.length).map fun r => (s.bar b).rowD h r else []
  ((ds.min?).getD 0, (ds.max?).getD 0)

/-- RING_LINES and pages (09 R219). -/
def State.ringSize (s : State) (mask pitch : Nat) : Nat × Nat :=
  let (lo, hi) := s.offsets mask
  let lines := 64 * ceilDiv (ceilDiv (hi - lo).toNat 128 + 320 * pitch / 128 + 18 + 64) 64
  let (u0, u1) := s.spanOf mask
  (lines, ceilDiv (lines * 8 * (u1 - u0)) (2 ^ 21))

/-- What PRINT_START asks for. -/
structure PrintArgs where
  sgn : Int := 1
  pitch : Nat := 64
  lead : Nat := 32
  mask : Nat := 0
  capo : Int := 0
deriving Repr, Inhabited

/-- RUN_BARS 0 stands for the bars enabled. -/
def printArgs (q : Cmd) (s : State) : PrintArgs :=
  let sgn : Int := if q.u8 0 = 1 then -1 else 1
  let en := ((List.range 10).map fun b => if (s.bar b).enabled then 2 ^ b else 0).sum
  { sgn, pitch := if q.u8 1 = 1 then 128 else 64, lead := if q.u8 3 = 0 then s.fire.lead else q.u8 3
    mask := if q.u16 24 = 0 then en else q.u16 24
    capo := if bit (q.u8 2) 0 then (s.webP.getD 0) + sgn * q.s64 8 else q.s64 8 }

/-- The device cannot print (R255): standby, asleep, in a lifecycle and debug state that P0 does not go with (04 R101), shut down or at
fault. A standby that applies a record does not ask. -/
def State.cannotPrint (s : State) (q : Cmd) : Bool :=
  (decide (q.ring < 8) && (s.pair.st == .standby || s.pair.st == .joining || s.thm.power == .p2 || s.thm.power == .p3))
    || (stateCell s.sec.lifecycle s.sec.debug .p0).isNone || s.thm.hold || s.stat.fault.isSome

/-- Checks of PRINT_START, in the order of R255. -/
def printStartCheck (q : Cmd) (s : State) : Option Reply :=
  let a := printArgs q s
  let enabled := (List.range 10).filter fun b => (s.bar b).enabled
  let (dMin, _) := s.offsets a.mask
  firstFail (shape q 32 [(0, 26)] ++
    [ (decide (1 < q.u8 0), Reply.bad 0), (decide (1 < q.u8 1), Reply.bad 1), (extraBits (q.u8 2) 1, Reply.bad 2),
      (q.u8 3 != 0 && (decide (q.u8 3 < 16) || decide (64 < q.u8 3)), Reply.bad 3),
      (decide (q.u32 4 < 16) || decide (16777216 < q.u32 4), Reply.bad 4),
      (decide (q.u32 16 < 1000) || decide (320000 < q.u32 16), Reply.bad 16),
      (extraBits (q.u16 24) 0x3FF, Reply.bad 24),
      (s.fire.run.isSome, Reply.err .state 0x0170),
      (s.cannotPrint q, Reply.err .state 0x0174),
      (s.webQ.isNone, Reply.err .state 0x0172),
      (!(enabled.any fun b => bit a.mask b) || enabled.any (fun b => !bit a.mask b), Reply.err .state 0x0173),
      (decide (q.ring < 8) && decide (a.sgn * (a.capo + dMin - s.webP.getD 0) < (((a.lead + 8) * a.pitch : Nat) : Int)), Reply.err .state 0x0171),
      ((ceilingFault a.sgn a.mask (q.u32 16) a.pitch (q.u32 4) s).isSome, (ceilingFault a.sgn a.mask (q.u32 16) a.pitch (q.u32 4) s).getD {}),
      (decide (s.store.freePages < (s.ringSize a.mask a.pitch).2), Reply.err .noSpace 0x016B) ])

/-- Send RUN_BEGIN to the courses of a run (11 Table 11-6). -/
def sendRunBegin (r : Run) (s : State) : State :=
  (List.range 10).foldl (fun s b =>
    if bit r.bars b && s.carries b then
      sendCtrl b 0x02 (toLe 4 r.id ++ toLe 1 (b2n r.reverse) ++ toLe 1 (if r.pitch = 64 then 0 else 1) ++ toLe 2 0 ++ toLe 8 (s.bar b).firstLine) s
    else s) s

/-- A bar whose ENGINE is 0xFF returns to its own engine if that is in service (09 R241). -/
def engineHome (b : Nat) (s : State) : State :=
  if (s.bar b).conf.engine == 0xFF && (s.bar b).engine == 10 && !s.isRetired (unitBre b) && !s.engineTaken b b then
    s.onBar b fun x => { x with engine := b, swapping := none }
  else s

/-- Arm a run. -/
def armRun (q : Cmd) (s : State) : State :=
  let a := printArgs q s
  let (ringLines, ringPages) := s.ringSize a.mask a.pitch
  let s := if q.ring < 8 then setPower .p0 s else s
  let s := (List.range 10).foldl (fun s b => engineHome b s) s
  let est := (s.webChan.bind fun c => c.estQ a.sgn s.tb3).getD (s.webQ.getD 0)
  let run : Run :=
    { id := s.fire.nextRun, reverse := decide (a.sgn < 0), pitch := a.pitch, frameLines := q.u32 4, frames := q.u32 20, bars := a.mask, maxSpeed := q.u32 16
      ringLines, ringPages, starts := [{ capo := a.capo }], progress := a.sgn * est, tickProgress := a.sgn * est }
  let s := s.onFire fun f => { f with run := some run, nextRun := (f.nextRun + 1) % 2 ^ 31, lead := a.lead, leadTo := none, leadTicks := 0, capos := [] }
  let s := checkLow (s.onStore fun t => { t with ring := ringPages })
  let s := s.onCps fun c => { c with
    span := some (s.spanOf a.mask), cutFor := 5, nextFrame := 0, nextCl := 0, ring := [], frames := [], oldest := 0, band := none, waited := none
    layers := c.layers.map fun l => { l with hadContent := false, notReadyFrames := 0 } }
  let s := (List.range 10).foldl (fun s b =>
    if (s.bar b).enabled then joinRun b 0 (s.onBar b fun x => { x with firstLine := 0, lastPushed := 0 }) else s) s
  let s := sendRunBegin run s
  let s := post evRunStarted unitFir run.id (a.capo.emod (2 ^ 32)).toNat (checkLimit s)
  match s.fire.run with
  | some r => if s.readyNow r { capo := a.capo } && decide (q.ring < 8) then readyFrame r { capo := a.capo } s else s
  | none => s

/-- PRINT_START (R255). -/
def printStartEffect (q : Cmd) (s : State) : Ans :=
  let id := s.fire.nextRun
  let capo := (printArgs q s).capo
  let s := armRun q s
  .done (.good (toLe 4 id ++ toLe 4 ((s.fire.run.map (·.ceiling)).getD 0) ++ toLeS 8 capo)) s

/-- PRINT_START (R255). -/
def execPrintStart (q : Cmd) (s : State) : Host.Outcome State Fault Refusal := runCmd 0x0701 printStartCheck printStartEffect q s

/-! PRINT_STOP (R258). -/

/-- The highest line already due on any head. -/
def Run.highestDue (r : Run) : Option Nat := ((r.heads.filterMap fun h => if h.nextDue = 0 then none else some (h.nextDue - 1)).max?)

/-- Checks of PRINT_STOP. -/
def printStopCheck (q : Cmd) (s : State) : Option Reply :=
  let r := s.fire.run.getD {}
  firstFail (shape q 16 [(0, 1), (8, 8)] ++
    [ (decide (3 < q.u8 0), Reply.bad 0), (s.fire.run.isNone, Reply.err .state 0x0170),
      (q.u8 0 == 1 && r.highestDue.any (fun n => decide (q.u64 8 < n)), Reply.err .state 0x0179) ])

/-- The last line that a mode fixes: that of the frame of the next press line tick, or LINE; NOW and HALT fix none. -/
def stopLine (q : Cmd) (r : Run) (s : State) : Option Nat :=
  match q.u8 0 with
  | 0 => some ((s.frameOf r r.nextTick).line + r.frameLines - 1)
  | 1 => some (q.u64 8)
  | _ => none

/-- The stricter of two last lines. -/
def stricter : Option Nat → Option Nat → Option Nat
  | some x, some y => some (min x y)
  | some x, none => some x
  | none, y => y

/-- A PRINT_STOP on the stop ordered before it (R258): a mode further down Table 10-1 makes it stricter, another changes nothing; the
command completes at the end of the run either way. -/
def stopOn (q : Cmd) (r : Run) (s : State) : Stop :=
  match r.stop with
  | none => { mode := q.u8 0, last := stopLine q r s, cmds := [q.id] }
  | some st =>
    if st.mode < q.u8 0 then { mode := q.u8 0, last := stricter (stopLine q r s) st.last, cmds := st.cmds ++ [q.id] }
    else { st with cmds := st.cmds ++ [q.id] }

/-- PRINT_STOP (R258): a stricter mode replaces the one ordered; HALT ends the run at once. -/
def printStopEffect (q : Cmd) (s : State) : Ans :=
  match s.fire.run with
  | none => .done (Reply.err .state 0x0170) s
  | some r =>
    let stop := stopOn q r s
    let s := s.onRun fun r => { r with stop := some stop }
    if stop.mode = 3 then .wait (haltRun stop.reason s) else .wait s

/-- PRINT_STOP (R258). -/
def execPrintStop (q : Cmd) (s : State) : Host.Outcome State Fault Refusal := runCmd 0x0702 printStopCheck printStopEffect q s

/-! PRINT_CAPO (R256). -/

/-- The default capo position of a frame: where the one before it ends. -/
def State.defaultCapo (s : State) (r : Run) (frame : Nat) : Int :=
  (s.startOf r (frame - 1)).capo + r.sgn * ((r.frameLines * r.pitch : Nat) : Int)

/-- Checks of PRINT_CAPO; frame 0 has the capo position of PRINT_START. -/
def printCapoCheck (q : Cmd) (s : State) : Option Reply :=
  let r := s.fire.run.getD {}
  let f := q.u32 0
  let c := s.defaultCapo r f
  let set := !bit (q.u8 4) 0
  firstFail (shape q 16 [(0, 5), (8, 8)] ++
    [ (extraBits (q.u8 4) 1, Reply.bad 4), (f == 0, Reply.bad 0),
      (s.fire.run.isNone, Reply.err .state 0x0170),
      (set && decide (r.sgn * (q.s64 8 - c) < 0), Reply.bad 8 0x0176),
      (set && (decide (f < s.cps.nextFrame) || decide (s.readyPoint r c ≤ r.progress)), Reply.err .state 0x0177),
      (set && decide (16 ≤ s.fire.capos.length) && !(s.fire.capos.any (·.1 == f)), Reply.err .limit 0x0178) ])

/-- PRINT_CAPO (R256). -/
def printCapoEffect (q : Cmd) (s : State) : Ans :=
  let rest := s.fire.capos.filter fun c => c.1 != q.u32 0
  .done .good (s.onFire fun f => { f with capos := if bit (q.u8 4) 0 then rest else rest ++ [(q.u32 0, q.s64 8)] })

/-- PRINT_CAPO (R256). -/
def execPrintCapo (q : Cmd) (s : State) : Host.Outcome State Fault Refusal := runCmd 0x0703 printCapoCheck printCapoEffect q s

/-! PRINT_LEAD and PRINT_OFFSETS (R263, R268). -/

/-- Checks of PRINT_LEAD. -/
def printLeadCheck (q : Cmd) (s : State) : Option Reply :=
  firstFail (shape q 8 [(0, 1)] ++
    [(decide (q.u8 0 < 16) || decide (64 < q.u8 0), Reply.bad 0), (s.bars.catchUp.isSome, Reply.err .state 0x0168)])

/-- PRINT_LEAD (R268). -/
def printLeadEffect (q : Cmd) (s : State) : Ans :=
  let ids := (s.fire.leadTo.map (·.2)).getD []
  if s.fire.run.isNone || s.fire.lead == q.u8 0 then
    .done .good (finishAll ids .good (s.onFire fun f => { f with lead := q.u8 0, leadTo := none }))
  else .wait (s.onFire fun f => { f with leadTo := some (q.u8 0, ids ++ [q.id]) })

/-- PRINT_LEAD (R268). -/
def execPrintLead (q : Cmd) (s : State) : Host.Outcome State Fault Refusal := runCmd 0x0704 printLeadCheck printLeadEffect q s

/-- Checks of PRINT_OFFSETS. -/
def printOffsetsCheck (q : Cmd) (_s : State) : Option Reply :=
  let out (v : Int) : Bool := decide (v < -32768) || decide (32767 < v)
  firstFail (shape q 16 [(0, 1), (4, 8)] ++
    [(decide (9 < q.u8 0), Reply.bad 0), (out (q.s32 4), Reply.bad 4), (out (q.s32 8), Reply.bad 8)])

/-- PRINT_OFFSETS (R263). -/
def printOffsetsEffect (q : Cmd) (s : State) : Ans :=
  let b := q.u8 0
  let x := s.bar b
  let ids := (x.alignTo.map (·.2.2)).getD []
  if s.fire.run.isNone || (x.alignF == q.s32 4 && x.alignR == q.s32 8) then
    .done .good (finishAll ids .good (s.onBar b fun x => { x with alignF := q.s32 4, alignR := q.s32 8, alignTo := none }))
  else .wait (s.onBar b fun x => { x with alignTo := some (q.s32 4, q.s32 8, ids ++ [q.id]) })

/-- PRINT_OFFSETS (R263). -/
def execPrintOffsets (q : Cmd) (s : State) : Host.Outcome State Fault Refusal := runCmd 0x0705 printOffsetsCheck printOffsetsEffect q s

/-! PRINT_STATUS (Table 10-8). -/

/-- STATE of the run. -/
def printState (s : State) : Nat :=
  match s.fire.run with
  | none => 0
  | some r => if r.stop.isSome then 3 else if r.ticked then 2 else 1

/-- Estimated line rate, lines/s. -/
def State.estRate (s : State) : Nat :=
  match s.fire.run with
  | some r => s.runSpeed / (r.pitch * 2 ^ 32)
  | none => 0

/-- The inline result. -/
def printStatusResult (s : State) : List Byte :=
  let r := s.fire.run.getD {}
  let valid := s.webChan.any fun c => c.speedValid
  toLe 1 (printState s) ++ toLe 1 (b2n s.fire.inhibit + 2 * b2n s.board.speedLimit + 4 * b2n r.backing + 8 * b2n valid)
    ++ toLe 1 s.fire.lead ++ toLe 1 (b2n r.reverse) ++ toLe 4 r.frame ++ toLe 8 r.nextTick

/-- The structure; with no run armed its run fields read 0. -/
def printStatusBlock (s : State) : List Byte :=
  let r := s.fire.run.getD { frameLines := 0 }
  let ceiling := (s.fire.run.map fun r => s.ceiling (s.runBars r)).getD 0
  let capo := if s.fire.run.isSome then (s.startOf r r.frame).capo else 0
  toLe 4 r.id ++ toLe 4 r.frameLines ++ toLeS 8 capo ++ toLeS 8 ((r.sgn * r.progress).fdiv (2 ^ 32)) ++ toLe 4 ceiling ++ toLe 4 s.estRate
    ++ (List.range 10).flatMap (fun b => toLeS 2 (s.bar b).alignF) ++ (List.range 10).flatMap (fun b => toLeS 2 (s.bar b).alignR)
    ++ toLe 1 s.fire.capos.length ++ List.replicate 7 0
    ++ s.fire.capos.flatMap fun c => toLe 4 c.1 ++ toLe 4 0 ++ toLeS 8 c.2

/-- Checks of PRINT_STATUS. -/
def printStatusCheck (q : Cmd) (_s : State) : Option Reply := firstFail (shape q 16 [(8, 8)] ++ [(addrBad q 8, Reply.bad 8)])

/-- PRINT_STATUS (R280). -/
def printStatusEffect (q : Cmd) (s : State) : Ans :=
  .done (.withExt (printStatusResult s) (q.u64 8) (if q.src.isNone && q.u64 8 == 0 then [] else printStatusBlock s)) s

/-- PRINT_STATUS (R280). -/
def execPrintStatus (q : Cmd) (s : State) : Host.Outcome State Fault Refusal := runCmd 0x0706 printStatusCheck printStatusEffect q s

end Sys2Proof.Machine
end

