-- ==== Sys2Proof/Machine/Stamp.lean ====
section
/-!
DEFINITION. What a course carries in a run: line packets, stamp packets, flushes, the bridges' STATUS and its silence
(spec/11_course_links_and_queues.md, R299, R306, R311 to R317; spec/14_thermal_and_power.md, R375).
-/
namespace Sys2Proof.Machine

/-! LINK_QUEUE_FLUSH (R313). -/

/-- Checks of LINK_QUEUE_FLUSH. -/
def linkQueueFlushCheck (q : Cmd) (s : State) : Option Reply :=
  firstFail (shape q 8 [(0, 1)] ++
    [(decide (9 < q.u8 0), Reply.bad 0 0x0198),
      (s.isRetired (unitCourse (q.u8 0)), Reply.errUnit .retired 0 (unitCourse (q.u8 0))), (s.holding (.course (q.u8 0)), Reply.errUnit .busy 0 (unitCourse (q.u8 0)))])

/-- LINK_QUEUE_FLUSH (R313): it completes at once, or when the packet that the producer is writing commits. -/
def linkQueueFlushEffect (q : Cmd) (s : State) : Ans :=
  match flushQueue (q.u8 0) [q.id] s with
  | (s, some (n, flits)) => .done (.good (toLe 4 n ++ toLe 4 flits)) s
  | (s, none) => .wait s

/-- LINK_QUEUE_FLUSH (R313). -/
def execLinkQueueFlush (q : Cmd) (s : State) : Host.Outcome State Fault Refusal := runCmd 0x0B06 linkQueueFlushCheck linkQueueFlushEffect q s

/-! Line packets (R292, R310 to R314). -/

/-- Send the packet at the front of a queue: START with SLOT and run line bits [15:0], its row blocks; stomped where a flit reads
uncorrectable, its rows then getting SKIP (R314). -/
def sendLine (l : Nat) (p : QueuePacket) (s : State) : State :=
  let poisoned := !p.hard.isEmpty
  let s := bumpTime (ctr 9 l 5) (s.course l).stallSince (s.onCourse l fun c => { c with stallSince := none })
  let s := transmit l .data (p.slot + 256 * (p.line % 65536)) p.bytes poisoned (readFlits l p s)
  let s := if poisoned then postOnceFrame evQueuePoisoned (unitCourse l) l (p.line % 2 ^ 32) (bump (ctr 9 l 7) 1 s) else s
  match p.stamp with
  | some e => if poisoned then s else pushPrio l [e] s
  | none => s.onDue l p.head p.line fun d => { d with sent := true, skip := d.skip || poisoned }

/-- The consumer pops the packet at the front for some clocks, a flit in each (R311); with its last flit the line of a packet with
DISCARD is late (R312). -/
def popOn (l clocks : Nat) (p : QueuePacket) (s : State) : State :=
  let (s, gone) := popFlits l (max 1 clocks) s
  if gone && p.discard && !p.late && p.stamp.isNone then lateLine l p.head p.line s else s

/-- The consumer at the packet in front (R311): it goes on with one that it is popping; it starts one that was committed in an earlier
clock, unless the packet is to be sent and DATA credit or the retry buffer has no room. -/
def serveQueue (l clocks : Nat) (s : State) : State :=
  let c := s.course l
  match c.queue with
  | [] => s
  | p :: _ =>
    if p.popped != 0 then popOn l clocks p s
    else if !s.carries l || !p.visible s.tb1 then s
    else if p.discard then popOn l clocks p s
    else if c.maySend .data p.bytes.length then popOn l clocks p (sendLine l p s)
    else if c.hasCredit .data p.bytes.length then s
    else s.onCourse l fun c => { c with stallSince := some (c.stallSince.getD s.tb1) }

/-- LINE_PACKET_SEND (R311). -/
def execLinePacketSend (dt course clocks : Nat) (s : State) : Host.Outcome State Fault Refusal :=
  onUnit (decide (course < 10)) (serveQueue course clocks (pump course (advance dt s)))

/-! Stamp packets (R269, R299). -/

/-- Entries of one packet: those of one run, up to the count limit (R292). -/
def takeStamps (limit : Nat) (es : List PrioEntry) : List PrioEntry :=
  ((es.takeWhile fun e => e.run == (es.headD {}).run)).take limit

/-- The body of a stamp packet (Tables 10-3, 10-4). -/
def stampBody (now : Int) (es : List PrioEntry) : List Byte :=
  let timed (e : PrioEntry) : Bool := decide (e.op < 2)
  let base := (((es.filter timed).map (·.time)).min?).getD now
  toLe 4 (base.fdiv (2 ^ 32) % 2 ^ 32).toNat ++ toLe 4 (base.fmod (2 ^ 32)).toNat ++ toLe 2 es.length ++ toLe 2 0 ++ toLe 4 (es.headD {}).run
    ++ es.flatMap fun e => toLe 1 e.target ++ toLe 1 e.op ++ toLe 2 (e.line % 65536) ++ toLe 4 (if timed e then (e.time - base).toNat else 0)

/-- A FIRE that waited for credit until less than 2 us before its time (R299, 10 R266). -/
def PrioEntry.tooLate (now : Int) (e : PrioEntry) : Bool := e.op == 0 && decide (e.time < now + usT 2)

/-- Its row no longer has a FIRE for the line. -/
def RowRun.unfire (line : Nat) (r : RowRun) : RowRun := { r with ahead := r.ahead.filter fun a => a.line != line }

/-- Entries that waited for credit: a FIRE that is too late becomes SKIP and its later UPDATE and CANCEL go, counted as R266
counts it. -/
def settleWaited (b : Nat) (s : State) : State :=
  let now := s.tb3
  let late := (s.course b).prio.filter (·.tooLate now)
  if !(s.course b).prioWait || late.isEmpty then s
  else
    let named (e : PrioEntry) : Bool := late.any fun x => x.run == e.run && x.target == e.target && x.line == e.line
    let settle (e : PrioEntry) : Option PrioEntry := if !named e then some e else if e.op = 0 then some { e with op := 2, time := 0 } else none
    let s := s.onCourse b fun c => { c with prio := c.prio.filterMap settle }
    let s := s.onRun fun r => { r with heads := r.heads.map fun h =>
      if h.bar = b then { h with rows := h.rows.map fun w =>
        (late.filter fun e => e.target == ((s.bar b).place h.head).slot + 32 * w.row).foldl (fun w e => w.unfire e.line) w } else h }
    let s := bump (ctr 8 b 2) late.length (bump (ctr 8 b 5) (-(late.length : Int)) s)
    postOnceKey evLineUnstamped b unitFir b 3 s

/-- The priority path starts a stamp packet (R299): 0.5 us after the one before, when PRIO credit allows. Entries that a stop as
HALT does left behind go out although the course carries no new ones any more (log 32). -/
def serveStamps (b : Nat) (s : State) : State :=
  let c := s.course b
  let carries := s.carries b || (c.up && (c.safeIdle || !c.owned))
  let rested := match c.stampSince with
    | some t => passed s t 1 2000000
    | none => true
  if !carries || c.run.version = 1 || c.prio.isEmpty || !rested then s
  else
    let limit := if c.run.rate = 1 then 32 else 128
    if !c.maySend .prio (16 + 8 * (takeStamps limit c.prio).length) then s.onCourse b fun c => { c with prioWait := true }
    else
      let s := settleWaited b s
      let es := takeStamps limit (s.course b).prio
      let s := s.onCourse b fun c => { c with prio := c.prio.drop es.length, prioWait := false, stampSince := some s.tb1 }
      bump (ctr 9 b 9) 1 (transmit b .prio 0 (stampBody s.tb3 es) false s)

/-- STAMP_PACKET_SEND (R299). -/
def execStampPacketSend (dt course : Nat) (s : State) : Host.Outcome State Fault Refusal :=
  onUnit (decide (course < 10)) (serveStamps course (advance dt s))

/-! The bridge's STATUS (Table 11-6, 14 R375). -/

/-- LAST_FIRED entries of a CLAIM_ACK or a STATUS: slot, row, run line. -/
def rowEntries (n : Nat) (b : List Byte) : List (Nat × Nat × Option Nat) :=
  (List.range n).map fun i =>
    let v := rd b (8 * i + 4) 4
    (rd b (8 * i) 1, rd b (8 * i + 1) 1, if v = 0xFFFFFFFF then none else some v)

/-- The head context of a bar at a bridge slot. -/
def State.ctxAtSlot (s : State) (b slot : Nat) : Option Nat :=
  ((s.bar b).placed.find? fun h => ((s.bar b).place h).slot == slot).bind fun h => ((s.bar b).place h).ctx

/-- A head's temperature is reported (14 R375): the warning once, the shut-down at once where this device owns the course
(log 28). -/
def headReport (b : Nat) (s : State) (e : Nat × Nat × Int) : State :=
  match s.ctxAtSlot b e.1 with
  | none => s
  | some c =>
    let (_, flags, temp) := e
    let lv := (s.ctx c).levels
    let hot := bit flags 0 || lv.any fun l => decide (l.1 ≤ temp)
    let cool := !bit flags 0 && lv.all fun l => decide (temp < l.1 - l.2.2)
    let shut := bit flags 1 || bit flags 3 || lv.any fun l => decide (l.2.1 ≤ temp)
    let was := (s.ctx c).warm
    let s := s.onCtx c fun x => { x with temp := some temp, hflags := flags % 16, stale := false, warm := if hot then true else if cool then false else x.warm }
    let s := bumpMax (ctr 12 0 4) temp s
    let s := if hot && !was then post evHeadTemp (unitHead c) c (p32 temp) s else s
    if shut && (s.course b).owned then haltHead c s else s

/-- Losses of block lock that a bridge has counted on a lane (R287). -/
def bridgeLosses (lane n : Nat) (s : State) : State :=
  (List.range n).foldl (fun s _ => post evLaneLockLost (unitLane lane) lane 1 (lockLoss (unitLane lane) s)) s

/-- BIP errors that a bridge has counted on a lane since a moment (R297). -/
def bridgeBips (lane n : Nat) (since : Int) (s : State) : State :=
  bump (ctr 9 (linkOf lane) (2 + lane % 2)) n (s.onLane lane fun q => { q with
    bip := q.bip + n, badPeer := if n = 0 then q.badPeer else some (since, s.tb1) })

/-- A STATUS arrives. Its first is the baseline of the cumulative counts. -/
def takeStatus (l : Nat) (b : List Byte) (s : State) : State :=
  if !(s.course l).open then s
  else
    let old := (s.course l).status
    let rise (off : Nat) (o : BridgeStatus → Nat) : Int := match old with
      | some x => (((rd b off 4 + 2 ^ 32 - o x) % 2 ^ 32 : Nat) : Int)
      | none => 0
    let heads := rd b 0x1A 1
    let rows := rowEntries ((b.length - 0x1C - 8 * heads) / 8) (b.drop (0x1C + 8 * heads))
    let s := bump (ctr 9 l 11) (rise 8 (·.stampNoData)) (bump (ctr 9 l 10) (rise 4 (·.stampLate)) s)
    let s := s.onCourse l fun c => { c with
      status := some { bytes := padTo 32 (b.take 32), stampLate := rd b 4 4, stampNoData := rd b 8 4, time := s.tb1 }
      silent := 0, lastFired := rows }
    let since := (old.map (·.time)).getD (s.course l).tried
    let s := bridgeBips (2 * l + 1) (rd b 0x16 2) since (bridgeBips (2 * l) (rd b 0x14 2) since s)
    let s := bridgeLosses (2 * l + 1) (rd b 0x19 1) (bridgeLosses (2 * l) (rd b 0x18 1) s)
    ((List.range heads).map fun i =>
      (rd b (0x1C + 8 * i) 1, rd b (0x1D + 8 * i) 1, rdS b (0x1E + 8 * i) 2)).foldl (headReport l) s

/-- BRIDGE_STATUS (R317). -/
def execBridgeStatus (dt course : Nat) (bytes : List Byte) (s : State) : Host.Outcome State Fault Refusal :=
  onUnit (decide (course < 10)) (takeStatus course bytes (advance dt s))

/-- TB1 at the last STATUS of a course, or else at the start of its bring-up. -/
def Course.heardAt (c : Course) : Int := match c.status with
  | some x => max x.time c.tried
  | none => c.tried

/-- HEAD_TEMP_STALE (14 R375): an owned course that is up has sent no STATUS for 5 ms. -/
def execHeadTempStale (dt course : Nat) (s : State) : Host.Outcome State Fault Refusal :=
  let s := advance dt s
  let c := s.course course
  onUnit (decide (course < 10))
    (if c.up && c.owned && c.silent = 0 && passed s c.heardAt 5 1000 then
       let s := (s.bar course).placed.foldl (fun s h => match ((s.bar course).place h).ctx with
         | some x => s.onCtx x fun x => { x with stale := true }
         | none => s) s
       post evHeadTempStale (unitCourse course) course 1 (s.onCourse course fun c => { c with silent := 1 })
     else s)

/-- BAR_SILENCE_HALT (14 R375): the silence has lasted 100 ms on a bar in print, and every head of the bar is halted. -/
def execBarSilenceHalt (dt bar : Nat) (s : State) : Host.Outcome State Fault Refusal :=
  let s := advance dt s
  let c := s.course bar
  onUnit (decide (bar < 10))
    (if c.up && c.owned && c.silent = 1 && s.inPrint bar && passed s c.heardAt 100 1000 then
       let s := ((s.bar bar).placed.filterMap fun h => ((s.bar bar).place h).ctx).foldl (fun s c => haltHead c s) s
       post evHeadTempStale (unitCourse bar) bar 2 (s.onCourse bar fun c => { c with silent := 2 })
     else s)

end Sys2Proof.Machine
end

