-- ==== Sys2Proof/Machine/Yield.lean ====
section
/-!
DEFINITION. Stopping for good: safe idle, FAULT_N, the yield of an active, device faults
(spec/02_architecture.md, R38, R39; spec/14_thermal_and_power.md, R372, R380; spec/15_redundancy_and_upgrade.md, R387, R403).
-/
namespace Sys2Proof.Machine

/-- Drive PAIR_ACTIVE (Table 15-1). -/
def drivePairActive (on : Bool) (s : State) : State :=
  if s.pair.pairActive == on then s else (s.onPair fun x => { x with pairActive := on }).emit (.pin .pairActive on)

/-- Pull PAIR_YIELD_N low, or let it go (Table 15-1). -/
def drivePairYield (low : Bool) (s : State) : State :=
  if s.pair.yieldOut == low then s else (s.onPair fun x => { x with yieldOut := low }).emit (.pin .pairYieldN (!low))

/-- Drive FAULT_N (18 Table 18-3). -/
def driveFault (low : Bool) (s : State) : State :=
  if s.board.faultN == low then s else (s.onBoard fun b => { b with faultN := low }).emit (.pin .faultN (!low))

/-- No standby answers any more: commands that wait for a RECORD_ACK complete (R396), and frames no longer wait for theirs. -/
def releaseWaits (s : State) : State :=
  let ids := s.pair.waits.filterMap (·.cmd)
  let s := s.onPair fun p => { p with waits := [] }
  ids.foldl (fun s id => match (s.flying id).bind (·.reply) with
    | some r => deliver id r s
    | none => s) s

/-- Discard what a bar has not sent: its unpushed lines and its course's queue but the packet being popped, with a reason of Table 2-7
(R41). -/
def dropBarWork (b reason : Nat) (s : State) : State :=
  let n := unpushed b s
  let s := s.onRun fun r => { r with heads := r.heads.map fun h => if h.bar = b then { h with due := h.due.filter (·.committed) } else h }
  let s := discardWork (unitBre (s.bar b).engine) n reason s
  let c := s.course b
  let n := (c.queue.filter (·.popped == 0)).length + c.unwritten.length
  let s := dropWriting b (fun _ => true) (s.onCourse b fun c => { c with queue := c.queue.filter (·.popped != 0) })
  discardWork (unitCourse b) n reason (checkMarks b s)

/-- Stop firing at the next line: what is not sent is discarded, and the run ends as HALT does (R258), with a reason of
EV_RUN_ENDED. -/
def stopFiring (discard ended : Nat) (s : State) : State :=
  haltRun ended ((List.range 10).foldl (fun s b => dropBarWork b discard s) s)

/-- Every course goes to safe idle (R372, R38). -/
def idleCourses (s : State) : State :=
  s.onLinks fun l => { l with courses := l.courses.mapIdx fun i c => if i < 10 then { c with safeIdle := true } else c }

/-- A planned handover under way ends, and its command completes (R408). -/
def endHandover (r : Reply) (s : State) : State :=
  match s.pair.handover with
  | none => s
  | some h =>
    let s := s.onPair fun p => { p with handover := none }
    match h.cmd with
    | some id => finish id r s
    | none => s

/-- An active yields by a criterion of Table 15-6 (R403). -/
def yieldPair (code : Nat) (s : State) : State :=
  if s.pair.st != .active && s.pair.st != .activeAlone then s
  else
    let line := (s.fire.run.map (·.nextTick)).getD s.fire.lastLine
    let s := releaseWaits (drivePairYield true s)
    let s := if (s.course 10).up then pairSend .ctrl 0x45 (toLe 1 code ++ toLe 3 0) s else s
    let s := stopFiring 0x05 4 (endHandover (.err .cancelled) (drivePairActive false s))
    let s := s.onLinks fun l => { l with courses := l.courses.mapIdx fun i c => if i < 10 then { c with owned := false, claim := none } else c }
    setPair .detached (post evPairYielded unitPair code (line % 2 ^ 32) s)

/-- A standby leaves the pair (R403): its copy of the run ends unprinted. -/
def leavePair (s : State) : State :=
  if s.pair.st != .standby && s.pair.st != .joining then s
  else setPair .detached (stopFiring 0x05 4 (s.onPair fun p => { p with handover := none, takeover := none, joinStep := 0 }))

/-- A THERM_POWER_STATE to P1 is cut short by a shut-down or a device fault (14 R380). -/
def cutPower (s : State) : State :=
  match s.thm.going with
  | some (id, .p1, _) => finish id (.err .cancelled) (s.onThm fun t => { t with going := none })
  | _ => s

/-- What a thermal shut-down and a device fault have in common (14 R372, 02 R38): firing stops, the courses go to safe idle, FAULT_N
is asserted, and after `note` the pair is left: an active yields by the code, a standby detaches. -/
def shutDown (code : Nat) (note : State → State) (s : State) : State :=
  leavePair (yieldPair code (note (driveFault true (idleCourses (stopFiring 0x06 3 (cutPower s))))))

/-- Latch a unit as retired and journal it (02 R39). -/
def latchUnit (u criterion : Nat) (fault : Bool) (s : State) : State :=
  let t := s.tb0
  let entry : Retired := { unit := u, criterion, deviceFault := fault, sec := (t.fdiv (2 ^ 32) % 2 ^ 32).toNat, frac := (t.fmod (2 ^ 32)).toNat }
  let s := s.onStat fun x => { x with
    doomed := x.doomed.filter (·.1 != u), retired := (x.retired.filter (·.unit != u)) ++ [entry] }
  journal (.retire u criterion) s

/-- Latch a unit as retired, journal it, and post EV_UNIT_RETIRED (02 R39). -/
def latchRetired (u criterion : Nat) (fault : Bool) (s : State) : State :=
  post evUnitRetired u u (criterion + if fault then 2 ^ 31 else 0) (latchUnit u criterion fault s)

/-- A device fault (02 R38, R39). -/
def deviceFault (u criterion : Nat) (s : State) : State :=
  let s := latchRetired u criterion true s
  let s := (s.onStat fun t => { t with fault := some (t.fault.getD u) }).onBoard fun b => { b with fault := true }
  shutDown 0x01 id s

end Sys2Proof.Machine
end

