-- ==== Sys2Proof/Machine/Power.lean ====
section
/-!
DEFINITION. Power states: entering P2, P3 and P4, waking (spec/14_thermal_and_power.md, R376 to R380; spec/06_time_bases.md,
R137; spec/09, R253; spec/11, R320; spec/12, R341; spec/13, R365; spec/16, R429; spec/17, R445).
-/
namespace Sys2Proof.Machine

/-- A journal record is in the flash (02 R39, 04 R94, 07 R164, 13 R363, 14 R386). -/
def Nor.take (j : JournalItem) (n : Nor) : Nor :=
  match j with
  | .counter ring role mark _ => { n with marks := upd (4 * ring + role) (fun _ => mark) n.marks }
  | .retire u c => { n with retired := n.retired.filter (·.1 != u) ++ [(u, c)] }
  | .restore u => { n with retired := n.retired.filter (·.1 != u) }
  | .page p => { n with pages := n.pages ++ [p] }
  | .trim k t => { n with trims := n.trims.filter (·.1 != k) ++ [(k, t)] }
  | .profile bytes _ => { n with profiles := (bytes :: n.profiles).take 2 }

/-- JOB_LOAD, JOB_ENCODE and JOB_READ in flight, those that have not started among them (02 R33), are cancelled (R377, 07 R186). -/
def cancelJobs (s : State) : State :=
  let loads := s.store.jobs.filterMap fun j => j.load.map fun l => (j.id, l.cmd)
  let s := loads.foldl (fun s x => failLoad x.1 x.2 (.err .cancelled) s) s
  let rest := (s.hif.inflight.filter fun e => [0x0301, 0x0302, 0x0308].contains e.opcode && e.recordWait.isNone).map (·.cmd.id)
  discardWork unitStore (loads.length + rest.length) 0x07 (finishAll rest (.err .cancelled) s)

/-- Every trigger and capture is disarmed (06 R137): each that was armed is one item discarded (log 35). -/
def disarmAll (s : State) : State :=
  let armed := (List.range 16).filter fun u => (s.tim.triggers.getD u {}).mode != 0
  let on := (List.range 16).filter fun u => (s.tim.captures.getD u {}).enable
  let s := s.onTim fun t => { t with
    triggers := t.triggers.map fun x => { x with mode := 0, running := false }
    captures := t.captures.map fun x => { x with enable := false } }
  let s := armed.foldl (fun s u => discardWork (0x0D10 + u) 1 0x07 s) s
  on.foldl (fun s u => discardWork (0x0D20 + u) 1 0x07 s) s

/-- What ends before P2, P3 or P4 is entered (R377): flips, jobs under way, triggers, bars. -/
def endWork (s : State) : State :=
  let s := disarmAll (cancelJobs (cancelFlips s))
  (List.range 10).foldl (fun s b => if (s.bar b).enabled then (leavePrint b 0x07 s).1 else s) s

/-- Slots of the records held of a course (17 R445). -/
def State.slotsHeld (s : State) (l : Nat) : List Nat := (s.board.mirs.filter (·.path == 0x80 + l)).map (·.slot)

/-- Entering P3 takes a course down, until a LINK_TRAIN after the wake (11 R320). -/
def courseAsleep (s : State) (l : Nat) : State :=
  let c := s.course l
  let s := failTrain l (.err .cancelled) s
  let s := s.onCourse l fun c => { c with
    up := false, wanted := false, owned := false, claim := none, prio := [], prioWait := false, out := [], hot := [], reread := s.slotsHeld l }
  let s := [2 * l, 2 * l + 1].foldl (fun s n => s.onLane n fun q => { q with lock := false, rxMseq := none, deskewed := false }) s
  if c.up && l < 10 then post evCourseDown (unitCourse l) l 0 s else s

/-- P3 is entered: the pair is left, the courses go down, the open record closes, what P3 does not keep is dropped: the archive's
content and the reports (12 R341), not the archive's reservation (07 R186). -/
def enterP3 (s : State) : State :=
  let s := leavePair (yieldPair 0x03 s)
  let s := (List.range 11).foldl courseAsleep s
  let s := s.onCam fun c => { c with archive := c.archive.map fun a => { a with entries := [] }, ports := c.ports.map fun p => { p with reports := [] } }
  let s := (clearSums s).onClr fun c => { c with strikes := [] }
  (closeRecord 8 {} s).onStat fun t => { t with isOpen := false }

/-- The rails in the order in which R379 commands them off: the power-up order of 18 Table 18-6 in reverse, other rails first. -/
def offOrder : List Nat := [0xFF, 8, 4, 7, 3, 5, 9, 0, 1, 10, 11, 6, 2]

/-- A PMBus command to a rail: its page first. -/
def pmbusWrite (r : Rail) (bytes : List Byte) (s : State) : State :=
  (s.emit (.i2c 5 r.addr (toLe 1 0 ++ toLe 1 r.page))).emit (.i2c 5 r.addr bytes)

/-- Every managed regulator is commanded off (R379). -/
def railsOff (s : State) : State :=
  let rails := s.thm.rails.filterMap id
  (offOrder.flatMap fun k => rails.filter (·.rail == k)).foldl (fun s r => pmbusWrite r (toLe 1 1 ++ toLe 1 0) s) s

/-- Every pending journal record is written (R379). -/
def flushJournal (s : State) : State := s.onNor fun n => { n.queue.foldl (fun n j => n.take j) n with queue := [] }

/-- The transition ends: the state is entered, and the command completes with FROM and TIME_US. -/
def enterPower (id : CmdId) (target : Power) (since : Int) (s : State) : State :=
  let r : Reply := .good (toLe 1 s.thm.power.code ++ toLe 3 0 ++ toLe 4 (u32 (tUs (s.tb1 - since)).toNat))
  let s := s.onThm fun t => { t with going := none }
  match target with
  | .p2 => finish id r (setPower .p2 (s.onThm fun t => { t with wantP2 := true }))
  | .p3 => setPower .p3 (finish id r (enterP3 s))
  | .p4 => railsOff (setPower .p4 (finish id r (flushJournal (enterP3 s))))
  | _ => finish id r (setPower target (s.onThm fun t => { t with wantP2 := false }))

/-- A transition under way goes on: ports between frames are disabled, and once none is enabled the state is entered (R377, R41). -/
def settlePower (s : State) : State :=
  match s.thm.going with
  | none => s
  | some (id, target, since) =>
    let s := (List.range 4).foldl (fun s k => if (s.port k).enable && (s.port k).frames.isEmpty then disablePort k 0x07 s else s) s
    if (List.range 4).any fun k => (s.port k).enable then s else enterPower id target since s

/-- A time base advanced by a number of 40 ns REF clocks (06 R137). -/
def Tb.slept (n : Nat) (t : Tb) : Tb := t.add ((n * 40 * 2 ^ 64 / 1000000000 : Nat) : Int)

/-- A PTP domain starts again in ACQUIRING (06 R137), a port in MASTER as a slave. -/
def restartDomain (d : Nat) (s : State) : State :=
  if (s.dom d).st == .off then s
  else
    let s := [0, 1].foldl (fun s p => if (s.ptp p).role == d + 1 && (s.ptp p).isMaster then leaveMaster d p s else s) s
    (setPtp d .acquiring s).onDom d fun x => { x with good := 0, bad := 0, slewing := false }

/-- The time bases are advanced by the time asleep, and every PTP domain starts again (06 R137). -/
def wakeTime (s : State) : State :=
  let n := s.tim.asleep / 20
  let s := s.onTim fun t => { t with tb := t.tb.map (Tb.slept n), tbf := t.tbf.add ((n * 40 * 2 ^ 32 : Nat) : Int), tbfCarry := false, asleep := 0 }
  [0, 1].foldl (fun s d => restartDomain d s) s

/-- The device wakes (R378): the time bases, the encoder channels (05 R132), the record (16 R429), the pair (15 R414). -/
def wakeUp (s : State) : State :=
  let s := wakeTime s
  let s := s.onPos fun p => { p with ch := p.ch.map fun c => { c with unreferenced := true, indexRef := none } }
  let s := setPower .p1 (s.onThm fun t => { t with wantP2 := false })
  let s := (openRecord {} s).onStat fun t => { t with idleSince := s.tb1 }
  if s.pair.enable then setPair .detached s else s

/-- WAKE (R378): a write to a doorbell, or a change on a GPIO that WAKE_GPIO names. The doorbell itself is the row that follows. -/
def execWake (dt : Nat) (gpio : Option Nat) (s : State) : Host.Outcome State Fault Refusal :=
  let s := advance dt s
  onUnit (gpio.all fun n => decide (n < 16))
    (if s.thm.power != .p3 then s
     else match gpio with
      | none => if s.hif.pcieUp then wakeUp s else s
      | some n =>
        let s := s.onBoard fun b => { b with gpioIn := b.gpioIn ^^^ 2 ^ n }
        if bit s.thm.wakeMask n then wakeUp s else s)

/-! THERM_POWER_STATE (R377). -/

/-- The power state of a TARGET. -/
def Power.ofCode : Nat → Power
  | 0 => .p0 | 1 => .p1 | 2 => .p2 | 3 => .p3 | _ => .p4

/-- Checks of THERM_POWER_STATE. -/
def thermPowerStateCheck (q : Cmd) (s : State) : Option Reply :=
  let t := Power.ofCode (q.u8 0)
  let same := s.thm.power == t
  firstFail (shape q 16 [(0, 1), (2, 6)] ++
    [ (q.u8 0 == 0, Reply.bad 0 0x01E3), (decide (4 < q.u8 0), Reply.bad 0),
      (q.u8 0 == 4 && q.u32 4 != 0x46464F50, Reply.bad 4),
      (s.holding .device, Reply.err .busy),
      (!same && (s.fire.run.isSome || !s.clr.tests.isEmpty), Reply.err .state 0x01E1),
      (!same && t == .p2 && (s.pair.st == .active || s.pair.st == .activeAlone), Reply.err .state 0x01E2),
      (!same && t != .p4 && (stateCell s.sec.lifecycle s.sec.debug t).isNone, Reply.err .state) ])

/-- THERM_POWER_STATE (R377). -/
def thermPowerStateEffect (q : Cmd) (s : State) : Ans :=
  let t := Power.ofCode (q.u8 0)
  if s.thm.power == t then .done (.good (toLe 1 t.code ++ toLe 3 0 ++ toLe 4 0)) s
  else
    let s := (hold q [.device] false s).onThm fun x => { x with going := some (q.id, t, s.tb1), wakeMask := if t == .p3 then q.u16 2 else x.wakeMask }
    if t == .p1 then .wait (enterPower q.id t s.tb1 s) else .wait (settlePower (endWork s))

/-- THERM_POWER_STATE (R377). -/
def execThermPowerState (q : Cmd) (s : State) : Host.Outcome State Fault Refusal :=
  runCmd 0x0D04 thermPowerStateCheck thermPowerStateEffect q s

end Sys2Proof.Machine
end

