-- ==== Sys2Proof/Machine/Cam.lean ====
section
/-!
DEFINITION. The camera ports' rows: CSI-2 packets, the shared pipeline, exposures, frames
(spec/12_inspection_camera.md, R321 to R334).
-/
namespace Sys2Proof.Machine

/-! Closing frames (R334, R340). -/

/-- What waits for a port's frame boundary takes effect with its last frame (R339, R341); a power transition goes on (14 R377). -/
def settlePort (k : Nat) (s : State) : State :=
  let p := s.port k
  settlePower (if p.frames.isEmpty && p.enable then portBoundary k s else s)

/-- A frame that has ended and whose lines are all taken closes: its report, its counters and events, CLP, the archive
(R334, R337, R340). -/
def closeFrame (k : Nat) (f : CamFrame) (s : State) : State :=
  let c := (s.port k).conf
  let marks := match f.exposure with
    | some e => f.marks ||| e.marks ||| (if e.pMid.isNone then 0x100 else 0)
    | none => f.marks ||| 0x80
  let f := { f with marks }
  let m := reduceFrame k c f s
  let s := if f.exposure.isNone then s.useFree.useFree.useFree else s
  let r := m.report
  let s := s.onPort k fun p => { p with
    frames := p.frames.filter fun x => x.seq != f.seq, reports := (r :: p.reports).take 16, lastSeq := r.seq, lastMarks := r.marks }
  let s := bump (ctr 10 k 0) 1 s
  let s := if r.marks &&& excludingMarks != 0 then bump (ctr 10 k 1) 1 s else s
  let s := if bit r.marks 4 then bump (ctr 10 k 2) 1 s else s
  let s := if r.marks = 0 then s else postLimited evCamFrameMarked (unitCam k) k (r.marks + 65536 * (r.seq % 65536)) 1 1000 false s
  settlePort k (archiveFrame k f m (calFrame k m (feedLoop k m f s)))

/-- Every exposure of the frame has ended. -/
def CamFrame.beyond (f : CamFrame) (c : CamCfg) : Bool := f.ended == 2 ^ c.shots - 1

/-- Close a frame that has ended, once nothing of it waits in the buffer; a frame with OVERFLOW waits for nothing. -/
def tryClose (k seq : Nat) (s : State) : State :=
  match (s.port k).frames.find? (·.seq == seq) with
  | none => s
  | some f => if f.beyond (s.port k).conf && (f.buffered.isEmpty || bit f.marks 4) then closeFrame k f s else s

/-- The open part of a frame ends: exposures not begun are missing (R324, R330). -/
def endAll (k : Nat) (f : CamFrame) (m : Nat) (s : State) : State :=
  let c := (s.port k).conf
  let all := 2 ^ c.shots - 1
  let gap := if f.begun = all then 0 else 0x1000
  tryClose k f.seq ((markFrame k f.seq (m ||| gap) s).onFrame k f.seq fun f => { f with ended := all })

/-! CSI-2 rows. -/

/-- One exposure of a frame ends, with marks. -/
def endExposure (k slot seq m : Nat) (s : State) : State :=
  tryClose k seq ((markFrame k seq m s).onFrame k seq fun f => { f with ended := f.ended ||| 2 ^ slot })

/-- A packet header's ECC (R322): a single-bit error is corrected and counted; an uncorrectable one is counted, its packet is
discarded, and the open frame is marked HDR_ERR. The answer says whether the packet stands. -/
def takeHeader (k vc : Nat) (ecc : EccResult) (s : State) : State × Bool :=
  match ecc with
  | .corrected | .linkCorrected => (bump (ctr 10 k 4) 1 s, true)
  | .uncorrectable | .linkFailed =>
    let s := bump (ctr 10 k 5) 1 s
    let p := s.port k
    match (p.openOn vc).orElse fun _ => p.frames.reverse.find? fun f => !f.beyond p.conf with
    | some f => (markFrame k f.seq 8 s, false)
    | none => (s, false)
  | _ => (s, true)

/-- A Frame Start ends what is open on its virtual channel, marked NO_FE (R324). DESIGN CHOICE (log 127): on a wide-range port, one on
virtual channel 0 leaves the exposures that earlier shots have not begun missing; those still open go on. -/
def cutOpen (k vc : Nat) (s : State) : State :=
  let c := (s.port k).conf
  let s := match (s.port k).openOn vc with
    | some f => if c.wide then endExposure k vc f.seq 0x40 s else endAll k f 0x40 s
    | none => s
  if c.wide && vc == 0 then
    ((s.port k).frames.filter fun f => f.begun != 2 ^ c.shots - 1).foldl (fun s f =>
      tryClose k f.seq ((markFrame k f.seq 0x1000 s).onFrame k f.seq fun f =>
        { f with ended := f.ended ||| (2 ^ c.shots - 1 - f.begun), begun := 2 ^ c.shots - 1 })) s
  else s

/-- CSI_FRAME_START (R324, R326, R330, R336, R338). -/
def frameStart (k vc : Nat) (s : State) : State :=
  let c := (s.port k).conf
  if !c.expects vc || s.thm.going.isSome then s
  else
    let s := cutOpen k vc s
    if (s.port k).disabling.isSome then s
    else
      let seq := (s.port k).seq
      let s := s.onPort k fun p => { p with seq := (p.seq + 1) % 2 ^ 32 }
      let s := match (s.port k).pend with
        | some w =>
          if !w.writes.isEmpty then s
          else
            let n := w.start.getD seq
            if n + w.delay ≤ seq then applyPend k seq s else s.onPort k fun p => { p with pend := some { w with start := some n } }
        | none => s
      if c.wide && vc != 0 then
        match (s.port k).frames.getLast? with
        | some f => if bit f.begun vc then s else s.onFrame k f.seq fun f => { f with begun := f.begun + 2 ^ vc }
        | none => s
      else
        let p := s.port k
        -- in FREE mode no trigger is used and every frame is UNTRIGGERED (R325)
        let e := if p.mode = 2 then none else p.records.find? fun e => e.vc == vc
        let funded := match s.cam.archive with
          | some a => decide (0 < a.now s.tb1)
          | none => false
        let f : CamFrame := { vc, seq, exposure := e, opened := s.tb1, begun := 1, params := p.params, gen := p.gen, funded }
        s.onPort k fun p => { p with frames := p.frames ++ [f], records := match e with
          | some e => p.records.erase e
          | none => p.records }

/-- CSI_FRAME_START (R322, R324). -/
def execCsiFrameStart (dt port vc : Nat) (ecc : EccResult) (s : State) : Host.Outcome State Fault Refusal :=
  let s := advance dt s
  onUnit (decide (port < 4)) (
    if !s.portLive port then s
    else
      let (s, good) := takeHeader port vc ecc s
      if good then frameStart port vc s else s)

/-- Lines in a port's input buffer. -/
def Port.level (p : Port) : Nat := (p.frames.map fun f => f.buffered.length).sum

/-- A line of a port's open frame (R322, R324, R327, R330). -/
def takeLine (k vc wordCount : Nat) (px : List Nat) (crcOk : Bool) (f : CamFrame) (s : State) : State :=
  let p := s.port k
  let c := p.conf
  let slot := c.slot vc
  let y := f.got.getD slot 0
  let s := if y < c.height then s.onFrame k f.seq fun f => { f with got := f.got.set slot (y + 1) } else s
  if !crcOk then markFrame k f.seq 4 (bump (ctr 10 k 3) 1 s)
  else if bit f.marks 4 then s
  else if c.height ≤ y then markFrame k f.seq 2 s
  else if wordCount * 8 ≠ c.width * rawBits c.dataType then markFrame k f.seq 0x20 s
  else if c.wide && (decide (y < f.merged) || decide (y + c.stagger + 1 < f.got.getD 0 0)) then markFrame k f.seq 0x1000 s
  else if 64 ≤ p.level then
    post evCamOverflow (unitCam k) k f.seq (upset (unitCam k) (markFrame k f.seq 0x10 s))
  else
    let s := s.onFrame k f.seq fun f => { f with buffered := f.buffered ++ [{ vc := slot, y, px := padPx c.width px }], lines := f.lines + 1 }
    bumpMax (ctr 10 k 8) ((p.level + 1 : Nat) : Int) (s.onPort k fun p => { p with peak := max p.peak p.level })
where
  /-- the samples that the line's bits hold -/
  padPx (n : Nat) (px : List Nat) : List Nat := (px ++ List.replicate (n - px.length) 0).take n

/-- CSI_LINE_PACKET (R321, R322, R327). -/
def execCsiLinePacket (dt port vc dataType wordCount : Nat) (px : List Nat) (ecc : EccResult) (crcOk : Bool) (s : State) :
    Host.Outcome State Fault Refusal :=
  let s := advance dt s
  onUnit (decide (port < 4)) (
    if !s.portLive port then s
    else
      let (s, good) := takeHeader port vc ecc s
      let p := s.port port
      if !good || dataType == 0x12 then s
      else if dataType ≠ p.conf.dataType ∨ !p.conf.expects vc then s.onPort port fun p => { p with stray := p.stray + 1 }
      else match p.openOn vc with
        | some f => takeLine port vc wordCount px crcOk f s
        | none => s)

/-- A Frame End closes the frame of its virtual channel (R324). -/
def frameEnd (k vc : Nat) (s : State) : State :=
  let p := s.port k
  let slot := p.conf.slot vc
  match p.openOn vc with
  | some f => endExposure k slot f.seq (b2n (decide (f.got.getD slot 0 < p.conf.height))) s
  | none => s

/-- CSI_FRAME_END (R322, R324): the frame closes once the pipeline has taken its lines. -/
def execCsiFrameEnd (dt port vc : Nat) (ecc : EccResult) (s : State) : Host.Outcome State Fault Refusal :=
  let s := advance dt s
  onUnit (decide (port < 4)) (
    if !s.portLive port then s
    else
      let (s, good) := takeHeader port vc ecc s
      if good then frameEnd port vc s else s)

/-- The next line that the pipeline can take from a port: its frame and index (R327, R330). On a wide-range port a line waits
for the exposures that may still bring it. -/
def Port.ready (p : Port) : Option (CamFrame × Nat) :=
  let c := p.conf
  p.frames.findSome? fun f =>
    if !c.wide then f.buffered.head?.map fun l => (f, l.y)
    else
      let y := f.merged
      let here (e : Nat) : Bool := f.buffered.any fun l => l.vc == e && l.y == y
      let gone (e : Nat) : Bool := bit f.ended e || decide (y < f.got.getD e 0) || decide (y + c.stagger + 1 < f.got.getD 0 0)
      if f.got.any (fun n => decide (y < n)) && (List.range c.exposures).all (fun e => here e || gone e) then some (f, y) else none

/-- PIPELINE_LINE_TURN (R327): one line of the next port in turn that has one; on a wide-range port one merged line. -/
def execPipelineLineTurn (dt : Nat) (s : State) : Host.Outcome State Fault Refusal :=
  let s := advance dt s
  .next (
    if s.held || bit s.board.pllLost 1 || s.thm.power == .p2 || s.thm.power == .p3 || s.thm.power == .p4 then s
    else match ((List.range 4).map fun i => (s.cam.turn + i) % 4).findSome? fun k => (s.port k).ready.map fun x => (k, x) with
      | none => s
      | some (k, f, y) =>
        let c := (s.port k).conf
        let mine (l : CamLine) : Bool := if c.wide then l.y == y else some l == f.buffered.head?
        let got := f.buffered.filter mine
        let gap := c.wide && decide (got.length < c.exposures)
        let s := s.onFrame k f.seq fun x => { x with
          buffered := if c.wide then x.buffered.filter fun l => !mine l else x.buffered.drop 1
          taken := x.taken ++ got, merged := y + 1, marks := if gap then x.marks ||| 0x1000 else x.marks }
        tryClose k f.seq (s.onCam fun c => { c with turn := (k + 1) % 4 }))

/-! Exposures (R326). -/

/-- The first record whose mid-exposure has come and is not placed yet. -/
def Exposure.due (s : State) (vc : Nat) (e : Exposure) : Bool := e.vc == vc && e.pMid.isNone && decide (e.mid ≤ s.tb3)

/-- EXPOSURE_MID (R326): P_mid of the oldest exposure of the virtual channel whose mid-exposure has come. -/
def execExposureMid (dt port vc : Nat) (s : State) : Host.Outcome State Fault Refusal :=
  let s := advance dt s
  onUnit (decide (port < 4)) (
    let p := s.port port
    match p.frames.find? fun f => (f.exposure.map (Exposure.due s vc)).getD false with
    | some f => s.onFrame port f.seq fun f => { f with exposure := f.exposure.map (Exposure.atMid s) }
    | none => match p.records.find? (Exposure.due s vc) with
      | some e => s.onPort port fun p => { p with records := p.records.map fun x => if x = e then e.atMid s else x }
      | none => s)

/-- EXPOSURE_RECORD_TIMEOUT (R326). -/
def execExposureRecordTimeout (dt port vc : Nat) (s : State) : Host.Outcome State Fault Refusal :=
  let s := advance dt s
  onUnit (decide (port < 4)) (
    let p := s.port port
    match p.records.find? fun e => e.vc == vc with
    | some e =>
      if decide (e.mid + msT p.conf.timeoutMs ≤ s.tb3) then
        post evCamExposureMissed (unitCam port) port vc (bump (ctr 10 port 7) 1 (s.onPort port fun p => { p with records := p.records.erase e }))
      else s
    | none => s)

/-- CAM_CALIBRATE_HOLD_END (13 R355, R357): trim writes resume; a calibration whose frames have not arrived fails. -/
def execCamCalibrateHoldEnd (dt port : Nat) (s : State) : Host.Outcome State Fault Refusal :=
  let s := advance dt s
  onUnit (decide (port < 4)) (match (s.port port).cal with
    | some c =>
      if !passed s c.since 2 1 then s
      else if c.taken.length < c.frames then
        finish c.cmd (Reply.errUnit .timeout 0x01B0 (unitCam port)) (s.onPort port fun p => { p with cal := none })
      else s.onPort port fun p => { p with cal := some { c with released := true } }
    | none => s)

/-! HS sync (R340). -/

/-- A lane's HS sync changes. -/
def setSync (k lane : Nat) (on : Bool) (s : State) : State :=
  let p := s.port k
  if s.held || p.cfg.isNone || decide (p.conf.lanes ≤ lane) || bit p.lanesOk lane == on then s
  else post evCamLink (unitCam k) k (if on then 2 else 1) (s.onPort k fun p => { p with lanesOk := setBit p.lanesOk lane on })

/-- HS_SYNC_LOST (R340). -/
def execHsSyncLost (dt port lane : Nat) (s : State) : Host.Outcome State Fault Refusal :=
  let s := advance dt s
  onUnit (decide (port < 4) && decide (lane < 4)) (setSync port lane false s)

/-- HS_SYNC_REGAINED (R340). -/
def execHsSyncRegained (dt port lane : Nat) (s : State) : Host.Outcome State Fault Refusal :=
  let s := advance dt s
  onUnit (decide (port < 4) && decide (lane < 4)) (setSync port lane true s)

end Sys2Proof.Machine
end

