-- ==== Sys2Proof/Machine/CamCmd.lean ====
section
/-!
DEFINITION. The CAM commands (spec/12_inspection_camera.md, R325, R335 to R339; spec/13, R355).
-/
namespace Sys2Proof.Machine

/-! CAM_CONFIG (Table 12-5). -/

/-- Checks of CAM_CONFIG (R328, R339). -/
def camConfigCheck (q : Cmd) (s : State) : Option Reply :=
  let k := q.u8 0
  let wide := q.u8 3 == 1
  let others := ((List.range 4).filter fun i => i != k && ((s.port i).cfg.map (·.wide)).getD false).length
  firstFail (shape q 32 [(0, 18), (20, 6)] ++
    [ (decide (3 < k), Reply.bad 0),
      (!([1, 2, 4].contains (q.u8 1)), Reply.bad 1),
      (!([0x2B, 0x2C, 0x2D].contains (q.u8 2)), Reply.bad 2),
      (decide (1 < q.u8 3), Reply.bad 3),
      (decide (3 < q.u8 4), Reply.bad 4),
      (if wide then q.u8 5 != 2 && q.u8 5 != 3 else q.u8 5 != 1, Reply.bad 5),
      (decide (15 < q.u8 6), Reply.bad 6),
      (decide (7 < q.u8 7) && q.u8 7 != 0xFF, Reply.bad 7),
      (decide (q.u16 8 < 64) || decide (8192 < q.u16 8) || q.u16 8 % 2 == 1, Reply.bad 8),
      (decide (q.u16 10 < 2) || decide (8192 < q.u16 10) || q.u16 10 % 2 == 1, Reply.bad 10),
      (decide (q.u16 12 < 80) || decide (2500 < q.u16 12), Reply.bad 12),
      (extraBits (q.u8 14) 1, Reply.bad 14),
      (decide (127 < q.u8 15), Reply.bad 15),
      (extraBits (q.u8 16) 7 || q.u8 16 / 2 == 3, Reply.bad 16),
      (decide (16 < q.u8 17), Reply.bad 17),
      (decide (100000000 < q.u32 20), Reply.bad 20),
      (decide (10000 < q.u16 24), Reply.bad 24),
      ((s.port k).retired, Reply.errUnit .retired 0 (unitCam k)),
      (s.holding (.camera k), Reply.errUnit .busy 0 (unitCam k)),
      ((s.port k).enable, Reply.errUnit .state 0x01A0 (unitCam k)),
      (wide && k == 3, Reply.errUnit .state 0x01A2 (unitCam k)),
      (wide && decide (2 ≤ others), Reply.err .limit 0x01A1) ])

/-- The configuration that CAM_CONFIG carries. -/
def camCfgOf (q : Cmd) : CamCfg :=
  { lanes := q.u8 1, dataType := q.u8 2, wide := q.u8 3 == 1, cfa := q.u8 4, exposures := q.u8 5, trigger := q.u8 6, sensorDelay := q.u8 7
    width := q.u16 8, height := q.u16 10, laneMbps := q.u16 12, contClock := bit (q.u8 14) 0, i2cAddr := q.u8 15, i2cFmt := q.u8 16
    stagger := q.u8 17, expMidNs := q.u32 20, timeoutMs := if q.u16 24 = 0 then 1000 else q.u16 24 }

/-- CAM_CONFIG (R339). -/
def camConfigEffect (q : Cmd) (s : State) : Ans := .done .good (s.onPort (q.u8 0) fun p => { p with cfg := some (camCfgOf q) })

/-- CAM_CONFIG (R339). -/
def execCamConfig (q : Cmd) (s : State) : Host.Outcome State Fault Refusal := runCmd 0x0A01 camConfigCheck camConfigEffect q s

/-! CAM_PIPELINE (R335, Table 12-3). -/

/-- Bytes of a section whose place in the block is `off`. -/
def sectionLen (pblk : List Byte) (off : Nat) : Nat → Nat
  | 0 => 16 | 1 => 16 | 2 => 520 | 3 => 16 | 4 => 24 | 5 => 1544 | 6 => 32
  | 7 => 8 * ceilDiv (8 + 2 * rd pblk (off + 2) 2) 8
  | 8 => 8
  | _ => 8 + 8 * rd pblk off 2

/-- The sections present with their places in the block, and where the last one ends. -/
def sectionsOf (pblk : List Byte) (mask : Nat) : List (Nat × Nat) × Nat :=
  (List.range 10).foldl (fun (acc : List (Nat × Nat) × Nat) b =>
    if bit mask b then (acc.1 ++ [(b, acc.2)], acc.2 + sectionLen pblk acc.2 b) else acc) ([], 0)

/-- The first field at fault in a section (Table 12-3). -/
def sectionFault (pblk : List Byte) (x : Nat × Nat) : Option Nat :=
  let o := x.2
  let zero (a n : Nat) : List (Bool × Nat) := nonZeroIn pblk (o + a) n
  let big (a size hi : Nat) : Bool × Nat := (decide (hi < rd pblk (o + a) size), o + a)
  firstAt (match x.1 with
    | 1 => zero 10 6
    | 2 => zero 514 6
    | 3 => zero 2 2 ++ ([4, 8, 12] : List Nat).map fun a => (rd pblk (o + a) 4 == 0 || decide (65536 < rd pblk (o + a) 4), o + a)
    | 5 => zero 1542 2
    | 6 => [big 0 4 0x0FFFFFFF, big 20 2 256] ++ zero 22 2 ++ [big 24 4 4096] ++ zero 28 4
    | 7 => [(decide (4096 < rd pblk o 2 + rd pblk (o + 2) 2), o)] ++ zero 4 4 ++ zero (8 + 2 * rd pblk (o + 2) 2) (sectionLen pblk o 7 - 8 - 2 * rd pblk (o + 2) 2)
    | 9 => [(rd pblk o 2 == 0 || decide (16 < rd pblk o 2), o)] ++ zero 2 6 ++ (List.range (rd pblk o 2)).flatMap fun i => zero (10 + 8 * i) 2
    | _ => [])

/-- Checks of CAM_PIPELINE. -/
def camPipelineCheck (q : Cmd) (s : State) : Option Reply :=
  let k := q.u8 0
  let (secs, len) := sectionsOf q.pblk (q.u16 2)
  let wrong := (secs.filterMap (sectionFault q.pblk)).head?
  let sensor := bit (q.u16 2) 9
  firstFail (shape q 8 [(0, 1), (2, 2)] true ++
    [ (decide (3 < k), Reply.bad 0),
      (extraBits (q.u16 2) 0x3FF, Reply.bad 2),
      (q.pblk.length != len, Reply.badBlock 0 0x01A3),
      (wrong.isSome, Reply.badBlock (wrong.getD 0)),
      ((s.port k).retired, Reply.errUnit .retired 0 (unitCam k)),
      (s.holding (.camera k) || (sensor && s.holding (.i2c k)), Reply.errUnit .busy 0 (unitCam k)),
      (sensor && (s.port k).cfg.isNone, Reply.errUnit .state 0 (unitCam k)) ])

/-- Numbers of a size at a place. -/
def nums (pblk : List Byte) (off size n : Nat) : List Nat := (List.range n).map fun i => rd pblk (off + size * i) size

/-- Signed numbers of 16 bits at a place. -/
def nums16 (pblk : List Byte) (off n : Nat) : List Int := (List.range n).map fun i => rdS pblk (off + 2 * i) 2

/-- A section read into a parameter set (Table 12-3). -/
def readSection (pblk : List Byte) (p : CamParams) (x : Nat × Nat) : CamParams :=
  let o := x.2
  match x.1 with
  | 0 => { p with bl := nums pblk o 2 4, blg := nums pblk (o + 8) 2 4 }
  | 1 => { p with k := nums pblk o 2 4, giThr := rd pblk (o + 8) 2 }
  | 2 => { p with lin := some (nums pblk o 2 257) }
  | 3 => { p with sat := rd pblk o 2, g := nums pblk (o + 4) 4 3 }
  | 4 => { p with a := nums16 pblk o 9, off := nums16 pblk (o + 18) 3 }
  | 5 => { p with mc := some ((List.range 3).map fun j => nums pblk (o + 514 * j) 2 257) }
  | 6 => { p with
      camD := rd pblk o 4, colOrigin := rdS pblk (o + 4) 4, colStep := rdS pblk (o + 8) 4, rowOrigin := rdS pblk (o + 12) 4
      rowStep := rdS pblk (o + 16) 4, marginN := rd pblk (o + 20) 2, marginF := rd pblk (o + 24) 4 }
  | 7 => { p with cg := (indexed (nums pblk (o + 8) 2 (rd pblk (o + 2) 2))).map fun v => (rd pblk o 2 + v.1, v.2) }
  | 8 => { p with roi := nums pblk o 2 4 }
  | _ => p

/-- CAM_PIPELINE (R336): the sensor's registers first, then the sections with a frame. -/
def camPipelineEffect (q : Cmd) (s : State) : Ans :=
  let k := q.u8 0
  let mask := q.u16 2
  let secs := (sectionsOf q.pblk mask).1
  let sensor := secs.find? fun x => x.1 == 9
  let writes := match sensor with
    | some (_, o) => (List.range (rd q.pblk o 2)).map fun i => (rd q.pblk (o + 8 + 8 * i) 2, rd q.pblk (o + 12 + 8 * i) 4)
    | none => []
  let w : CamPend := { cmd := some q.id, params := secs.foldl (readSection q.pblk) {}, sections := mask, writes
                       delay := if sensor.isSome then s.sensorDelay k else 0 }
  let s := if sensor.isSome then s.useFree else s
  let s := hold q (.camera k :: (if sensor.isSome then [.i2c k] else [])) false (s.onPort k fun p => { p with pend := some w })
  .wait (applyIdle k (sendSensor k s))

/-- CAM_PIPELINE (R335). -/
def execCamPipeline (q : Cmd) (s : State) : Host.Outcome State Fault Refusal := runCmd 0x0A02 camPipelineCheck camPipelineEffect q s

/-! CAM_ENABLE (R325, R339). -/

/-- Checks of CAM_ENABLE. -/
def camEnableCheck (q : Cmd) (s : State) : Option Reply :=
  let k := q.u8 0
  let on := q.u8 1 == 1
  let pos := on && q.u8 2 == 0
  let u := (s.port k).conf.trigger
  firstFail (shape q 32 [(0, 6), (8, 16)] ++
    [ (decide (3 < k), Reply.bad 0),
      (decide (1 < q.u8 1), Reply.bad 1),
      (on && decide (2 < q.u8 2), Reply.bad 2),
      (extraBits (q.u8 3) 1, Reply.bad 3),
      (pos && q.u16 4 == 0, Reply.bad 4),
      (pos && (decide (q.u64 8 < 64) || decide (2 ^ 40 < q.u64 8)), Reply.bad 8),
      ((s.port k).retired, Reply.errUnit .retired 0 (unitCam k)),
      (s.holding (.camera k), Reply.errUnit .busy 0 (unitCam k)),
      (on && (s.port k).cfg.isNone, Reply.errUnit .state 0 (unitCam k)),
      (pos && s.pos.web.isNone, Reply.errUnit .state 0x01A6 (unitCam k)),
      (pos && (match (s.tim.triggers.getD u {}).reserved with
        | some o => o != k
        | none => false), Reply.errUnit .busy 0 (0x0D10 + u)) ])

/-- CAM_ENABLE (R325, R339): an enabled port takes a change at its frame boundary (02 R30), of several waiting the later one winning. -/
def camEnableEffect (q : Cmd) (s : State) : Ans :=
  let k := q.u8 0
  let p := s.port k
  if q.u8 1 = 0 then
    let s := s.onPort k fun p => { p with enabling := p.enabling.map fun e => { e with after := false } }
    let reply : Reply := if s.portGone k then .errUnit .retired 0 (unitCam k) else .good (toLe 4 p.lastSeq)
    if !p.enable then .done (.good (toLe 4 p.lastSeq)) s
    else if p.frames.isEmpty then .done reply (disablePort k 1 s)
    else match p.disabling with
      | none => .wait (s.onPort k fun p => { p with disabling := some q.id })
      | some _ => .done (.good (toLe 4 p.lastSeq)) s
  else
    let e : EnablePend := { mode := q.u8 2, loop := bit (q.u8 3) 0, pulseW := q.u16 4, spacing := q.u64 8, x0 := q.s64 16 }
    if p.enable && !p.frames.isEmpty then
      .wait (s.onPort k fun p => { p with enabling := some { e with cmds := (p.enabling.map (·.cmds)).getD [] ++ [q.id], after := p.disabling.isSome } })
    else .done (.good (toLe 4 p.lastSeq)) (enablePort k e s)

/-- CAM_ENABLE (R325). -/
def execCamEnable (q : Cmd) (s : State) : Host.Outcome State Fault Refusal := runCmd 0x0A03 camEnableCheck camEnableEffect q s

/-! CAM_CALIBRATE (13 R355, Tables 13-4, 13-7). -/

/-- A patch entry: rectangle and reference. -/
def patchOf (pblk : List Byte) (i : Nat) : List Nat × List Nat := (nums pblk (16 * i) 2 4, nums pblk (16 * i + 8) 2 3)

/-- Checks of CAM_CALIBRATE. -/
def camCalibrateCheck (q : Cmd) (s : State) : Option Reply :=
  let k := q.u8 0
  let n := q.u8 2
  let c := (s.port k).conf
  let wrong (i : Nat) : Bool :=
    let r := (patchOf q.pblk i).1
    decide (r.getD 1 0 < r.getD 0 0) || decide (r.getD 3 0 < r.getD 2 0) || decide (c.width / 2 ≤ r.getD 1 0) || decide (c.height / 2 ≤ r.getD 3 0)
  let out := (List.range n).find? wrong
  let res := (List.range n).find? fun i => rd q.pblk (16 * i + 14) 2 != 0
  firstFail (shape q 16 [(0, 8)] true ++
    [ (q.pblk.length != 16 * n, Reply.err .badLength),
      (decide (3 < k), Reply.bad 0),
      (decide (16 < q.u8 1), Reply.bad 1),
      (decide (n < 12) || decide (64 < n), Reply.bad 2),
      (extraBits (q.u8 3) 1, Reply.bad 3),
      (res.isSome, Reply.badBlock (16 * res.getD 0 + 14)),
      (out.isSome, Reply.badBlock (16 * out.getD 0) 0x01B6),
      ((s.port k).retired, Reply.errUnit .retired 0 (unitCam k)),
      (s.holding (.camera k), Reply.errUnit .busy 0 (unitCam k)),
      (!(s.port k).enable, Reply.errUnit .state 0 (unitCam k)) ])

/-- CAM_CALIBRATE (R355, R357): frames are taken as they close. -/
def camCalibrateEffect (q : Cmd) (s : State) : Ans :=
  let k := q.u8 0
  let c : CamCal :=
    { cmd := q.id, frames := if q.u8 1 = 0 then 4 else q.u8 1, flat := bit (q.u8 3) 0, meanMax := if q.u16 4 = 0 then 300 else q.u16 4
      maxMax := if q.u16 6 = 0 then 800 else q.u16 6, patches := (List.range (q.u8 2)).map (patchOf q.pblk), since := s.tb1 }
  .wait (hold q [.camera k] true (s.onPort k fun p => { p with cal := some c }))

/-- CAM_CALIBRATE (R355). -/
def execCamCalibrate (q : Cmd) (s : State) : Host.Outcome State Fault Refusal := runCmd 0x0A04 camCalibrateCheck camCalibrateEffect q s

/-! CAM_FRAME_READ (R334, Table 12-6). -/

/-- The reports that a read asks for, oldest first. -/
def wantedReports (p : Port) (first count : Nat) : List Report :=
  let held := p.reports.reverse
  if first = 0xFFFFFFFF then held.drop (held.length - count)
  else (held.filter fun r => decide (first ≤ r.seq)).take count

/-- A report that is no longer held (R339). -/
def reportGone (p : Port) (first : Nat) : Bool :=
  first != 0xFFFFFFFF && decide (first ≤ p.lastSeq) && (p.reports.all fun r => decide (first < r.seq))

/-- Checks of CAM_FRAME_READ. -/
def camFrameReadCheck (q : Cmd) (s : State) : Option Reply :=
  firstFail (shape q 24 [(0, 2), (4, 16)] ++
    [ (decide (3 < q.u8 0), Reply.bad 0), (q.u8 1 == 0 || decide (16 < q.u8 1), Reply.bad 1) ] ++ dmaCheck q 8 16 none ++
    [ (reportGone (s.port (q.u8 0)) (q.u32 4), Reply.errUnit .state 0x01A5 (unitCam (q.u8 0))) ])

/-- Reports one after another, each at a multiple of 64. -/
def packReports (rs : List Report) : List Byte :=
  rs.foldl (fun acc r => acc ++ List.replicate ((64 - acc.length % 64) % 64) 0 ++ r.bytes) []

/-- CAM_FRAME_READ (R334). -/
def camFrameReadEffect (q : Cmd) (s : State) : Ans :=
  let rs := wantedReports (s.port (q.u8 0)) (q.u32 4) (q.u8 1)
  let bytes := packReports rs
  startRead q 16 (.good (toLe 4 rs.length ++ toLe 4 0 ++ toLe 8 bytes.length)) bytes s

/-- CAM_FRAME_READ (R334). -/
def execCamFrameRead (q : Cmd) (s : State) : Host.Outcome State Fault Refusal := runCmd 0x0A05 camFrameReadCheck camFrameReadEffect q s

/-! CAM_ARCHIVE (R337, R338). -/

/-- Entries held. -/
def State.archived (s : State) : List ArchEntry := (s.cam.archive.map (·.entries)).getD []

/-- Checks of CAM_ARCHIVE; reserved bits are held to 0 whatever the OP (R7). -/
def camArchiveCheck (q : Cmd) (s : State) : Option Reply :=
  let op := q.u8 0
  let held := (s.cam.archive.map (·.pages)).getD 0
  firstFail (shape q 40 [(0, 18), (24, 12)] ++
    [ (decide (3 < op), Reply.bad 0),
      (op == 0 && decide (1 < q.u8 1), Reply.bad 1),
      (extraBits (q.u8 2) 1, Reply.bad 2),
      (extraBits (q.u8 3) 15, Reply.bad 3),
      (op == 0 && decide (600 < q.u16 6), Reply.bad 6) ] ++ (if op = 1 ∨ op = 2 then dmaCheck q 24 32 none else []) ++
    [ (op != 0 && s.cam.archive.isNone, Reply.err .state 0x01A5),
      (op == 0 && decide (s.store.freePages + held < q.u32 8), Reply.err .noSpace 0x01A7),
      ((op == 2 || (op == 1 && !s.archived.isEmpty && decide (q.u32 12 < ((s.archived.map (·.entry)).headD 0)))) && !(s.archived.any fun e => e.entry == q.u32 12), Reply.err .state 0x01A5) ])

/-- The result of CAM_ARCHIVE; an empty archive has no oldest and no newest entry: those are free (log 8). -/
def archiveResult (s : State) : List Byte × State :=
  let es := s.archived
  let skipped := (s.cam.archive.map (·.skipped)).getD 0
  match es.head?, es.getLast? with
  | some a, some b => (toLe 4 es.length ++ toLe 4 a.entry ++ toLe 4 b.entry ++ toLe 4 skipped, s)
  | _, _ => (toLe 4 0 ++ toLe 4 (s.freeVal Config.siteCamera) ++ toLe 4 (s.useFree.freeVal Config.siteCamera) ++ toLe 4 skipped, s.useFree.useFree)

/-- CAM_ARCHIVE (R337): configure, directory, read, clear. -/
def camArchiveEffect (q : Cmd) (s : State) : Ans :=
  let bytes := match q.u8 0 with
    | 1 => ((s.archived.filter fun e => decide (q.u32 12 ≤ e.entry)).take (q.u16 16)).flatMap (·.header)
    | 2 => ((s.archived.find? fun e => e.entry == q.u32 12).map fun e => e.header ++ e.image).getD []
    | _ => []
  let s := match q.u8 0 with
    | 0 =>
      let a : Archive := { pages := q.u32 8, stage := q.u8 1, keepMarked := bit (q.u8 2) 0, portMask := q.u8 3, keepEvery := q.u16 4
                           rate := if q.u16 6 = 0 then 400 else q.u16 6, budgetAt := s.tb1 }
      checkLow ((s.onCam fun c => { c with archive := some a }).onStore fun t => { t with archive := q.u32 8 })
    | 1 => s
    | 2 => s
    | _ => s.onCam fun c => { c with archive := c.archive.map fun a => { a with entries := [] } }
  let (r, s) := archiveResult s
  startRead q 32 (.good r) bytes s

/-- CAM_ARCHIVE (R337). -/
def execCamArchive (q : Cmd) (s : State) : Host.Outcome State Fault Refusal := runCmd 0x0A06 camArchiveCheck camArchiveEffect q s

/-! CAM_STATUS (Table 12-6). -/

/-- Checks of CAM_STATUS. -/
def camStatusCheck (q : Cmd) (_s : State) : Option Reply := firstFail (shape q 8 [(0, 1)] ++ [(decide (3 < q.u8 0), Reply.bad 0)])

/-- STATE: 0 disabled, 1 waiting, 2 receiving, 3 retired. -/
def Port.code (p : Port) : Nat :=
  if p.retired then 3 else if !p.enable then 0 else if p.frames.any (fun f => !f.beyond p.conf) then 2 else 1

/-- CAM_STATUS; BUFFER_PEAK counts again from its read. -/
def camStatusEffect (q : Cmd) (s : State) : Ans :=
  let p := s.port (q.u8 0)
  .done (.good (toLe 1 p.code ++ toLe 1 (b2n p.conf.wide) ++ toLe 1 p.lanesOk ++ toLe 1 0 ++ toLe 4 p.lastSeq ++ toLe 2 p.lastMarks
      ++ toLe 2 p.peak ++ toLe 4 p.gen)) (s.onPort (q.u8 0) fun p => { p with peak := 0 })

/-- CAM_STATUS (R339). -/
def execCamStatus (q : Cmd) (s : State) : Host.Outcome State Fault Refusal := runCmd 0x0A07 camStatusCheck camStatusEffect q s

end Sys2Proof.Machine
end

