-- ==== Sys2Proof/Machine/Colour.lean ====
section
/-!
DEFINITION. The commands of the colour loop, the trims, the ledger and the strip
(spec/13_colour_constancy_and_nozzle_health.md, R342, R345, R350, R351, R363).
-/
namespace Sys2Proof.Machine

/-! Profiles (R345, Table 13-2). -/

/-- The trims of a profile for one bar: zone, points. -/
def profileTrims (o : List Byte) (bar : Nat) : List (Nat × List Nat) :=
  (List.range 128).map fun z => (z, nums o (0x460 + 34 * (128 * bar + z)) 2 17)

/-- A profile, where its layout and its values hold (R345). -/
def profileOf (o : List Byte) : Option Profile :=
  let p : Profile :=
    { white := (List.range 128).map fun z => nums o (0x10 + 6 * z) 2 3, solid := (List.range 8).map fun c => nums o (0x310 + 6 * c) 2 3
      primary := nums o 0x340 1 8, tone := (List.range 8).map fun c => nums o (0x350 + 34 * c) 2 17 }
  let rises (t : List Nat) : Bool := t.head? == some 0 && t.getLast? == some 32768 && (t.zip (t.drop 1)).all fun x => decide (x.1 < x.2)
  if colourHeader o 0x4652504C && rd o 6 2 == 10 && decide (rd o 8 2 < 1024) && o.length == 44640 && allZero (slice o 0x348 8)
      && p.primary.all (decide <| · ≤ 2) && p.tone.all rises && (p.white.all fun w => w.all (· != 0))
      && (List.range 8).all (fun c => (p.solid.getD c []).getD (p.primary.getD c 0) 0 != 0)
      && (List.range 10).all (fun b => (profileTrims o b).all fun z => z.2.all (decide <| · < 32768)) then some p
  else none

/-- The identity trim curve (09 R231). -/
def identityTrim : List Nat := (List.range 17).map (1024 * ·)

/-- Trims written into a bar image, zone by zone (09 R244). -/
def BarImage.putTrims (zs : List (Nat × List Nat)) (i : BarImage) : BarImage :=
  { i with trims := zs.foldl (fun acc z => if z.2 = identityTrim then acc.filter fun x => x.1 != z.1 else putKey z.1 z.2 acc) i.trims }

/-- The profile in force with every bar's trims, as an object. -/
def profileBytes (p : Profile) (s : State) : List Byte :=
  let u16s (l : List Nat) : List Byte := l.flatMap (toLe 2)
  toLe 4 0x4652504C ++ toLe 2 1 ++ toLe 2 10 ++ toLe 2 1023 ++ toLe 6 0 ++ p.white.flatMap u16s ++ p.solid.flatMap u16s
    ++ p.primary.flatMap (toLe 1) ++ toLe 8 0 ++ p.tone.flatMap u16s
    ++ (List.range 10).flatMap fun b => (List.range 128).flatMap fun z => u16s ((s.bar b).act.trim z)

/-! COLOUR_LOOP_CONFIG (R342, R345). -/

/-- The object that SOURCE names. -/
def loopObject (q : Cmd) (s : State) : Option (List Byte) :=
  match q.u8 20 with
  | 0 => s.nor.profiles.head?
  | 1 => s.object (q.u32 24) (q.u32 28) 7
  | _ => some q.pblk

/-- LEDGER_BANDS of a command. -/
def ledgerBands (q : Cmd) : Nat := if q.u32 0 = 0 then 24576 else q.u32 0

/-- Pages of a ledger (R342). -/
def ledgerPages (n : Nat) : Nat := ceilDiv (n * 2112) (2 ^ 21)

/-- Checks of COLOUR_LOOP_CONFIG. -/
def colourLoopConfigCheck (q : Cmd) (s : State) : Option Reply :=
  let n := ledgerBands q
  let src := q.u8 20
  firstFail (shape q 32 [(0, 21), (24, 8)] true ++
    [ (if src = 2 then q.pblk.isEmpty else !q.pblk.isEmpty, Reply.err .badLength),
      (decide (n < 1024) || decide (24576 < n) || n % 64 != 0, Reply.bad 0),
      (extraBits (q.u16 4) 0xFF, Reply.bad 4),
      (decide (256 < q.u16 6), Reply.bad 6),
      (decide (4096 < q.u16 8), Reply.bad 8),
      (decide (16384 < q.u16 10), Reply.bad 10),
      (q.u16 12 != 0 && (decide (q.u16 12 < 8) || decide (1024 < q.u16 12)), Reply.bad 12),
      (decide (2 < src), Reply.bad 20),
      ((src == 2 || (src == 1 && (s.job (q.u32 24)).any (·.usable)) || (src == 0 && !s.nor.profiles.isEmpty)) && ((loopObject q s).bind profileOf).isNone, if src = 2 then Reply.badBlock 0 0x01C6 else if src = 1 then Reply.bad 28 0x01C6 else Reply.bad 20 0x01C6),
      (s.isRetired 0x1000, Reply.errUnit .retired 0 0x1000),
      (s.clr.st != .stopped, Reply.errUnit .state 0x01C0 0x1000),
      (src == 1 && !((s.job (q.u32 24)).any (·.usable)), Reply.err .state 0x0141),
      (src == 0 && s.nor.profiles.isEmpty, Reply.err .state 0x01C5),
      (decide (s.store.freePages + s.store.ledger < ledgerPages n), Reply.err .noSpace 0x01C1) ])

/-- COLOUR_LOOP_CONFIG (R342, R345): the ledger is reserved anew, the profile loaded, and the trims it gives written. -/
def colourLoopConfigEffect (q : Cmd) (s : State) : Ans :=
  let n := ledgerBands q
  let o := (loopObject q s).getD []
  let cfg : LoopCfg :=
    { bands := n, bars := q.u16 4, gain := orDefault (q.u16 6) 128, maxStep := orDefault (q.u16 8) 512, trimRange := orDefault (q.u16 10) 4096
      windowBands := orDefault (q.u16 12) 64, minPx := orDefault (q.u16 14) 1000, minCell := orDefault (q.u16 16) 16
      dominance := orDefault (q.u8 18) 154, xMin := orDefault (q.u8 19) 8 }
  let s := s.onClr fun k => { k with ledgerBands := some n, ledger := [], cfg, profile := profileOf o }
  let s := checkLow (s.onStore fun t => { t with ledger := ledgerPages n })
  let s := ((List.range 10).filter fun b => bit (rd o 8 2) b).foldl (fun s b =>
    let gen := (s.bar b).nextGen
    barWrite b (fun i => { i.putTrims (profileTrims o b) with gen }) s) s
  .done .good s

/-- COLOUR_LOOP_CONFIG (R345). -/
def execColourLoopConfig (q : Cmd) (s : State) : Host.Outcome State Fault Refusal := runCmd 0x0503 colourLoopConfigCheck colourLoopConfigEffect q s

/-! COLOUR_LOOP_ENABLE (R350). -/

/-- The code of a loop state. -/
def LoopState.code : LoopState → Nat
  | .stopped => 0 | .running => 1 | .frozen => 2

/-- The smallest row offset among the looped bars (R350). -/
def State.loopDMin (s : State) : Int :=
  ((((List.range 8).filter fun b => bit s.clr.cfg.bars b).map s.barDMin).min?).getD 0

/-- Checks of COLOUR_LOOP_ENABLE. -/
def colourLoopEnableCheck (q : Cmd) (s : State) : Option Reply :=
  let run := q.u8 0 == 1
  let span : Int := (s.camDMax : Nat) - s.loopDMin
  firstFail (shape q 8 [(0, 1)] ++
    [ (decide (2 < q.u8 0), Reply.bad 0),
      (s.isRetired 0x1000, Reply.errUnit .retired 0 0x1000),
      (run && (s.clr.ledgerBands.isNone || s.clr.profile.isNone), Reply.errUnit .state 0x01C2 0x1000),
      (run && s.camDMax == 0, Reply.errUnit .state 0x01C4 0x1000),
      (run && decide ((s.clr.ledgerBands.getD 0 : Int) < (span + 8191).fdiv 8192 + 16), Reply.errUnit .limit 0x01C3 0x1000) ])

/-- Set the loop's state (R350): a start from STOPPED begins every generation and window anew, a stop discards S and N. -/
def setLoop (new : LoopState) (s : State) : State :=
  let old := s.clr.st
  if old = new then s
  else
    let s := s.onClr fun k => { k with
      st := new
      bars := if new = .stopped || old = .stopped then k.bars.map fun _ => {} else k.bars }
    let s := if old = .stopped then
      s.onBars fun x => { x with bars := x.bars.map fun b => { b with act := { b.act with gen := 0 }, pend := b.pend.map fun i => { i with gen := if i.gen = b.act.gen then 0 else 1 } } }
      else s
    post evLoopState 0x1000 old.code new.code s

/-- COLOUR_LOOP_ENABLE (R350): FREEZE acts on a loop that runs. -/
def colourLoopEnableEffect (q : Cmd) (s : State) : Ans :=
  let new := match q.u8 0 with
    | 0 => .stopped
    | 1 => .running
    | _ => if s.clr.st = .stopped then .stopped else LoopState.frozen
  .done (.good (toLe 1 new.code)) (setLoop new s)

/-- COLOUR_LOOP_ENABLE (R350). -/
def execColourLoopEnable (q : Cmd) (s : State) : Host.Outcome State Fault Refusal := runCmd 0x0504 colourLoopEnableCheck colourLoopEnableEffect q s

/-! COLOUR_TRIM_READ, COLOUR_TRIM_WRITE (Table 13-6). -/

/-- Checks of BAR, FIRST and COUNT, with the most zones that the transport carries. -/
def trimRange (q : Cmd) (most : Nat) : List (Bool × Reply) :=
  [ (decide (9 < q.u8 0), Reply.bad 0), (decide (127 < q.u8 1), Reply.bad 1),
    (q.u8 2 == 0 || decide (128 - q.u8 1 < q.u8 2) || (q.src.isSome && decide (most < q.u8 2)), Reply.bad 2) ]

/-- Checks of COLOUR_TRIM_READ. -/
def colourTrimReadCheck (q : Cmd) (_s : State) : Option Reply :=
  firstFail (shape q 16 [(0, 3), (8, 8)] ++ trimRange q 41 ++ [(addrBad q 8, Reply.bad 8)])

/-- COLOUR_TRIM_READ. -/
def colourTrimReadEffect (q : Cmd) (s : State) : Ans :=
  let i := (s.bar (q.u8 0)).act
  let bytes := (List.range (q.u8 2)).flatMap fun z => ((i.trim (q.u8 1 + z)).flatMap (toLe 2))
  .done (.withExt (toLe 4 i.gen) (q.u64 8) (if q.src.isNone && q.u64 8 == 0 then [] else bytes)) s

/-- COLOUR_TRIM_READ (R363). -/
def execColourTrimRead (q : Cmd) (s : State) : Host.Outcome State Fault Refusal := runCmd 0x0505 colourTrimReadCheck colourTrimReadEffect q s

/-- Checks of COLOUR_TRIM_WRITE. -/
def colourTrimWriteCheck (q : Cmd) (_s : State) : Option Reply :=
  let n := q.u8 2
  let high := (List.range (17 * n)).find? fun i => decide (32768 ≤ rd q.pblk (2 * i) 2)
  firstFail (shape q 8 [(0, 3)] true ++ trimRange q 39 ++
    [ (q.pblk.length != 34 * n, Reply.err .badLength), (high.isSome, Reply.badBlock (2 * high.getD 0) 0x01C7) ])

/-- COLOUR_TRIM_WRITE: a new generation, in effect at the bar's line boundary (R347, 09 R244). -/
def colourTrimWriteEffect (q : Cmd) (s : State) : Ans :=
  let b := q.u8 0
  let gen := (s.bar b).nextGen
  let zs := (List.range (q.u8 2)).map fun z => (q.u8 1 + z, nums q.pblk (34 * z) 2 17)
  barWriteCmd b (fun i => { i.putTrims zs with gen }) (.good (toLe 4 gen)) q s

/-- COLOUR_TRIM_WRITE (R363). -/
def execColourTrimWrite (q : Cmd) (s : State) : Host.Outcome State Fault Refusal := runCmd 0x0506 colourTrimWriteCheck colourTrimWriteEffect q s

/-! COLOUR_PROFILE_SAVE (R363). -/

/-- Checks of COLOUR_PROFILE_SAVE: without a profile there is no model to save. -/
def colourProfileSaveCheck (q : Cmd) (s : State) : Option Reply :=
  firstFail (shape q 0 [] ++ [(s.isRetired 0x1000, Reply.errUnit .retired 0 0x1000), (s.clr.profile.isNone, Reply.errUnit .state 0 0x1000)])

/-- Begin the journal write of a save. -/
def beginSave (id : CmdId) (s : State) : State :=
  match s.clr.profile with
  | some p => journal (.profile (profileBytes p s) id) (s.onClr fun k => { k with savedAt := some s.tb1 })
  | none => finish id (Reply.errUnit .state 0 0x1000) s

/-- COLOUR_PROFILE_SAVE: a save within 60 s of the previous one is held. -/
def colourProfileSaveEffect (q : Cmd) (s : State) : Ans :=
  let wait := !s.clr.saveHeld.isEmpty || match s.clr.savedAt with
    | some t => within s t 60 1
    | none => false
  .wait (if wait then s.onClr fun k => { k with saveHeld := k.saveHeld ++ [q.id] } else beginSave q.id s)

/-- COLOUR_PROFILE_SAVE (R363). -/
def execColourProfileSave (q : Cmd) (s : State) : Host.Outcome State Fault Refusal := runCmd 0x0507 colourProfileSaveCheck colourProfileSaveEffect q s

/-- PROFILE_SAVE_HOLD_EXPIRY (R363): the oldest held save begins. -/
def execProfileSaveHoldExpiry (dt : Nat) (s : State) : Host.Outcome State Fault Refusal :=
  let s := advance dt s
  .next (match s.clr.saveHeld, s.clr.savedAt with
    | id :: r, some t => if passed s t 60 1 then beginSave id (s.onClr fun k => { k with saveHeld := r }) else s
    | _, _ => s)

/-! COLOUR_STRIP (R351, R353, Table 13-7). -/

/-- Checks of COLOUR_STRIP; reserved bits are held to 0 whatever the OP (R7). -/
def colourStripCheck (q : Cmd) (_s : State) : Option Reply :=
  let op := q.u8 0
  let patches := op == 0 && bit (q.u8 1) 0
  let ladder := op == 0 && bit (q.u8 1) 1
  let broken (off : Nat) : Reply := Reply.bad off 0x01C8
  let res := (List.range (q.u8 4)).find? fun i => rd q.pblk (16 * i + 14) 2 != 0
  firstFail (shape q 32 [(0, 16), (16, 8), (24, 4)] true ++
    [ (q.pblk.length != (if patches then 16 * q.u8 4 else 0), Reply.err .badLength),
      (decide (3 < op), Reply.bad 0),
      (extraBits (q.u8 1) 7, if op = 0 then broken 1 else Reply.bad 1),
      (patches && decide (127 < q.u8 2), broken 2),
      (patches && (q.u8 3 == 0 || decide (8 < q.u8 3) || decide (128 < q.u8 2 + q.u8 3)), broken 3),
      (patches && (q.u8 4 == 0 || decide (32 < q.u8 4)), broken 4),
      (patches && (q.u8 5 == 0 || decide (16 < q.u8 5)), broken 5),
      (ladder && q.u16 8 == 0, broken 8),
      (extraBits (q.u16 10) 0x3FF, if op = 0 then broken 10 else Reply.bad 10),
      (ladder && (decide (q.u8 12 < 4) || decide (64 < q.u8 12)), broken 12),
      (ladder && (q.u8 13 == 0 || decide (3 < q.u8 13)), broken 13),
      (ladder && (decide (q.u16 14 < 16) || decide (1024 < q.u16 14)), broken 14),
      (patches && res.isSome, Reply.badBlock (16 * res.getD 0 + 14) 0x01C8),
      (op == 2 && addrBad q 16, Reply.bad 16) ])

/-- The strip that OP 0 describes. -/
def stripOf (q : Cmd) : Strip :=
  { patchesOn := bit (q.u8 1) 0, ladderOn := bit (q.u8 1) 1, mark := bit (q.u8 1) 2, zone0 := q.u8 2, zones := q.u8 3
    patches := (List.range (if bit (q.u8 1) 0 then q.u8 4 else 0)).map fun i => { ink := nums q.pblk (16 * i) 1 8, target := nums q.pblk (16 * i + 8) 2 3 }
    patchBands := q.u8 5, deLimit := orDefault (q.u16 6) 300, ladderEvery := q.u16 8, ladderBars := q.u16 10, ladderStep := q.u8 12
    ladderDrop := q.u8 13, ladderPitch := q.u16 14 }

/-- Set the strip: at once, or at the next readiness point of an armed run (R351). -/
def setStrip (st : Option Strip) (id : CmdId) (s : State) : Ans :=
  if s.fire.run.isSome then
    .wait (keepFor id .good (s.onClr fun k => { k with pendStrip := some (st, ((k.pendStrip.map (·.2)).getD []) ++ [id]) }))
  else .done .good (s.onClr fun k => { k with strip := st })

/-- COLOUR_STRIP (R351, R354): configure, off, read and clear the suspects. -/
def colourStripEffect (q : Cmd) (s : State) : Ans :=
  match q.u8 0 with
  | 0 => setStrip (some (stripOf q)) q.id s
  | 1 => setStrip none q.id s
  | 2 =>
    let list := (s.clr.strikes.filter (·.suspect)).take (q.u32 24)
    .done (.withExt (toLe 4 list.length) (q.u64 16) (list.flatMap fun x => toLe 1 x.bar ++ toLe 1 x.strikes ++ toLe 2 0 ++ toLe 4 x.column)) s
  | _ => .done .good (s.onClr fun k => { k with strikes := (k.strikes.map fun x => { x with suspect := false }).filter fun x => x.strikes != 0 })

/-- COLOUR_STRIP (R351). -/
def execColourStrip (q : Cmd) (s : State) : Host.Outcome State Fault Refusal := runCmd 0x0508 colourStripCheck colourStripEffect q s

/-! COLOUR_LEDGER_READ (R342, Table 13-1). -/

/-- The bytes of a ledger entry. -/
def LedgerEntry.bytes (e : LedgerEntry) : List Byte :=
  toLe 4 e.runId ++ toLe 2 e.flags ++ toLe 1 e.lines ++ toLe 1 0 ++ toLe 8 e.band ++ toLeS 8 e.w0 ++ encT e.time ++ toLe 28 0
    ++ (List.range 128).flatMap fun z => (List.range 8).flatMap fun c => toLe 2 ((e.mean.getD z []).getD c 0)

/-- Checks of COLOUR_LEDGER_READ. -/
def colourLedgerReadCheck (q : Cmd) (_s : State) : Option Reply :=
  firstFail (shape q 24 [(0, 10), (16, 8)] ++
    [ (q.u16 8 == 0 || decide (1024 < q.u16 8), Reply.bad 8), (addrBad q 16, Reply.bad 16) ])

/-- COLOUR_LEDGER_READ: a band no longer held reads EMPTY; the entries are too long for Ethernet (R363). -/
def colourLedgerReadEffect (q : Cmd) (s : State) : Ans :=
  let n := q.u16 8
  let entry (b : Nat) : LedgerEntry := ((s.clr.entryOf b).filter fun e => e.band == b).getD { band := b }
  let bytes := if q.u64 16 = 0 then [] else (List.range n).flatMap fun i => (entry (q.u64 0 + i)).bytes
  .done (.withExt (toLe 2 n) (q.u64 16) bytes) s

/-- COLOUR_LEDGER_READ (R363). -/
def execColourLedgerRead (q : Cmd) (s : State) : Host.Outcome State Fault Refusal := runCmd 0x0509 colourLedgerReadCheck colourLedgerReadEffect q s

end Sys2Proof.Machine
end

