-- ==== Sys2Proof/Machine/Gate.lean ====
section
/-!
DEFINITION. Drop-gate tests (spec/13_colour_constancy_and_nozzle_health.md, R358 to R361).
-/
namespace Sys2Proof.Machine

/-- The record held of a gate (17 Table 17-7, log 29). -/
def State.gateRecord (s : State) (b : Nat) : List Byte :=
  let slot := if b < 8 then 0x50 + b + 256 else 0x50 + b - 8 + 512
  ((s.board.mirs.find? fun m => m.path == 4 && m.slot == slot && m.st == 0).map (·.bytes)).getD []

/-- The flight time that a gate's record gives, 0 where it gives none. -/
def State.gateFlight (s : State) (b : Nat) : Nat := rd (mirTag 0x0401 (s.gateRecord b)) 0 4

/-- Change a bar's test. -/
def State.onTest (b : Nat) (f : GateTest → GateTest) (s : State) : State :=
  s.onClr fun k => { k with tests := k.tests.map fun t => if t.bar == b then f t else t }

/-- Checks of HEAD_GATE_TEST (R358); a retired course or engine gives ST_RETIRED (02 R40), and a device whose lifecycle and debug state
P0 does not go with cannot fire (04 R101). -/
def headGateTestCheck (q : Cmd) (s : State) : Option Reply :=
  let b := q.u8 0
  let c := s.course b
  let win := orDefault (q.u16 16) 5000
  firstFail (shape q 40 [(0, 22), (24, 12)] ++
    [ (decide (9 < b), Reply.bad 0), (extraBits (q.u8 1) 3, Reply.bad 1), (decide (8 < q.u8 2), Reply.bad 2), (decide (3 < q.u8 3), Reply.bad 3),
      (decide (q.u32 8 < 2000) || decide (1000000 < q.u32 8), Reply.bad 8), (decide (5000000 < q.u32 12), Reply.bad 12),
      (decide (win < 100), Reply.bad 16), (decide (1000 < q.u16 20), Reply.bad 20), (addrBad q 24, Reply.bad 24),
      (decide (q.u32 8 ≤ 2 * win), Reply.bad 8 0x01D1),
      (s.isRetired (unitCourse b), Reply.errUnit .retired 0 (unitCourse b)),
      (s.isRetired (unitBre (s.bar b).engine), Reply.errUnit .retired 0 (unitBre (s.bar b).engine)),
      (s.holding (.bar b) || s.holding (.course b) || s.holding (.gate b), Reply.errUnit .busy 0 (unitCourse b)),
      ((stateCell s.sec.lifecycle s.sec.debug .p0).isNone, Reply.err .state),
      (((s.bar b).enabled && !bit (q.u8 1) 1) || !c.up || !c.owned || c.run.version != 2 || s.bars.catchUp.isSome, Reply.err .state 0x01D0),
      (q.u32 12 == 0 && s.gateFlight b == 0, Reply.err .state 0x01D4) ])

/-- The nozzles that a test fires (R359): those not DISABLED of the chosen heads that print. -/
def testNozzles (b heads : Nat) (s : State) : List GateNozzle :=
  let x := s.bar b
  (x.placed.filter fun h => (heads == 0 || bit heads h) && s.headPrints b h).flatMap fun h =>
    (List.range (x.place h).rows.length).flatMap fun row =>
      ((List.range ((x.place h).rows.getD row {}).nozzles).filter fun n => x.act.nozzle h row n % 4 != 3).map fun n => { head := h, row, nozzle := n }

/-- The test begins once its bar is out of print and what it pushed has been sent (R359): RUN_BEGIN, t_0 2 ms on. -/
def beginTest (t : GateTest) (s : State) : State :=
  let b := t.bar
  if t.t0.isSome || (s.bar b).enabled || !(s.course b).queue.isEmpty || !(s.course b).writing.isEmpty then s
  else
    let s := setPower (if s.thm.power == .p1 then .p0 else s.thm.power) s
    let s := s.onTest b fun t => { t with t0 := some (s.tb3 + msT 2), nozzles := testNozzles b t.heads s }
    sendCtrl b 0x02 (toLe 4 t.runId ++ toLe 4 0 ++ toLe 8 0) s

/-- HEAD_GATE_TEST (R358): with TAKE_OUT the bar first leaves print as BAR_DISABLE makes it. -/
def headGateTestEffect (q : Cmd) (s : State) : Ans :=
  let b := q.u8 0
  let s := hold q [.bar b, .course b, .gate b] true s
  let t : GateTest :=
    { cmd := q.id, bar := b, apply := bit (q.u8 1) 0, takeOut := bit (q.u8 1) 1, repeats := orDefault (q.u8 2) 3, drop := orDefault (q.u8 3) 2
      shotNs := q.u32 8, flightNs := orDefault (q.u32 12) (s.gateFlight b), windowNs := orDefault (q.u16 16) 5000, weakNs := orDefault (q.u16 18) 1000
      failLimit := orDefault (q.u16 20) 50, heads := q.u32 4, addr := q.u64 24, room := q.u32 32
      runId := 2 ^ 31 + (s.clr.testRuns + 1) % 2 ^ 31, again := (s.bar b).enabled, began := s.tb1 }
  let s := s.onClr fun k => { k with tests := k.tests ++ [t], testRuns := (k.testRuns + 1) % 2 ^ 31 }
  let s := if !(s.bar b).enabled then s
    else if s.inPrint b then s.onBar b fun x => { x with disabling := some ((x.disabling.map (·.1)).getD [], (x.disabling.map (·.2)).getD false) }
    else disableBar b [] false s
  .wait (beginTest t s)

/-- HEAD_GATE_TEST (R358). -/
def execHeadGateTest (q : Cmd) (s : State) : Host.Outcome State Fault Refusal := runCmd 0x0C03 headGateTestCheck headGateTestEffect q s

/-! Shots (R359). -/

/-- Shots of a test. -/
def GateTest.shots (t : GateTest) : Nat := t.repeats * t.nozzles.length

/-- Time of a shot in TB3, 2^-32 s. -/
def GateTest.shotTime (t : GateTest) (n : Nat) : Int := t.t0.getD 0 + nsT (n * t.shotNs : Nat)

/-- The nozzle of a shot. -/
def GateTest.nozzleOf (t : GateTest) (n : Nat) : GateNozzle := t.nozzles.getD (n % max 1 t.nozzles.length) {}

/-- The payload of a shot's packet: one drop in one row (R359); with BITS 1 the drop is code 1 (log 30). -/
def shotPayload (t : GateTest) (n : Nat) (s : State) : List Byte :=
  let x := s.bar t.bar
  let z := t.nozzleOf n
  let drop := if x.conf.bits = 1 then 1 else t.drop
  let row := (List.range ((x.place z.head).rows.getD z.row {}).nozzles).map fun i => if i = z.nozzle then drop else 0
  codeRow x.conf.rle z.row (dropWords x.conf.bits row)

/-- Commit the next shot, its stamp behind it, with at most 64 shots ahead of the next FIRE. -/
def commitShot (t : GateTest) (s : State) : State :=
  let n := t.sent
  if t.t0.isNone || t.shots ≤ n || (decide (64 ≤ n) && decide (s.tb3 < t.shotTime (n - 64))) || !s.carries t.bar then s
  else
    let z := t.nozzleOf n
    let bytes := shotPayload t n s
    let slot := ((s.bar t.bar).place z.head).slot
    let p : QueuePacket :=
      { slot, head := z.head, line := n, bytes, flits := ceilDiv (8 + bytes.length) 64
        stamp := some { run := t.runId, target := slot + 32 * z.row, op := 0, line := n, time := t.shotTime n } }
    if queueCap < (s.course t.bar).depth + p.flits then s
    else (writePacket t.bar p false s).onTest t.bar fun t => { t with sent := n + 1 }

/-- GATE_TEST_SHOT (R359). -/
def execGateTestShot (dt bar : Nat) (s : State) : Host.Outcome State Fault Refusal :=
  let s := advance dt s
  onUnit (decide (bar < 10)) (match s.clr.tests.find? (·.bar == bar) with
    | none => s
    | some t => if t.t0.isNone then beginTest t s else commitShot t s)

/-- Time since t_0 + FLIGHT_NS, in units of 2^-32 ns. -/
def GateTest.since (t : GateTest) (now : Int) : Int := (now - t.t0.getD 0) * 1000000000 - ((t.flightNs * 2 ^ 32 : Nat) : Int)

/-- A pulse at a gate (R359): a hit, a second hit, or a stray. -/
def gatePulse (t : GateTest) (now : Int) : GateTest :=
  let x := t.since now
  let unit : Int := (t.shotNs * 2 ^ 32 : Nat)
  let shot := (x + unit / 2).fdiv unit
  let dev := x - shot * unit
  let inside := decide (0 ≤ shot) && decide (shot < (t.shots : Int)) && decide (dev.natAbs ≤ t.windowNs * 2 ^ 32)
  if !inside then { t with stray := t.stray + 1 }
  else if t.hit.contains shot.toNat then { t with spurious := t.spurious + 1 }
  else { t with hit := shot.toNat :: t.hit, nozzles := upd (shot.toNat % max 1 t.nozzles.length) (fun z => { z with hits := z.hits + 1, dev := z.dev + dev }) t.nozzles }

/-- GATE_PULSE (R359): outside a test it means nothing. -/
def execGatePulse (dt gate : Nat) (s : State) : Host.Outcome State Fault Refusal :=
  let s := advance dt s
  onUnit (decide (gate < 10)) (s.onTest gate fun t => if t.t0.isNone then t else gatePulse t s.tb3)

/-! The end of a test (R360). -/

/-- Insert in rising order. -/
def insertInt (x : Int) : List Int → List Int
  | [] => [x]
  | y :: r => if x ≤ y then x :: y :: r else y :: insertInt x r

/-- Sum of deviations of the median nozzle, the lower median over those hit in every pass. -/
def GateTest.median (t : GateTest) : Option Int :=
  let l := ((t.nozzles.filter fun z => z.hits == t.repeats).map (·.dev)).foldl (fun acc x => insertInt x acc) []
  l[(l.length - 1) / 2]?

/-- The state of a fired nozzle (R360): 2 FAILED, 1 WEAK, 0 GOOD. -/
def GateTest.judge (t : GateTest) (z : GateNozzle) : Nat :=
  if 2 * z.hits < t.repeats then 2
  else if z.hits < t.repeats then 1
  else match t.median with
    | some m => if t.weakNs * 2 ^ 32 * t.repeats < (z.dev - m).natAbs then 1 else 0
    | none => 1

/-- The structure (Table 13-8). Without a nozzle hit in every pass there is no median, and without a hit no mean: free values
(log 8). -/
def gateStructure (t : GateTest) (first : Nat) (s : State) : List Byte :=
  let r := max 1 t.repeats
  let med (site : Nat) : Int := match t.median with
    | some m => m.fdiv (r * 2 ^ 32 : Nat)
    | none => Config.free Config.siteGate (s.free + site)
  let dev (i : Nat) (z : GateNozzle) : Int := match t.median with
    | some m => if z.hits = 0 then Config.free Config.siteGate (s.free + 1 + i) else (z.dev * r - m * z.hits).fdiv (z.hits * r * 2 ^ 32 : Nat)
    | none => Config.free Config.siteGate (s.free + 1 + i)
  let es := t.nozzles.take t.room
  toLeS 4 (med 0) ++ toLe 4 t.stray ++ toLe 4 t.spurious ++ toLe 4 t.shots ++ toLe 8 first ++ toLe 4 es.length ++ toLe 4 0
    ++ (indexed es).flatMap fun x =>
      let z := x.2
      toLe 1 z.head ++ toLe 1 z.row ++ toLe 2 z.nozzle ++ toLe 1 z.hits
        ++ toLe 1 ((s.bar t.bar).act.nozzle z.head z.row z.nozzle % 4 + 4 * t.judge z) ++ toLeS 2 (satS 16 (dev x.1 z))

/-- The test leaves the device (R358, R359): RUN_END for the test run, its bar enabled again, P1 where nothing else prints. The
bar's first run line comes with the state. -/
def leaveTest (t : GateTest) (s : State) : State × Nat :=
  let s := if t.t0.isSome then pushPrio t.bar [{ run := t.runId, op := 5, line := t.shots - 1 }] s else s
  let s := s.onClr fun k => { k with tests := k.tests.filter fun x => x.bar != t.bar }
  let s := if s.thm.power == .p0 && s.fire.run.isNone && s.clr.tests.isEmpty then setPower .p1 s else s
  let s := if t.t0.isNone then s.onBar t.bar fun x => { x with disabling := x.disabling.bind fun d => if d.1.isEmpty then none else some d } else s
  if t.again && !(s.bar t.bar).enabled && (barEnableFault t.bar s).isNone then enableBar t.bar s else (s, 0)

/-- The states that an accepted test writes, GAIN unchanged (R360, R361). -/
def writeStates (t : GateTest) (s : State) : State :=
  let x := s.bar t.bar
  let i := x.pend.getD x.act
  let es := t.nozzles.map fun z => ({ head := z.head, row := z.row, nozzle := z.nozzle, entry := i.nozzle z.head z.row z.nozzle / 4 * 4 + t.judge z } : NozzleEntry)
  recordNozzles t.bar es (barWrite t.bar (fun i => { es.foldl (fun i e => i.putNozzles e.head e.row e.nozzle [e.entry]) i with gen := x.nextGen }) s)

/-- The last window has closed, and 1 ms has passed (R359, R360). -/
def endTest (t : GateTest) (s : State) : State :=
  let n (k : Nat) : Nat := (t.nozzles.filter fun z => t.judge z == k).length
  let failed := n 2
  let detail := if t.failLimit * t.nozzles.length < 1000 * failed then 0x01D2 else if t.shots < 100 * t.stray then 0x01D3 else 0
  let s0 := s
  let s := if t.apply && detail = 0 then writeStates t s else s
  let (s, first) := leaveTest t s
  let blank := t.nozzles.any (·.hits == 0) || t.median.isNone
  let ext := if t.addr = 0 then [] else gateStructure t first s0
  let s := if blank then { s with free := s.free + 1 + t.nozzles.length } else s
  let result := toLe 4 (n 0) ++ toLe 4 (n 1) ++ toLe 4 failed ++ toLe 4 (u32 (tUs (s.tb1 - t.began) / 1000).toNat)
  let s := post evGateTestDone unitCtl t.bar (min 0xFFFF failed + (if detail = 0 then 0 else 2 ^ 31)) s
  if detail = 0 then finish t.cmd (Reply.withExt result t.addr ext) s
  else
    let s := if ext.isEmpty then s else s.emit (.hostWrite t.addr ext)
    finish t.cmd { status := .rejected, detail, result } s

/-- GATE_TEST_END (R359). -/
def execGateTestEnd (dt bar : Nat) (s : State) : Host.Outcome State Fault Refusal :=
  let s := advance dt s
  onUnit (decide (bar < 10)) (match s.clr.tests.find? (·.bar == bar) with
    | none => s
    | some t =>
      if t.t0.isSome && t.sent == t.shots && decide (((t.shots * t.shotNs + t.windowNs + 1000000) * 2 ^ 32 : Nat) ≤ t.since s.tb3) then endTest t s else s)

/-- An abortable test is aborted: no nozzle state changes (R358). -/
def abortTest (id : CmdId) (s : State) : State :=
  match s.clr.tests.find? (·.cmd == id) with
  | some t => (leaveTest t s).1
  | none => s

end Sys2Proof.Machine
end

