-- ==== Sys2Proof/Machine/Head.lean ====
section
/-!
DEFINITION. Module discovery and the HEAD commands but HEAD_GATE_TEST (spec/17_bring_up_and_discovery.md, R438 to R443).
-/
namespace Sys2Proof.Machine

/-! Records (R440). -/

/-- PATH and SLOT as an event gives them: the low 8 bits of each (log 29). -/
def placeCode (path slot : Nat) : Nat := path % 256 + 256 * (slot % 256)

/-- Disable a head from its bar's next line boundary (09 R245). -/
def headOff (c : Nat) (ids : List (Option CmdId)) (s : State) : State :=
  match (s.ctx c).owner with
  | none => s
  | some (b, h) =>
    if s.inPrint b then
      s.onBar b fun x => { x with
        headOff := x.headOff ++ (ids.map fun i => (h, i)) ++ (x.headOn.filter fun o => o.1 == h).map fun o => (h, some o.2)
        headOn := x.headOn.filter fun o => o.1 != h }
    else s.onCtx c fun x => { x with enabled := false }

/-- A record has been read (R440): held, judged, and compared with the one read before at its place. Whether the module has
changed comes with the state. -/
def takeRecord (path slot : Nat) (bytes : List Byte) (s : State) : State × Bool :=
  let st := mirState bytes
  let old := s.board.mirs.find? fun m => m.path == path && m.slot == slot
  let s := s.onBoard fun b => { b with mirs := (b.mirs.filter fun m => !(m.path == path && m.slot == slot)) ++ [{ path, slot, bytes, st }] }
  let s := if st = 0 then s else post evMirBad unitCtl (placeCode path slot) st s
  let head := if 0x80 ≤ path && slot < 32 then s.ctxAtSlot (path - 0x80) slot else none
  let placed := head.isSome || path < 4 || (path == 4 && decide (256 ≤ slot))
  let changed := placed && st != 1 && old.any fun m => m.st != 1 && mirUid m.bytes != mirUid bytes
  let s := match head with
    | some c => if st = 0 && rd bytes 6 1 = 1 then s.onCtx c fun x => { x with mir := bytes, complete := true } else s
    | none => s
  if changed then
    let s := post evModuleChanged unitCtl (placeCode path slot) (rd bytes 6 1) s
    (match head with
      | some c => headOff c [none] s
      | none => s, true)
  else (s, false)

/-! HEAD_DISCOVER (R440). -/

/-- Places on a path, in the order read (Table 17-7): path and slot, those of I2C4 with the channel of its switch above the
address (log 29). -/
def placesOn (path : Nat) (s : State) : List (Nat × Nat) :=
  if path < 4 then [(path, 0x50)]
  else if path = 4 then
    ((List.range 4).map fun k => (4, 0x50 + k)) ++ ((List.range 8).map fun b => (4, 256 + 0x50 + b)) ++ [(4, 512 + 0x50), (4, 512 + 0x51)]
  else
    let b := path - 0x80
    (path, 0xFF) :: ((s.bar b).placed.map fun h => (path, ((s.bar b).place h).slot))

/-- Begin to read the next place of a path. -/
def readNext (cmd : CmdId) (path : Nat) (s : State) : State :=
  match s.board.discover.bind fun d => d.todo.find? (·.1 == path) with
  | none => s
  | some (_, slot) =>
    if 0x80 ≤ path then askMir (path - 0x80) 1 cmd slot [] s
    else
      let s := if path = 4 then s.emit (.i2c 4 0x70 (toLe 1 (2 ^ (slot / 256)))) else s
      s.emit (.i2c path (slot % 256) (toLe 2 0))

/-- An entry of the structure (Table 17-10). -/
def discoverEntry (m : Mir) : List Byte :=
  toLe 1 (rd m.bytes 6 1) ++ toLe 1 m.st ++ toLe 1 m.path ++ toLe 1 m.slot ++ toLe 4 (rd m.bytes 8 4) ++ toLe 8 (mirUid m.bytes)

/-- The command of a discovery. -/
def Discover.cmdOf (d : Discover) (s : State) : Cmd := ((s.flying d.cmd).map (·.cmd)).getD {}

/-- The records read so far take effect; how many were of another module. DEDUCED (log 126): over Ethernet, where more than 89 end in
ST_BAD_LENGTH with nothing changed (03 R71, R77), they take effect together at the end. -/
def takeFound (d : Discover) (s : State) : State × Nat :=
  d.found.foldl (fun acc m =>
    let (s, changed) := takeRecord m.path m.slot m.bytes acc.1
    (s, acc.2 + b2n changed)) (s, 0)

/-- The discovery completes once no place is left. -/
def checkDiscover (s : State) : State :=
  match s.board.discover with
  | some d =>
    if !d.todo.isEmpty then s
    else
      let q := d.cmdOf s
      let found := (List.range 256).flatMap fun p => d.found.filter (·.path == p)
      let ext := if q.src.isNone && q.u64 8 == 0 then [] else found.flatMap discoverEntry
      let s := s.onBoard fun b => { b with discover := none }
      if q.src.isSome && decide (89 < found.length) then finish d.cmd (Reply.err .badLength) s
      else
        let (s, changed) := if q.src.isSome then takeFound d s else (s, d.changed)
        finish d.cmd (.withExt (toLe 2 found.length ++ toLe 2 changed) (q.u64 8) ext) s
  | none => s

/-- A place has been read, or no module answers there; the next of its path follows. -/
def placeDone (path slot : Nat) (bytes : Option (List Byte)) (s : State) : State :=
  match s.board.discover with
  | none => s
  | some d =>
    let (s, changed) := match bytes with
      | some b => if (d.cmdOf s).src.isSome then (s, false) else takeRecord path slot b s
      | none => (s, false)
    let s := s.onBoard fun b => { b with discover := some { d with
      todo := d.todo.filter (· != (path, slot))
      found := d.found ++ (bytes.toList.map fun x => { path, slot, bytes := x, st := mirState x })
      changed := d.changed + b2n changed } }
    checkDiscover (readNext d.cmd path s)

/-- The paths that the masks select. -/
def chosenPaths (q : Cmd) : List Nat := ((List.range 5).filter fun k => bit (q.u8 0) k) ++ (((List.range 10).filter fun k => bit (q.u16 2) k).map (0x80 + ·))

/-- What a discovery of a path holds (R66). -/
def pathResource (path : Nat) : Resource := if path < 5 then .i2c path else .mgmt (path - 0x80)

/-- The unit that a path runs over: a sensor bus, or a course. -/
def pathUnit (path : Nat) : Nat := if path < 5 then 0x1200 + path else unitCourse (path - 0x80)

/-- Checks of HEAD_DISCOVER. -/
def headDiscoverCheck (q : Cmd) (s : State) : Option Reply :=
  firstFail (shape q 16 [(0, 1), (2, 2), (8, 8)] ++
    [ (extraBits (q.u8 0) 0x1F, Reply.bad 0), (extraBits (q.u16 2) 0x3FF, Reply.bad 2), (addrBad q 8, Reply.bad 8),
      ((chosenPaths q).any (fun p => s.isRetired (pathUnit p)), Reply.errUnit .retired 0 (((chosenPaths q).map pathUnit).find? s.isRetired |>.getD 0)),
      ((chosenPaths q).any (fun p => s.holding (pathResource p)) || s.board.discover.isSome, Reply.err .busy) ])

/-- HEAD_DISCOVER (R440): a course that is not up has nothing to read. -/
def headDiscoverEffect (q : Cmd) (s : State) : Ans :=
  let paths := chosenPaths q
  let s := hold q (paths.map pathResource) true s
  let live := paths.filter fun p => decide (p < 5) || (s.course (p - 0x80)).up
  let s := s.onBoard fun b => { b with discover := some { cmd := q.id, todo := live.flatMap fun p => placesOn p s } }
  .wait (checkDiscover (live.foldl (fun s p => readNext q.id p s) s))

/-- HEAD_DISCOVER (R440). -/
def execHeadDiscover (q : Cmd) (s : State) : Host.Outcome State Fault Refusal := runCmd 0x0C01 headDiscoverCheck headDiscoverEffect q s

/-- An aborted discovery keeps the records already read (R440). -/
def abortDiscover (id : CmdId) (s : State) : State :=
  let s := match s.board.discover with
    | some d => if d.cmd == id && (d.cmdOf s).src.isSome then (takeFound d s).1 else s
    | none => s
  let s := s.onBoard fun b => { b with discover := b.discover.filter fun d => d.cmd != id }
  s.onLinks fun k => { k with courses := k.courses.map fun c => { c with mgmt := c.mgmt.filter fun w => !(w.kind == 1 && w.cmd == id) } }

/-- HEAD_MIR_READ: the record held of a place; on I2C4 the first in the order of the switch's channels (log 29). -/
def heldMir (path slot : Nat) (s : State) : Option Mir :=
  ((placesOn path s).filterMap fun p => s.board.mirs.find? fun m => m.path == p.1 && m.slot == p.2).find? fun m => m.slot % 256 == slot

/-- Checks of HEAD_MIR_READ: ST_STATE where no record is held (log 31). -/
def headMirReadCheck (q : Cmd) (s : State) : Option Reply :=
  let path := q.u8 0
  let m := heldMir path (q.u8 1) s
  firstFail (shape q 24 [(0, 2), (4, 16)] ++
    [ (decide (4 < path) && (decide (path < 0x80) || decide (0x89 < path)), Reply.bad 0), (addrBad q 16, Reply.bad 16),
      (m.any fun m => decide (m.bytes.length < q.u32 4 + q.u32 8), Reply.bad 8),
      (m.isNone, Reply.err .state) ])

/-- HEAD_MIR_READ (R443). -/
def headMirReadEffect (q : Cmd) (s : State) : Ans :=
  let bytes := slice (((heldMir (q.u8 0) (q.u8 1) s).map (·.bytes)).getD []) (q.u32 4) (q.u32 8)
  .done (.withExt [] (q.u64 16) (if q.src.isNone && q.u64 16 == 0 then [] else bytes)) s

/-- HEAD_MIR_READ (R443). -/
def execHeadMirRead (q : Cmd) (s : State) : Host.Outcome State Fault Refusal := runCmd 0x0C02 headMirReadCheck headMirReadEffect q s

/-! Management messages (R439, R443). -/

/-- Checks of HEAD_BRIDGE_MGMT. -/
def headBridgeMgmtCheck (q : Cmd) (s : State) : Option Reply :=
  firstFail (shape q 16 [(0, 1), (8, 8)] true ++
    [ (decide (q.pblk.length < 16) || decide (1024 < q.pblk.length), Reply.err .badLength),
      (decide (9 < q.u8 0), Reply.bad 0), (addrBad q 8, Reply.bad 8),
      (s.isRetired (unitCourse (q.u8 0)), Reply.errUnit .retired 0 (unitCourse (q.u8 0))),
      (s.holding (.mgmt (q.u8 0)), Reply.errUnit .busy 0 (unitCourse (q.u8 0))) ])

/-- HEAD_BRIDGE_MGMT (R443): the message goes as it is; over a course that is down no reply comes. -/
def headBridgeMgmtEffect (q : Cmd) (s : State) : Ans := .wait (sendMgmt (q.u8 0) { mid := rd q.pblk 2 2, cmd := q.id } q.pblk s)

/-- HEAD_BRIDGE_MGMT (R443). -/
def execHeadBridgeMgmt (q : Cmd) (s : State) : Host.Outcome State Fault Refusal := runCmd 0x0C07 headBridgeMgmtCheck headBridgeMgmtEffect q s

/-- The device's own reading of a slot has ended (R445): the next follows. -/
def rereadNext (l slot : Nat) (s : State) : State :=
  let s := s.onCourse l fun c => { c with reread := c.reread.filter (· != slot) }
  match (s.course l).reread with
  | n :: _ => askMir l 2 (0, 0) n [] s
  | [] => s

/-- A place on a course has been read, or has not answered. -/
def slotDone (l : Nat) (w : MgmtWait) (bytes : Option (List Byte)) (s : State) : State :=
  if w.kind = 1 then placeDone (0x80 + l) w.slot bytes s
  else rereadNext l w.slot (match bytes with
    | some b => (takeRecord (0x80 + l) w.slot b s).1
    | none => s)

/-- Part of a record comes: the rest is asked for until LENGTH is reached. -/
def partRead (l : Nat) (w : MgmtWait) (b : List Byte) (s : State) : State :=
  if rd b 1 1 ≠ 0 then slotDone l w (if w.part.isEmpty then none else some w.part) s
  else
    let data := slice b 0x10 (rd b 0x0C 2)
    let part := w.part ++ data
    let len := rd part 8 4
    if data.isEmpty || part.length < 24 || rd part 0 4 ≠ 0x52494D4C || len < 32 || 524288 < len || len ≤ part.length then slotDone l w (some part) s
    else askMir l w.kind w.cmd w.slot part s

/-- A bridge's reply (Table 17-10). -/
def takeMgmt (l : Nat) (b : List Byte) (s : State) : State :=
  match (s.course l).mgmt.find? fun w => w.mid == rd b 2 2 with
  | none => s
  | some w =>
    if !bit (rd b 0 1) 7 then s
    else
      let s := s.onCourse l fun c => { c with mgmt := c.mgmt.filter (· != w) }
      if w.kind = 0 then
        let q := ((s.flying w.cmd).map (·.cmd)).getD {}
        finish w.cmd (.withExt (toLe 2 b.length ++ toLe 1 (rd b 1 1)) (q.u64 8) (if q.src.isNone && q.u64 8 == 0 then [] else b.take 1024)) s
      else partRead l w b s

/-- MGMT_REPLY (R439). -/
def execMgmtReply (dt course : Nat) (bytes : List Byte) (s : State) : Host.Outcome State Fault Refusal :=
  onUnit (decide (course < 10)) (takeMgmt course bytes (advance dt s))

/-- MGMT_REPLY_TIMEOUT (R443): the oldest request has waited 1 ms. -/
def execMgmtReplyTimeout (dt course : Nat) (s : State) : Host.Outcome State Fault Refusal :=
  let s := advance dt s
  onUnit (decide (course < 10)) (match (s.course course).mgmt with
    | w :: _ =>
      if passed s w.since 1 1000 then
        let s := s.onCourse course fun c => { c with mgmt := c.mgmt.filter (· != w) }
        if w.kind = 0 then finish w.cmd (Reply.err .timeout 0x0207) s else slotDone course w none s
      else s
    | [] => s)

/-! HEAD_ENABLE, HEAD_DISABLE, HEAD_STATUS (R441, R443, 09 R245, 10 R279). -/

/-- The bar of a placed head is held by a gate test. -/
def State.headHeld (s : State) (c : Nat) : Bool := (s.ctx c).owner.any fun o => s.holding (.bar o.1) || s.holding (.unit (unitHead c))

/-- The head is too hot to return (10 R279). -/
def HeadCtx.tooHot (c : HeadCtx) : Bool := match c.temp, c.levels with
  | some t, some l => decide (l.2.1 - l.2.2 < t)
  | _, _ => false

/-- Checks of HEAD_ENABLE. -/
def headEnableCheck (q : Cmd) (s : State) : Option Reply :=
  let c := s.ctx (q.u8 0)
  firstFail (shape q 8 [(0, 1)] ++
    [ (c.retired, Reply.errUnit .retired 0 (unitHead (q.u8 0))), (s.headHeld (q.u8 0), Reply.errUnit .busy 0 (unitHead (q.u8 0))),
      (c.owner.isNone || !c.complete, Reply.errUnit .state 0x0204 (unitHead (q.u8 0))),
      (c.tooHot, Reply.errUnit .state 0 (unitHead (q.u8 0))) ])

/-- HEAD_ENABLE (R441): with its bar in print, from the bar's next line boundary (09 R244). -/
def headEnableEffect (q : Cmd) (s : State) : Ans :=
  let c := q.u8 0
  match (s.ctx c).owner with
  | none => .done .good s
  | some (b, h) =>
    if s.inPrint b then
      .wait (keepFor q.id .good (s.onBar b fun x => { x with
        headOn := x.headOn ++ ((x.headOff.filter fun o => o.1 == h).filterMap fun o => o.2.map fun i => (h, i)) ++ [(h, q.id)]
        headOff := x.headOff.filter fun o => o.1 != h }))
    else .done .good (checkLimit (s.onCtx c fun x => { x with enabled := true, halted := none, haltAt := none }))

/-- HEAD_ENABLE (R441). -/
def execHeadEnable (q : Cmd) (s : State) : Host.Outcome State Fault Refusal := runCmd 0x0C04 headEnableCheck headEnableEffect q s

/-- Checks of HEAD_DISABLE. -/
def headDisableCheck (q : Cmd) (s : State) : Option Reply :=
  firstFail (shape q 8 [(0, 1)] ++
    [ ((s.ctx (q.u8 0)).retired, Reply.errUnit .retired 0 (unitHead (q.u8 0))), (s.headHeld (q.u8 0), Reply.errUnit .busy 0 (unitHead (q.u8 0))) ])

/-- HEAD_DISABLE (09 R245): with its context to be retired at the same boundary, the retirement governs (02 R42). -/
def headDisableEffect (q : Cmd) (s : State) : Ans :=
  let c := q.u8 0
  if (s.ctx c).owner.any fun o => s.inPrint o.1 then .wait (headOff c [some q.id] (keepFor q.id .good s))
  else .done (if s.isDoomed (unitHead c) then .errUnit .retired 0 (unitHead c) else .good) (checkLimit (headOff c [] s))

/-- HEAD_DISABLE (09 R245). -/
def execHeadDisable (q : Cmd) (s : State) : Host.Outcome State Fault Refusal := runCmd 0x0C05 headDisableCheck headDisableEffect q s

/-- Checks of HEAD_STATUS. -/
def headStatusCheck (q : Cmd) (_s : State) : Option Reply := firstFail (shape q 8 [(0, 1)])

/-- HEAD_STATUS (R443); TEMP and UID read 0 where none is held (log 6). -/
def headStatusEffect (q : Cmd) (s : State) : Ans :=
  let c := s.ctx (q.u8 0)
  let st := if c.retired then 4 else if c.owner.isNone then 0 else if c.halted.isSome then 3 else if c.enabled then 2 else 1
  .done (.good (toLe 1 st ++ toLe 1 (c.hflags + 128 * b2n c.stale) ++ toLeS 2 (c.temp.getD 0) ++ toLe 4 0 ++ toLe 8 (if c.mir.isEmpty then 0 else mirUid c.mir))) s

/-- HEAD_STATUS (R443). -/
def execHeadStatus (q : Cmd) (s : State) : Host.Outcome State Fault Refusal := runCmd 0x0C06 headStatusCheck headStatusEffect q s

end Sys2Proof.Machine
end

