-- ==== Sys2Proof/Machine/Retire.lean ====
section
/-!
DEFINITION. Retiring a unit at its natural boundary, and faults that are device faults at once
(spec/02_architecture.md, R35 to R42, Table 2-6; spec/09_bar_rendering.md, R240; spec/05_web_position.md, R126;
spec/06_time_bases.md, R138; spec/11_course_links_and_queues.md, R316).
-/
namespace Sys2Proof.Machine

/-- The unit has a row in Table 2-6 by which it is retired. -/
def hasRow (u : Nat) : Bool :=
  (decide (0x0A80 ≤ u) && decide (u ≤ 0x0A93)) || u == 0x0B94 || u == 0x0B95 || (decide (0x0800 ≤ u) && decide (u ≤ 0x080A))
    || (decide (0x0600 ≤ u) && decide (u ≤ 0x0604)) || (decide (0x0E00 ≤ u) && decide (u ≤ 0x0E03))
    || (decide (0x0F00 ≤ u) && decide (u ≤ 0x0F03)) || u / 256 == 0x89 || u == 0x0C00 || u == 0x0C01

/-- Bars that an engine serves: configured bars assigned to it. -/
def State.servedBy (s : State) (e : Nat) : List Nat := (List.range 10).filter fun b => (s.bar b).engine == e && (s.bar b).cfg.isSome

/-- Bars of an engine that are not about to be disabled at the same boundary (R42). -/
def State.toMove (s : State) (e : Nat) : List Nat := (s.servedBy e).filter fun b => (s.bar b).disabling.isNone

/-- The action of the unit's row cannot be taken, or it has no row: its fault is a device fault (R38). -/
def cannotRetire (u : Nat) (s : State) : Bool :=
  let i := u % 256
  !hasRow u || match u / 256 with
    | 0x08 => !(s.toMove i).isEmpty && (i == 10 || s.isRetired (unitBre 10) || !(s.servedBy 10).isEmpty)
    | 0x0A => (s.lane ((i - 0x80) ^^^ 1)).retired
    | 0x0B => (s.lane ((i - 0x80) ^^^ 1)).retired
    | 0x06 => decide (s.pipes ≤ 1)
    | 0x0E => s.pos.web == some i && match s.pos.backup with
      | some b => (s.chan b.ch).retired
      | none => true
    | _ => false

/-- A lane is retired (R316): its course is pinned to the other. One that runs in solo already is told at once; from duo it changes at
its next marker. -/
def retireLane (n : Nat) (s : State) : State :=
  let l := linkOf n
  let c := s.course l
  let s := checkLimit (checkCourseDown l (s.onLane n fun q => { q with retired := true, pinned := true }))
  if c.up && !c.duo && l < 10 && (s.course l).up then post evLaneSolo (unitCourse l) l (2 * l + 1 - n % 2) s else s

/-- BRE10 takes a bar over (09 R240): the line being rendered is dropped; a bar in print is back, and the events are posted, at step 4 of Table 9-3; one that is not has no
line to catch up with. -/
def swapEngine (e crit b : Nat) (s : State) : State :=
  let s := dropWriting b (·.render) (s.onBar b fun x => { x with engine := 10, swapping := some (s.tb1, unitBre e, crit) })
  if s.inPrint b then s else endSwap b s

/-- The engine's retirement is told at the end of the swap that it began. -/
def State.toldBySwap (s : State) (u : Nat) : Bool := u / 256 == 0x08 && !(s.toMove (u % 256)).isEmpty

/-- An engine is retired: a bar to be disabled at the same boundary is disabled (R42), another is taken over. -/
def retireEngine (e crit : Nat) (s : State) : State :=
  let off := (s.servedBy e).filter fun b => (s.bar b).disabling.isSome
  let s := (s.toMove e).foldl (fun s b => swapEngine e crit b s) s
  checkLimit (off.foldl (fun s b => match (s.bar b).disabling with
    | some (ids, flush) => disableBar b ids flush s
    | none => s) s)

/-- A fail-over to a digital backup, which is sampled at every POS clock, is taken at once (05 R126). -/
def firstSample (s : State) : State :=
  match s.pos.backup with
  | some b => if s.posRuns && (s.chan b.ch).mode == 1 then takeFailover b.ch s else s
  | none => s

/-- An encoder channel is retired (05 R122, R126). -/
def retireEncoder (w : Nat) (s : State) : State :=
  let c := s.chan w
  let ids := (c.pend.map fun p => p.orders.map (·.cmd)).getD [] ++ (c.calib.map (·.cmd)).toList
  let s := s.onChan w fun c => { c with retired := true, speedValid := false, pend := none, calib := none }
  let s := if s.pos.web == some w then firstSample (s.onPos fun p => { p with failover := some (w, (c.posQ.getD 0)) })
    else s.onPos fun p => { p with
      backup := if (p.backup.map (·.ch)) == some w then none else p.backup
      cmp := p.cmp.map fun x => if x.ch == some w then { x with armed := false } else x }
  finishAll ids (.errUnit .retired 0 (unitEnc w)) s

/-- A camera port is retired at a frame boundary: disabled, with what it holds discarded (R41). -/
def retireCamera (k : Nat) (s : State) : State :=
  let s := s.onPort k fun p => { p with retired := true }
  if (s.port k).enable then disablePort k 0x02 s else s

/-- A head context is retired (09 R245): its head is disabled, what waited for it is answered (R42). -/
def retireHead (c : Nat) (s : State) : State :=
  let s := s.onCtx c fun x => { x with retired := true, enabled := false }
  match (s.ctx c).owner with
  | none => s
  | some (b, h) =>
    let x := s.bar b
    let ids := ((x.headOff.filter fun o => o.1 == h).filterMap (·.2)) ++ (x.headOn.filter fun o => o.1 == h).map (·.2)
    let s := s.onBar b fun x => { x with headOff := x.headOff.filter fun o => o.1 != h, headOn := x.headOn.filter fun o => o.1 != h }
    let (s, n) := dropHeadLines b h s
    checkLimit (finishAll ids (.errUnit .retired 0 (unitHead c)) (discardWork (unitHead c) n 0x02 s))

/-- An Ethernet port is retired: disabled, its part in PTP given up. -/
def retireEth (p : Nat) (s : State) : State :=
  let ids := ((s.hif.eth.getD p {}).retrain).toList
  let s := s.onHif fun h => { h with eth := upd p (fun e => { e with enable := false, linkUp := false, retrain := none, waiting := [] }) h.eth }
  let t := s.ptp p
  let s := s.onPtp p fun t => { t with isMaster := false, lastAnnounce := none }
  let s := if t.role = 0 then s else loseMaster (t.role - 1) p s
  finishAll ids (.errUnit .retired 0 (unitEth p)) s

/-- The action of a unit's row in Table 2-6. -/
def retireAction (u crit : Nat) (s : State) : State :=
  let i := u % 256
  match u / 256 with
  | 0x08 => retireEngine i crit s
  | 0x0A => retireLane (i - 0x80) s
  | 0x0B => retireLane (i - 0x80) s
  | 0x0E => retireEncoder i s
  | 0x0F => retireCamera i s
  | 0x89 => retireHead i s
  | 0x0C => retireEth i s
  | _ => s

/-- Commands that wait for a unit's retirement complete (17 R443). -/
def retireAnswers (u : Nat) (s : State) : State :=
  let ids := (s.stat.retireCmds.filter (·.1 == u)).map (·.2)
  finishAll ids .good (s.onStat fun t => { t with retireCmds := t.retireCmds.filter (·.1 != u) })

/-- The natural boundary at which a unit is retired has come: between frames for a camera port (Table 2-4); the other units' is the
row itself. -/
def atBoundary (u : Nat) (s : State) : Bool := u / 256 != 0x0F || (s.port (u % 256)).frames.isEmpty

/-- A unit judged permanently faulty is retired at its boundary, or its fault is a device fault (R37, R38). -/
def retireUnit (u : Nat) (s : State) : State :=
  match s.stat.doomed.find? (·.1 == u) with
  | none => s
  | some (_, crit) =>
    if cannotRetire u s then retireAnswers u (deviceFault u crit s)
    else if !atBoundary u s then s
    else retireAnswers u ((if s.toldBySwap u then latchUnit u crit false else latchRetired u crit false) (retireAction u crit s))

/-- UNIT_RETIREMENT (R37). -/
def execUnitRetirement (dt unit : Nat) (s : State) : Host.Outcome State Fault Refusal :=
  onUnit (unitExists unit) (retireUnit unit (advance dt s))

/-- LOCKSTEP_MISMATCH (R38): a device fault at once, without retry. -/
def execLockstepMismatch (dt pair : Nat) (s : State) : Host.Outcome State Fault Refusal :=
  let s := advance dt s
  onUnit (decide (pair < 2)) (if s.held || s.thm.power == .p3 || s.thm.power == .p4 then s else deviceFault (0x0300 + pair) 0x04 s)

/-! PLLs (R31, R35, 06 R138). -/

/-- Clock domains that a PLL drives (Table 2-2). -/
def pllDomains : List Nat := [1, 2, 3, 4, 5, 7, 9, 10, 12]

/-- The unit against which a PLL's loss of lock counts: TB0 for the TB domain, which has no row in Table 2-6 (06 R138), PWR for the
others, for which the spec names none (log 33). -/
def unitPll (domain : Nat) : Nat := if domain = 9 then 0x0D00 else 0x0310

/-- A PLL loses lock: an upset of its unit, unless it is not to count; its domain stands still until it is back. -/
def losePll (domain : Nat) (count : Bool) (s : State) : State :=
  if bit s.board.pllLost domain then s
  else
    let s := if count then lockLoss (unitPll domain) s else s
    let s := s.onBoard fun b => { b with pllLost := b.pllLost + 2 ^ domain }
    if domain = 9 then s.onTim fun t => { t with pllLock := false } else s

/-- PLL_LOCK_LOST (R35). -/
def execPllLockLost (dt domain : Nat) (s : State) : Host.Outcome State Fault Refusal :=
  onUnit (pllDomains.contains domain) (losePll domain true (advance dt s))

/-- PLL_RELOCKED (R35). -/
def execPllRelocked (dt domain : Nat) (s : State) : Host.Outcome State Fault Refusal :=
  let s := advance dt s
  onUnit (pllDomains.contains domain)
    (if !bit s.board.pllLost domain then s
     else
       let s := s.onBoard fun b => { b with pllLost := b.pllLost - 2 ^ domain }
       if domain = 9 then s.onTim fun t => { t with pllLock := true } else s)

end Sys2Proof.Machine
end

