-- ==== Sys2Proof/Machine/Diag.lean ====
section
/-!
DEFINITION. The DIAG opcodes (spec/17_bring_up_and_discovery.md, R443, Table 17-9; spec/02_architecture.md, R39). A self-test, a
memory test and a trace are done within their row (log 34).
-/
namespace Sys2Proof.Machine

/-- A unit is idle for a self-test (R443). -/
def unitIdle (u : Nat) (s : State) : Bool :=
  let i := u % 256
  let quiet := s.fire.run.isNone && s.clr.tests.isEmpty && s.bars.catchUp.isNone
  let link (l : Nat) : Bool := !(s.course l).up && !(s.course l).cfg.enable && (s.course l).train.isNone && !s.holding (.course l)
  let pair : Bool := !(s.course 10).up && !s.pair.enable && !s.holding .pairLink
  !s.holding .device && !s.holding (.unit u) && match u / 256 with
    | 0x08 => (s.servedBy i).all fun b => i != 10 && !s.inPrint b && !s.holding (.bar b)
    | 0x89 => (s.ctx i).owner.all fun o => !s.inPrint o.1 && !s.holding (.bar o.1)
    | 0x06 => quiet
    | 0x05 => quiet && decide (s.loads = 0) && !s.holding .encoder
    | 0x07 => quiet
    | 0x10 => quiet
    | 0x0A => if i < 0x80 then link i else link ((i - 0x80) / 2) && (s.lane (i - 0x80)).prbs.isNone
    | 0x0B => pair
    | 0x0C => !((s.hif.eth.getD (i % 2) {}).enable)
    | 0x0E => if i < 0x10 then (s.chan i).mode == 0 && !s.holding (.channel i) else !((s.pos.cmp.getD (i - 0x10) {}).armed)
    | 0x0F => if i < 0x10 then !(s.port i).enable && !s.holding (.camera i) else quiet && (List.range 4).all fun k => !(s.port k).enable
    | 0x12 => !s.holding (.i2c i)
    | _ => quiet

/-- The outcome of a self-test, which only the part knows: passed, and the number of the check that failed (log 8). -/
def State.testPassed (s : State) : Bool := bit (s.freeVal Config.siteTestPass) 0

/-- A failed self-test retires a unit (16 R417 criterion 0x06, 15 R400). -/
def testFailed (u : Nat) (s : State) : State := doom u 0x06 (upset u s)

/-- Checks of DIAG_SELF_TEST. -/
def diagSelfTestCheck (q : Cmd) (s : State) : Option Reply :=
  let u := q.u16 0
  firstFail (shape q 8 [(0, 2)] ++
    [(!unitExists u, Reply.bad 0), (!s.isRetired u && !unitIdle u s, Reply.errUnit .busy 0 u)])

/-- DIAG_SELF_TEST: PASS and CODE. -/
def diagSelfTestEffect (q : Cmd) (s : State) : Ans :=
  let u := q.u16 0
  let pass := s.testPassed
  let code := if pass then 0 else s.freeVal Config.siteTestCode % (2 ^ 32 - 1) + 1
  let s := s.useFree
  .done (.good (toLe 1 (b2n pass) ++ toLe 3 0 ++ toLe 4 code)) (if pass || s.isRetired u then s else testFailed u s)

/-- DIAG_SELF_TEST (R443). -/
def execDiagSelfTest (q : Cmd) (s : State) : Host.Outcome State Fault Refusal := runCmd 0x1001 diagSelfTestCheck diagSelfTestEffect q s

/-- Return a unit to service (R39): the marks of its retirement go, and a device fault that it was is over. -/
def restoreUnit (u : Nat) (s : State) : State :=
  let i := u % 256
  let s := s.onStat fun t => { t with
    retired := t.retired.filter (·.unit != u), upsets := t.upsets.filter (·.1 != u), lockLosses := t.lockLosses.filter (·.1 != u) }
  let s := journal (.restore u) s
  let s := match u / 256 with
    | 0x0A => s.onLane (i - 0x80) fun q => if 0x80 ≤ i then { q with retired := false } else q
    | 0x0B => s.onLane (i - 0x80) fun q => if 0x80 ≤ i then { q with retired := false, pinned := false } else q
    | 0x0E => s.onPos fun p => { p with ch := upd i (fun c => { c with retired := false }) p.ch }
    | 0x0F => s.onPort i fun p => { p with retired := false }
    | 0x89 => s.onCtx i fun c => { c with retired := false }
    | _ => s
  if s.stat.fault.isNone || s.board.scan then s
  else match s.stat.retired.find? (·.deviceFault) with
    | some r => s.onStat fun t => { t with fault := some r.unit }
    | none =>
      let s := (s.onStat fun t => { t with fault := none }).onBoard fun b => { b with fault := false }
      if s.thm.hold then s
      else driveFault false (s.onLinks fun l => { l with courses := l.courses.map fun c => { c with safeIdle := false } })

/-- Checks of DIAG_UNIT_RESTORE. -/
def diagUnitRestoreCheck (q : Cmd) (_s : State) : Option Reply := firstFail (shape q 8 [(0, 2)] ++ [(!unitExists (q.u16 0), Reply.bad 0)])

/-- DIAG_UNIT_RESTORE (R39): a unit that is not retired is left alone, a retired one is tested first. -/
def diagUnitRestoreEffect (q : Cmd) (s : State) : Ans :=
  let u := q.u16 0
  if !s.isRetired u then .done .good s
  else if s.testPassed then .done .good (restoreUnit u s.useFree)
  else .done (.errUnit .hwFault 0 u) s.useFree

/-- DIAG_UNIT_RESTORE (R39). -/
def execDiagUnitRestore (q : Cmd) (s : State) : Host.Outcome State Fault Refusal := runCmd 0x1002 diagUnitRestoreCheck diagUnitRestoreEffect q s

/-- Checks of DIAG_UNIT_RETIRE. -/
def diagUnitRetireCheck (q : Cmd) (s : State) : Option Reply :=
  let u := q.u16 0
  firstFail (shape q 8 [(0, 2)] ++
    [ (!unitExists u, Reply.bad 0), (s.isRetired u, Reply.errUnit .retired 0 u), (cannotRetire u s, Reply.errUnit .state 0x0206 u) ])

/-- DIAG_UNIT_RETIRE (R443): criterion 0x05; it completes with the retirement. -/
def diagUnitRetireEffect (q : Cmd) (s : State) : Ans :=
  let u := q.u16 0
  .wait (doom u 0x05 (s.onStat fun t => { t with retireCmds := t.retireCmds ++ [(u, q.id)] }))

/-- DIAG_UNIT_RETIRE (R443). -/
def execDiagUnitRetire (q : Cmd) (s : State) : Host.Outcome State Fault Refusal := runCmd 0x1003 diagUnitRetireCheck diagUnitRetireEffect q s

/-- Checks of DIAG_MEM_TEST. -/
def diagMemTestCheck (q : Cmd) (s : State) : Option Reply :=
  firstFail (shape q 16 [(0, 2)] ++
    [(decide (1 < q.u8 0), Reply.bad 0), (decide (2 < q.u8 1), Reply.bad 1), (s.holding .memory, Reply.err .busy)])

/-- DIAG_MEM_TEST (R443): the lines in error; what stands in the memory is put back (log 34). -/
def diagMemTestEffect (_q : Cmd) (s : State) : Ans :=
  .done (.good (toLe 4 (s.freeVal Config.siteMemTest % 2 ^ 32))) s.useFree

/-- DIAG_MEM_TEST (R443). -/
def execDiagMemTest (q : Cmd) (s : State) : Host.Outcome State Fault Refusal := runCmd 0x1004 diagMemTestCheck diagMemTestEffect q s

/-- Checks of DIAG_REG_READ. -/
def diagRegReadCheck (q : Cmd) (_s : State) : Option Reply :=
  firstFail (shape q 16 [(0, 6)] ++
    [ (q.u32 0 % 4 != 0, Reply.bad 0), (q.u16 4 == 0 || decide (4 < q.u16 4), Reply.bad 4),
      ((List.range (q.u16 4)).any (fun i => Config.secAddress (q.u32 0 + 4 * i)), Reply.err .denied) ])

/-- DIAG_REG_READ (R443): words whose values the spec does not give (log 8). -/
def diagRegReadEffect (q : Cmd) (s : State) : Ans :=
  let words := (List.range (q.u16 4)).flatMap fun i => toLe 4 (Config.free Config.siteRegister (s.free + i) % 2 ^ 32)
  .done (.good words) { s with free := s.free + 4 }

/-- DIAG_REG_READ (R443). -/
def execDiagRegRead (q : Cmd) (s : State) : Host.Outcome State Fault Refusal := runCmd 0x1005 diagRegReadCheck diagRegReadEffect q s

/-- Checks of DIAG_INJECT: a lockstep mismatch needs a CTL pair, a sensor timeout a die sensor (log 34). -/
def diagInjectCheck (q : Cmd) (s : State) : Option Reply :=
  let u := q.u16 0
  let k := q.u8 2
  firstFail (shape q 8 [(0, 4)] ++
    [ (!unitExists u || (k == 3 && u != 0x0300 && u != 0x0301) || (k == 4 && u / 256 != 0x11), Reply.bad 0),
      (k == 0 || decide (5 < k), Reply.bad 2), (extraBits (q.u8 3) 1, Reply.bad 3),
      (s.isRetired u, Reply.errUnit .retired 0 u), (k == 3 && s.fire.run.isSome, Reply.errUnit .state 0x0206 u) ])

/-- The PLL that an unlock injected at a unit means: the TB domain's for a time base, else that of the DP domain (log 34). -/
def injectedPll (u : Nat) : Nat := if u / 256 = 0x0D then 9 else 1

/-- An uncorrectable ECC error in a unit: its location is taken to be the same at each injection (R36). -/
def injectUncorrectable (u : Nat) (s : State) : State :=
  if s.board.injects.contains (u, 2) then doom u 0x02 s else s.onBoard fun b => { b with injects := b.injects ++ [(u, 2)] }

/-- What a fault injected does. -/
def injectFault (u kind : Nat) (count : Bool) (s : State) : State :=
  match kind with
  | 1 => if count then upset u s else s
  | 2 => if count then injectUncorrectable u s else s
  | 3 => deviceFault u 0x04 s
  | 4 => s.onBoard fun b => { b with injects := b.injects ++ [(u, 4), (u, 4)] }
  | _ => losePll (injectedPll u) count s

/-- DIAG_INJECT (R443): its completion is written first, since a device fault may follow. -/
def diagInjectEffect (q : Cmd) (s : State) : Ans :=
  .wait (injectFault (q.u16 0) (q.u8 2) (!bit (q.u8 3) 0) (finish q.id .good s))

/-- DIAG_INJECT (R443). -/
def execDiagInject (q : Cmd) (s : State) : Host.Outcome State Fault Refusal := runCmd 0x1006 diagInjectCheck diagInjectEffect q s

/-- Checks of DIAG_TRACE. -/
def diagTraceCheck (q : Cmd) (s : State) : Option Reply :=
  firstFail (shape q 24 [(0, 2), (4, 16)] ++
    [ (!unitExists (q.u16 0), Reply.bad 0), (q.u16 0 / 256 == 2, Reply.errUnit .denied 0 (q.u16 0)),
      (q.u32 4 == 0 || decide (1048576 < q.u32 4), Reply.bad 4) ] ++ dmaCheck q 8 16 none ++
    [(s.holding (.unit (q.u16 0)), Reply.errUnit .busy 0 (q.u16 0))])

/-- DIAG_TRACE (R443) holds its unit until its transfer ends: the list is filled with samples whose form and content the spec does not give (log 8). -/
def diagTraceEffect (q : Cmd) (s : State) : Ans :=
  let n := q.listBytes (q.u32 16)
  let bytes : List Byte := (List.range n).map fun i => BitVec.ofNat 8 (Config.free Config.siteTrace (s.free + i))
  startRead q 16 .good bytes (hold q [.unit (q.u16 0)] true { s with free := s.free + n })

/-- DIAG_TRACE (R443). -/
def execDiagTrace (q : Cmd) (s : State) : Host.Outcome State Fault Refusal := runCmd 0x1007 diagTraceCheck diagTraceEffect q s

end Sys2Proof.Machine
end

