-- ==== Sys2Proof/Machine/Pair.lean ====
section
/-!
DEFINITION. The redundant pair: heartbeats, roles, claims, takeover, planned handover, yield criteria, the standby's tests and
health (spec/15_redundancy_and_upgrade.md, R387 to R408; spec/11_course_links_and_queues.md, R305 to R307).
-/
namespace Sys2Proof.Machine

/-- A pair state from its code. -/
def PairState.ofCode : Nat → Option PairState
  | 0 => some .off | 1 => some .linking | 2 => some .joining | 3 => some .standby | 4 => some .active | 5 => some .activeAlone
  | 6 => some .detached | _ => none

/-- Active or active alone. -/
def PairState.leads (p : PairState) : Bool := p == .active || p == .activeAlone

/-- A CTRL or PRIO packet of the peer has been taken: its COUNTER is one above the last (R390). -/
def heardPair (s : State) : State := s.onPair fun p => { p with rxCounter := p.rxCounter + 1 }

/-- Jobs that a layer's active or pending configuration names (R394). -/
def State.namedJobs (s : State) : List Nat :=
  ((s.cps.layers.flatMap fun l =>
    ([l.act] ++ (l.pend.map (·.1)).toList).filterMap fun c => if c.source = 1 then some c.job else none) ++
    s.cps.layers.flatMap fun l => l.flips.map (·.job)).eraseDups

/-- Those of them that the standby does not hold. -/
def State.unmirrored (s : State) : List Nat := s.namedJobs.filter fun id => !((s.job id).any (·.usable))

/-- A course is up, with its delay known where it runs version 2 (R394, R401). -/
def State.courseReady (s : State) (l : Nat) : Bool := (s.course l).up && ((s.course l).run.version == 1 || (s.course l).delayValid)

/-- TB3 is within 5 ns of the active's (R394, R401). -/
def State.tb3Held (s : State) : Bool := s.pair.tb3Loaded && decide (s.pair.tb3Offset.natAbs * 1000000000 ≤ 5 * 2 ^ 32)

/-- SYNCED (R401). A standby is eligible to claim while it is: the 3 ms of its last checkpoint run on when the link fails. -/
def State.synced (s : State) : Bool :=
  s.pair.st == .standby && s.tb3Held && s.unmirrored.isEmpty && !s.thm.hold && s.cell.2 && match s.pair.ckpt with
    | some k => decide ((s.tb1 - k.arrived) * 1000 ≤ 3 * 2 ^ 32) && k.epochs.all fun e => s.courseReady e.1
    | none => false

/-- PAIR_REJOIN completes when SYNCED is reached (R412). -/
def rejoined (s : State) : State :=
  match s.pair.rejoin with
  | some (id, _) => if s.synced then finish id .good (s.onPair fun p => { p with rejoin := none }) else s
  | none => s

/-- The active has lost its standby: records and frames no longer wait (R391). -/
def standAlone (s : State) : State :=
  if s.pair.st == .active then releaseWaits (setPair .activeAlone (s.onPair fun p => { p with peerState := .detached })) else s

/-! Claims (R305 to R307, R405, R408). -/

/-- Rows of a bar whose bridge has told LAST_FIRED: none starts below the line after it (R405, R271). -/
def startRows (b : Nat) (rows : List (Nat × Nat × Option Nat)) (s : State) : State :=
  s.onRun fun r => { r with heads := r.heads.map fun h =>
    if h.bar ≠ b then h
    else
      let mine := h.rows.map fun w => match rows.find? fun e => e.1 == ((s.bar b).place h.head).slot && e.2.1 == w.row with
        | some (_, _, some n) => { w with next := n + 1, lastLine := some n }
        | some (_, _, none) => { w with next := 0 }
        | none => w
      { h with rows := mine, nextDue := ((mine.map (·.next)).min?).getD h.nextDue } }

/-- The smallest line with which a row of a bar starts. -/
def Run.startLine (r : Run) (b : Nat) : Nat := (((r.heads.filter (·.bar == b)).flatMap fun h => h.rows.map (·.next)).min?).getD 0

/-- RUN_BEGIN to one course, with its bar's start line (Table 15-9). -/
def beginCourse (l : Nat) (s : State) : State :=
  match s.fire.run with
  | some r =>
    if bit r.bars l && s.carries l then
      sendCtrl l 0x02 (toLe 4 r.id ++ toLe 1 (b2n r.reverse) ++ toLe 1 (if r.pitch = 64 then 0 else 1) ++ toLe 2 0 ++ toLe 8 (r.startLine l)) s
    else s
  | none => s

/-- A CLAIM has been accepted: the course is owned. -/
def takeCourse (l : Nat) (w : ClaimWait) (rows : List (Nat × Nat × Option Nat)) (s : State) : State :=
  let training := (s.course l).train.isSome
  let s := s.onCourse l fun c => { c with claim := none, owned := true, epoch := w.epoch, owner := Config.uid, lastFired := rows }
  let s := post evCourseClaimed (unitCourse l) l w.epoch s
  let s := if training then courseUp l s else s
  if w.planned || s.fire.run.isNone then s
  else
    let s := if s.pair.takeover.isSome || training then startRows l rows s else s
    beginCourse l s

/-- CLAIM_ACK (R306, Table 11-6): accepted; refused, when a takeover's claim is made once more with EPOCH 16 higher (R405); or,
of a planned claim, not possible, when the course is claimed without PLANNED after the handover (R408). -/
def takeClaimAck (l : Nat) (b : List Byte) (s : State) : State :=
  match (s.course l).claim with
  | none => s
  | some w =>
    if rd b 0 4 ≠ w.epoch then s
    else
      let drop (s : State) : State := s.onCourse l fun c => { c with claim := none }
      match rd b 4 1 with
      | 0 => takeCourse l w (rowEntries (rd b 6 2) (b.drop 8)) s
      | 1 =>
        if (s.course l).train.isSome then failTrain l (.errUnit .state 0x0194 (unitCourse l)) (drop s)
        else if w.again then drop s
        else sendClaim l (w.epoch + 16) (if w.planned then s.pair.handover.bind (·.h) else none) true s
      | _ => drop s

/-- CLAIM_ACK. -/
def execClaimAck (dt course : Nat) (bytes : List Byte) (s : State) : Host.Outcome State Fault Refusal :=
  onUnit (decide (course < 10)) (takeClaimAck course bytes (advance dt s))

/-- CLAIM_ACK_TIMEOUT (R407): 200 us without an answer leave the course to R309; a bring-up has its own bound. -/
def execClaimAckTimeout (dt course : Nat) (s : State) : Host.Outcome State Fault Refusal :=
  let s := advance dt s
  onUnit (decide (course < 10)) (match (s.course course).claim with
    | some w =>
      if (s.course course).train.isNone && passed s w.since 200 1000000 then
        post evCourseDown (unitCourse course) course 0
          (s.onCourse course fun c => { c with claim := none, up := false, wanted := true, owned := false, tried := s.tb1 })
      else s
    | none => s)

/-- Claim every course that is up and not owned. -/
def claimAll (s : State) : State :=
  (List.range 10).foldl (fun s l =>
    let c := s.course l
    if c.up && !c.owned && c.claim.isNone then sendClaim l (c.epoch + 1) none false s else s) s

/-! Takeover (R404, R405, Table 15-9). -/

/-- The colour loop's windows restart at a claim (13 R349). -/
def restartWindows (s : State) : State := s.onClr fun k => { k with bars := k.bars.map fun _ => {} }

/-- The run that the checkpoint tells of goes on here: P0, the ring's pages, a record that counts from the claim, catch-up. -/
def continueRun (r : Run) (s : State) : State :=
  let s := checkLow (setPower .p0 (s.onStore fun t => { t with ring := r.ringPages }))
  let f := s.frameOf r r.nextTick
  let s := closeRecord 8 { runId := r.id, frame := f.frame, flags := 5 + s.openFlags r f.frame, capo := f.capo } s
  beginCatchUp (restartWindows (bump (ctr 13 0 0) 1 s))

/-- An eligible standby claims every course that the checkpoint lists, and takes the press over. Cause 1 yield, 2 loss. -/
def takeover (cause : Nat) (s : State) : State :=
  if !s.synced then s
  else match s.pair.ckpt with
  | none => s
  | some k =>
    let s := drivePairActive true (setPair .activeAlone s)
    let s := s.onPair fun p => { p with
      takeover := if s.fire.run.isSome then some (s.tb1, cause) else none
      fired := 0, handover := none, joinStep := 0, peerState := .detached }
    let s := k.epochs.foldl (fun s e => if (s.course e.1).up then sendClaim e.1 (e.2 + 1) none false s else s) s
    let s := s.onThm fun t => { t with wantP2 := false }
    match s.fire.run with
    | some r => continueRun r s
    | none => post evPairTakeover unitPair cause 0 (setPower .p1 s)

/-! Heartbeats and pins (R387, R388, R404). -/

/-- FLAGS of a heartbeat. -/
def State.beatFlags (s : State) : Nat := b2n s.pair.yieldOut + 2 * b2n s.thm.hold + 4 * b2n s.synced

/-- HEARTBEAT_SEND (R388): every 10 us on each pair lane in lock. -/
def execHeartbeatSend (dt : Nat) (s : State) : Host.Outcome State Fault Refusal :=
  let s := advance dt s
  .next (if s.pair.enable && s.hif.ready && s.thm.power != .p3 && s.thm.power != .p4 && passed s s.pair.beatSent 10 1000000 then
    let arg := s.pair.beat + 65536 * s.pair.st.code + 16777216 * s.beatFlags
    let s := [20, 21].foldl (fun s n => if (s.lane n).lock && !(s.lane n).retired then sendBlock n { hdr := 2, bytes := linkBlock 0x31 arg } s else s) s
    s.onPair fun p => { p with beat := (p.beat + 1) % 65536, beatSent := s.tb1 }
  else s)

/-- What an active learns from its peer's state: a standby that has gone, or one that has joined, when the floor changes (R410). -/
def learnPeer (st : PairState) (s : State) : State :=
  let was := s.pair.peerState
  let s := s.onPair fun p => { p with peerState := st }
  if s.pair.st != .active then s
  else if st == .detached || st == .off then standAlone s
  else if was == .joining && st == .standby then orderFloor s
  else s

/-- Intervals of 10 us without a heartbeat before the one that has come. -/
def missedBeats (s : State) : Nat :=
  match s.pair.beatSeen with
  | some t => (tUs (s.tb1 - t)).toNat / 10 - 1
  | none => 0

/-- HEARTBEAT_RECEIVE (R388). -/
def execHeartbeatReceive (dt lane beat st flags : Nat) (s : State) : Host.Outcome State Fault Refusal :=
  let s := advance dt s
  onUnit (decide (lane = 20 ∨ lane = 21) && decide (beat < 65536))
    (if !s.pair.enable then s
     else match PairState.ofCode st with
      | none => s
      | some st =>
        let s := bump (ctr 13 0 4) (missedBeats s) s
        learnPeer st (s.onPair fun p => { p with beatSeen := some s.tb1, beatLost := false, downPosted := false, peerFlags := flags }))

/-- EV_PAIR_LINK_DOWN once for a condition. -/
def linkDown (why : Nat) (s : State) : State :=
  if s.pair.downPosted then s else post evPairLinkDown unitPair why 0 (s.onPair fun p => { p with downPosted := true })

/-- HEARTBEAT_LOSS (R388, R404): 52 us without a heartbeat on either lane. -/
def execHeartbeatLoss (dt : Nat) (s : State) : Host.Outcome State Fault Refusal :=
  let s := advance dt s
  .next (match s.pair.beatSeen with
    | some t =>
      if s.pair.beatLost || !passed s t 52 1000000 then s
      else
        let s := s.onPair fun p => { p with beatLost := true }
        if s.pair.st == .standby then (if s.pair.peerAlive then linkDown 1 s else takeover 2 s) else standAlone s
    | none => s)

/-- PEER_ALIVE_FALL (R404): the filtered pin is low. -/
def execPeerAliveFall (dt : Nat) (s : State) : Host.Outcome State Fault Refusal :=
  let s := (advance dt s).onPair fun p => { p with peerAlive := false }
  .next (if s.pair.st != .standby then s else if s.pair.beatLost then takeover 2 s else linkDown 2 s)

/-- PEER_ALIVE_RISE (R387). -/
def execPeerAliveRise (dt : Nat) (s : State) : Host.Outcome State Fault Refusal :=
  .next ((advance dt s).onPair fun p => { p with peerAlive := true })

/-- PAIR_YIELD_N_LOW (R404): the shared line has been low for 1 us. -/
def execPairYieldNLow (dt : Nat) (s : State) : Host.Outcome State Fault Refusal :=
  let s := (advance dt s).onPair fun p => { p with yieldIn := true }
  .next (if s.pair.st == .standby then takeover 1 s else s)

/-- PAIR_YIELD_N_RELEASE (Table 15-1): a device that is standby or detached no longer holds the line, and it returns high. -/
def execPairYieldNRelease (dt : Nat) (s : State) : Host.Outcome State Fault Refusal :=
  let s := advance dt s
  let s := if s.pair.st == .standby || s.pair.st == .detached || s.pair.st == .off then drivePairYield false s else s
  .next (if s.pair.yieldOut then s else s.onPair fun p => { p with yieldIn := false })

/-- YIELD_RECEIVE (R404). -/
def execYieldReceive (dt code : Nat) (s : State) : Host.Outcome State Fault Refusal :=
  let s := heardPair (advance dt s)
  .next (if s.pair.st == .standby && decide (code < 256) then takeover 1 s else s)

/-! Yield criteria that need an eligible standby (Table 15-6). -/

/-- Every lane of the web channel and its backup is retired or stalled. -/
def State.webStill (s : State) : Bool :=
  let dead (n : Nat) : Bool := (s.chan n).retired || (s.chan n).stalled
  s.pos.web.all dead && s.pos.backup.all fun b => dead b.ch

/-- YIELD_CRITERION_TIMER (R403): criteria 4, 5 and 6. What stands of the standby's courses and web channel is told by the row,
the spec naming no packet that carries it (log 37). -/
def execYieldCriterionTimer (dt peerUp : Nat) (peerMoves : Bool) (s : State) : Host.Outcome State Fault Refusal :=
  let s := advance dt s
  if s.pair.st != .active || !bit s.pair.peerFlags 2 then .next s
  else
    let still := s.webStill && peerMoves && s.fire.run.isSome
    let s := s.onPair fun p => { p with webDead := if still then some (p.webDead.getD s.tb1) else none }
    let down := match s.fire.run with
      | some r => (List.range 10).any fun l => bit r.bars l && !(s.course l).up && bit peerUp l && passed s (s.course l).tried 1 1000
      | none => false
    .next (if down then yieldPair 0x04 s
      else if s.pair.webDead.any fun t => passed s t 10 1000 then yieldPair 0x05 s
      else if 8 ≤ (s.pair.pageTimes.filter fun t => within s t 3600 1).length then yieldPair 0x06 s
      else s)

/-! Time (R394). -/

/-- The fastest slew of the pair servo, 50 ppm in the units of ADJ. -/
def pairSlew : Int := 54975581

/-- PTIME_SYNC at a joining device or standby (R394): TB3 is loaded once, then follows the active's rate with a slew that takes
back the offset within one interval of 100 us, at most 50 ppm (log 38). -/
def takePtime (t1 delay : Int) (valid : Bool) (syncId : Nat) (adj : Int) (s : State) : State :=
  let now := s.tb3
  let theirs := t1 + delay
  let s := if !valid then s
    else if !s.pair.tb3Loaded then
      let s := s.onTim fun t => { t with tb := upd 3 (fun x => { x with sec := theirs.fdiv (2 ^ 32), frac := (theirs.fmod (2 ^ 32)).toNat * 2 ^ 32 }) t.tb, pairServo := true }
      let s := setAdj 3 adj s
      s.onPair fun p => { p with tb3Loaded := true, tb3Offset := 0, joinStep := max 2 p.joinStep }
    else
      let off := now - theirs
      let slew := clampI (-(off * 10000 * 2 ^ 8)) (-pairSlew) pairSlew
      let s := setAdj 3 (adj + slew) s
      s.onPair fun p => { p with tb3Offset := off }
  pairSend .ctrl 0x43 (toLe 2 syncId ++ toLe 2 0 ++ toLe 4 0 ++ toLeS 4 s.pair.tb3Offset) s

/-- PTIME_SYNC. -/
def execPtimeSync (dt : Nat) (t1 delay : Int) (valid : Bool) (syncId : Nat) (adj : Int) (s : State) : Host.Outcome State Fault Refusal :=
  let s := heardPair (advance dt s)
  .next (if s.copies then takePtime t1 delay valid syncId adj s else s)

/-- PTIME_ECHO at the active (R303, R394): the pair link's delay. -/
def execPtimeEcho (dt syncId turn : Nat) (offset : Int) (s : State) : Host.Outcome State Fault Refusal :=
  let s := heardPair (advance dt s)
  let c := s.course 10
  .next (match c.t1 with
    | some (t1, id) =>
      if id ≠ syncId || !s.pair.st.leads then s
      else
        let (hist, mean, _) := timeExchange ((s.tb3 - t1) - turn) c.rtts
        (s.onCourse 10 fun c => { c with t1 := none, rtts := hist, delay := sar (mean + 1) 1, delayValid := decide (2 ≤ hist.length) }).onPair
          fun p => { p with tb3Offset := offset }
    | none => s)

/-! Planned handover (R408, Table 15-8). -/

/-- Checks of PAIR_HANDOVER. -/
def pairHandoverCheck (q : Cmd) (s : State) : Option Reply :=
  firstFail (shape q 8 [] ++
    [ (s.holding .device, Reply.err .busy),
      (s.pair.st != .active || s.pair.handover.isSome || !bit s.pair.peerFlags 2 || s.bars.catchUp.isSome, Reply.err .state 0x01F2) ])

/-- PAIR_HANDOVER: exclusive device-wide, abortable until GO. -/
def pairHandoverEffect (q : Cmd) (s : State) : Ans :=
  let s := hold q [.device] true s
  .wait (pairSend .ctrl 0x46 [] (s.onPair fun p => { p with handover := some { cmd := some q.id, since := s.tb1, stepSince := s.tb1, step := 1 } }))

/-- PAIR_HANDOVER (R408). -/
def execPairHandover (q : Cmd) (s : State) : Host.Outcome State Fault Refusal := runCmd 0x0E03 pairHandoverCheck pairHandoverEffect q s

/-- The standby returns to P2 with its ring released. -/
def backToP2 (s : State) : State :=
  setPower .p2 (checkLow ((s.onStore fun t => { t with ring := 0 }).onCps fun c => { c with ring := [], span := none, band := none }))

/-- HANDOVER_REQ (R408): the standby enters P0 and composes from the lines that fall due next. -/
def execHandoverReq (dt : Nat) (s : State) : Host.Outcome State Fault Refusal :=
  let s := heardPair (advance dt s)
  .next (if !s.synced then s
  else
    let s := setPower .p0 (s.onPair fun p => { p with handover := some { since := s.tb1, stepSince := s.tb1, step := 2 } })
    match s.fire.run with
    | none => s
    | some r =>
      let first := r.clOf (((r.heads.map (·.nextDue)).min?).getD 0)
      checkLow ((s.onStore fun t => { t with ring := r.ringPages }).onCps fun c => { c with
        span := some (s.spanOf r.bars), cutFor := 5, ring := [], nextCl := first, oldest := first, band := none, waited := none }))

/-- The standby's ring holds the margin of R206: every contone line that is asked for has been composed. -/
def State.marginHolds (s : State) : Bool :=
  match s.fire.run with
  | some r => !s.asked r s.cps.nextCl
  | none => true

/-- The standby sends READY once the margin holds. -/
def settleReady (s : State) : State :=
  match s.pair.handover with
  | some h =>
    if h.step = 2 && s.marginHolds then
      pairSend .ctrl 0x47 [] (s.onPair fun p => { p with handover := some { h with step := 3, stepSince := s.tb1 } })
    else s
  | none => s

/-- HANDOVER_READY (R408): the active fixes H, the highest line due on any head plus 16, and sends GO. -/
def execHandoverReady (dt : Nat) (s : State) : Host.Outcome State Fault Refusal :=
  let s := heardPair (advance dt s)
  .next (match s.pair.handover with
    | some h =>
      if s.pair.st != .active || h.step ≠ 1 then s
      else
        let line := match s.fire.run with
          | some r => (r.highestDue.map (· + 16)).getD 16
          | none => 0
        let s := s.onRun fun r => { r with handover := some line }
        let s := match h.cmd with
          | some id => setAbortable id false s
          | none => s
        pairSend .ctrl 0x48 (toLe 8 line) (s.onPair fun p => { p with handover := some { h with step := 3, stepSince := s.tb1, h := some line } })
    | none => s)

/-- Every head of the run starts at a line. -/
def Run.startAt (n : Nat) (r : Run) : Run :=
  { r with handover := none, heads := r.heads.map fun h =>
      { h with nextDue := n, due := [], rows := h.rows.map fun w => { w with next := n, ahead := [], again := [] } } }

/-- HANDOVER_GO (R408): the standby claims every course with PLANNED and HANDOVER_LINE H, and is active. -/
def execHandoverGo (dt h : Nat) (s : State) : Host.Outcome State Fault Refusal :=
  let s := heardPair (advance dt s)
  .next (match s.pair.handover, s.pair.ckpt with
    | some w, some k =>
      if s.pair.st != .standby || w.step ≠ 3 then s
      else
        let s := s.onPair fun p => { p with handover := some { w with step := 4, stepSince := s.tb1, h := some h }, joinStep := 0 }
        let s := drivePairActive true (setPair .active s)
        let s := s.onThm fun t => { t with wantP2 := false }
        let s := k.epochs.foldl (fun s e => if (s.course e.1).up then sendClaim e.1 (e.2 + 1) (some h) false s else s) s
        s.onRun (Run.startAt h)
    | _, _ => s)

/-- The old active has passed its last stamp below H: DONE, and it is standby in P2 (R408). -/
def handoverEnds (h : Handover) (s : State) : State :=
  let line := h.h.getD 0
  let us := u32 (tUs (s.tb1 - h.since)).toNat
  let s := drivePairActive false (pairSend .ctrl 0x49 [] s)
  let s := runEnd 5 s
  let s := s.onLinks fun l => { l with courses := l.courses.mapIdx fun i c => if i < 10 then { c with owned := false, claim := none } else c }
  let s := setPair .standby (releaseWaits (s.onPair fun p => { p with handover := none, peerState := .active, ckpt := none, tb3Loaded := true, tb3Offset := 0 }))
  let s := post evPairHandover unitPair (line % 2 ^ 32) us (setPower .p2 s)
  match h.cmd with
  | some id => finish id (.good (toLe 8 line ++ toLe 4 us)) s
  | none => s

/-- HANDOVER_DONE (R408): at the old active, once every line below H is stamped and past; at the new one, when DONE arrives,
which claims without PLANNED the courses whose bridges could not do it. -/
def execHandoverDone (dt : Nat) (s : State) : Host.Outcome State Fault Refusal :=
  let s := advance dt s
  .next (match s.pair.handover with
    | none => s
    | some h =>
      if s.pair.st != .active then s
      else if h.step = 3 then
        let done := match s.fire.run with
          | some r => r.heads.all (s.headDone r)
          | none => true
        if done then handoverEnds h s else s
      else if h.step = 4 then claimAll ((heardPair s).onPair fun p => { p with handover := none, peerState := .standby })
      else s)

/-- HANDOVER_TIMEOUT (R408): a step before GO has taken more than 5 s. -/
def execHandoverTimeout (dt : Nat) (s : State) : Host.Outcome State Fault Refusal :=
  let s := advance dt s
  .next (match s.pair.handover with
    | none => s
    | some h =>
      if !passed s h.stepSince 5 1 then s
      else if s.pair.st == .active && h.step = 1 then endHandover (.err .timeout 0x01F3) s
      else if s.pair.st == .standby && (h.step = 2 || h.step = 3) then backToP2 (s.onPair fun p => { p with handover := none })
      else s)

/-! Standby health (R400, R402). -/

/-- Units that a standby tests in turn: compose pipes, engines, decoders, the CAM pipeline. -/
def testUnits : List Nat :=
  (List.range 5).map (0x0600 + ·) ++ (List.range 11).map (0x0800 + ·) ++ (List.range 5).map (0x0500 + ·) ++ [0x0F10]

/-- STANDBY_SELF_TEST (R400): every 100 ms in P2 one unit; a retired one is passed over. -/
def execStandbySelfTest (dt : Nat) (pass : Bool) (s : State) : Host.Outcome State Fault Refusal :=
  let s := advance dt s
  .next (if s.pair.st != .standby || s.thm.power != .p2 || !passed s s.pair.testAt 100 1000 then s
  else
    let u := testUnits.getD s.pair.testTurn 0x0600
    let skip := s.isRetired u || s.isDoomed u
    let ok := pass && !skip
    let s := s.onPair fun p =>
      let n := p.testCycle + b2n ok
      let last := decide (testUnits.length ≤ p.testTurn + 1)
      { p with testAt := s.tb1, testTurn := if last then 0 else p.testTurn + 1, testCycle := if last then 0 else n, testPassed := if last then n else p.testPassed }
    if pass || skip then s else testFailed u s)

/-- The speed of the evaluation, mm/min (R402). -/
def State.evalSpeed (s : State) : Nat :=
  if s.pair.refSpeed ≠ 0 then s.pair.refSpeed else match s.fire.run with
    | some r => r.maxSpeed
    | none => 100000

/-- The bars of the evaluation. -/
def State.evalBars (s : State) : List Nat :=
  match s.fire.run with
  | some r => s.runBars r
  | none => (List.range 10).filter fun b => (s.bar b).enabled

/-- V_HOLD by bisection: the greatest n from lo to hi at which the evaluation holds, lo where none does. -/
def vHold (holds : Nat → Bool) : Nat → Nat → Nat → Nat
  | 0, lo, _ => lo
  | f + 1, lo, hi =>
    let mid := (lo + hi + 1) / 2
    if hi ≤ lo then lo else if holds mid then vHold holds f mid hi else vHold holds f lo (mid - 1)

/-- 1 ms of travel in frets at a speed in mm/min. -/
def msTravel (speed : Nat) : Int := ((speed * 32 / 381 : Nat) : Int)

/-- BLANK of a bar (R402): 0 where every front is served. -/
def State.blankOf (s : State) (bars : List Nat) (ev : CatchUp) (speed b : Nat) : Nat :=
  if !ev.blank.any fun x => x.1 == b then 0
  else
    let (u0, u1) := s.spanOf ((bars.map (2 ^ ·)).sum)
    let near := (((bars.flatMap fun b => ((s.bar b).frontsIn u0 u1).map (·.dNear))).min?).getD 0
    let far := ((((s.bar b).frontsIn u0 u1).map (·.dFar)).max?).getD 0
    (far - near + msTravel speed).toNat

/-- The standby's report (R402). -/
def makeHealth (s : State) : Health :=
  let bars := s.evalBars
  let speed := s.evalSpeed
  let ev := s.catchUp bars speed
  let synced := s.synced
  { flags := b2n synced + 2 * b2n synced + 4 * b2n ev.holds + 8 * b2n (decide (1 ≤ s.thm.level)) + 16 * b2n s.thm.hold
    vHold := vHold (fun n => (s.catchUp bars (100 * n)).holds) 16 0 3200
    evalSpeed := speed, unmirrored := s.unmirrored.length
    blank := (List.range 10).map (s.blankOf bars ev speed)
    cEff := ev.cEff / 1000000, passed := s.pair.testPassed, retired := s.stat.retired.map (·.unit), time := s.tb1 }

/-- The structure of PAIR_HEALTH (Table 15-11). -/
def Health.block (h : Health) : List Byte :=
  (List.range 10).flatMap (fun b => toLe 8 (h.blank.getD b 0)) ++ toLe 4 h.cEff ++ toLe 2 h.retired.length ++ toLe 2 h.passed ++ toLe 8 0
    ++ h.retired.flatMap (toLe 2)

/-- Its inline result. -/
def Health.result (h : Health) (now : Int) : List Byte :=
  toLe 1 h.flags ++ toLe 1 0 ++ toLe 2 h.vHold ++ toLe 4 h.evalSpeed ++ toLe 4 (u32 (tUs (now - h.time)).toNat) ++ toLe 4 h.unmirrored

/-- A report is kept; EV_PAIR_HEALTH whenever the guarantee starts or stops holding. -/
def keepHealth (h : Health) (s : State) : State :=
  let holds := bit h.flags 2
  let was := s.pair.holds
  let s := s.onPair fun p => { p with health := some h, holds }
  if was == holds then s else post evPairHealth unitPair (b2n holds) h.vHold s

/-- PAIR_HEALTH_EVALUATE (R402): every 10 ms; READY of a handover is looked for at the same moments. -/
def execPairHealthEvaluate (dt : Nat) (s : State) : Host.Outcome State Fault Refusal :=
  let s := advance dt s
  .next (if s.pair.st != .standby || !passed s s.pair.healthAt 10 1000 then s
  else
    let h := makeHealth s
    let s := keepHealth h (s.onPair fun p => { p with healthAt := s.tb1 })
    settleReady (pairSend .ctrl 0x44 (h.result s.tb1 ++ h.block) s))

/-- HEALTH_RECEIVE (R402). -/
def execHealthReceive (dt : Nat) (health : Health) (s : State) : Host.Outcome State Fault Refusal :=
  let s := heardPair (advance dt s)
  .next (if s.pair.st.leads then keepHealth { health with time := s.tb1 } s else s)

end Sys2Proof.Machine
end

