-- ==== Sys2Proof/Machine/PairJoin.lean ====
section
/-!
DEFINITION. Joining a pair, checkpoints, FRAME packets, mirrored jobs, acknowledgements, and the PAIR commands
(spec/15_redundancy_and_upgrade.md, R390 to R399, R409 to R414).
-/
namespace Sys2Proof.Machine

/-! PAIR_HELLO (R392, R393). -/

/-- A device that cannot lead: it has been active since it last joined (R393). -/
def State.leadsPair (s : State) (p : Peer) : Bool :=
  if s.pair.wasActive != p.wasActive then p.wasActive
  else if s.pair.prefer != p.prefer then s.pair.prefer
  else decide (Config.uid < p.uid)

/-- What the two devices are to each other: this one leads, where one can. A device that is DETACHED takes no part. -/
def State.mineToLead (s : State) (p : Peer) : Bool :=
  if s.pair.st.leads then true else if p.st.leads then false else if p.st == .detached then !s.pair.wasActive else s.leadsPair p

/-- Why a join is refused (Table 15-4), the first that holds; this device leads or joins. -/
def refusal (p : Peer) (authentic lead : Bool) (s : State) : Option Nat :=
  let role (b : Bool × Bool) (isLead : Bool) : Bool := if isLead then b.1 else b.2
  let mine := s.cell
  let fmt (a b : Nat) : Nat := max a b - min a b
  if s.pair.peerUid ≠ 0 && s.pair.peerUid ≠ p.uid then some 1
  else if (s.sec.keys.getD 8 none).isNone || !authentic then some 2
  else if !role mine lead || !role (bit p.allows 0, bit p.allows 1) (!lead) then some 3
  else if 1 < fmt s.sec.running.ckptFormat p.ckptFormat then some 4
  else if lead && decide (p.feat < s.hif.floor) then some 5
  else if s.pair.st.leads && p.st.leads then some 6
  else none

/-- Take the role of the active: with a peer that joins, or alone. -/
def leadPair (joined : Bool) (s : State) : State :=
  let first := !s.pair.st.leads
  let s := drivePairActive true (setPair (if joined then .active else .activeAlone) s)
  let s := if first then claimAll s else s
  if joined then s.onPair fun x => { x with peerState := .joining } else s

/-- BASELINE packets (R394): every mirrored item in its parts, and the CRC-32C in an authenticated packet; what stands in a part
is told by BaselinePart at the receiver (log 12). -/
def sendBaseline (s : State) : State :=
  let s := (List.range 6).foldl (fun s i => sendOn 10 .data 0 (toLe 1 0x10 ++ toLe 1 i) s) s
  let s := sendRecord none 0xFF 0 0 (toLe 1 7 ++ toLe 4 s.pair.recordSeq) s
  s.namedJobs.foldl (fun s id => mirrorJob id s) (s.pair.mirrorQueue.foldl (fun s id => mirrorJob id s) s)

/-- Join as standby: no run of its own, no course owned, the join from its first step. -/
def joinPair (s : State) : State :=
  let s := drivePairActive false (stopFiring 0x05 4 s)
  let s := s.onLinks fun l => { l with courses := l.courses.mapIdx fun i c => if i < 10 then { c with owned := false, claim := none } else c }
  restartJoin (s.onPair fun p => { p with early := [] })

/-- The HELLO exchange is judged. The device that would lead stays alone when the other is refused, and is refused itself where its
cell does not allow the active role (04 R100). -/
def judgeHello (p : Peer) (authentic : Bool) (s : State) : State :=
  let s := s.onPair fun x => { x with peer := some p, peerState := p.st, judged := true }
  if s.pair.st == .detached then s
  else
    let lead := s.mineToLead p
    match refusal p authentic lead s with
    | some why =>
      let s := if why = 2 then post evPairAuth unitPair 2 (s.pair.rxCounter % 2 ^ 32) s else s
      let s := post evPairRefused unitPair why p.feat s
      let out := if why = 6 then decide (Config.uid < p.uid) else !lead || !s.cell.1
      if out then
        (if s.pair.st.leads then setPair .detached (drivePairActive false (stopFiring 0x05 4 s)) else setPair .detached s)
      else leadPair false s
    | none =>
      if lead then (if p.st == .detached then leadPair false s else sendBaseline (leadPair true s)) else joinPair s

/-- PAIR_HELLO (R390, R392): a new exchange is answered with this device's own. -/
def execPairHello (dt : Nat) (peer : Peer) (authentic : Bool) (s : State) : Host.Outcome State Fault Refusal :=
  let s := heardPair (advance dt s)
  .next (if s.pair.st == .off || !(s.course 10).up then s
    else judgeHello peer authentic (if s.pair.judged then sendPairHello s else s))

/-! The end of a join (R394, R401, R410). -/

/-- Courses that this device has enabled are ready. -/
def State.coursesReady (s : State) : Bool := (List.range 10).all fun l => !(s.course l).cfg.enable || s.courseReady l

/-- Enter STANDBY once every step of R394 has been done. -/
def checkJoin (s : State) : State :=
  if s.pair.st == .joining && decide (3 ≤ s.pair.joinStep) && s.tb3Held && s.unmirrored.isEmpty && s.coursesReady && s.pair.ckpt.isSome
      && s.pair.early.isEmpty then
    let s := setPair .standby (s.onPair fun p => { p with joinStep := 0 })
    orderFloor (if s.thm.power == .p0 || s.thm.power == .p1 then setPower .p2 s else s)
  else s

/-! Checkpoints (R398). -/

/-- A section of a checkpoint: TAG, LEN, content. -/
def ckptSection (tag : Nat) (b : List Byte) : List Byte := toLe 2 tag ++ toLe 2 b.length ++ b

/-- The sections (Table 15-5); what stands in each is the table's, its layout the model's (log 12). -/
def ckptSections (s : State) : List Byte :=
  let run := match s.fire.run with
    | some r =>
      toLe 1 (b2n r.reverse) ++ toLe 1 r.pitch ++ toLe 4 r.frameLines ++ toLe 4 r.frame ++ toLeS 8 (s.frameOf r r.nextTick).capo
        ++ toLe 1 s.fire.capos.length ++ s.fire.capos.flatMap (fun c => toLe 4 c.1 ++ toLeS 8 c.2) ++ toLeS 12 (r.sgn * r.progress) ++ toLe 1 s.fire.lead
        ++ (List.range 10).flatMap (fun b => toLeS 2 (s.alignOf r b)) ++ toLeS 12 r.progress ++ toLe 8 r.nextTick
    | none => []
  let pos := match s.webChan with
    | some c =>
      toLe 1 (s.pos.web.getD 0xFF) ++ encQ (c.posQ.getD 0) ++ encT ((c.pairs.head?.map (·.time)).getD 0) ++ toLeS 8 c.speed ++ toLe 8 (c.scale.getD 0)
        ++ toLe 1 ((s.pos.backup.map (·.ch)).getD 0xFF) ++ toLeS 12 ((s.pos.backup.bind (·.off)).getD 0)
    | none => toLe 1 0xFF
  let bar (b : Nat) : List Byte :=
    toLe 1 (b2n (s.bar b).enabled) ++ toLe 8 (s.bar b).firstLine ++ toLe 8 (s.barNext b) ++ toLe 1 (s.bar b).engine ++ toLe 4 (s.bar b).act.gen
      ++ toLeS 8 (((s.clr.bars.getD b {}).startW).getD 0)
  let course (l : Nat) : List Byte := toLe 4 (s.course l).epoch ++ toLe 1 (s.course l).run.version ++ toLe 1 (lanesUp l s)
  let halted := ((indexed s.bars.ctxs).filterMap fun c => c.2.halted.map fun n => (c.1, n))
  ckptSection 1 run ++ ckptSection 2 pos
    ++ ckptSection 3 (s.cps.frames.flatMap fun f => toLe 4 f.number ++ toLeS 8 f.capo)
    ++ ckptSection 4 ((List.range 10).flatMap bar) ++ ckptSection 5 ((List.range 10).flatMap course)
    ++ ckptSection 6 (toLe 1 (match s.clr.st with
        | .stopped => 0
        | .running => 1
        | .frozen => 2) ++ (List.range 10).flatMap fun b => toLeS 8 (((s.clr.bars.getD b {}).wStart).getD 0))
    ++ ckptSection 7 (s.cps.fences.flatMap (toLe 4)) ++ ckptSection 8 (halted.flatMap fun h => toLe 2 h.1 ++ toLe 8 h.2)

/-- The format both images read (R410). -/
def State.ckptFormat (s : State) : Nat :=
  match s.pair.peer with
  | some p => min s.sec.running.ckptFormat p.ckptFormat
  | none => s.sec.running.ckptFormat

/-- Send a checkpoint in up to four segments. -/
def sendCheckpoint (s : State) : State :=
  let parts := pieces 16000 (ckptSections s)
  let t := s.tb3
  let head (i : Nat) : List Byte :=
    toLe 4 s.pair.ckptSeq ++ toLe 2 s.ckptFormat ++ toLe 1 i ++ toLe 1 (min 4 parts.length) ++ encT t ++ toLe 4 (s.pair.recordSeq + 2 ^ 32 - 1) ++ toLe 4 s.runId ++ toLe 4 0
  let s := (indexed (parts.take 4)).foldl (fun s x => pairSend .prio 0x01 (head x.1 ++ x.2) s) s
  s.onPair fun p => { p with ckptSeq := (p.ckptSeq + 1) % 2 ^ 32, ckptSent := t }

/-- CHECKPOINT_SEND (R398): at every 1 ms of TB3. -/
def execCheckpointSend (dt : Nat) (s : State) : Host.Outcome State Fault Refusal :=
  let s := advance dt s
  let ms (t : Int) : Int := (t * 1000).fdiv (2 ^ 32)
  .next (if !s.mirrors || ms s.tb3 ≤ ms s.pair.ckptSent then s
  else
    let late := decide (1 ≤ (s.tb3 * 10000).fdiv (2 ^ 32) - 10 * ms s.tb3)
    sendCheckpoint (if late then bump (ctr 13 0 3) 1 s else s))

/-- The standby's web channel is moved to where the active's stood at TIME (R398). -/
def alignWeb (k : Checkpoint) (s : State) : State :=
  match k.web with
  | none => s
  | some w =>
    let c := s.chan w
    let dt := k.time - k.posTime
    let theirs := if k.speedValid && decide (0 ≤ dt) && decide (dt * 1000 ≤ 2 ^ 32) then k.pos + sar (k.speed * dt) 32 else k.pos
    match c.estimate k.time with
    | none => s
    | some (mine, _) =>
      let d := theirs - mine
      let s := s.onPos fun p => { p with ch := upd w (fun c => { c with q0 := c.q0 + d, pairs := c.pairs.map fun x => { x with pos := x.pos + d } }) p.ch }
      let again := match s.pair.posPosted with
        | some t => passed s t 60 1
        | none => true
      if (16 : Nat) * 2 ^ 32 < d.natAbs && again then
        post evPairPosition unitPair (u32 (d.natAbs / 2 ^ 32)) 0 (s.onPair fun p => { p with posPosted := some s.tb1 })
      else s

/-- The run, the bars and the frames of a checkpoint are taken over. -/
def adoptRun (k : Checkpoint) (s : State) : State :=
  match k.run with
  | none => if s.fire.run.isSome then runEnd (((s.fire.run.bind (·.stop)).map (·.reason)).getD 2) s else s
  | some r =>
    let r := { r with heads := [], stop := r.stop.map fun st => { st with cmds := [] } }
    let s := s.onFire fun f => { f with run := some r, lead := k.lead, capos := k.capos, nextRun := max f.nextRun (r.id + 1) }
    let s := (indexed k.bars).foldl (fun s x =>
      let b := x.2
      let s := s.onBar x.1 fun y => { y with enabled := b.enabled, firstLine := b.firstLine, act := { y.act with gen := b.gen } }
      let s := s.onClr fun c => { c with bars := upd x.1 (fun l => { l with startW := b.startW }) c.bars }
      if b.enabled then joinRun x.1 b.nextDue s else s) s
    s.onCps fun c => { c with frames := c.frames.filter fun f => decide ((k.frames.map (·.1)).min?.getD 0 ≤ f.number) }

/-- What a checkpoint says beside the run. -/
def adoptRest (k : Checkpoint) (s : State) : State :=
  let scaled (cs : List Channel) : List Channel := match k.web with
    | some w => upd w (fun c => { c with scale := k.scale.orElse fun _ => c.scale }) cs
    | none => cs
  let s := s.onPos fun p => { p with
    web := k.web
    backup := k.backup
    ch := scaled p.ch }
  let start (i : Nat) (b : LoopBar) : LoopBar := { b with wStart := k.wStart.getD i none }
  let s := s.onClr fun c => { c with st := k.loop, bars := c.bars.mapIdx start }
  let s := s.onCps fun c => { c with fences := k.fences }
  let halt (i : Nat) (c : HeadCtx) : HeadCtx := { c with halted := getKey i k.halted }
  s.onBars fun b => { b with ctxs := b.ctxs.mapIdx halt }

/-- A checkpoint is kept for a takeover. -/
def keepCkpt (k : Checkpoint) (s : State) : State :=
  let owned := (indexed k.courses).filter fun c => c.2.owned
  let kept : Ckpt :=
    { seq := k.seq, time := k.time, recordSeq := k.recordSeq, runId := k.runId, arrived := s.tb1
      epochs := owned.map fun c => (c.1, c.2.epoch)
      up := ((indexed k.courses).map fun c => if c.2.lanes = 0 then 0 else 2 ^ c.1).sum
      moving := k.speedValid && k.speed != 0 }
  s.onPair fun p => { p with ckpt := some kept }

/-- CHECKPOINT_RECEIVE (R398). During a planned handover the run that the standby composes is its own already. -/
def execCheckpointReceive (dt : Nat) (ckpt : Checkpoint) (s : State) : Host.Outcome State Fault Refusal :=
  let s := heardPair (advance dt s)
  .next (if !s.copies || s.pair.joinStep == 1 || s.pair.joinStep == 2 then s
  else
    let s := keepCkpt ckpt (alignWeb ckpt (adoptRest ckpt s))
    rejoined (checkJoin (if s.pair.handover.isSome then s else adoptRun ckpt s)))

/-! FRAME packets (R397). -/

/-- A readiness point as the active decided it: flips it applied are applied, the frame joins those held. -/
def noteFrame (n : FrameNote) (s : State) : State :=
  match s.fire.run with
  | none => s
  | some r =>
    let fr : FrameStart := { frame := n.frame, line := n.frame * r.frameLines, capo := n.capo }
    let s := s.onFire fun x => { x with capos := x.capos.filter fun c => c.1 != n.frame }
    let s := s.onRun fun r => { r with starts := if r.starts.any (·.frame == n.frame) then r.starts else fr :: r.starts }
    let s := applyPendings s
    let s := if n.stopped then s else pushLadder fr r.contoneLines s
    let at_ (i : Nat) : FrameNoteLayer := n.layers.getD i {}
    let s := (List.range 7).foldl (fun s i => match (s.layer i).flips with
      | f :: _ => if (at_ i).flipped then concludeFlip n.frame i (.applied f) s else s
      | [] => s) s
    let layers := (List.range 8).map fun i => { cfg := (s.layer i).act, listed := (at_ i).active, transparent := (at_ i).transparent : FrameLayer }
    let f : Frame := { number := n.frame, layers, order := s.cps.order, limit := s.cps.limit, curves := s.cps.curves, stopped := n.stopped
                       capo := n.capo, firstCl := n.firstCl, lines := r.contoneLines, strip := s.clr.strip }
    s.onCps fun c => { c with
      nextFrame := n.frame + 1
      frames := f :: c.frames.filter fun g => decide (c.oldest < g.firstCl + g.lines)
      layers := (indexed c.layers).map fun x => { x.2 with hadContent := x.2.hadContent || (!n.stopped && (at_ x.1).active && !(at_ x.1).transparent) } }

/-- Apply a FRAME packet and acknowledge it. -/
def takeFrame (n : FrameNote) (s : State) : State :=
  pairSend .ctrl 0x4A (toLe 4 n.recordSeq ++ toLe 1 0) ((noteFrame n s).onPair fun p => { p with lastRecord := n.recordSeq })

/-- FRAME_PACKET_RECEIVE (R397): before the baseline is complete it waits. -/
def execFramePacketReceive (dt : Nat) (note : FrameNote) (s : State) : Host.Outcome State Fault Refusal :=
  let s := heardPair (advance dt s)
  .next (if !s.copies then s
    else if s.pair.st == .joining && decide (s.pair.joinStep < 3) then s.onPair fun p => { p with early := p.early ++ [.frame note] }
    else takeFrame note s)

/-! Acknowledgements (R396, R394). -/

/-- RECORD_ACK: the command that waits completes with its own status; a frame no longer waits. -/
def takeRecordAck (seq : Nat) (s : State) : State :=
  match s.pair.waits.find? (·.seq == seq) with
  | none => s
  | some w =>
    let s := bumpMax (ctr 13 0 2) (tUs (s.tb1 - w.since)) s
    let e := w.cmd.bind s.flying
    let s := s.onPair fun p => { p with
      waits := p.waits.filter (·.seq != seq), lastRecord := seq
      lastRing := (w.cmd.map (·.1)).getD 0xFF
      lastTag := (w.cmd.map (·.2)).getD 0
      lastSeq := (e.map (·.cmd.seq)).getD 0 }
    match w.cmd, e.bind (·.reply) with
    | some id, some r => deliver id r s
    | _, _ => s

/-- RECORD_ACK. A status other than the active's is the standby's to post (R396). -/
def execRecordAck (dt seq : Nat) (_status : Status) (s : State) : Host.Outcome State Fault Refusal :=
  .next (takeRecordAck seq (heardPair (advance dt s)))

/-- RECORD_ACK_TIMEOUT (R394): after 1 ms nothing waits any longer, and a new HELLO makes the standby join again. -/
def execRecordAckTimeout (dt : Nat) (s : State) : Host.Outcome State Fault Refusal :=
  let s := advance dt s
  .next (match s.pair.waits with
    | w :: _ => if passed s w.since 1 1000 then sendPairHello (releaseWaits s) else s
    | [] => s)

/-! Mirrored jobs (R399). -/

/-- A key under which no command is ever in flight. -/
def nobody : CmdId := (ringRecord, 65536)

/-- A mirrored container is complete: the checks of JOB_LOAD, and the job is stored. -/
def storeMirror (id crc : Nat) (bytes : List Byte) (s : State) : Except Status State :=
  if crc32c bytes ≠ crc then .error .badParam
  else if (containerFault bytes false).isSome then .error .verifyFail
  else match s.job id with
    | some j => if j.usable && j.bytes == bytes then .ok (s.onJob id fun j => { j with mirrored := true }) else .error .badParam
    | none =>
      if 1024 ≤ s.store.jobs.length then .error .limit
      else if s.store.freePages < pagesOf bytes.length then .error .noSpace
      else
        let s := readyJob id nobody bytes (addJob { id, load := some { cmd := nobody } } s)
        .ok (s.onJob id fun j => { j with mirrored := true })

/-- MIRROR_RECEIVE (R399). -/
def execMirrorReceive (dt job : Nat) (bytes : List Byte) (last : Option Nat) (s : State) : Host.Outcome State Fault Refusal :=
  let s := advance dt s
  .next (if !s.copies then s
  else
    let had := match s.pair.mirror with
      | some (id, b) => if id = job then b else []
      | none => []
    let all := had ++ bytes
    match last with
    | none => s.onPair fun p => { p with mirror := some (job, all) }
    | some crc =>
      let s := s.onPair fun p => { p with mirror := none }
      match storeMirror job crc all s with
      | .ok s => checkJoin s
      | .error st => post evPairMirror unitPair job st.code s)

/-! PAIR_CONFIG (R412, R414). -/

/-- Checks of PAIR_CONFIG. -/
def pairConfigCheck (q : Cmd) (s : State) : Option Reply :=
  firstFail (shape q 24 [(0, 2), (4, 12)] ++
    [ (extraBits (q.u8 0) 7, Reply.bad 0), (decide (1 < q.u8 1), Reply.bad 1),
      (s.pair.st != .off && s.pair.st != .detached, Reply.err .state 0x01F0) ])

/-- The pair link is configured and trained. -/
def trainPair (s : State) : State := startTrain 10 none false s

/-- PAIR_CONFIG: enabling from OFF trains the link; at boot a device without AUTO_JOIN stays detached (R409); disabling takes the
link down and lets the floor change (R410). -/
def pairConfigEffect (q : Cmd) (s : State) : Ans :=
  let enable := bit (q.u8 0) 0
  let s := s.onPair fun p => { p with
    enable, prefer := bit (q.u8 0) 1, autoJoin := bit (q.u8 0) 2, refSpeed := q.u32 4, peerUid := q.u64 8 }
  let s := s.onCourse 10 fun c => { c with cfg := { c.cfg with enable, rate := q.u8 1, lanes := 3, version := 2 } }
  if enable then
    (if s.pair.st != .off then .done .good s
     else
       let s := trainPair s
       if q.ring = ringReplay && s.board.booting.isSome && !bit (q.u8 0) 2 then .done .good (setPair .detached s) else .done .good (setPair .linking s))
  else
    let s := s.onCourse 10 fun c => { c with up := false, wanted := false, train := none }
    let s := setPair .off (s.onPair fun p => { p with peer := none, peerState := .off, beatSeen := none, beatLost := false })
    .done .good (orderFloor (drivePairYield false s))

/-- PAIR_CONFIG (R412). -/
def execPairConfig (q : Cmd) (s : State) : Host.Outcome State Fault Refusal := runCmd 0x0E01 pairConfigCheck pairConfigEffect q s

/-! PAIR_HEALTH, PAIR_STATUS (Table 15-11). -/

/-- Checks of PAIR_HEALTH and PAIR_STATUS. -/
def pairReadCheck (q : Cmd) (_s : State) : Option Reply := firstFail (shape q 16 [(8, 8)] ++ [(addrBad q 8, Reply.bad 8)])

/-- PAIR_HEALTH (R402): zeros before any report. -/
def pairHealthEffect (q : Cmd) (s : State) : Ans :=
  let h := s.pair.health.getD { time := s.tb1 }
  .done (.withExt (h.result s.tb1) (q.u64 8) h.block) s

/-- PAIR_HEALTH (R402). -/
def execPairHealth (q : Cmd) (s : State) : Host.Outcome State Fault Refusal := runCmd 0x0E02 pairReadCheck pairHealthEffect q s

/-- The structure of PAIR_STATUS. -/
def pairStatusBlock (s : State) : List Byte :=
  let p := s.pair.peer.getD {}
  let age := match s.pair.ckpt with
    | some k => u32 (tUs (s.tb1 - k.arrived)).toNat
    | none => 0xFFFFFFFF
  toLe 8 p.uid ++ toLe 4 p.fw ++ toLe 2 p.feat ++ toLe 1 s.pair.lastRing ++ toLe 1 0 ++ toLe 2 s.pair.lastTag ++ toLe 2 0 ++ toLe 4 s.pair.lastSeq
    ++ toLe 4 age ++ toLeS 4 s.pair.tb3Offset

/-- PAIR_STATUS (R412). -/
def pairStatusEffect (q : Cmd) (s : State) : Ans :=
  .done (.withExt (toLe 1 s.pair.st.code ++ toLe 1 s.pair.peerState.code ++ toLe 2 s.hif.floor ++ toLe 2 s.ckptFormat ++ toLe 2 0 ++ toLe 4 s.pair.lastRecord)
    (q.u64 8) (pairStatusBlock s)) s

/-- PAIR_STATUS (R412). -/
def execPairStatus (q : Cmd) (s : State) : Host.Outcome State Fault Refusal := runCmd 0x0E05 pairReadCheck pairStatusEffect q s

/-! PAIR_MIRROR (R399). -/

/-- Checks of PAIR_MIRROR. -/
def pairMirrorCheck (q : Cmd) (s : State) : Option Reply :=
  firstFail (shape q 16 [(0, 8)] ++
    [ (decide (2 < q.u8 0), Reply.bad 0), (extraBits (q.u8 1) 1, Reply.bad 1),
      (q.u16 2 != 0 && (decide (q.u16 2 < 100) || decide (5500 < q.u16 2)), Reply.bad 2),
      (q.u8 0 == 1 && !((s.job (q.u32 4)).any (·.usable)), Reply.bad 4) ])

/-- The inline result: jobs not yet mirrored, and their bytes. -/
def mirrorResult (s : State) : List Byte :=
  toLe 4 s.pair.mirrorQueue.length ++ toLe 4 0 ++ toLe 8 (s.pair.mirrorQueue.map fun id => ((s.job id).map (·.bytes.length)).getD 0).sum

/-- PAIR_MIRROR: set the policy, mirror one job, or read the status. -/
def pairMirrorEffect (q : Cmd) (s : State) : Ans :=
  let s := match q.u8 0 with
    | 0 => s.onPair fun p => { p with auto := bit (q.u8 1) 0, mirrorRate := orDefault (q.u16 2) 4000 }
    | 1 => mirrorJob (q.u32 4) s
    | _ => s
  .done (.good (mirrorResult s)) s

/-- PAIR_MIRROR (R399). -/
def execPairMirror (q : Cmd) (s : State) : Host.Outcome State Fault Refusal := runCmd 0x0E04 pairMirrorCheck pairMirrorEffect q s

/-! PAIR_REJOIN (R409, R412). -/

/-- Checks of PAIR_REJOIN. -/
def pairRejoinCheck (q : Cmd) (s : State) : Option Reply :=
  firstFail (shape q 8 [(0, 4)] ++ [(decide (3600 < q.u32 0), Reply.bad 0), (s.pair.st != .detached, Reply.err .state 0x01F2)])

/-- PAIR_REJOIN: abortable; the device gives the yield line back and trains the link or sends HELLO. -/
def pairRejoinEffect (q : Cmd) (s : State) : Ans :=
  let s := setAbortable q.id true (drivePairYield false s)
  let s := setPair .linking (s.onPair fun p => { p with rejoin := some (q.id, s.tb1 + secT (orDefault (q.u32 0) 600)) })
  .wait (if (s.course 10).up then sendPairHello s else if (s.course 10).train.isSome then s else trainPair s)

/-- PAIR_REJOIN (R409). -/
def execPairRejoin (q : Cmd) (s : State) : Host.Outcome State Fault Refusal := runCmd 0x0E06 pairRejoinCheck pairRejoinEffect q s

/-- PAIR_REJOIN is aborted: a device that holds no role yet stays detached. -/
def abortRejoin (s : State) : State :=
  match s.pair.rejoin with
  | none => s
  | some (id, _) =>
    let s := s.onPair fun p => { p with rejoin := none }
    finish id (.err .cancelled) (if s.pair.st == .standby then s else setPair .detached (s.onPair fun p => { p with joinStep := 0, early := [] }))

/-- PAIR_REJOIN_TIMEOUT (R412): the join may go on. -/
def execPairRejoinTimeout (dt : Nat) (s : State) : Host.Outcome State Fault Refusal :=
  let s := advance dt s
  .next (match s.pair.rejoin with
    | some (id, t) => if t ≤ s.tb1 then finish id (.err .timeout) (s.onPair fun p => { p with rejoin := none }) else s
    | none => s)

end Sys2Proof.Machine
end

