-- ==== Sys2Proof/Machine/Abort.lean ====
section
/-!
DEFINITION. SYS_ABORT and JOB_CANCEL (spec/03_command_interface.md, R67, R83, R475, R476), SEC_PROTECT_WRITE, the end of a write
to SPI NOR, and the TAP (spec/04_security_and_debug.md, R87, R88, R99, R105; spec/17_bring_up_and_discovery.md, R434).
-/
namespace Sys2Proof.Machine

/-- A waiting order without a command's: the scale that an earlier one ordered waits on. -/
def PendScale.without (id : CmdId) (p : PendScale) : Option PendScale :=
  let left := p.orders.filter fun o => o.cmd != id
  if left.isEmpty then none else some { p with orders := left }

/-- An order of a scale is aborted (R116, R129). -/
def dropScale (id : CmdId) (s : State) : State :=
  finish id (.err .cancelled) (s.onPos fun p => { p with ch := p.ch.map fun c => { c with pend := c.pend.bind fun x => x.without id } })

/-- POS_CALIBRATE is aborted: nothing changes (05 R129), and a scale it has found that still waits is dropped. -/
def dropCalib (id : CmdId) (s : State) : State :=
  dropScale id (s.onPos fun p => { p with ch := p.ch.map fun c => { c with calib := c.calib.filter fun k => k.cmd != id } })

/-- JOB_LOAD and JOB_ENCODE are aborted and leave nothing (R43). -/
def dropJobLoad (id : CmdId) (s : State) : State :=
  match s.store.jobs.find? (fun j => j.load.any fun l => l.cmd == id) with
  | some j => failLoad j.id id (.err .cancelled) (discardWork unitStore 1 0x03 s)
  | none => finish id (.err .cancelled) s

/-- SYS_FW_WRITE is aborted: the slot stays empty (04 R105). -/
def dropFwWrite (id : CmdId) (s : State) : State :=
  finish id (.err .cancelled) (s.onSec fun c => { c with norWrites := c.norWrites.filter fun w => w.2.2 != id })

/-- CAM_CALIBRATE is aborted: nothing changes (13 R355). -/
def dropCamCal (id : CmdId) (s : State) : State :=
  finish id (.err .cancelled) (s.onCam fun c => { c with ports := c.ports.map fun p => { p with cal := p.cal.filter fun k => k.cmd != id } })

/-- Cancel a command that has started and is abortable, at its unit's natural boundary (R67). -/
def cancelStarted (e : InFlight) (s : State) : State :=
  let id := e.cmd.id
  match e.opcode with
  | 0x0402 => dropFlip s id
  | 0x0802 => dropScale id s
  | 0x0806 => dropCalib id s
  | 0x0301 => dropJobLoad id s
  | 0x0302 => dropJobLoad id s
  | 0x0109 => dropFwWrite id s
  | 0x0A04 => dropCamCal id s
  | 0x0C03 => finish id (.err .cancelled) (abortTest id s)
  | 0x0C01 => finish id (.err .cancelled) (abortDiscover id s)
  | 0x0E03 => endHandover (.err .cancelled) s
  | 0x0E06 => abortRejoin s
  | _ => finish id (.err .cancelled) s

/-- What becomes of a command in flight that is to be cancelled (R67): whether it is, and the state. -/
def cancelFlying (e : InFlight) (s : State) : Bool × State :=
  if !e.started then (true, deliver e.cmd.id (.err .cancelled) s)
  else if e.abortable then (true, cancelStarted e s)
  else (false, s)

/-- The role limit of R67: a command's own ring, or a ring whose role ranks below its own. -/
def mayCancel (q : Cmd) (ring : Nat) (s : State) : Bool := ring == q.ring || decide (s.cmdRole q < (s.ring ring).role)

/-- Checks of SYS_ABORT (R83, R475). DESIGN CHOICE (log 111): a target that is itself a SYS_ABORT is ST_BAD_PARAM with DETAIL 0, and
RESULT names no field. -/
def sysAbortCheck (q : Cmd) (s : State) : Option Reply :=
  let target := s.flying (q.u8 0, q.u16 2)
  firstFail (shape q 8 [(0, 1), (2, 2)] ++
    [ (decide (7 < q.u8 0), Reply.bad 0),
      (!mayCancel q (q.u8 0) s, Reply.err .denied),
      (target.isNone, Reply.err .state 0x0001),
      (target.any fun e => e.opcode == 0x0104, Reply.err .badParam),
      (target.any fun e => e.started && !e.abortable, Reply.err .state 0x0002) ])

/-- SYS_ABORT (R67): the target's entry is written first. -/
def sysAbortEffect (q : Cmd) (s : State) : Ans :=
  match s.flying (q.u8 0, q.u16 2) with
  | some e => .done .good (cancelFlying e s).2
  | none => .done .good s

/-- SYS_ABORT (R67, R83). -/
def execSysAbort (q : Cmd) (s : State) : Host.Outcome State Fault Refusal := runCmd 0x0104 sysAbortCheck sysAbortEffect q s

/-- The load or encode in flight for a JOB_ID. -/
def State.jobFlying (id : Nat) (s : State) : Option InFlight :=
  s.hif.inflight.find? fun e => (e.opcode == 0x0301 || e.opcode == 0x0302) && rd e.cmd.params 0 4 == id

/-- Checks of JOB_CANCEL: the role rules and outcomes of R67 (07 R184). -/
def jobCancelCheck (q : Cmd) (s : State) : Option Reply :=
  let target := s.jobFlying (q.u32 0)
  firstFail (shape q 8 [(0, 4)] ++
    [ (target.isNone, Reply.err .state 0x0102),
      (target.any fun e => !mayCancel q e.cmd.ring s, Reply.err .denied),
      (target.any fun e => e.started && !e.abortable, Reply.err .state 0x0002) ])

/-- JOB_CANCEL (07 R184). -/
def jobCancelEffect (q : Cmd) (s : State) : Ans :=
  match s.jobFlying (q.u32 0) with
  | some e => .done .good (cancelFlying e s).2
  | none => .done .good s

/-- JOB_CANCEL (07 R184). -/
def execJobCancel (q : Cmd) (s : State) : Host.Outcome State Fault Refusal := runCmd 0x0303 jobCancelCheck jobCancelEffect q s

/-! SEC_PROTECT_WRITE (04 R87, R88). -/

/-- A role has a current key. -/
def State.hasKey (s : State) (role : Nat) : Bool := (s.sec.current.getD role none).isSome

/-- Checks of SEC_PROTECT_WRITE, in the order of Table 4-5. -/
def secProtectWriteCheck (q : Cmd) (s : State) : Option Reply :=
  let t := (ProtTable.decode q.pblk).getD {}
  firstFail (shape q 0 [] true ++
    [ (decide (q.pblk.length ≠ 192), Reply.err .badLength),
      ((ProtTable.decode q.pblk).isNone, Reply.err .badParam 0x0101),
      (decide (t.generation ≤ s.sec.prot.generation), Reply.err .badParam 0x0102),
      (!(t.rings.any fun e => e.role == 0), Reply.err .badParam 0x0103),
      (t.rings.any fun e => (e.authRequired || e.ethAllowed) && !s.hasKey e.role, Reply.err .badParam 0x0104),
      (s.sec.lifecycle == .locked && !t.lockable, Reply.err .badParam 0x0105) ])

/-- Step 2 of Table 4-6: each command in flight is judged under the new table; how many were cancelled. -/
def judgeFlying (t : ProtTable) (self : CmdId) (s : State) : Nat × State :=
  let barred := s.hif.inflight.filter fun e =>
    e.cmd.id != self && decide (e.cmd.ring < 8) && !t.permits (t.rings.getD e.cmd.ring {}).role e.opcode
  barred.foldl (fun x e => let r := cancelFlying e x.2; (if r.1 then x.1 + 1 else x.1, r.2)) (0, s)

/-- SEC_PROTECT_WRITE, steps 1 to 4 of Table 4-6; the rest follows when the NOR copy is written. -/
def secProtectWriteEffect (q : Cmd) (s : State) : Ans :=
  match ProtTable.decode q.pblk with
  | none => .done (.err .badParam 0x0101) s
  | some t =>
    let s := (hold q [.device] false s).onHif fun h => { h with stops := .protect :: h.stops }
    let (n, s) := judgeFlying t q.id s
    .wait (beginNor 0 t.encode q.id (s.onSec fun c => { c with switch := some { table := t, cmd := q.id, cancelled := n, writing := true } }))

/-- SEC_PROTECT_WRITE (04 R87). -/
def execSecProtectWrite (q : Cmd) (s : State) : Host.Outcome State Fault Refusal :=
  runCmd 0x0203 secProtectWriteCheck secProtectWriteEffect q s

/-! NOR_WRITE_DONE: the oldest write to SPI NOR that a command waits for has ended (log 9). -/

/-- Index of the older of two copies of the protection table: an invalid one, else the lower GENERATION. -/
def olderCopy : List (Option ProtTable) → Nat
  | [some a, some b] => if b.generation < a.generation then 1 else 0
  | [some _, none] => 1
  | _ => 0

/-- The rings take the roles of the table in force. -/
def bindRoles (s : State) : State :=
  let bound (n : Nat) (r : Ring) : Ring := { r with role := (s.sec.prot.rings.getD n {}).role }
  s.onHif fun h => { h with rings := h.rings.mapIdx bound }

/-- Steps 5 and 6 of Table 4-6. -/
def protectWritten (id : CmdId) (s : State) : State :=
  match s.sec.switch with
  | none => s
  | some w =>
    let s := s.onNor fun n => { n with protCopies := n.protCopies.set (olderCopy n.protCopies) (some w.table) }
    let s := bindRoles (s.onSec fun c => { c with prot := w.table, switch := none })
    let s := post evProtectChanged unitCtl w.table.generation w.cancelled s
    finish id .good (s.onHif fun h => { h with stops := h.stops.filter (· != .protect) })

/-- The key store's copy has been written: the command's change is made (04 R90 to R93). -/
def keysWritten (id : CmdId) (copy : List Byte) (s : State) : State :=
  match s.flying id with
  | some e => finish id .good ((changeKeys e.opcode e.cmd s).onNor fun n => { n with keyCopy := copy })
  | none => s

/-- An image has been written: the checks of Table 4-13; one that fails leaves the slot empty (04 R105). -/
def imageWritten (id : CmdId) (bytes : List Byte) (s : State) : State :=
  match s.flying id with
  | none => s
  | some e =>
    if crc32c bytes ≠ e.cmd.u32 20 then finish id (.err .verifyFail 0x0100) s
    else match imageFault bytes s.sec.fwRevoked s.sec.svnMin with
      | some d => finish id (.err .verifyFail d) s
      | none => finish id .good (s.onNor fun n => { n with slots := n.slots.set (e.cmd.u8 0) (some (imageOf bytes)) })

/-- A configuration has been written (17 R434). -/
def configWritten (id : CmdId) (s : State) : State :=
  match s.board.saving with
  | none => s
  | some (slot, boot) =>
    let saved := s.board.inForce.map fun c => ({ opcode := c.1, params := c.2.1, pblk := c.2.2 } : SavedCmd)
    let s := s.onNor fun n => { n with configs := n.configs.set slot (some saved), bootConfig := if boot then some slot else n.bootConfig }
    finish id (.good (toLe 4 (recordSize s.board.inForce))) (s.onBoard fun b => { b with saving := none })

/-- The oldest write ends. -/
def norWritten (s : State) : State :=
  match s.sec.norWrites with
  | [] => s
  | (region, bytes, id) :: rest =>
    let s := s.onSec fun c => { c with norWrites := rest }
    match region with
    | 0 => protectWritten id s
    | 1 => keysWritten id bytes s
    | 2 => imageWritten id bytes s
    | 3 => configWritten id s
    | _ => finish id (.good (toLe 4 bytes.length)) (s.onNor fun n => { n with boardRecord := bytes })

/-- NOR_WRITE_DONE (04 R88, R91, R105; 17 R434). -/
def execNorWriteDone (dt : Nat) (s : State) : Host.Outcome State Fault Refusal := .next (norWritten (advance dt s))

/-! TAP_INSTRUCTION (04 R99, 18 R469). -/

/-- The device answers to the instructions that would disturb it (04 R99). -/
def State.scannable (s : State) : Bool := (s.thm.power == .p1 || s.thm.power == .p2 || s.thm.power == .p3) && !s.pairRole

/-- Honouring EXTEST, CLAMP or HIGHZ is a device fault that only a reset ends (04 R99). -/
def scanFault (s : State) : State :=
  let s := post evUnitRetired unitCtl unitCtl (2 ^ 31) ((s.onBoard fun b => { b with scan := true, fault := true }).onStat fun t => { t with fault := some (t.fault.getD unitCtl) })
  shutDown 0x01 id s

/-- What the debug access port behind the TAP may do (Table 4-9). -/
structure PortRights where
  /-- read internal registers and trace buffers -/
  observe : Bool := false
  /-- halt and step the control-core pairs, write registers, read and write device memory; never the key store or the fuses -/
  control : Bool := false
  /-- only the AON domain is reached: in P3 (04 R100) -/
  aonOnly : Bool := false
deriving DecidableEq, Repr, Inhabited

/-- What the debug access instruction grants while it stands in the instruction register: what Table 4-9 allows in the debug state
of the moment (04 R97, R99). -/
def State.debugPort (s : State) : PortRights :=
  { observe := s.board.tapDebug && s.sec.debug != .off, control := s.board.tapDebug && s.sec.debug == .full
    aonOnly := s.thm.power == .p3 }

/-- An instruction is loaded into the TAP. -/
def loadTap (code : Nat) (s : State) : State :=
  let s := s.onBoard fun b => { b with tap := code, tapDebug := Config.tapMeaning code == 4 }
  match Config.tapMeaning code with
  | 1 => s.emit (.tap 0x182009AB)
  | 3 =>
    if s.scannable then (if s.held || s.board.scan then s else scanFault s)
    else if s.held || s.thm.power == .p4 then s
    else post evDebugRefused unitCtl code s.thm.power.code s
  | _ => s

/-- TAP_INSTRUCTION (04 R99). -/
def execTapInstruction (dt instr : Nat) (s : State) : Host.Outcome State Fault Refusal := .next (loadTap instr (advance dt s))

end Sys2Proof.Machine
end

