-- ==== Sys2Proof/Machine/Boot.lean ====
section
/-!
DEFINITION. Resets, the boot up to READY, saved configurations (spec/17_bring_up_and_discovery.md, R430 to R437, R445;
spec/04_security_and_debug.md, R84, R90, R95, R106; spec/18_signals_and_electrical.md, R453, R456, R461).
-/
namespace Sys2Proof.Machine

/-! Resets (Table 17-1). -/

/-- PORST_N_ASSERT (R430): it ends a hardware trip and P4 too (14 R373, R379). -/
def execPorstNAssert (dt : Nat) (s : State) : Host.Outcome State Fault Refusal :=
  let s := advance dt s
  .next (deviceReset (.porst :: s.board.holds.filter fun h => h == .supply || h == .sysRst) 1 s)

/-- The slot that was chosen fails its checks: the device stays in the boot ROM (Table 17-2). -/
def State.imageBad (s : State) : Bool := (slotFault (s.nor.slots.getD s.sec.bootImage none) s.sec.fwRevoked s.sec.svnMin).isSome

/-- PORST_N rises: the straps are sampled, GPIO0 BOOT_HOLD and GPIO1 PCIE_GEN3 (18 R453); while a supply condition holds it has no
effect on them (18 R456). -/
def releasePorst (gpio : Nat) (s : State) : State :=
  if !s.board.holds.contains .porst then s
  else
    let s := s.onBoard fun b => { b with holds := b.holds.filter (· != .porst), gpioIn := gpio % 65536 }
    if s.board.holds.contains .supply then s
    else s.onBoard fun b => { b with bootHold := bit gpio 0, gen3 := bit gpio 1, fault := bit gpio 0 || s.imageBad }

/-- PORST_N_RELEASE (R430, 18 R453). -/
def execPorstNRelease (dt gpio : Nat) (s : State) : Host.Outcome State Fault Refusal := .next (releasePorst gpio (advance dt s))

/-- SYS_RST_N low for 1 us: a warm reset. With PORST_N low too PORST_N governs (18 R461), and neither a trip nor P4 ends by it. -/
def assertSysRst (s : State) : State :=
  if s.thm.power == .p4 || s.board.holds.contains .sysRst then s
  else if s.held then s.onBoard fun b => { b with holds := .sysRst :: b.holds }
  else deviceReset [.sysRst] 2 s

/-- SYS_RST_N_ASSERT (R430). -/
def execSysRstNAssert (dt : Nat) (s : State) : Host.Outcome State Fault Refusal := .next (assertSysRst (advance dt s))

/-- SYS_RST_N_RELEASE (R430): the boot goes on unless something else holds the device. -/
def execSysRstNRelease (dt : Nat) (s : State) : Host.Outcome State Fault Refusal :=
  .next ((advance dt s).onBoard fun b => { b with holds := b.holds.filter (· != .sysRst) })

/-- WATCHDOG_EXPIRY (R430): the control cores have not refreshed AON for 100 ms. -/
def execWatchdogExpiry (dt : Nat) (s : State) : Host.Outcome State Fault Refusal :=
  let s := advance dt s
  .next (if s.held || s.thm.power == .p3 || s.thm.power == .p4 then s else deviceReset [] 4 s)

/-- A supervised supply or REFCLK_SYS fails for 1 us (18 R456): everything but AON is held in reset; a trip stays. -/
def supplyFault (s : State) : State :=
  if s.thm.power == .p4 then s
  else
    let tripped := s.thm.tripped
    (deviceReset (.supply :: s.board.holds.filter (· != .supply)) 1 s).onThm fun t => { t with tripped }

/-- POWER_SUPERVISOR_FAULT (18 R456). -/
def execPowerSupervisorFault (dt : Nat) (s : State) : Host.Outcome State Fault Refusal := .next (supplyFault (advance dt s))

/-- POWER_SUPERVISOR_CLEAR (18 R456): every condition has cleared; with PORST_N low the device stays in reset. -/
def execPowerSupervisorClear (dt : Nat) (porst : Bool) (s : State) : Host.Outcome State Fault Refusal :=
  let s := advance dt s
  .next (if s.board.holds.contains .supply then
      s.onBoard fun b =>
        let rest := b.holds.filter fun h => h != .supply && h != .porst
        { b with holds := if porst then rest else .porst :: rest }
    else s)

/-- A ring's registers at reset (R432); its role, and what is in flight, go on. -/
def quietRing (flying : List InFlight) (n : Nat) (r : Ring) : Ring :=
  let tags := (flying.filter fun e => e.cmd.ring == n && e.cmd.src.isNone).map (·.cmd.tag)
  { vec := n, role := r.role, agreed := r.agreed, featHost := r.featHost, hostId := r.hostId, held := r.held, kept := r.kept, rejAuth := r.rejAuth
    rejReplay := r.rejReplay, mute := tags }

/-- PCIE_PERST_N_ASSERT (R432): only the endpoint and the ring registers; completion writes of what is in flight are dropped, events
go on into the history. -/
def execPciePerstNAssert (dt : Nat) (s : State) : Host.Outcome State Fault Refusal :=
  let s := advance dt s
  let z : Hif := {}
  .next (s.onHif fun h => { h with
    pcieUp := false, rings := h.rings.mapIdx (quietRing h.inflight), evqEnable := false, evqBase := z.evqBase, evqSize := z.evqSize
    evqTail := z.evqTail, evqHead := z.evqHead, evqPhase := true, winBase := 0, winEnable := false, winWrite := false, winDenied := false
    msixTable := z.msixTable, msixPending := 0 })

/-- PCIE_PERST_N_RELEASE (R432): the link trains; READY stays as it is. -/
def execPciePerstNRelease (dt : Nat) (s : State) : Host.Outcome State Fault Refusal :=
  .next ((advance dt s).onHif fun h => { h with pcieUp := true })

/-- TRIAL_BOOT_TIMEOUT (04 R106): a trial image has not raised READY within 10 s of the reset: the following boot runs the previous
image. -/
def execTrialBootTimeout (dt : Nat) (s : State) : Host.Outcome State Fault Refusal :=
  let s := advance dt s
  .next (match s.board.booting with
    | some cause => if s.sec.onTrial && !s.held && passed s 0 10 1 then deviceReset [] cause s else s
    | none => s)

/-! What the boot loads (Table 17-2 step 6). -/

/-- The protection table that the boot loads (04 R84). -/
def bootTable (n : Nor) : ProtTable :=
  let better (a b : ProtTable) : ProtTable := if a.generation < b.generation then b else a
  match n.protCopies.filterMap id with
  | [] => defaultTable
  | t :: ts => ts.foldl better t

/-- Protection table, key store and counters (04 R84, R90, R95): a saved copy that fails its unwrap check is discarded. -/
def loadSecurity (s : State) : State :=
  let s := bindRoles (s.onSec fun c => { c with prot := bootTable s.nor })
  let none_ : List (Option Nat) × List (Option Nat) := (List.replicate 9 none, List.replicate 4 none)
  let (store, s) :=
    if s.nor.keyCopy.isEmpty then (none_, s)
    else match unwrapStore s.nor.keyCopy with
      | some store => (store, s)
      | none => (none_, post evKeyChanged unitCtl 0 4 (s.onNor fun n => { n with keyCopy := [] }))
  let s := s.onSec fun c => { c with
    keys := store.1, current := store.2
    counters := s.nor.marks.map fun j => { last := j, mark := j + 65536 : Counter } }
  s.onNor fun n => { n with marks := n.marks.map (· + 65536) }

/-- Trims: the saved one, else the fused one (14 R386). -/
def loadTrims (s : State) : State :=
  let trim (k : Nat) (x : Sensor) : Sensor := { x with trim := (getKey k s.nor.trims).getD (Config.fusedTrim k) }
  s.onThm fun t => { t with sensors := t.sensors.mapIdx trim }

/-- A valid board record (R436): the header of a module record with its own MAGIC, TYPE 0. -/
def boardRecordOk (bs : List Byte) : Bool :=
  let len := rd bs 8 4
  rd bs 0 4 == 0x4452424C && rd bs 4 2 == 1 && rd bs 6 1 == 0 && decide (32 ≤ len) && decide (len ≤ bs.length)
    && crc32c (bs.take (len - 4)) == rd bs (len - 4) 4 && !(mirTags bs).2

/-- A rail entry of the board record. -/
def railOf (v : List Byte) (i : Nat) : Option Rail :=
  if v.length < 4 * i + 4 then none else some { addr := rd v (4 * i) 1, page := rd v (4 * i + 1) 1, rail := rd v (4 * i + 2) 1 }

/-- The board record's tags (R436). -/
def loadBoard (s : State) : State :=
  let bs := s.nor.boardRecord
  if !boardRecordOk bs then s
  else
    let ids := mirTag 0x0601 bs
    let rails := mirTag 0x0602 bs
    let mem := mirTag 0x0603 bs
    let s := s.onBoard fun b => { b with subsysVendor := rd ids 0 2, subsysId := rd ids 2 2 }
    let s := s.onThm fun t => { t with rails := (List.range 16).map (railOf rails) }
    if mem.length < 4 then s else s.onStore fun m => { m with memGB := rd mem 0 2, memMts := rd mem 2 2 }

/-- A journalled unit stays retired (02 R39); one whose fault is a device fault holds the device faulted. -/
def loadRetired (s : State) (x : Nat × Nat) : State :=
  let u := x.1
  let i := u % 256
  let bad := cannotRetire u s
  let s := s.onStat fun t => { t with retired := t.retired ++ [{ unit := u, criterion := x.2, before := true, deviceFault := bad }] }
  let s := match u / 256 with
    | 0x08 => if i < 10 && !((List.range 10).any fun b => (s.bar b).engine == 10) then s.onBar i fun b => { b with engine := 10 } else s
    | 0x0A => if 0x80 ≤ i then s.onLane (i - 0x80) fun q => { q with retired := true, pinned := true } else s
    | 0x0B => if 0x80 ≤ i then s.onLane (i - 0x80) fun q => { q with retired := true, pinned := true } else s
    | 0x0E => s.onPos fun p => { p with ch := upd i (fun c => { c with retired := true }) p.ch }
    | 0x0F => s.onPort i fun p => { p with retired := true }
    | 0x89 => s.onCtx i fun c => { c with retired := true }
    | _ => s
  if bad then idleCourses ((s.onStat fun t => { t with fault := some (t.fault.getD u) }).onBoard fun b => { b with fault := true }) else s

/-- Retired units and pages (02 R39, 07 R164). -/
def loadJournal (s : State) : State :=
  let s := s.nor.retired.foldl loadRetired s
  s.onStore fun m => { m with retired := s.nor.pages }

/-! Replay of a saved configuration (R435). -/

/-- A TAG under which no replayed command is in flight. -/
def State.replayTag (s : State) : Nat :=
  (((s.hif.inflight.filter fun e => e.cmd.ring == ringReplay).map fun e => e.cmd.tag + 1).max?).getD 0

/-- One command of a record, checked as if issued on an Owner ring, without authentication. -/
def replayOne (tab : OpTable) (c : SavedCmd) (s : State) : State :=
  let s := s.onBoard fun b => { b with replayed := [] }
  if !opcodeDefined c.opcode || s.hif.floor < 1 || !s.sec.prot.permits 0 c.opcode then s.onBoard fun b => { b with replayed := [.denied] }
  else launch c.opcode (tab c.opcode).1 (tab c.opcode).2 { ring := ringReplay, tag := s.replayTag, params := c.params, pblk := c.pblk } s

/-- The commands of a record in order, from an index on: the state after them, or the index of the first that fails. -/
def replayAll (tab : OpTable) : List SavedCmd → Nat → State → Except Nat State
  | [], _, s => .ok s
  | c :: cs, i, s =>
    let s := replayOne tab c s
    if s.board.replayed.any (· != .ok) then .error i else replayAll tab cs (i + 1) s

/-- Checks of SYS_CONFIG_LOAD (R435); an empty slot is ST_STATE (log 39). -/
def sysConfigLoadCheck (q : Cmd) (s : State) : Option Reply :=
  firstFail (shape q 8 [(0, 1)] ++
    [ (decide (1 < q.u8 0), Reply.bad 0),
      (s.fire.run.isSome || s.bars.bars.any (·.enabled), Reply.err .state 0x0202),
      ((s.nor.configs.getD (q.u8 0) none).isNone, Reply.err .state) ])

/-- SYS_CONFIG_LOAD (R435): where a command fails, what stood before stands again. -/
def sysConfigLoadEffect (tab : OpTable) (q : Cmd) (s : State) : Ans :=
  match replayAll tab ((s.nor.configs.getD (q.u8 0) none).getD []) 0 s with
  | .ok s => .done .good s
  | .error i => .done { status := .verifyFail, detail := 0x0203, offset := i } s

/-- The saved configuration applied at boot; where a command fails the reset configuration stays (R435). -/
def bootReplay (tab : OpTable) (s : State) : State :=
  match s.nor.bootConfig.bind fun n => s.nor.configs.getD n none with
  | none => s
  | some cs => match replayAll tab cs 0 s with
    | .ok s => s
    | .error _ => s.onBoard fun b => { b with configRefused := true }

/-! READY (Table 17-2 step 8). -/

/-- Courses that the configuration enables are trained, as LINK_TRAIN does (R437). -/
def trainCourses (s : State) : State :=
  (List.range 10).foldl (fun s l => if (s.course l).cfg.enable then trainLook l (startTrain l none false s) else s) s

/-- A trial image that failed is told (04 R106). -/
def tellFallback (s : State) : State :=
  match s.nor.failedTrial with
  | some n => post evFwTrialFallback unitCtl n s.sec.bootImage (s.onNor fun x => { x with failedTrial := none })
  | none => s

/-- READY rises. -/
def raiseReady (tab : OpTable) (cause : Nat) (s : State) : State :=
  let s := bootReplay tab (loadJournal (loadBoard (loadTrims (loadSecurity s))))
  let s := s.onHif fun h => { h with ready := true }
  let s := s.onBoard fun b => { b with booting := none }
  let s := (if s.board.fault then s else driveFault false s).emit (.pin .speedLimitN (!s.board.speedLimit))
  let s := post evBoot unitCtl cause (s.sec.bootImage + if s.board.configRefused then 256 else 0) s
  trainCourses ((tellFallback s).onStat fun t => { t with idleSince := s.tb1 })

/-- The boot's last step, unless the device is held, or stays in the boot ROM (R430, 18 R453). -/
def bootReady (tab : OpTable) (s : State) : State :=
  match s.board.booting with
  | some cause => if s.held || s.board.bootHold || s.board.fault then s else raiseReady tab cause s
  | none => s

end Sys2Proof.Machine
end

