-- ==== Sys2Proof/Machine/Therm.lean ====
section
/-!
DEFINITION. THM: die sensors, throttle levels, shut-down, the hardware trip; the board regulators and the power budget
(spec/14_thermal_and_power.md, R366 to R375, R381 to R384).
-/
namespace Sys2Proof.Machine

/-- Unit of a die sensor (Table 2-1). -/
def unitDie (n : Nat) : Nat := 0x1100 + n

/-- PWR, against which PMBus transactions count (R381). -/
def unitPwr : Nat := 0x0310

/-- A die sensor. -/
def State.die (s : State) (n : Nat) : Sensor := s.thm.sensors.getD n {}

/-- The sensors one row or one column away (R366). -/
def neighbours (n : Nat) : List Nat :=
  (List.range 16).filter fun m => let dr := (m / 4 : Nat) - (n / 4 : Nat) + ((n / 4) - (m / 4)); let dc := (m % 4 - n % 4) + (n % 4 - m % 4); dr + dc == 1

/-! A sample (R366 to R368). -/

/-- Readings that bear on the last 10 s: those taken within it, and the one that stood as it began. -/
def recent (s : State) (l : List (Int × Int)) : List (Int × Int) :=
  l.takeWhile (fun x => within s x.1 10 1) ++ (l.dropWhile fun x => within s x.1 10 1).take 1

/-- The reading has stood for 10 s (R367). -/
def Sensor.still (s : State) (x : Sensor) : Bool := match x.changes with
  | c :: _ => !within s c.1 10 1
  | [] => false

/-- The reading has moved by 2 degrees C or more over the last 10 s (R367). -/
def Sensor.moved (s : State) (x : Sensor) : Bool :=
  let l := (recent s x.changes).map (·.2)
  match l.max?, l.min? with
  | some a, some b => decide (32 ≤ a - b)
  | _, _ => false

/-- A sensor takes its conversion result, or goes without (R366, R367). -/
def Sensor.take (s : State) (raw : Option Int) (x : Sensor) : Sensor :=
  match raw with
  | none => { x with missing := min 2 (x.missing + 1) }
  | some r =>
    let t := r + x.trim
    { x with
      raw := r, temp := t, missing := 0
      changes := if (x.changes.head?.map (·.2)) == some t then recent s x.changes else (s.tb1, t) :: recent s x.changes }

/-- Why a sensor is failed now: bit 1 range, bit 2 stuck, bit 3 timeout (R367, Table 14-7). -/
def Sensor.faults (s : State) (near : List Sensor) (x : Sensor) : Nat :=
  2 * b2n (decide (x.temp < -640) || decide (2400 < x.temp)) + 4 * b2n (x.still s && near.any (Sensor.moved s)) + 8 * b2n (decide (2 ≤ x.missing))

/-- A sensor fails, or returns after 10 s of good readings (R367). -/
def Sensor.judge (s : State) (faults : Nat) (x : Sensor) : Sensor :=
  if faults ≠ 0 then { x with failed := faults, goodSince := none }
  else if x.failed = 0 then (if x.missing = 0 then { x with lastValid := x.temp } else x)
  else match x.goodSince with
    | none => { x with goodSince := some s.tb1 }
    | some t => if passed s t 10 1 then { x with failed := 0, goodSince := none, lastValid := x.temp } else x

/-- The value of a sensor that counts: its reading, or while it is failed its substitute (R368). -/
def State.dieValue (s : State) (n : Nat) : Int :=
  let valid (l : List Nat) : Option Int := ((l.filter fun m => (s.die m).failed == 0).map fun m => (s.die m).temp).max?
  if (s.die n).failed = 0 then (s.die n).temp
  else match valid (neighbours n) with
    | some h => max (s.die n).lastValid (h + 128)
    | none => match valid (List.range 16) with
      | some h => max (s.die n).lastValid (h + 128)
      | none => (s.die n).lastValid

/-- Take the results of a sample: readings, failures and returns with their events. An injected timeout loses one (17 Table 17-9). -/
def takeSamples (raws : List (Option Int)) (s : State) : State :=
  let lost (n : Nat) : Bool := s.board.injects.contains (unitDie n, 4)
  let s' := s.onThm fun t => { t with sensors := t.sensors.mapIdx fun n x => x.take s (if lost n then none else raws.getD n none) }
  let s' := s'.onBoard fun b => { b with injects := (List.range 16).foldl (fun l n => l.erase (unitDie n, 4)) b.injects }
  let judged := s'.thm.sensors.mapIdx fun n x => x.judge s (x.faults s ((neighbours n).map s'.die))
  (List.range 16).foldl (fun a n =>
    if ((s.die n).failed == 0) == ((a.die n).failed == 0) then a
    else post evThermSensor (unitDie n) n (if (a.die n).failed = 0 then 2 else 1) a) (s'.onThm fun t => { t with sensors := judged })

/-- The hottest value and its sensor (R366). -/
def hottestOf (s : State) : Int × Nat :=
  (List.range 16).foldl (fun (a : Int × Nat) n => if a.1 < s.dieValue n then (s.dieValue n, n) else a) (s.dieValue 0, 0)

/-! Levels (R369, R370, R372). -/

/-- Enter a throttle level: EV_THERM_LEVEL, the time at the old one, SPEED_LIMIT_N. -/
def setLevel (l : Nat) (s : State) : State :=
  if s.thm.level = l then s
  else
    let old := s.thm.level
    let s := if old = 0 then s else bumpTime (ctr 12 0 old) (some s.thm.levelSince) s
    let s := s.onThm fun t => { t with level := l, levelSince := s.tb1 }
    checkLimit (post evThermLevel unitCtl old l s)

/-- The level that a hottest reading gives (R369), while a substitution is active never lower than before (R368). -/
def levelFor (v : Levels) (hot : Int) (held : Bool) (floor old : Nat) : Nat :=
  let up := if v.throttle + v.step ≤ hot then 2 else if v.throttle ≤ hot then 1 else 0
  let keep := if old = 2 then (if hot < v.throttle - v.hyst then 0 else if hot < v.throttle + v.step - v.hyst then 1 else 2)
    else if old = 1 then (if hot < v.throttle - v.hyst then 0 else 1) else 0
  max floor (max up (if held then old else keep))

/-- The warning level (Table 14-1): EV_THERM_LEVEL with the level as it stands, once until it is left (log 36). -/
def checkWarning (hot : Int) (s : State) : State :=
  let v := s.thm.levels
  if v.warn ≤ hot && !s.thm.warned then post evThermLevel unitCtl s.thm.level s.thm.level (s.onThm fun t => { t with warned := true })
  else if hot < v.warn - v.hyst then s.onThm fun t => { t with warned := false } else s

/-- Substitutions begin or end (R368): with the last one its floor ends. -/
def noteSubst (s : State) : State :=
  if s.thm.sensors.any fun x => x.failed != 0 then s.onThm fun t => { t with substSince := some (t.substSince.getD s.tb1) }
  else (bumpTime (ctr 12 0 3) s.thm.substSince s).onThm fun t => { t with substSince := none, floor := 0 }

/-- Shut-down (R372). -/
def enterShutdown (hot : Int) (sensor : Nat) (s : State) : State :=
  shutDown 0x02 (post evThermShutdown (unitDie sensor) sensor (p32 hot)) (s.onThm fun t => { t with hold := true, coolSince := none })

/-- What follows from a sample's hottest value. -/
def actOnHottest (s : State) : State :=
  let (hot, sensor) := hottestOf s
  let s := bumpMax (ctr 12 0 0) hot (s.onThm fun t => { t with hottest := hot, hotSensor := sensor, sampled := s.tb1 })
  let v := s.thm.levels
  let s := setLevel (levelFor v hot s.thm.substSince.isSome s.thm.floor s.thm.level) (checkWarning hot s)
  let s := s.onThm fun t => { t with coolSince := if hot < v.shutdown - v.hyst then some (t.coolSince.getD s.tb1) else none }
  if v.shutdown ≤ hot && !s.thm.hold then enterShutdown hot sensor s else s

/-- Eight sensors failed at once are a device fault (R367), of the first of them (log 36). -/
def tooManyFailed (s : State) : State :=
  let bad := (List.range 16).filter fun n => (s.die n).failed != 0
  if 8 ≤ bad.length && s.stat.fault.isNone then deviceFault (unitDie (bad.headD 0)) 0 s else s

/-- THM samples every sensor (R366 to R372); levels given by THERM_LEVELS apply from here (R374). -/
def thermalSample (raws : List (Option Int)) (s : State) : State :=
  let (v, ids) := s.thm.newLevels.getD (s.thm.levels, [])
  let s := s.onThm fun t => { t with levels := v, newLevels := none }
  finishAll ids .good (tooManyFailed (actOnHottest (noteSubst (takeSamples raws s))))

/-- The control cores run: the device is out of reset, and not in P3 or P4. -/
def State.awake (s : State) : Bool := !s.held && s.thm.power != .p3 && s.thm.power != .p4

/-- THERMAL_SAMPLE (R366): every 1 ms, and every 100 us near the levels. -/
def execThermalSample (dt : Nat) (raws : List (Option Int)) (s : State) : Host.Outcome State Fault Refusal :=
  let s := advance dt s
  let v := s.thm.levels
  let near := decide (v.throttle - 96 ≤ s.thm.hottest) || decide (v.shutdown - 96 ≤ s.thm.hottest)
  onUnit (raws.length == 16)
    (if s.awake && passed s s.thm.sampled (if near then 100 else 1000) 1000000 then thermalSample raws s else s)

/-- SUBSTITUTION_FLOOR (R368): after 60 s without a break the level is raised by one, which is then a floor. -/
def execSubstitutionFloor (dt : Nat) (s : State) : Host.Outcome State Fault Refusal :=
  let s := advance dt s
  .next (match s.thm.substSince with
    | some t =>
      if s.awake && s.thm.floor = 0 && passed s t 60 1 then
        let l := min 2 (s.thm.level + 1)
        setLevel l (s.onThm fun t => { t with floor := l })
      else s
    | none => s)

/-- The shut-down hold ends in P1 (R372). -/
def endHold (s : State) : State :=
  let s := s.onThm fun t => { t with hold := false }
  let s := if s.stat.fault.isSome then s
    else driveFault false (s.onLinks fun l => { l with courses := l.courses.map fun c => { c with safeIdle := false } })
  setPower .p1 (post evThermLevel unitCtl 3 s.thm.level s)

/-- SHUTDOWN_HOLD_END (R372): every reading has stayed below SHUTDOWN - HYST for 10 s. -/
def execShutdownHoldEnd (dt : Nat) (s : State) : Host.Outcome State Fault Refusal :=
  let s := advance dt s
  .next (match s.thm.coolSince with
    | some t => if s.awake && s.thm.hold && passed s t 10 1 then endHold s else s
    | none => s)

/-- The hardware trip (R373): the whole chip but AON is held in reset until a power-on reset. -/
def hardwareTrip (s : State) : State :=
  let s := deviceReset [.trip] 1 (cutPower s)
  s.onThm fun t => { t with tripped := true }

/-- HARDWARE_TRIP (R373): every 20 us AON compares the sensors with 120 degrees C; it trips also when THM is not serviced for 10 ms
above SHUTDOWN. -/
def execHardwareTrip (dt : Nat) (temps : List Int) (unserviced : Bool) (s : State) : Host.Outcome State Fault Refusal :=
  let s := advance dt s
  let hot := (temps.max?).getD 0
  onUnit (temps.length == 16)
    (if s.thm.power != .p4 && !s.thm.tripped && (decide (1920 ≤ hot) || (unserviced && decide (s.thm.levels.shutdown < hot))) then
       hardwareTrip s
     else s)

/-! THERM_LEVELS, THERM_READ, THERM_SENSOR_TRIM (R374, R384). -/

/-- The levels that a command gives, 0 for a default. -/
def levelsOf (q : Cmd) : Levels :=
  let v (off : Nat) (d : Int) : Int := if q.s16 off = 0 then d else q.s16 off
  { warn := v 0 1520, throttle := v 2 1632, step := v 4 64, shutdown := v 6 1792, hyst := v 8 64 }

/-- The levels meet R374. -/
def Levels.ok (v : Levels) : Bool :=
  decide (960 ≤ v.warn) && decide (v.warn + v.hyst ≤ v.throttle) && decide (v.throttle + v.step + v.hyst ≤ v.shutdown)
    && decide (v.shutdown ≤ 1840) && decide (16 ≤ v.hyst) && decide (v.hyst ≤ 160) && decide (32 ≤ v.step) && decide (v.step ≤ 128)

/-- Checks of THERM_LEVELS. -/
def thermLevelsCheck (q : Cmd) (_s : State) : Option Reply := firstFail (shape q 16 [(0, 10)] ++ [(!(levelsOf q).ok, Reply.bad 0 0x01E0)])

/-- THERM_LEVELS (R374): from the next sample. -/
def thermLevelsEffect (q : Cmd) (s : State) : Ans :=
  .wait (s.onThm fun t => { t with newLevels := some (levelsOf q, ((t.newLevels.map (·.2)).getD []) ++ [q.id]) })

/-- THERM_LEVELS (R374). -/
def execThermLevels (q : Cmd) (s : State) : Host.Outcome State Fault Refusal := runCmd 0x0D01 thermLevelsCheck thermLevelsEffect q s

/-- A sensor's eight bytes (Table 14-7). -/
def dieBytes (s : State) (n : Nat) : List Byte :=
  let x := s.die n
  toLeS 2 (s.dieValue n) ++ toLeS 2 x.raw ++ toLe 1 (if x.failed = 0 then 0 else 1 + x.failed) ++ toLe 1 0 ++ toLeS 2 x.trim

/-- Checks of THERM_READ and THERM_BUDGET. -/
def thermAddrCheck (q : Cmd) (_s : State) : Option Reply := firstFail (shape q 16 [(8, 8)] ++ [(addrBad q 8, Reply.bad 8)])

/-- THERM_READ. -/
def thermReadEffect (q : Cmd) (s : State) : Ans :=
  let subst := ((List.range 16).map fun n => if (s.die n).failed = 0 then 0 else 2 ^ n).sum
  let secs := match s.thm.substSince with
    | some t => min 65535 (tUs (s.tb1 - t) / 1000000).toNat
    | none => 0
  .done (.withExt (toLeS 2 s.thm.hottest ++ toLe 1 s.thm.hotSensor ++ toLe 1 (if s.thm.hold then 3 else s.thm.level) ++ toLe 2 subst ++ toLe 2 secs)
    (q.u64 8) ((List.range 16).flatMap (dieBytes s))) s

/-- THERM_READ (R384). -/
def execThermRead (q : Cmd) (s : State) : Host.Outcome State Fault Refusal := runCmd 0x0D02 thermAddrCheck thermReadEffect q s

/-- Checks of THERM_SENSOR_TRIM. -/
def thermSensorTrimCheck (q : Cmd) (s : State) : Option Reply :=
  firstFail (shape q 8 [(0, 4)] ++
    [ (decide (15 < q.u8 0), Reply.bad 0), (extraBits (q.u8 1) 1, Reply.bad 1),
      (decide (q.s16 2 < -256) || decide (255 < q.s16 2), Reply.bad 2),
      (s.isRetired (0x1100 + q.u8 0), Reply.errUnit .retired 0 (0x1100 + q.u8 0)) ])

/-- THERM_SENSOR_TRIM: the trim replaces the fused one; SAVE journals it. -/
def thermSensorTrimEffect (q : Cmd) (s : State) : Ans :=
  let s := s.onThm fun t => { t with sensors := upd (q.u8 0) (fun x => { x with trim := q.s16 2 }) t.sensors }
  .done .good (if bit (q.u8 1) 0 then journal (.trim (q.u8 0) (q.s16 2)) s else s)

/-- THERM_SENSOR_TRIM (R384). -/
def execThermSensorTrim (q : Cmd) (s : State) : Host.Outcome State Fault Refusal :=
  runCmd 0x0D03 thermSensorTrimCheck thermSensorTrimEffect q s

/-! The board regulators (R381, R382). -/

/-- A PMBus transaction that fails counts as an upset of PWR, which it never retires (R381). -/
def pmbusUpset (s : State) : State := s.onStat fun t => { t with upsets := (unitPwr, s.tb1) :: t.upsets.filter fun x => within s x.2 86400 1 }

/-- A rail entry. -/
def State.rail (s : State) (i : Nat) : Option Rail := s.thm.rails.getD i none

/-- Change a rail entry. -/
def State.onRail (i : Nat) (f : Rail → Rail) (s : State) : State := s.onThm fun t => { t with rails := upd i (Option.map f) t.rails }

/-- A regulator that cannot be reached is reported (R381, Table 14-8). -/
def railLost (i : Nat) (s : State) : State :=
  if (s.rail i).any (·.unreachable) then s
  else post evPmbusFault unitPwr i 0xFFFF (s.onRail i fun r => { r with unreachable := true })

/-- A regulator's telemetry: EV_PMBUS_FAULT when a fault bit sets (R381). -/
def railAnswer (i : Nat) (a : RailAnswer) (s : State) : State :=
  let old := ((s.rail i).map (·.reported)).getD 0
  let s := s.onRail i fun r => { r with vout := a.vout, iout := a.iout, temp := a.temp, status := a.status, reported := a.status, unreachable := false }
  if a.status &&& old != a.status then post evPmbusFault unitPwr i a.status s else s

/-- PMBUS_POLL (R381): every 10 ms; no answer means that the retry has failed as well. -/
def execPmbusPoll (dt index : Nat) (answer : Option RailAnswer) (s : State) : Host.Outcome State Fault Refusal :=
  let s := advance dt s
  onUnit (decide (index < 16)) (match s.rail index with
    | none => s
    | some r =>
      if !s.awake || !s.hif.ready || !(r.polled.all fun t => passed s t 10 1000) then s
      else
        let s := s.onRail index fun r => { r with polled := some s.tb1 }
        match answer with
        | some a => railAnswer index a s
        | none => railLost index (pmbusUpset (pmbusUpset s)))

/-- The VOUT window of a rail in millivolts (Table 14-4): 5 % either side, for VDD_CORE its own. -/
def railWindow (rail : Nat) : Option (Nat × Nat) :=
  if rail = 0 then some (720, 800)
  else ([0, 850, 800, 800, 1200, 800, 1800, 1050, 500, 1200, 1800, 3300][rail]?).map fun v => (ceilDiv (95 * v) 100, 105 * v / 100)

/-- Checks of THERM_PMBUS. -/
def thermPmbusCheck (q : Cmd) (s : State) : Option Reply :=
  let op := q.u8 0
  let r := s.rail (q.u8 1)
  let rail := (r.map (·.rail)).getD 0xFF
  let mv := q.u16 6
  firstFail (shape q 16 [(0, 8)] ++
    [ (decide (3 < op), Reply.bad 0), (decide (15 < q.u8 1), Reply.bad 1), (op == 2 && decide (127 < q.u8 2), Reply.bad 2),
      (op == 2 && decide (11 < q.u8 4) && q.u8 4 != 0xFF, Reply.bad 4), (extraBits (q.u8 5) 1, Reply.bad 5),
      (op != 2 && r.isNone, Reply.bad 1), (op == 1 && rail == 0 && !bit (q.u8 5) 0, Reply.bad 5),
      (op == 1 && !((railWindow rail).any fun w => decide (w.1 ≤ mv) && decide (mv ≤ w.2)), Reply.bad 6 0x01E4),
      (s.holding .pmb0, Reply.errUnit .busy 0 unitPwr) ])

/-- The transaction of a THERM_PMBUS: READ_VOUT, VOUT_COMMAND or CLEAR_FAULTS first. -/
def pmbusTransaction (q : Cmd) : List Byte :=
  match q.u8 0 with
  | 0 => toLe 1 0x8B
  | 1 => toLe 1 0x21 ++ toLe 2 (q.u16 6)
  | _ => toLe 1 0x03

/-- THERM_PMBUS (R381): a new entry at once, else a transaction on PMB0. -/
def thermPmbusEffect (q : Cmd) (s : State) : Ans :=
  let i := q.u8 1
  if q.u8 0 = 2 then
    .done (.good (List.replicate 8 0)) (s.onThm fun t => { t with rails := upd i (fun _ => some { addr := q.u8 2, page := q.u8 3, rail := q.u8 4 }) t.rails })
  else match s.rail i with
    | none => .done (Reply.bad 1) s
    | some r =>
      let s := (hold q [.pmb0] false s).onThm fun t => { t with pmbus := some (q.id, q.u8 0, i, false) }
      .wait (pmbusWrite r (pmbusTransaction q) s)

/-- THERM_PMBUS (R381). -/
def execThermPmbus (q : Cmd) (s : State) : Host.Outcome State Fault Refusal := runCmd 0x0D05 thermPmbusCheck thermPmbusEffect q s

/-- The result of a THERM_PMBUS. -/
def railResult (s : State) (i : Nat) : List Byte :=
  let r := (s.rail i).getD {}
  toLe 2 r.vout ++ toLe 2 r.iout ++ toLeS 2 r.temp ++ toLe 2 r.status

/-- The transaction of a THERM_PMBUS ends (R381, R382): the answer is VOUT_MV, IOUT, TEMP and STATUS_WORD; one that fails is an upset
and is tried once more. -/
def pmbusDone (acked : Bool) (bytes : List Byte) (s : State) : State :=
  match s.thm.pmbus with
  | none => s
  | some (id, op, i, again) =>
    if acked then
      let s := s.onThm fun t => { t with pmbus := none }
      let s := if op = 3 then s.onRail i fun r => { r with reported := 0 } else s
      let s := railAnswer i { vout := rd bytes 0 2, iout := rd bytes 2 2, temp := rdS bytes 4 2, status := rd bytes 6 2 } s
      let mv := ((s.flying id).map fun e => e.cmd.u16 6).getD 0
      let s := if op = 1 && (s.rail i).any (·.rail == 0) then s.onThm fun t => { t with avsOff := true, vcore := 10 * mv } else s
      finish id (.good (railResult s i)) s
    else
      let s := pmbusUpset s
      if again then finish id (.errUnit .timeout 0 unitPwr) (railLost i (s.onThm fun t => { t with pmbus := none }))
      else match s.rail i, s.flying id with
        | some r, some e => pmbusWrite r (pmbusTransaction e.cmd) (s.onThm fun t => { t with pmbus := some (id, op, i, true) })
        | _, _ => s

/-- AVS_ADJUST (R382): every 1 ms VDD_CORE moves by at most 5 mV, within its window, towards the voltage that the ring-oscillator
monitors ask for, in 0.1 mV. It stands where its regulator cannot be reached. -/
def execAvsAdjust (dt target : Nat) (reached : Bool) (s : State) : Host.Outcome State Fault Refusal :=
  let s := advance dt s
  .next (
    if !s.awake || !s.hif.ready || s.thm.avsOff || !passed s s.thm.avsAt 1 1000 then s
    else match s.thm.rails.findIdx? fun r => r.any (·.rail == 0) with
      | none => s.onThm fun t => { t with avsAt := s.tb1 }
      | some i =>
        let s := s.onThm fun t => { t with avsAt := s.tb1 }
        if !reached then railLost i (pmbusUpset (pmbusUpset s))
        else
          let v := min 8000 (max 7200 target)
          let now := s.thm.vcore
          let new := if now < v then min v (now + 50) else max v (now - 50)
          let s := s.onRail i fun r => { r with unreachable := false }
          match s.rail i with
          | some r => if new = now then s else pmbusWrite r (toLe 1 0x21 ++ toLe 2 (new / 10)) (s.onThm fun t => { t with vcore := new })
          | none => s)

/-- THERM_BUDGET (R383): the rows as the device estimates them (log 8), their total, VDD_CORE and its current. -/
def thermBudgetEffect (q : Cmd) (s : State) : Ans :=
  let rows := (List.range 10).map fun i => Config.powerEstimate i s.free % 2 ^ 32
  let amps := ((s.thm.rails.filterMap id).find? (·.rail == 0)).map (·.iout / 10)
  .done (.withExt (toLe 4 (u32 rows.sum) ++ toLe 2 (s.thm.vcore / 10) ++ toLe 2 (amps.getD 0)) (q.u64 8) (rows.flatMap (toLe 4))) s.useFree

/-- THERM_BUDGET (R383). -/
def execThermBudget (q : Cmd) (s : State) : Host.Outcome State Fault Refusal := runCmd 0x0D06 thermAddrCheck thermBudgetEffect q s

/-! I2C transfers (12 R335, 17 R440, R381). -/

/-- An I2C or PMBus transfer ends: sensor writes first, then a record being read on the bus; bus 5 is PMB0. -/
def i2cDone (bus : Nat) (acked : Bool) (bytes : List Byte) (s : State) : State :=
  if bus = 5 then pmbusDone acked bytes s
  else if bus < 4 && (s.port bus).pend.any (fun p => !p.writes.isEmpty) then sensorDone bus acked s
  else match (s.board.discover.bind fun d => d.todo.find? fun p => p.1 == bus) with
    | some (path, slot) => placeDone path slot (if acked then some bytes else none) s
    | none => s

/-- I2C_TRANSFER_DONE. -/
def execI2cTransferDone (dt bus : Nat) (acked : Bool) (bytes : List Byte) (s : State) : Host.Outcome State Fault Refusal :=
  let s := advance dt s
  onUnit (decide (bus < 6)) (if s.awake then i2cDone bus acked bytes s else s)

end Sys2Proof.Machine
end

