-- ==== Sys2Proof/Machine/Trigger.lean ====
section
/-!
DEFINITION. Trigger units: arming and firing (spec/06_time_bases.md, R150, R151; spec/12_inspection_camera.md, R325,
R326).
-/
namespace Sys2Proof.Machine

/-- A unit fires (R150): conversions, then its actions, then its next T or its disarming (R151). A unit reserved by a
camera port in POSITION mode fires only where the port's target may be exposed. -/
def fireTrigger (u : Nat) (s : State) : State :=
  let t := s.tim.triggers.getD u {}
  let left := t.count - 1
  let done := t.count == 1
  let s := s.onTrigger u fun t =>
    let t := { t with fired := t.fired + 1, count := if t.count = 0 then 0 else left }
    if done || (t.period == 0 && t.mode == 1) then { t with mode := 0, running := false }
    else if t.period = 0 then { t with running := false }
    else { t with t := t.t + t.period }
  let (s, go) := match t.reserved with
    | some k => claimTarget k s
    | none => (s, true)
  if !go then s
  else
    let s := (List.range 4).foldl (fun s ch =>
      let c := s.chan ch
      if s.posRuns && c.mode == 2 && !c.retired && c.trigger == u then
        let s := if c.conv.isSome then converterTimeout ch s else s
        (s.onChan ch fun c => { c with conv := some s.tb3 }).emit (.pulse (.encCnv ch) 5)
      else s) s
    let s := if bit t.actions 0 then s.emit (.pulse (.gpio t.gpio) t.pulseW) else s
    let s := if bit t.actions 1 then makeExposure (t.camera % 4) (t.camera / 4 % 4) t.pulseW s else s
    let s := latchFrom 2 u s
    let s := if bit t.actions 2 && !((s.tim.captures.getD t.capture {}).source == 2 && (s.tim.captures.getD t.capture {}).index == u)
      then latchCapture t.capture s else s
    let s := settleCalibs s
    let s := if bit t.actions 3 then startTrigger t.next s else s
    if bit t.actions 4 then post evTriggerFired (0x0D10 + u) u (t.fired + 1) s else s

/-- Checks of TIME_TRIGGER (Table 6-9); reserved bits are held to 0 whatever the MODE (R7). -/
def timeTriggerCheck (q : Cmd) (s : State) : Option Reply :=
  let on := q.u8 1 != 0
  let acts := q.u16 4
  let past := bit acts 0 || bit acts 1
  firstFail (shape q 40 [(0, 3), (4, 24), (32, 8)] ++
    [ (decide (15 < q.u8 0), Reply.bad 0),
      (decide (2 < q.u8 1), Reply.bad 1),
      (on && decide (3 < q.u8 2), Reply.bad 2),
      (extraBits acts 31, Reply.bad 4),
      (on && decide (15 < q.u8 6), Reply.bad 6),
      (decide (15 < q.u8 7), Reply.bad 7),
      (on && decide (15 < q.u8 8), Reply.bad 8),
      (on && bit acts 3 && (decide (15 < q.u8 9) || q.u8 9 == q.u8 0), Reply.bad 9),
      (on && past && q.u16 10 == 0, Reply.bad 10),
      (q.u8 1 == 2 && decide (rdT q.params 16 < 0), Reply.bad 16),
      (on && q.u64 32 != 0 && decide (q.u64 32 < 28147498), Reply.bad 32),
      (s.isRetired (0x0D10 + q.u8 0), Reply.errUnit .retired 0 (0x0D10 + q.u8 0)),
      (on && s.isRetired (0x0D00 + q.u8 2), Reply.errUnit .retired 0 (0x0D00 + q.u8 2)),
      (on && bit acts 2 && s.isRetired (0x0D20 + q.u8 8), Reply.errUnit .retired 0 (0x0D20 + q.u8 8)),
      (on && bit acts 3 && s.isRetired (0x0D10 + q.u8 9), Reply.errUnit .retired 0 (0x0D10 + q.u8 9)),
      ((s.tim.triggers.getD (q.u8 0) {}).reserved.isSome, Reply.errUnit .busy 0 (0x0D10 + q.u8 0)) ])

/-- TIME_TRIGGER (R150, R151): the new arming replaces the old one at once; a T already passed fires at once, late. -/
def timeTriggerEffect (q : Cmd) (s : State) : Ans :=
  let u := q.u8 0
  let t := s.tim.triggers.getD u {}
  let s := if t.mode != 0 && (t.mode == 1 || t.running) && decide (t.t ≤ (s.tb t.tb).t48) then fireTrigger u s else s
  if q.u8 1 = 0 then .done .good (s.onTrigger u fun t => { t with mode := 0, running := false })
  else
    let time := rdT q.params 16 * 2 ^ 16
    let now := (s.tb (q.u8 2)).t48
    let late := q.u8 1 == 1 && decide (time < now)
    let s := s.onTrigger u fun t => { t with
      mode := q.u8 1, running := q.u8 1 == 1, tb := q.u8 2, actions := q.u16 4, gpio := q.u8 6, camera := q.u8 7
      capture := q.u8 8, next := q.u8 9, pulseW := q.u16 10, count := q.u32 12, fired := 0, t := time, delay := time
      period := q.u64 32, late }
    if late then
      let ns := (now - time) * 1000000000 / 2 ^ 48
      let s := bump (ctr 3 0 4) 1 s
      .done .good (fireTrigger u (postLimited evTriggerLate (0x0D10 + u) u (p32 ns) 1 1000 false s))
    else .done .good s

/-- TIME_TRIGGER (R150). -/
def execTimeTrigger (q : Cmd) (s : State) : Host.Outcome State Fault Refusal := runCmd 0x0906 timeTriggerCheck timeTriggerEffect q s

/-- TRIGGER_FIRE (R150): not before the unit's time base reads T. -/
def execTriggerFire (dt unit : Nat) (s : State) : Host.Outcome State Fault Refusal :=
  let s := advance dt s
  onUnit (decide (unit < 16)) (
    let t := s.tim.triggers.getD unit {}
    if s.posRuns && t.mode != 0 && (t.mode == 1 || t.running) && decide (t.t ≤ (s.tb t.tb).t48) then fireTrigger unit s else s)

end Sys2Proof.Machine
end

