-- ==== Sys2Proof/Machine/Commands.lean ====
section
/-!
DEFINITION. What every opcode of Table 3-19 checks and does, by its number, for the rows in which the device itself takes a command:
SLOT_FETCH, COMMAND_DATAGRAM, JOURNAL_WRITE_DONE, BOOT_READY, and SYS_CONFIG_LOAD (spec/03_command_interface.md, R70, R80).
-/
namespace Sys2Proof.Machine

/-- An opcode's checks and effect. -/
abbrev OpEntry := (Cmd → State → Option Reply) × (Cmd → State → Ans)

/-- Group 0x01 (Table 3-19). -/
def opGroup01 : List (Nat × OpEntry) :=
  [
    (0x0101, (noParams, sysIdentifyEffect)),
    (0x0102, (sysHelloCheck, sysHelloEffect)),
    (0x0103, (sysHealthCheck, sysHealthEffect)),
    (0x0104, (sysAbortCheck, sysAbortEffect)),
    (0x0105, (noParams, sysNopEffect)),
    (0x0106, (sysResetCheck, sysResetEffect)),
    (0x0107, (sysConfigSaveCheck, sysConfigSaveEffect)),
    (0x0109, (sysFwWriteCheck, sysFwWriteEffect)),
    (0x010A, (sysFwActivateCheck, sysFwActivateEffect)),
    (0x010B, (sysGpioCheck, sysGpioEffect)) ]

/-- Group 0x02 (Table 3-19). -/
def opGroup02 : List (Nat × OpEntry) :=
  [
    (0x0201, (noParams, secStatusEffect)),
    (0x0202, (secProtectReadCheck, secProtectReadEffect)),
    (0x0203, (secProtectWriteCheck, secProtectWriteEffect)),
    (0x0204, (secKeyLoadCheck, secKeyLoadEffect)),
    (0x0205, (secKeyRotateCheck, secKeyRotateEffect)),
    (0x0206, (secKeyRevokeCheck, secKeyRevokeEffect)),
    (0x0207, (secLifecycleCheck, secLifecycleEffect)),
    (0x0208, (secDebugCheck, secDebugEffect)),
    (0x0209, (secCounterReadCheck, secCounterReadEffect)) ]

/-- Group 0x03 (Table 3-19). -/
def opGroup03 : List (Nat × OpEntry) :=
  [
    (0x0301, (jobLoadCheck, jobLoadEffect)),
    (0x0302, (jobEncodeCheck, jobEncodeEffect)),
    (0x0303, (jobCancelCheck, jobCancelEffect)),
    (0x0304, (jobDeleteCheck, jobDeleteEffect)),
    (0x0305, (jobListCheck, jobListEffect)),
    (0x0306, (jobInfoCheck, jobInfoEffect)),
    (0x0307, (jobStoreStatusCheck, jobStoreStatusEffect)),
    (0x0308, (jobReadCheck, jobReadEffect)) ]

/-- Group 0x04 (Table 3-19). -/
def opGroup04 : List (Nat × OpEntry) :=
  [
    (0x0401, (layerConfigCheck, layerConfigEffect)),
    (0x0402, (layerFlipCheck, layerFlipEffect)),
    (0x0403, (layerFenceCheck, layerFenceEffect)),
    (0x0404, (layerPaletteCheck, layerPaletteEffect)),
    (0x0405, (layerToneCheck, layerToneEffect)),
    (0x0406, (layerOrderCheck, layerOrderEffect)),
    (0x0407, (layerGuardCheck, layerGuardEffect)),
    (0x0408, (layerStatusCheck, layerStatusEffect)) ]

/-- Group 0x05 (Table 3-19). -/
def opGroup05 : List (Nat × OpEntry) :=
  [
    (0x0501, (colourInkLimitCheck, colourInkLimitEffect)),
    (0x0502, (colourCurvesCheck, colourCurvesEffect)),
    (0x0503, (colourLoopConfigCheck, colourLoopConfigEffect)),
    (0x0504, (colourLoopEnableCheck, colourLoopEnableEffect)),
    (0x0505, (colourTrimReadCheck, colourTrimReadEffect)),
    (0x0506, (colourTrimWriteCheck, colourTrimWriteEffect)),
    (0x0507, (colourProfileSaveCheck, colourProfileSaveEffect)),
    (0x0508, (colourStripCheck, colourStripEffect)),
    (0x0509, (colourLedgerReadCheck, colourLedgerReadEffect)) ]

/-- Group 0x06 (Table 3-19). -/
def opGroup06 : List (Nat × OpEntry) :=
  [
    (0x0601, (barConfigCheck, barConfigEffect)),
    (0x0602, (barHeadMapCheck, barHeadMapEffect)),
    (0x0603, (barSegmentsCheck, barSegmentsEffect)),
    (0x0604, (barScreenCheck, barScreenEffect)),
    (0x0605, (barNozzleMapCheck, barNozzleMapEffect)),
    (0x0606, (barDeriveCheck, barDeriveEffect)),
    (0x0607, (barEnableCheck, barEnableEffect)),
    (0x0608, (barDisableCheck, barDisableEffect)),
    (0x0609, (barStatusCheck, barStatusEffect)) ]

/-- Group 0x07 (Table 3-19). -/
def opGroup07 : List (Nat × OpEntry) :=
  [
    (0x0701, (printStartCheck, printStartEffect)),
    (0x0702, (printStopCheck, printStopEffect)),
    (0x0703, (printCapoCheck, printCapoEffect)),
    (0x0704, (printLeadCheck, printLeadEffect)),
    (0x0705, (printOffsetsCheck, printOffsetsEffect)),
    (0x0706, (printStatusCheck, printStatusEffect)) ]

/-- Group 0x08 (Table 3-19). -/
def opGroup08 : List (Nat × OpEntry) :=
  [
    (0x0801, (posEncoderConfigCheck, posEncoderConfigEffect)),
    (0x0802, (posScaleCheck, posScaleEffect)),
    (0x0803, (posReadCheck, posReadEffect)),
    (0x0804, (posCompareCheck, posCompareEffect)),
    (0x0805, (posBackupCheck, posBackupEffect)),
    (0x0806, (posCalibrateCheck, posCalibrateEffect)) ]

/-- Group 0x09 (Table 3-19). -/
def opGroup09 : List (Nat × OpEntry) :=
  [
    (0x0901, (timeConfigCheck, timeConfigEffect)),
    (0x0902, (timeReadCheck, timeReadEffect)),
    (0x0903, (timeStepCheck, timeStepEffect)),
    (0x0904, (timePtpConfigCheck, timePtpConfigEffect)),
    (0x0905, (timeAsymmetryCheck, timeAsymmetryEffect)),
    (0x0906, (timeTriggerCheck, timeTriggerEffect)),
    (0x0907, (timeCaptureCheck, timeCaptureEffect)),
    (0x0908, (timeStatusCheck, timeStatusEffect)) ]

/-- Group 0x0A (Table 3-19). -/
def opGroup10 : List (Nat × OpEntry) :=
  [
    (0x0A01, (camConfigCheck, camConfigEffect)),
    (0x0A02, (camPipelineCheck, camPipelineEffect)),
    (0x0A03, (camEnableCheck, camEnableEffect)),
    (0x0A04, (camCalibrateCheck, camCalibrateEffect)),
    (0x0A05, (camFrameReadCheck, camFrameReadEffect)),
    (0x0A06, (camArchiveCheck, camArchiveEffect)),
    (0x0A07, (camStatusCheck, camStatusEffect)) ]

/-- Group 0x0B (Table 3-19). -/
def opGroup11 : List (Nat × OpEntry) :=
  [
    (0x0B01, (linkCourseConfigCheck, linkCourseConfigEffect)),
    (0x0B02, (linkTrainCheck, linkTrainEffect)),
    (0x0B03, (linkLaneSlipCheck, linkLaneSlipEffect)),
    (0x0B04, (linkPrbsCheck, linkPrbsEffect)),
    (0x0B05, (linkInjectCheck, linkInjectEffect)),
    (0x0B06, (linkQueueFlushCheck, linkQueueFlushEffect)),
    (0x0B07, (linkStatusCheck, linkStatusEffect)),
    (0x0B08, (linkEthConfigCheck, linkEthConfigEffect)),
    (0x0B09, (linkMarksCheck, linkMarksEffect)) ]

/-- Group 0x0C (Table 3-19). -/
def opGroup12 : List (Nat × OpEntry) :=
  [
    (0x0C01, (headDiscoverCheck, headDiscoverEffect)),
    (0x0C02, (headMirReadCheck, headMirReadEffect)),
    (0x0C03, (headGateTestCheck, headGateTestEffect)),
    (0x0C04, (headEnableCheck, headEnableEffect)),
    (0x0C05, (headDisableCheck, headDisableEffect)),
    (0x0C06, (headStatusCheck, headStatusEffect)),
    (0x0C07, (headBridgeMgmtCheck, headBridgeMgmtEffect)) ]

/-- Group 0x0D (Table 3-19). -/
def opGroup13 : List (Nat × OpEntry) :=
  [
    (0x0D01, (thermLevelsCheck, thermLevelsEffect)),
    (0x0D02, (thermAddrCheck, thermReadEffect)),
    (0x0D03, (thermSensorTrimCheck, thermSensorTrimEffect)),
    (0x0D04, (thermPowerStateCheck, thermPowerStateEffect)),
    (0x0D05, (thermPmbusCheck, thermPmbusEffect)),
    (0x0D06, (thermAddrCheck, thermBudgetEffect)) ]

/-- Group 0x0E (Table 3-19). -/
def opGroup14 : List (Nat × OpEntry) :=
  [
    (0x0E01, (pairConfigCheck, pairConfigEffect)),
    (0x0E02, (pairReadCheck, pairHealthEffect)),
    (0x0E03, (pairHandoverCheck, pairHandoverEffect)),
    (0x0E04, (pairMirrorCheck, pairMirrorEffect)),
    (0x0E05, (pairReadCheck, pairStatusEffect)),
    (0x0E06, (pairRejoinCheck, pairRejoinEffect)) ]

/-- Group 0x0F (Table 3-19). -/
def opGroup15 : List (Nat × OpEntry) :=
  [
    (0x0F01, (statFrameRecordCheck, statFrameRecordEffect)),
    (0x0F02, (statCountersCheck, statCountersEffect)),
    (0x0F03, (statClearCheck, statClearEffect)),
    (0x0F04, (statEventMaskCheck, statEventMaskEffect)),
    (0x0F05, (statEventFetchCheck, statEventFetchEffect)),
    (0x0F06, (statPeaksCheck, statPeaksEffect)) ]

/-- Group 0x10 (Table 3-19). -/
def opGroup16 : List (Nat × OpEntry) :=
  [
    (0x1001, (diagSelfTestCheck, diagSelfTestEffect)),
    (0x1002, (diagUnitRestoreCheck, diagUnitRestoreEffect)),
    (0x1003, (diagUnitRetireCheck, diagUnitRetireEffect)),
    (0x1004, (diagMemTestCheck, diagMemTestEffect)),
    (0x1005, (diagRegReadCheck, diagRegReadEffect)),
    (0x1006, (diagInjectCheck, diagInjectEffect)),
    (0x1007, (diagTraceCheck, diagTraceEffect)) ]

/-- An opcode that is not in the list is refused at check 8 before it gets here (R70). -/
def noOp : OpEntry := (fun _ _ => some (.err .badOpcode), fun _ s => .done (.err .badOpcode) s)

/-- Every opcode but SYS_CONFIG_LOAD. -/
def opList : List (Nat × OpEntry) :=
  opGroup01 ++ opGroup02 ++ opGroup03 ++ opGroup04 ++ opGroup05 ++ opGroup06 ++ opGroup07 ++ opGroup08
    ++ opGroup09 ++ opGroup10 ++ opGroup11 ++ opGroup12 ++ opGroup13 ++ opGroup14 ++ opGroup15 ++ opGroup16

/-- The table that a replay uses: a saved configuration holds no SYS_CONFIG_LOAD (Table 17-4). -/
def replayTable : OpTable := fun op => (getKey op opList).getD noOp

/-- The whole table. -/
def opTable : OpTable := fun op => if op = 0x0108 then (sysConfigLoadCheck, sysConfigLoadEffect replayTable) else replayTable op

/-- SYS_CONFIG_LOAD (17 R435). -/
def execSysConfigLoad (q : Cmd) (s : State) : Host.Outcome State Fault Refusal :=
  runCmd 0x0108 sysConfigLoadCheck (sysConfigLoadEffect replayTable) q s

/-- BOOT_READY (17 R430, R435, R437): the boot's last step. -/
def execBootReady (dt : Nat) (s : State) : Host.Outcome State Fault Refusal := .next (bootReady replayTable (advance dt s))

/-- SLOT_FETCH (R54, R70): the slot at SQ_HEAD, with its parameter block and what its descriptors name, as read from host memory. -/
def execSlotFetch (dt ring : Nat) (slot pblk : List Byte) (descs : List Desc) (data : List Byte) (pcieError : Bool) (s : State) :
    Host.Outcome State Fault Refusal :=
  onUnit (decide (ring < 8) && slot.length == 128) (fetchSlot opTable ring slot pblk descs data pcieError (advance dt s))

/-- COMMAND_DATAGRAM (R75 to R78): a UDP datagram to another address or UDP port than the command port's is dropped and counted. -/
def execCommandDatagram (dt port : Nat) (from_ : EthFrom) (vlan : Option Nat) (address udpPort : Nat) (bytes : List Byte) (s : State) :
    Host.Outcome State Fault Refusal :=
  let s := advance dt s
  let p := s.hif.eth.getD port {}
  onUnit (decide (port < 2))
    (if !ethAccepts port vlan s then s
     else if address = p.ip ∧ udpPort = p.udp then takeDatagram opTable port from_ bytes s
     else dropDatagram port s)

/-! JOURNAL_WRITE_DONE: the oldest journal write has ended (04 R94, 13 R363). -/

/-- A counter's reservation is in the journal: L becomes the counter it was made for, and the held slot goes on (04 R94), unless
it has been cancelled meanwhile (DESIGN CHOICE, log 107). -/
def counterWritten (ring role mark : Nat) (held : Bool) (s : State) : State :=
  let s := s.onCounter ring role fun k => { k with
    mark, pending := false, last := if held then max k.last (mark - 65536) else k.last }
  match held, (s.ring ring).held with
  | true, some h =>
    let s := post evCounterHeld unitCtl ring (u32 (tUs (s.tb1 - h.since)).toNat) s
    proceed h.opcode (opTable h.opcode).1 (opTable h.opcode).2 h.pre h.cmd (s.onRing ring fun r => { r with held := none })
  | _, _ => s

/-- A profile is in the journal (13 R363). -/
def profileWritten (cmd : CmdId) (s : State) : State :=
  let s := s.onClr fun k => { k with saves := k.saves + 1 }
  finish cmd (.good (toLe 4 s.clr.saves)) (post evProfileSaved unitCtl s.clr.saves 0 s)

/-- The oldest journal write ends. -/
def journalWritten (s : State) : State :=
  match s.nor.queue with
  | [] => s
  | j :: rest =>
    let s := s.onNor fun n => { n.take j with queue := rest }
    match j with
    | .counter ring role mark held => counterWritten ring role mark held s
    | .profile _ cmd => profileWritten cmd s
    | _ => s

/-- JOURNAL_WRITE_DONE (04 R94). -/
def execJournalWriteDone (dt : Nat) (s : State) : Host.Outcome State Fault Refusal := .next (journalWritten (advance dt s))

end Sys2Proof.Machine
end

