-- ==== Sys2Proof/Machine/Records.lean ====
section
/-!
DEFINITION. The baseline and the configuration records at a standby (spec/15_redundancy_and_upgrade.md, R394 to R396).
-/
namespace Sys2Proof.Machine

/-! The baseline (R394 step 2). Commands of the active mean nothing here: what waits for one waits for nobody. -/

/-- A layer of the active. -/
def anonLayer (l : Layer) : Layer :=
  { l with pend := l.pend.map fun p => (p.1, nobody), merged := [], flips := l.flips.map fun f => { f with cmd := nobody } }

/-- LAYER and COLOUR state of the active; the ring is this device's own, and stands empty. -/
def anonCompose (c : Compose) : Compose :=
  { c with layers := c.layers.map anonLayer, pendOrder := c.pendOrder.map fun p => (p.1, []), pendLimit := c.pendLimit.map fun p => (p.1, [])
           pendCurves := c.pendCurves.map fun p => (p.1, []), ring := [], band := none, waited := none }

/-- A bar of the active: the engine that serves it is this device's own. -/
def anonBar (own b : Bar) : Bar :=
  { b with engine := own.engine, pendCmds := [], disabling := b.disabling.map fun d => ([], d.2), headOff := b.headOff.map fun h => (h.1, none)
           headOn := b.headOn.map fun h => (h.1, nobody), alignTo := b.alignTo.map fun a => (a.1, a.2.1, []), fronts := [], catchLead := none, swapping := none }

/-- A run of the active: its heads join by the checkpoints. -/
def anonRun (r : Run) : Run := { r with heads := [], stop := r.stop.map fun t => { t with cmds := [] } }

/-- An encoder channel takes its configuration and scale; its counts are its own. -/
def takeChannel (own c : Channel) (now : Int) : Channel :=
  let started : Channel :=
    { k := own.k, k0 := own.k0, q0 := own.q0, scale := c.scale, a := own.a, b := own.b, z := own.z, furthest := own.k, tally := own.k, moves := [(own.k, now)]
      retired := own.retired, illegal := own.illegal, signal := own.signal, indexErr := own.indexErr, diverged := own.diverged, unreferenced := own.unreferenced }
  { started with
    mode := c.mode, invert := c.invert, zLow := c.zLow, offsetBinary := c.offsetBinary, filter := c.filter, trigger := c.trigger, aperture := c.aperture
    indexPeriod := c.indexPeriod, convNs := c.convNs, sckDiv := c.sckDiv, sinOff := c.sinOff, cosOff := c.cosOff, sinGain := c.sinGain, cosGain := c.cosGain
    ampMin := c.ampMin, ampMax := c.ampMax, window := c.window, stallMs := c.stallMs, revHyst := c.revHyst }

/-- The fields of a course that are mirrored (Table 15-7), and whether it is enabled. -/
def takeCourseCfg (own c : CourseCfg) : CourseCfg :=
  { own with version := c.version, rate := c.rate, enable := c.enable, timeInterval := c.timeInterval, ackTimeout := c.ackTimeout, bridgeUid := c.bridgeUid }

/-- Marks of a course: levels and hysteresis. -/
def takeMark (own m : QMark) : QMark := { own with level := m.level, hyst := m.hyst, armed := true }

/-- The standby trains every course that the active has enabled, with NO_CLAIM (R394 step 5). -/
def trainFollowing (s : State) : State :=
  (List.range 10).foldl (fun s l =>
    let c := s.course l
    if c.cfg.enable && !c.up && c.train.isNone then trainLook l (startTrain l none true s) else s) s

/-- The colour loop of the active: its configuration, profile, state and strip; the ledger is reserved and stands empty. -/
def takeColour (cfg : LoopCfg) (bands : Option Nat) (profile : Option Profile) (st : LoopState) (strip : Option Strip) (s : State) : State :=
  let s := s.onClr fun k => { k with cfg, ledgerBands := bands, ledger := [], profile, st, strip }
  checkLow (s.onStore fun t => { t with ledger := (bands.map ledgerPages).getD 0 })

/-- A part of the baseline is applied. -/
def takePart (part : BaselinePart) (s : State) : State :=
  match part with
  | .compose c => s.onCps fun _ => anonCompose c
  | .colour cfg bands profile st strip => takeColour cfg bands profile st strip s
  | .bars b =>
    let bar (i : Nat) (x : Bar) : Bar := anonBar (s.bar i) x
    let ctx (i : Nat) (x : HeadCtx) : HeadCtx := { x with retired := (s.ctx i).retired }
    s.onBars fun _ => { bars := b.bars.mapIdx bar, ctxs := b.ctxs.mapIdx ctx, catchUp := none }
  | .print lead nextRun run capos =>
    let s := s.onFire fun f => { f with lead, leadTo := none, nextRun, run := run.map anonRun, capos }
    (List.range 10).foldl (fun s b => if (s.bar b).enabled then joinRun b (s.bar b).firstLine s else s) s
  | .pos channels web backup =>
    let own (i : Nat) (c : Channel) : Channel := takeChannel (s.chan i) c s.tb1
    s.onPos fun p => { p with ch := channels.mapIdx own, web, backup }
  | .courses cfgs marks =>
    let own (i : Nat) (c : Course) : Course :=
      if i < 10 then { c with cfg := takeCourseCfg c.cfg (cfgs.getD i {}), marks := (c.marks.zip (marks.getD i [])).map fun m => takeMark m.1 m.2 } else c
    trainFollowing (s.onLinks fun l => { l with courses := l.courses.mapIdx own })
  | .last _ _ => s

/-! Records (R395, R396). -/

/-- Parameters as the record gives them: a PRINT_START starts at the capo position that the active resolved. -/
def resolvedParams (op : Nat) (params : List Byte) (capo : Int) : List Byte :=
  if op = 0x0701 then params.take 2 ++ toLe 1 (rd params 2 1 / 2 * 2) ++ slice params 3 5 ++ toLeS 8 capo ++ params.drop 16 else params

/-- What waits for a boundary of the run takes effect: the active's has passed. -/
def settleRecords (s : State) : State :=
  let s := settleSlews ((List.range 10).foldl (fun s b => barBoundary b s) s)
  (List.range 4).foldl (fun s ch => if (s.chan ch).pend.any (·.boundary) then applyScale ch s else s) s

/-- A PRINT_STOP that has completed on the active: its run is over (log 12). -/
def endCopied (seq : Nat) (s : State) : State :=
  let s := if s.fire.run.isSome then runEnd 1 s else s
  pairSend .ctrl 0x4A (toLe 4 seq ++ toLe 1 0) (s.onPair fun p => { p with lastRecord := seq })

/-- A command is applied by the arithmetic of its chapter, without the role and authentication checks, and acknowledged with the
status it obtains. -/
def applyCommand (seq cmdSeq opcode : Nat) (params pblk : List Byte) (runId : Nat) (capo : Int) (firstLine : Nat) (status : Status) (s : State) : State :=
  if opcode = 0x0702 then endCopied seq s
  else
    let q : Cmd := { ring := ringRecord, tag := seq % 65536, seq := cmdSeq, params := resolvedParams opcode params capo, pblk }
    let s := if opcode = 0x0701 then s.onFire fun f => { f with nextRun := runId } else s
    let s := s.onHif fun h => { h with inflight := h.inflight ++ [{ cmd := q, opcode, note := seq, expect := status }] }
    let s := carryOut opcode (opTable opcode).1 (opTable opcode).2 q s
    let b := q.u8 0
    let s := if opcode = 0x0607 && (s.bar b).enabled then joinRun b firstLine (s.onBar b fun x => { x with firstLine }) else s
    settleRecords s

/-- A resulting state is taken over. -/
def applyState (body : RecordBody) (s : State) : State :=
  match body with
  | .trims b trims gen => setImage b { (s.bar b).act with trims, gen } s
  | .scale ch scale => s.onChan ch (Channel.rebase scale)
  | .nozzles b entries =>
    let kept (n : NozzleEntry) : Bool := !(entries.any fun e => e.head == n.head && e.row == n.row && e.nozzle == n.nozzle)
    s.onBar b fun x => { x with act := { x.act with nozzles := x.act.nozzles.filter kept ++ entries } }
  | .halt ctx line => s.onCtx ctx fun x => { x with halted := some line, haltAt := none }
  | .web ch => s.onPos fun p => { p with web := some ch, backup := none, failover := none }
  | _ => s

/-- A record is applied in its order, and acknowledged (R396). -/
def applyRecord (seq ring tag cmdSeq : Nat) (body : RecordBody) (status : Status) (s : State) : State :=
  let s := s.onPair fun p => { p with lastRing := ring, lastTag := tag, lastSeq := cmdSeq }
  match body with
  | .command opcode params pblk runId capo firstLine => applyCommand seq cmdSeq opcode params pblk runId capo firstLine status s
  | _ => pairSend .ctrl 0x4A (toLe 4 seq ++ toLe 1 0) ((applyState body s).onPair fun p => { p with lastRecord := seq })

/-- What came before the baseline was complete, in its order (R394 step 3). -/
def applyEarly (s : State) (e : EarlyRecord) : State :=
  match e with
  | .record seq ring tag cmdSeq body status => applyRecord seq ring tag cmdSeq body status s
  | .frame note => takeFrame note s

/-- The baseline is complete: where its CRC is wrong it is asked for again by a new HELLO. -/
def endBaseline (recordSeq : Nat) (crcOk : Bool) (s : State) : State :=
  if !crcOk then sendPairHello (restartJoin s)
  else
    let early := s.pair.early
    let s := s.onPair fun p => { p with lastRecord := recordSeq, joinStep := 3, early := [] }
    checkJoin (early.foldl applyEarly s)

/-- BASELINE_RECEIVE (R394). -/
def execBaselineReceive (dt : Nat) (part : BaselinePart) (s : State) : Host.Outcome State Fault Refusal :=
  let s := advance dt s
  .next (if s.pair.st != .joining then s
    else match part with
      | .last recordSeq crcOk => endBaseline recordSeq crcOk s
      | _ => takePart part s)

/-- RECORD_RECEIVE (R396). -/
def execRecordReceive (dt seq ring tag cmdSeq : Nat) (body : RecordBody) (status : Status) (s : State) : Host.Outcome State Fault Refusal :=
  let s := heardPair (advance dt s)
  .next (if !s.copies then s
    else if s.pair.st == .joining && decide (s.pair.joinStep < 3) then
      s.onPair fun p => { p with early := p.early ++ [.record seq ring tag cmdSeq body status] }
    else applyRecord seq ring tag cmdSeq body status s)

end Sys2Proof.Machine
end

