-- ==== Sys2Proof/Machine/Dispatch.lean ====
section
/-!
DEFINITION. One arm per row of the opcode table: a direct call of its meaning.
-/
namespace Sys2Proof.Machine

/-- The effect of a command, or of an event, on everything but the queue. -/
def exec (i : Instr) (s : State) : Host.Outcome State Fault Refusal :=
  match i with
  | .sysIdentify q => Sys2Proof.Machine.execSysIdentify q s
  | .sysHello q => Sys2Proof.Machine.execSysHello q s
  | .sysHealth q => Sys2Proof.Machine.execSysHealth q s
  | .sysAbort q => Sys2Proof.Machine.execSysAbort q s
  | .sysNop q => Sys2Proof.Machine.execSysNop q s
  | .sysReset q => Sys2Proof.Machine.execSysReset q s
  | .sysConfigSave q => Sys2Proof.Machine.execSysConfigSave q s
  | .sysConfigLoad q => Sys2Proof.Machine.execSysConfigLoad q s
  | .sysFwWrite q => Sys2Proof.Machine.execSysFwWrite q s
  | .sysFwActivate q => Sys2Proof.Machine.execSysFwActivate q s
  | .sysGpio q => Sys2Proof.Machine.execSysGpio q s
  | .secStatus q => Sys2Proof.Machine.execSecStatus q s
  | .secProtectRead q => Sys2Proof.Machine.execSecProtectRead q s
  | .secProtectWrite q => Sys2Proof.Machine.execSecProtectWrite q s
  | .secKeyLoad q => Sys2Proof.Machine.execSecKeyLoad q s
  | .secKeyRotate q => Sys2Proof.Machine.execSecKeyRotate q s
  | .secKeyRevoke q => Sys2Proof.Machine.execSecKeyRevoke q s
  | .secLifecycle q => Sys2Proof.Machine.execSecLifecycle q s
  | .secDebug q => Sys2Proof.Machine.execSecDebug q s
  | .secCounterRead q => Sys2Proof.Machine.execSecCounterRead q s
  | .jobLoad q => Sys2Proof.Machine.execJobLoad q s
  | .jobEncode q => Sys2Proof.Machine.execJobEncode q s
  | .jobCancel q => Sys2Proof.Machine.execJobCancel q s
  | .jobDelete q => Sys2Proof.Machine.execJobDelete q s
  | .jobList q => Sys2Proof.Machine.execJobList q s
  | .jobInfo q => Sys2Proof.Machine.execJobInfo q s
  | .jobStoreStatus q => Sys2Proof.Machine.execJobStoreStatus q s
  | .jobRead q => Sys2Proof.Machine.execJobRead q s
  | .jobTransferDone dt ring tag glitches mismatch lost => Sys2Proof.Machine.execJobTransferDone dt ring tag glitches mismatch lost s
  | .layerConfig q => Sys2Proof.Machine.execLayerConfig q s
  | .layerFlip q => Sys2Proof.Machine.execLayerFlip q s
  | .layerFence q => Sys2Proof.Machine.execLayerFence q s
  | .layerPalette q => Sys2Proof.Machine.execLayerPalette q s
  | .layerTone q => Sys2Proof.Machine.execLayerTone q s
  | .layerOrder q => Sys2Proof.Machine.execLayerOrder q s
  | .layerGuard q => Sys2Proof.Machine.execLayerGuard q s
  | .layerStatus q => Sys2Proof.Machine.execLayerStatus q s
  | .colourInkLimit q => Sys2Proof.Machine.execColourInkLimit q s
  | .colourCurves q => Sys2Proof.Machine.execColourCurves q s
  | .colourLoopConfig q => Sys2Proof.Machine.execColourLoopConfig q s
  | .colourLoopEnable q => Sys2Proof.Machine.execColourLoopEnable q s
  | .colourTrimRead q => Sys2Proof.Machine.execColourTrimRead q s
  | .colourTrimWrite q => Sys2Proof.Machine.execColourTrimWrite q s
  | .colourProfileSave q => Sys2Proof.Machine.execColourProfileSave q s
  | .colourStrip q => Sys2Proof.Machine.execColourStrip q s
  | .colourLedgerRead q => Sys2Proof.Machine.execColourLedgerRead q s
  | .barConfig q => Sys2Proof.Machine.execBarConfig q s
  | .barHeadMap q => Sys2Proof.Machine.execBarHeadMap q s
  | .barSegments q => Sys2Proof.Machine.execBarSegments q s
  | .barScreen q => Sys2Proof.Machine.execBarScreen q s
  | .barNozzleMap q => Sys2Proof.Machine.execBarNozzleMap q s
  | .barDerive q => Sys2Proof.Machine.execBarDerive q s
  | .barEnable q => Sys2Proof.Machine.execBarEnable q s
  | .barDisable q => Sys2Proof.Machine.execBarDisable q s
  | .barStatus q => Sys2Proof.Machine.execBarStatus q s
  | .printStart q => Sys2Proof.Machine.execPrintStart q s
  | .printStop q => Sys2Proof.Machine.execPrintStop q s
  | .printCapo q => Sys2Proof.Machine.execPrintCapo q s
  | .printLead q => Sys2Proof.Machine.execPrintLead q s
  | .printOffsets q => Sys2Proof.Machine.execPrintOffsets q s
  | .printStatus q => Sys2Proof.Machine.execPrintStatus q s
  | .posEncoderConfig q => Sys2Proof.Machine.execPosEncoderConfig q s
  | .posScale q => Sys2Proof.Machine.execPosScale q s
  | .posRead q => Sys2Proof.Machine.execPosRead q s
  | .posCompare q => Sys2Proof.Machine.execPosCompare q s
  | .posBackup q => Sys2Proof.Machine.execPosBackup q s
  | .posCalibrate q => Sys2Proof.Machine.execPosCalibrate q s
  | .timeConfig q => Sys2Proof.Machine.execTimeConfig q s
  | .timeRead q => Sys2Proof.Machine.execTimeRead q s
  | .timeStep q => Sys2Proof.Machine.execTimeStep q s
  | .timePtpConfig q => Sys2Proof.Machine.execTimePtpConfig q s
  | .timeAsymmetry q => Sys2Proof.Machine.execTimeAsymmetry q s
  | .timeTrigger q => Sys2Proof.Machine.execTimeTrigger q s
  | .timeCapture q => Sys2Proof.Machine.execTimeCapture q s
  | .timeStatus q => Sys2Proof.Machine.execTimeStatus q s
  | .camConfig q => Sys2Proof.Machine.execCamConfig q s
  | .camPipeline q => Sys2Proof.Machine.execCamPipeline q s
  | .camEnable q => Sys2Proof.Machine.execCamEnable q s
  | .camCalibrate q => Sys2Proof.Machine.execCamCalibrate q s
  | .camFrameRead q => Sys2Proof.Machine.execCamFrameRead q s
  | .camArchive q => Sys2Proof.Machine.execCamArchive q s
  | .camStatus q => Sys2Proof.Machine.execCamStatus q s
  | .linkCourseConfig q => Sys2Proof.Machine.execLinkCourseConfig q s
  | .linkTrain q => Sys2Proof.Machine.execLinkTrain q s
  | .linkLaneSlip q => Sys2Proof.Machine.execLinkLaneSlip q s
  | .linkPrbs q => Sys2Proof.Machine.execLinkPrbs q s
  | .linkInject q => Sys2Proof.Machine.execLinkInject q s
  | .linkQueueFlush q => Sys2Proof.Machine.execLinkQueueFlush q s
  | .linkStatus q => Sys2Proof.Machine.execLinkStatus q s
  | .linkEthConfig q => Sys2Proof.Machine.execLinkEthConfig q s
  | .ethPortRetrained dt port linkUp => Sys2Proof.Machine.execEthPortRetrained dt port linkUp s
  | .linkMarks q => Sys2Proof.Machine.execLinkMarks q s
  | .headDiscover q => Sys2Proof.Machine.execHeadDiscover q s
  | .headMirRead q => Sys2Proof.Machine.execHeadMirRead q s
  | .headGateTest q => Sys2Proof.Machine.execHeadGateTest q s
  | .headEnable q => Sys2Proof.Machine.execHeadEnable q s
  | .headDisable q => Sys2Proof.Machine.execHeadDisable q s
  | .headStatus q => Sys2Proof.Machine.execHeadStatus q s
  | .headBridgeMgmt q => Sys2Proof.Machine.execHeadBridgeMgmt q s
  | .thermLevels q => Sys2Proof.Machine.execThermLevels q s
  | .thermRead q => Sys2Proof.Machine.execThermRead q s
  | .thermSensorTrim q => Sys2Proof.Machine.execThermSensorTrim q s
  | .thermPowerState q => Sys2Proof.Machine.execThermPowerState q s
  | .thermPmbus q => Sys2Proof.Machine.execThermPmbus q s
  | .thermBudget q => Sys2Proof.Machine.execThermBudget q s
  | .pairConfig q => Sys2Proof.Machine.execPairConfig q s
  | .pairHealth q => Sys2Proof.Machine.execPairHealth q s
  | .pairHandover q => Sys2Proof.Machine.execPairHandover q s
  | .pairMirror q => Sys2Proof.Machine.execPairMirror q s
  | .pairStatus q => Sys2Proof.Machine.execPairStatus q s
  | .pairRejoin q => Sys2Proof.Machine.execPairRejoin q s
  | .statFrameRecord q => Sys2Proof.Machine.execStatFrameRecord q s
  | .statCounters q => Sys2Proof.Machine.execStatCounters q s
  | .statClear q => Sys2Proof.Machine.execStatClear q s
  | .statEventMask q => Sys2Proof.Machine.execStatEventMask q s
  | .statEventFetch q => Sys2Proof.Machine.execStatEventFetch q s
  | .statPeaks q => Sys2Proof.Machine.execStatPeaks q s
  | .diagSelfTest q => Sys2Proof.Machine.execDiagSelfTest q s
  | .diagUnitRestore q => Sys2Proof.Machine.execDiagUnitRestore q s
  | .diagUnitRetire q => Sys2Proof.Machine.execDiagUnitRetire q s
  | .diagMemTest q => Sys2Proof.Machine.execDiagMemTest q s
  | .diagRegRead q => Sys2Proof.Machine.execDiagRegRead q s
  | .diagInject q => Sys2Proof.Machine.execDiagInject q s
  | .diagTrace q => Sys2Proof.Machine.execDiagTrace q s
  | .sqDb dt ring value => Sys2Proof.Machine.execSqDb dt ring value s
  | .cqDb dt ring value => Sys2Proof.Machine.execCqDb dt ring value s
  | .evqDb dt value => Sys2Proof.Machine.execEvqDb dt value s
  | .ringEnableSet dt ring => Sys2Proof.Machine.execRingEnableSet dt ring s
  | .ringEnableClear dt ring => Sys2Proof.Machine.execRingEnableClear dt ring s
  | .ringReset dt ring => Sys2Proof.Machine.execRingReset dt ring s
  | .evqEnableSet dt => Sys2Proof.Machine.execEvqEnableSet dt s
  | .evqEnableClear dt => Sys2Proof.Machine.execEvqEnableClear dt s
  | .bar2WindowRead dt offset len uncorrectable => Sys2Proof.Machine.execBar2WindowRead dt offset len uncorrectable s
  | .bar2WindowWrite dt offset bytes => Sys2Proof.Machine.execBar2WindowWrite dt offset bytes s
  | .registerWrite dt offset size value => Sys2Proof.Machine.execRegisterWrite dt offset size value s
  | .slotFetch dt ring slot pblk descs data pcieError => Sys2Proof.Machine.execSlotFetch dt ring slot pblk descs data pcieError s
  | .journalWriteDone dt => Sys2Proof.Machine.execJournalWriteDone dt s
  | .completionCoalesceTimeout dt ring => Sys2Proof.Machine.execCompletionCoalesceTimeout dt ring s
  | .eventCoalesceTimeout dt vector => Sys2Proof.Machine.execEventCoalesceTimeout dt vector s
  | .commandDatagram dt port from_ vlan address udpPort bytes => Sys2Proof.Machine.execCommandDatagram dt port from_ vlan address udpPort bytes s
  | .arpRequest dt port vlan mac ip target => Sys2Proof.Machine.execArpRequest dt port vlan mac ip target s
  | .icmpEchoRequest dt port vlan ip target protocol type bytes => Sys2Proof.Machine.execIcmpEchoRequest dt port vlan ip target protocol type bytes s
  | .ptpMessage dt port via domainNumber msg => Sys2Proof.Machine.execPtpMessage dt port via domainNumber msg s
  | .pathHoldExpiry dt port => Sys2Proof.Machine.execPathHoldExpiry dt port s
  | .announceTimeout dt port => Sys2Proof.Machine.execAnnounceTimeout dt port s
  | .holdoverWarn dt domain => Sys2Proof.Machine.execHoldoverWarn dt domain s
  | .ptpMasterSend dt port announce => Sys2Proof.Machine.execPtpMasterSend dt port announce s
  | .ptpDelayRequest dt port => Sys2Proof.Machine.execPtpDelayRequest dt port s
  | .tb3RateStep dt => Sys2Proof.Machine.execTb3RateStep dt s
  | .tbfReload dt domain => Sys2Proof.Machine.execTbfReload dt domain s
  | .triggerFire dt unit => Sys2Proof.Machine.execTriggerFire dt unit s
  | .conversionComplete dt ch sinRaw cosRaw => Sys2Proof.Machine.execConversionComplete dt ch sinRaw cosRaw s
  | .captureInputEdge dt gpio rising => Sys2Proof.Machine.execCaptureInputEdge dt gpio rising s
  | .encoderEdge dt ch a b z held => Sys2Proof.Machine.execEncoderEdge dt ch a b z held s
  | .compareCatchUpFire dt unit => Sys2Proof.Machine.execCompareCatchUpFire dt unit s
  | .encoderStall dt ch => Sys2Proof.Machine.execEncoderStall dt ch s
  | .backupOffsetRefresh dt => Sys2Proof.Machine.execBackupOffsetRefresh dt s
  | .webEstimateUpdate dt => Sys2Proof.Machine.execWebEstimateUpdate dt s
  | .lineTick dt => Sys2Proof.Machine.execLineTick dt s
  | .readinessPoint dt => Sys2Proof.Machine.execReadinessPoint dt s
  | .sendDeadline dt bar head => Sys2Proof.Machine.execSendDeadline dt bar head s
  | .stampFormation dt bar head row => Sys2Proof.Machine.execStampFormation dt bar head row s
  | .runEnd dt => Sys2Proof.Machine.execRunEnd dt s
  | .printInhibitAssert dt => Sys2Proof.Machine.execPrintInhibitAssert dt s
  | .printInhibitRelease dt => Sys2Proof.Machine.execPrintInhibitRelease dt s
  | .renderHeadLine dt bar clocks => Sys2Proof.Machine.execRenderHeadLine dt bar clocks s
  | .composeContoneLine dt => Sys2Proof.Machine.execComposeContoneLine dt s
  | .blockDecode dt pipe job obj block poisoned glitch => Sys2Proof.Machine.execBlockDecode dt pipe job obj block poisoned glitch s
  | .memoryReadComplete dt line owner ecc => Sys2Proof.Machine.execMemoryReadComplete dt line owner ecc s
  | .patrolScrubRead dt owner ecc => Sys2Proof.Machine.execPatrolScrubRead dt owner ecc s
  | .unitRetirement dt unit => Sys2Proof.Machine.execUnitRetirement dt unit s
  | .pageMigrationDone dt page => Sys2Proof.Machine.execPageMigrationDone dt page s
  | .packetReceive dt lane start bytes crc whole => Sys2Proof.Machine.execPacketReceive dt lane start bytes crc whole s
  | .ackReceive dt lane cls seq crc => Sys2Proof.Machine.execAckReceive dt lane cls seq crc s
  | .nakReceive dt lane cls seq crc => Sys2Proof.Machine.execNakReceive dt lane cls seq crc s
  | .creditReceive dt lane cls limit crc => Sys2Proof.Machine.execCreditReceive dt lane cls limit crc s
  | .alignReceive dt lane hdr bytes bip => Sys2Proof.Machine.execAlignReceive dt lane hdr bytes bip s
  | .alignSend dt lane => Sys2Proof.Machine.execAlignSend dt lane s
  | .ackTimeout dt link cls => Sys2Proof.Machine.execAckTimeout dt link cls s
  | .nakRepeat dt link cls => Sys2Proof.Machine.execNakRepeat dt link cls s
  | .creditSend dt link cls => Sys2Proof.Machine.execCreditSend dt link cls s
  | .linePacketSend dt course clocks => Sys2Proof.Machine.execLinePacketSend dt course clocks s
  | .stampPacketSend dt course => Sys2Proof.Machine.execStampPacketSend dt course s
  | .blockLockLost dt lane => Sys2Proof.Machine.execBlockLockLost dt lane s
  | .blockLockGained dt lane => Sys2Proof.Machine.execBlockLockGained dt lane s
  | .huntSlip dt lane => Sys2Proof.Machine.execHuntSlip dt lane s
  | .laneDown dt lane => Sys2Proof.Machine.execLaneDown dt lane s
  | .courseRetrain dt course => Sys2Proof.Machine.execCourseRetrain dt course s
  | .timeSyncSend dt course => Sys2Proof.Machine.execTimeSyncSend dt course s
  | .timeEcho dt course syncId turn offset => Sys2Proof.Machine.execTimeEcho dt course syncId turn offset s
  | .bridgeHello dt course bytes => Sys2Proof.Machine.execBridgeHello dt course bytes s
  | .claimAck dt course bytes => Sys2Proof.Machine.execClaimAck dt course bytes s
  | .claimAckTimeout dt course => Sys2Proof.Machine.execClaimAckTimeout dt course s
  | .ownerChanged dt course epoch owner => Sys2Proof.Machine.execOwnerChanged dt course epoch owner s
  | .bridgeStatus dt course bytes => Sys2Proof.Machine.execBridgeStatus dt course bytes s
  | .mgmtReply dt course bytes => Sys2Proof.Machine.execMgmtReply dt course bytes s
  | .headTempStale dt course => Sys2Proof.Machine.execHeadTempStale dt course s
  | .barSilenceHalt dt bar => Sys2Proof.Machine.execBarSilenceHalt dt bar s
  | .csiFrameStart dt port vc ecc => Sys2Proof.Machine.execCsiFrameStart dt port vc ecc s
  | .csiLinePacket dt port vc dataType wordCount px ecc crcOk => Sys2Proof.Machine.execCsiLinePacket dt port vc dataType wordCount px ecc crcOk s
  | .csiFrameEnd dt port vc ecc => Sys2Proof.Machine.execCsiFrameEnd dt port vc ecc s
  | .pipelineLineTurn dt => Sys2Proof.Machine.execPipelineLineTurn dt s
  | .exposureMid dt port vc => Sys2Proof.Machine.execExposureMid dt port vc s
  | .exposureRecordTimeout dt port vc => Sys2Proof.Machine.execExposureRecordTimeout dt port vc s
  | .camCalibrateHoldEnd dt port => Sys2Proof.Machine.execCamCalibrateHoldEnd dt port s
  | .gatePulse dt gate => Sys2Proof.Machine.execGatePulse dt gate s
  | .thermalSample dt raws => Sys2Proof.Machine.execThermalSample dt raws s
  | .substitutionFloor dt => Sys2Proof.Machine.execSubstitutionFloor dt s
  | .shutdownHoldEnd dt => Sys2Proof.Machine.execShutdownHoldEnd dt s
  | .hardwareTrip dt temps unserviced => Sys2Proof.Machine.execHardwareTrip dt temps unserviced s
  | .avsAdjust dt target reached => Sys2Proof.Machine.execAvsAdjust dt target reached s
  | .pmbusPoll dt index answer => Sys2Proof.Machine.execPmbusPoll dt index answer s
  | .powerSupervisorFault dt => Sys2Proof.Machine.execPowerSupervisorFault dt s
  | .wake dt gpio => Sys2Proof.Machine.execWake dt gpio s
  | .porstNRelease dt gpio => Sys2Proof.Machine.execPorstNRelease dt gpio s
  | .sysRstNAssert dt => Sys2Proof.Machine.execSysRstNAssert dt s
  | .watchdogExpiry dt => Sys2Proof.Machine.execWatchdogExpiry dt s
  | .pciePerstNAssert dt => Sys2Proof.Machine.execPciePerstNAssert dt s
  | .trialBootTimeout dt => Sys2Proof.Machine.execTrialBootTimeout dt s
  | .idleRecordClose dt => Sys2Proof.Machine.execIdleRecordClose dt s
  | .heartbeatSend dt => Sys2Proof.Machine.execHeartbeatSend dt s
  | .heartbeatReceive dt lane beat st flags => Sys2Proof.Machine.execHeartbeatReceive dt lane beat st flags s
  | .heartbeatLoss dt => Sys2Proof.Machine.execHeartbeatLoss dt s
  | .peerAliveFall dt => Sys2Proof.Machine.execPeerAliveFall dt s
  | .pairYieldNLow dt => Sys2Proof.Machine.execPairYieldNLow dt s
  | .pairHello dt peer authentic => Sys2Proof.Machine.execPairHello dt peer authentic s
  | .ptimeSync dt t1 delay valid syncId adj => Sys2Proof.Machine.execPtimeSync dt t1 delay valid syncId adj s
  | .ptimeEcho dt syncId turn offset => Sys2Proof.Machine.execPtimeEcho dt syncId turn offset s
  | .baselineReceive dt part => Sys2Proof.Machine.execBaselineReceive dt part s
  | .recordReceive dt seq ring tag cmdSeq body status => Sys2Proof.Machine.execRecordReceive dt seq ring tag cmdSeq body status s
  | .recordAck dt seq status => Sys2Proof.Machine.execRecordAck dt seq status s
  | .recordAckTimeout dt => Sys2Proof.Machine.execRecordAckTimeout dt s
  | .framePacketReceive dt note => Sys2Proof.Machine.execFramePacketReceive dt note s
  | .checkpointSend dt => Sys2Proof.Machine.execCheckpointSend dt s
  | .checkpointReceive dt ckpt => Sys2Proof.Machine.execCheckpointReceive dt ckpt s
  | .mirrorReceive dt job bytes last => Sys2Proof.Machine.execMirrorReceive dt job bytes last s
  | .standbySelfTest dt pass => Sys2Proof.Machine.execStandbySelfTest dt pass s
  | .pairHealthEvaluate dt => Sys2Proof.Machine.execPairHealthEvaluate dt s
  | .healthReceive dt health => Sys2Proof.Machine.execHealthReceive dt health s
  | .yieldReceive dt code => Sys2Proof.Machine.execYieldReceive dt code s
  | .handoverReq dt => Sys2Proof.Machine.execHandoverReq dt s
  | .handoverReady dt => Sys2Proof.Machine.execHandoverReady dt s
  | .handoverGo dt h => Sys2Proof.Machine.execHandoverGo dt h s
  | .handoverDone dt => Sys2Proof.Machine.execHandoverDone dt s
  | .handoverTimeout dt => Sys2Proof.Machine.execHandoverTimeout dt s
  | .jobDeleteDone dt job => Sys2Proof.Machine.execJobDeleteDone dt job s
  | .norWriteDone dt => Sys2Proof.Machine.execNorWriteDone dt s
  | .profileSaveHoldExpiry dt => Sys2Proof.Machine.execProfileSaveHoldExpiry dt s
  | .porstNAssert dt => Sys2Proof.Machine.execPorstNAssert dt s
  | .sysRstNRelease dt => Sys2Proof.Machine.execSysRstNRelease dt s
  | .bootReady dt => Sys2Proof.Machine.execBootReady dt s
  | .pciePerstNRelease dt => Sys2Proof.Machine.execPciePerstNRelease dt s
  | .peerAliveRise dt => Sys2Proof.Machine.execPeerAliveRise dt s
  | .pairYieldNRelease dt => Sys2Proof.Machine.execPairYieldNRelease dt s
  | .tapInstruction dt instr => Sys2Proof.Machine.execTapInstruction dt instr s
  | .prbsCheckerInput dt lane bits => Sys2Proof.Machine.execPrbsCheckerInput dt lane bits s
  | .hsSyncLost dt port lane => Sys2Proof.Machine.execHsSyncLost dt port lane s
  | .hsSyncRegained dt port lane => Sys2Proof.Machine.execHsSyncRegained dt port lane s
  | .i2cTransferDone dt bus acked bytes => Sys2Proof.Machine.execI2cTransferDone dt bus acked bytes s
  | .gateTestShot dt bar => Sys2Proof.Machine.execGateTestShot dt bar s
  | .gateTestEnd dt bar => Sys2Proof.Machine.execGateTestEnd dt bar s
  | .posCalibrateTimeout dt ch => Sys2Proof.Machine.execPosCalibrateTimeout dt ch s
  | .mgmtReplyTimeout dt course => Sys2Proof.Machine.execMgmtReplyTimeout dt course s
  | .linkTrainTimeout dt course => Sys2Proof.Machine.execLinkTrainTimeout dt course s
  | .pairRejoinTimeout dt => Sys2Proof.Machine.execPairRejoinTimeout dt s
  | .yieldCriterionTimer dt peerUp peerMoves => Sys2Proof.Machine.execYieldCriterionTimer dt peerUp peerMoves s
  | .powerSupervisorClear dt porst => Sys2Proof.Machine.execPowerSupervisorClear dt porst s
  | .pllLockLost dt domain => Sys2Proof.Machine.execPllLockLost dt domain s
  | .pllRelocked dt domain => Sys2Proof.Machine.execPllRelocked dt domain s
  | .lockstepMismatch dt pair => Sys2Proof.Machine.execLockstepMismatch dt pair s

end Sys2Proof.Machine
end

