-- ==== Sys2Proof/Machine/Idle.lean ====
section
/-!
DEFINITION. What the device does of its own accord when no row waits: a command that an ORDER_BARRIER held back starts
(spec/03_command_interface.md, R65).
-/
namespace Sys2Proof.Machine

/-- The first command in flight that has not started, is not held for its counter (04 R94) and that nothing fetched before it holds back any longer. -/
def startable : List InFlight → List InFlight → Option InFlight
  | _, [] => none
  | earlier, e :: later => if !e.started && !e.parked && mayStart e.cmd earlier then some e else startable (earlier ++ [e]) later

/-- On an empty queue the device starts the oldest waiting command that may start, or idles (log 2). -/
def idle (s : State) : State :=
  if s.held || s.thm.power == .p3 || s.thm.power == .p4 then s
  else match startable [] s.hif.inflight with
    | some e => carryOut e.opcode (opTable e.opcode).1 (opTable e.opcode).2 e.cmd s
    | none => s

end Sys2Proof.Machine
end

