-- ==== Sys2Proof/Machine/Step.lean ====
section
/-!
DEFINITION. One step: the row at the front of the queue, or what the device does with an empty one.
-/
namespace Sys2Proof.Machine

/-- Take the row at the front of the queue and run it with the queue's rest; on an empty queue the
device starts the oldest waiting command that may start now (R65), or idles (log 2). -/
def step (s : State) : Host.Outcome State Fault Refusal :=
  match s.pending with
  | [] => .next (Sys2Proof.Machine.idle s)
  | c :: rest => exec c { s with pending := rest }

/-- No row of the table has bits, so no word spells a command: the state is unchanged. -/
def State.withFetchWord (s : State) (nbits w : Nat) : State :=
  match decodeTableWord nbits w with
  | some c => { s with pending := c :: s.pending }
  | none => s

end Sys2Proof.Machine
end

