-- ==== Sys2Proof/Machine/Regs.lean ====
section
/-!
DEFINITION. What the host reads: the registers of BAR0 (spec/03_command_interface.md, R2, R6, R8, R48, Tables 3-2 to 3-8) and the
identity of the PCIe function (R47, Table 3-1). The table has no row for a read, and none changes the state: reads are functions of it.
-/
namespace Sys2Proof.Machine

/-- The PCIe function (Table 3-1): rates in units of 0.1 GT/s, sizes in bytes. -/
structure PcieFunction where
  vendor : Nat := 0x1F3D
  device : Nat := 0x8200
  revision : Nat := 0xA1
  classCode : Nat := 0x118000
  subsysVendor : Nat := 0
  subsysId : Nat := 0
  bar0 : Nat := 0x4000
  bar2 : Nat := 0x4000000
  vectors : Nat := 64
  tableAt : Nat := 0x3000
  pbaAt : Nat := 0x3800
  maxPayload : Nat := 512
  maxReadRequest : Nat := 4096
  tagBits : Nat := 10
  outstanding : Nat := 256
  rates : List Nat := [160, 80, 50, 25]
  widths : List Nat := [8, 4, 2, 1]
deriving DecidableEq, Repr, Inhabited

/-- What configuration reads show (R47): the subsystem IDs come from the board record, and the strap PCIE_GEN3 limits the link to
8.0 GT/s (18 R453). -/
def State.pcieFunction (s : State) : PcieFunction :=
  let f : PcieFunction := { subsysVendor := s.board.subsysVendor, subsysId := s.board.subsysId }
  if s.board.gen3 then { f with rates := f.rates.filter (· ≤ 80) } else f

/-- DEV_ID (Table 3-3): PART, the silicon revision code of R2, CP_MIN and CP_MAX. -/
def devId : Nat := 0x8200 + 0xA1 * 2 ^ 16 + 2 * 2 ^ 24 + 2 * 2 ^ 28

/-- DEV_STATUS.PAIR (15 R391). -/
def State.pairField (s : State) : Nat :=
  match s.pair.st with
  | .active => 1
  | .activeAlone => 1
  | .joining => 2
  | .standby => 2
  | _ => 0

/-- DEV_STATUS (Table 3-4). -/
def State.devStatus (s : State) : Nat :=
  b2n s.hif.ready + 2 * b2n s.board.fault + 4 * s.thm.power.code + 32 * s.pairField + 128 * (s.sec.bootImage % 2) + 256 * b2n s.hif.evqEnable

/-- RING_STATUS (Table 3-6): RUNNING while enabled or with commands in flight. -/
def State.ringStatus (n : Nat) (s : State) : Nat :=
  let r := s.ring n
  b2n (r.enable || decide (0 < s.ringFlying n)) + 2 * b2n r.halted + 4 * b2n r.configErr + 256 * r.haltReason
    + 2 ^ 16 * s.ringFlying n + 2 ^ 24 * r.role

/-- A register of ring n's block (Table 3-5). -/
def State.readRing (n off : Nat) (s : State) : Nat :=
  let r := s.ring n
  match off with
  | 0x00 => r.sqBase.toNat % 2 ^ 32
  | 0x04 => r.sqBase.toNat / 2 ^ 32
  | 0x08 => r.cqBase.toNat % 2 ^ 32
  | 0x0C => r.cqBase.toNat / 2 ^ 32
  | 0x10 => r.sqLog2 + 256 * r.cqLog2
  | 0x14 => b2n r.enable + 2 * b2n r.ethernet
  | 0x18 => s.ringStatus n
  | 0x1C => r.sqHead
  | 0x20 => r.cqTail
  | 0x24 => r.coalCount + 256 * r.coalTime
  | 0x28 => r.vec
  | _ => 0

/-- A listed register (Table 3-2). Doorbells are write-only and read 0 (R8), as does what is not listed. -/
def State.readWord (off : Nat) (s : State) : Nat :=
  if off = 0x00 then devId
  else if off = 0x04 then s.devStatus
  else if off = 0x10 then s.hif.winBase % 2 ^ 32
  else if off = 0x14 then s.hif.winBase / 2 ^ 32
  else if off = 0x18 then b2n s.hif.winEnable + 2 * b2n s.hif.winWrite + 4 * b2n s.hif.winDenied
  else if off = 0x20 then s.hif.evqBase.toNat % 2 ^ 32
  else if off = 0x24 then s.hif.evqBase.toNat / 2 ^ 32
  else if off = 0x28 then s.hif.evqSize
  else if off = 0x2C then s.hif.evqTail
  else if off = 0x30 then s.hif.evqOverflow
  else if 0x1000 ≤ off ∧ off < 0x1400 then s.readRing ((off - 0x1000) / 0x80) ((off - 0x1000) % 0x80)
  else if 0x3000 ≤ off ∧ off < 0x3400 then s.hif.msixTable.getD ((off - 0x3000) / 4) 0
  else if off = 0x3800 then s.hif.msixPending.toNat % 2 ^ 32
  else if off = 0x3804 then s.hif.msixPending.toNat / 2 ^ 32
  else 0

/-- A host read of BAR0 (R48): an access that is not an aligned one of 4 bytes reads 0, and so does every offset but DEV_ID and
DEV_STATUS in P3, where the reduced responder of AON answers (14 R378). In P4 nothing answers. -/
def State.readRegister (off size : Nat) (s : State) : Nat :=
  if size ≠ 4 ∨ off % 4 ≠ 0 ∨ s.thm.power = .p4 ∨ (s.thm.power = .p3 ∧ 4 < off) then 0 else s.readWord off

end Sys2Proof.Machine
end

