-- ==== Sys2Proof/WellFormed.lean ====
section
/-!
DEFINITION. Well-formed rows: the unit that a row names exists on the device (spec/02_architecture.md, Table 2-1; for the register
blocks spec/03_command_interface.md, Tables 3-2 and 3-5). What a host command's own bytes hold is not judged here: the device checks
them itself and answers with a status (spec/03_command_interface.md, R70).
-/
namespace Sys2Proof

open Sys2Proof.Machine

/-- The row names a unit that the device has. A host command names one of the eight rings; a line of device memory is judged
by the row itself, since how much is fitted is state. -/
def Instr.wellFormed (i : Instr) : Bool :=
  match i with
  | .sysIdentify q => decide (q.ring < 8)
  | .sysHello q => decide (q.ring < 8)
  | .sysHealth q => decide (q.ring < 8)
  | .sysAbort q => decide (q.ring < 8)
  | .sysNop q => decide (q.ring < 8)
  | .sysReset q => decide (q.ring < 8)
  | .sysConfigSave q => decide (q.ring < 8)
  | .sysConfigLoad q => decide (q.ring < 8)
  | .sysFwWrite q => decide (q.ring < 8)
  | .sysFwActivate q => decide (q.ring < 8)
  | .sysGpio q => decide (q.ring < 8)
  | .secStatus q => decide (q.ring < 8)
  | .secProtectRead q => decide (q.ring < 8)
  | .secProtectWrite q => decide (q.ring < 8)
  | .secKeyLoad q => decide (q.ring < 8)
  | .secKeyRotate q => decide (q.ring < 8)
  | .secKeyRevoke q => decide (q.ring < 8)
  | .secLifecycle q => decide (q.ring < 8)
  | .secDebug q => decide (q.ring < 8)
  | .secCounterRead q => decide (q.ring < 8)
  | .jobLoad q => decide (q.ring < 8)
  | .jobEncode q => decide (q.ring < 8)
  | .jobCancel q => decide (q.ring < 8)
  | .jobDelete q => decide (q.ring < 8)
  | .jobList q => decide (q.ring < 8)
  | .jobInfo q => decide (q.ring < 8)
  | .jobStoreStatus q => decide (q.ring < 8)
  | .jobRead q => decide (q.ring < 8)
  | .jobTransferDone _ _ _ _ _ _ => true
  | .layerConfig q => decide (q.ring < 8)
  | .layerFlip q => decide (q.ring < 8)
  | .layerFence q => decide (q.ring < 8)
  | .layerPalette q => decide (q.ring < 8)
  | .layerTone q => decide (q.ring < 8)
  | .layerOrder q => decide (q.ring < 8)
  | .layerGuard q => decide (q.ring < 8)
  | .layerStatus q => decide (q.ring < 8)
  | .colourInkLimit q => decide (q.ring < 8)
  | .colourCurves q => decide (q.ring < 8)
  | .colourLoopConfig q => decide (q.ring < 8)
  | .colourLoopEnable q => decide (q.ring < 8)
  | .colourTrimRead q => decide (q.ring < 8)
  | .colourTrimWrite q => decide (q.ring < 8)
  | .colourProfileSave q => decide (q.ring < 8)
  | .colourStrip q => decide (q.ring < 8)
  | .colourLedgerRead q => decide (q.ring < 8)
  | .barConfig q => decide (q.ring < 8)
  | .barHeadMap q => decide (q.ring < 8)
  | .barSegments q => decide (q.ring < 8)
  | .barScreen q => decide (q.ring < 8)
  | .barNozzleMap q => decide (q.ring < 8)
  | .barDerive q => decide (q.ring < 8)
  | .barEnable q => decide (q.ring < 8)
  | .barDisable q => decide (q.ring < 8)
  | .barStatus q => decide (q.ring < 8)
  | .printStart q => decide (q.ring < 8)
  | .printStop q => decide (q.ring < 8)
  | .printCapo q => decide (q.ring < 8)
  | .printLead q => decide (q.ring < 8)
  | .printOffsets q => decide (q.ring < 8)
  | .printStatus q => decide (q.ring < 8)
  | .posEncoderConfig q => decide (q.ring < 8)
  | .posScale q => decide (q.ring < 8)
  | .posRead q => decide (q.ring < 8)
  | .posCompare q => decide (q.ring < 8)
  | .posBackup q => decide (q.ring < 8)
  | .posCalibrate q => decide (q.ring < 8)
  | .timeConfig q => decide (q.ring < 8)
  | .timeRead q => decide (q.ring < 8)
  | .timeStep q => decide (q.ring < 8)
  | .timePtpConfig q => decide (q.ring < 8)
  | .timeAsymmetry q => decide (q.ring < 8)
  | .timeTrigger q => decide (q.ring < 8)
  | .timeCapture q => decide (q.ring < 8)
  | .timeStatus q => decide (q.ring < 8)
  | .camConfig q => decide (q.ring < 8)
  | .camPipeline q => decide (q.ring < 8)
  | .camEnable q => decide (q.ring < 8)
  | .camCalibrate q => decide (q.ring < 8)
  | .camFrameRead q => decide (q.ring < 8)
  | .camArchive q => decide (q.ring < 8)
  | .camStatus q => decide (q.ring < 8)
  | .linkCourseConfig q => decide (q.ring < 8)
  | .linkTrain q => decide (q.ring < 8)
  | .linkLaneSlip q => decide (q.ring < 8)
  | .linkPrbs q => decide (q.ring < 8)
  | .linkInject q => decide (q.ring < 8)
  | .linkQueueFlush q => decide (q.ring < 8)
  | .linkStatus q => decide (q.ring < 8)
  | .linkEthConfig q => decide (q.ring < 8)
  | .ethPortRetrained _ port _ => decide (port < 2)
  | .linkMarks q => decide (q.ring < 8)
  | .headDiscover q => decide (q.ring < 8)
  | .headMirRead q => decide (q.ring < 8)
  | .headGateTest q => decide (q.ring < 8)
  | .headEnable q => decide (q.ring < 8)
  | .headDisable q => decide (q.ring < 8)
  | .headStatus q => decide (q.ring < 8)
  | .headBridgeMgmt q => decide (q.ring < 8)
  | .thermLevels q => decide (q.ring < 8)
  | .thermRead q => decide (q.ring < 8)
  | .thermSensorTrim q => decide (q.ring < 8)
  | .thermPowerState q => decide (q.ring < 8)
  | .thermPmbus q => decide (q.ring < 8)
  | .thermBudget q => decide (q.ring < 8)
  | .pairConfig q => decide (q.ring < 8)
  | .pairHealth q => decide (q.ring < 8)
  | .pairHandover q => decide (q.ring < 8)
  | .pairMirror q => decide (q.ring < 8)
  | .pairStatus q => decide (q.ring < 8)
  | .pairRejoin q => decide (q.ring < 8)
  | .statFrameRecord q => decide (q.ring < 8)
  | .statCounters q => decide (q.ring < 8)
  | .statClear q => decide (q.ring < 8)
  | .statEventMask q => decide (q.ring < 8)
  | .statEventFetch q => decide (q.ring < 8)
  | .statPeaks q => decide (q.ring < 8)
  | .diagSelfTest q => decide (q.ring < 8)
  | .diagUnitRestore q => decide (q.ring < 8)
  | .diagUnitRetire q => decide (q.ring < 8)
  | .diagMemTest q => decide (q.ring < 8)
  | .diagRegRead q => decide (q.ring < 8)
  | .diagInject q => decide (q.ring < 8)
  | .diagTrace q => decide (q.ring < 8)
  | .sqDb _ ring _ => decide (ring < 8)
  | .cqDb _ ring _ => decide (ring < 8)
  | .evqDb _ _ => true
  | .ringEnableSet _ ring => decide (ring < 8)
  | .ringEnableClear _ ring => decide (ring < 8)
  | .ringReset _ ring => decide (ring < 8)
  | .evqEnableSet _ => true
  | .evqEnableClear _ => true
  | .bar2WindowRead _ offset len _ => decide (offset + len ≤ 0x4000000)
  | .bar2WindowWrite _ offset bytes => decide (offset + bytes.length ≤ 0x4000000)
  | .registerWrite _ offset _ _ => decide (offset < 0x4000)
  | .slotFetch _ ring slot _ _ _ _ => decide (ring < 8) && slot.length == 128
  | .journalWriteDone _ => true
  | .completionCoalesceTimeout _ ring => decide (ring < 8)
  | .eventCoalesceTimeout _ vector => decide (8 ≤ vector) && decide (vector < 64)
  | .commandDatagram _ port _ _ _ _ _ => decide (port < 2)
  | .arpRequest _ port _ _ _ _ => decide (port < 2)
  | .icmpEchoRequest _ port _ _ _ _ _ _ => decide (port < 2)
  | .ptpMessage _ port _ _ _ => decide (port < 2)
  | .pathHoldExpiry _ port => decide (port < 2)
  | .announceTimeout _ port => decide (port < 2)
  | .holdoverWarn _ domain => decide (domain < 2)
  | .ptpMasterSend _ port _ => decide (port < 2)
  | .ptpDelayRequest _ port => decide (port < 2)
  | .tb3RateStep _ => true
  | .tbfReload _ domain => decide (domain < 2)
  | .triggerFire _ unit => decide (unit < 16)
  | .conversionComplete _ ch _ _ => decide (ch < 4)
  | .captureInputEdge _ gpio _ => decide (gpio < 16)
  | .encoderEdge _ ch _ _ _ _ => decide (ch < 4)
  | .compareCatchUpFire _ unit => decide (unit < 16)
  | .encoderStall _ ch => decide (ch < 4)
  | .backupOffsetRefresh _ => true
  | .webEstimateUpdate _ => true
  | .lineTick _ => true
  | .readinessPoint _ => true
  | .sendDeadline _ bar head => decide (bar < 10) && decide (head < 32)
  | .stampFormation _ bar head row => decide (bar < 10) && decide (head < 32) && decide (row < 8)
  | .runEnd _ => true
  | .printInhibitAssert _ => true
  | .printInhibitRelease _ => true
  | .renderHeadLine _ bar _ => decide (bar < 10)
  | .composeContoneLine _ => true
  | .blockDecode _ pipe _ _ _ _ _ => decide (pipe < 5)
  | .memoryReadComplete _ _ _ _ => true
  | .patrolScrubRead _ _ _ => true
  | .unitRetirement _ unit => unitExists unit
  | .pageMigrationDone _ _ => true
  | .packetReceive _ lane start _ crc _ => decide (lane < 22) && start.length == 8 && decide (crc < 2 ^ 32)
  | .ackReceive _ lane _ seq crc => decide (lane < 22) && decide (seq < 65536) && decide (crc < 256)
  | .nakReceive _ lane _ seq crc => decide (lane < 22) && decide (seq < 65536) && decide (crc < 256)
  | .creditReceive _ lane _ limit crc => decide (lane < 22) && decide (limit < 2 ^ 32) && decide (crc < 256)
  | .alignReceive _ lane hdr bytes _ => decide (lane < 22) && decide (hdr < 4) && bytes.length == 8
  | .alignSend _ lane => decide (lane < 22)
  | .ackTimeout _ link _ => decide (link ≤ 10)
  | .nakRepeat _ link _ => decide (link ≤ 10)
  | .creditSend _ link _ => decide (link ≤ 10)
  | .linePacketSend _ course _ => decide (course < 10)
  | .stampPacketSend _ course => decide (course < 10)
  | .blockLockLost _ lane => decide (lane < 24)
  | .blockLockGained _ lane => decide (lane < 24)
  | .huntSlip _ lane => decide (lane < 24)
  | .laneDown _ lane => decide (lane < 24)
  | .courseRetrain _ course => decide (course ≤ 10)
  | .timeSyncSend _ course => decide (course ≤ 10)
  | .timeEcho _ course _ _ _ => decide (course < 10)
  | .bridgeHello _ course _ => decide (course < 10)
  | .claimAck _ course _ => decide (course < 10)
  | .claimAckTimeout _ course => decide (course < 10)
  | .ownerChanged _ course _ _ => decide (course < 10)
  | .bridgeStatus _ course _ => decide (course < 10)
  | .mgmtReply _ course _ => decide (course < 10)
  | .headTempStale _ course => decide (course < 10)
  | .barSilenceHalt _ bar => decide (bar < 10)
  | .csiFrameStart _ port _ _ => decide (port < 4)
  | .csiLinePacket _ port _ _ _ _ _ _ => decide (port < 4)
  | .csiFrameEnd _ port _ _ => decide (port < 4)
  | .pipelineLineTurn _ => true
  | .exposureMid _ port _ => decide (port < 4)
  | .exposureRecordTimeout _ port _ => decide (port < 4)
  | .camCalibrateHoldEnd _ port => decide (port < 4)
  | .gatePulse _ gate => decide (gate < 10)
  | .thermalSample _ raws => raws.length == 16
  | .substitutionFloor _ => true
  | .shutdownHoldEnd _ => true
  | .hardwareTrip _ temps _ => temps.length == 16
  | .avsAdjust _ _ _ => true
  | .pmbusPoll _ index _ => decide (index < 16)
  | .powerSupervisorFault _ => true
  | .wake _ gpio => gpio.all fun n => decide (n < 16)
  | .porstNRelease _ _ => true
  | .sysRstNAssert _ => true
  | .watchdogExpiry _ => true
  | .pciePerstNAssert _ => true
  | .trialBootTimeout _ => true
  | .idleRecordClose _ => true
  | .heartbeatSend _ => true
  | .heartbeatReceive _ lane beat _ _ => decide (lane = 20 ∨ lane = 21) && decide (beat < 65536)
  | .heartbeatLoss _ => true
  | .peerAliveFall _ => true
  | .pairYieldNLow _ => true
  | .pairHello _ _ _ => true
  | .ptimeSync _ _ _ _ _ _ => true
  | .ptimeEcho _ _ _ _ => true
  | .baselineReceive _ _ => true
  | .recordReceive _ _ _ _ _ _ _ => true
  | .recordAck _ _ _ => true
  | .recordAckTimeout _ => true
  | .framePacketReceive _ _ => true
  | .checkpointSend _ => true
  | .checkpointReceive _ _ => true
  | .mirrorReceive _ _ _ _ => true
  | .standbySelfTest _ _ => true
  | .pairHealthEvaluate _ => true
  | .healthReceive _ _ => true
  | .yieldReceive _ _ => true
  | .handoverReq _ => true
  | .handoverReady _ => true
  | .handoverGo _ _ => true
  | .handoverDone _ => true
  | .handoverTimeout _ => true
  | .jobDeleteDone _ _ => true
  | .norWriteDone _ => true
  | .profileSaveHoldExpiry _ => true
  | .porstNAssert _ => true
  | .sysRstNRelease _ => true
  | .bootReady _ => true
  | .pciePerstNRelease _ => true
  | .peerAliveRise _ => true
  | .pairYieldNRelease _ => true
  | .tapInstruction _ _ => true
  | .prbsCheckerInput _ lane _ => decide (lane < 22)
  | .hsSyncLost _ port lane => decide (port < 4) && decide (lane < 4)
  | .hsSyncRegained _ port lane => decide (port < 4) && decide (lane < 4)
  | .i2cTransferDone _ bus _ _ => decide (bus < 6)
  | .gateTestShot _ bar => decide (bar < 10)
  | .gateTestEnd _ bar => decide (bar < 10)
  | .posCalibrateTimeout _ ch => decide (ch < 4)
  | .mgmtReplyTimeout _ course => decide (course < 10)
  | .linkTrainTimeout _ course => decide (course ≤ 10)
  | .pairRejoinTimeout _ => true
  | .yieldCriterionTimer _ _ _ => true
  | .powerSupervisorClear _ _ => true
  | .pllLockLost _ domain => pllDomains.contains domain
  | .pllRelocked _ domain => pllDomains.contains domain
  | .lockstepMismatch _ pair => decide (pair < 2)

end Sys2Proof
end

