-- ==== Sys2Proof/Safety.lean ====
section
/-!
DEFINITION. The terms in which the claims speak: when a host command is taken and runs, what its run answers, and the invariants that
every step keeps.
-/
namespace Sys2Proof.Machine

/-- The state in which a fetched command's own checks and effect run: time has passed, and it is in flight and has started. -/
def State.begun (s : State) (op : Nat) (q : Cmd) : State :=
  let s := advance q.dt s
  (s.onHif fun h => { h with inflight := h.inflight ++ [{ cmd := q, opcode := op }] }).onFlying q.id fun e => { e with started := true }

/-- The device takes a host command at its row and starts it at once (spec/03_command_interface.md, R54, R64, R65, R70): its ring is
fetched from, its TAG is free, no barrier holds it back, and checks 7 to 9 pass. -/
def Starts (op : Nat) (q : Cmd) (s : State) : Bool :=
  let s1 := advance q.dt s
  decide (q.ring < 8) && s1.mayFetch q.ring && (s1.flying q.id).isNone && mayStart q s1.hif.inflight
    && (gateCheck op q (s1.onHif fun h => { h with inflight := h.inflight ++ [{ cmd := q, opcode := op }] })).isNone

/-- It starts, its slot's flags and its own checks pass, no exclusive command holds what it needs, and a standby does not refuse it (R66, 15 R395). -/
def Runs (op : Nat) (check : Cmd → State → Option Reply) (q : Cmd) (s : State) : Bool :=
  let s2 := s.begun op q
  Starts op q s && (flagFault q).isNone && (check q s2).isNone && !((s2.holding .device && !unitFree op) || s2.barHeld op q) && !s2.standbyRefuses op q

/-- What a command's run leaves: with its completion where it has finished, else in flight. -/
def Ans.left (q : Cmd) (a : Ans) : State :=
  match a with
  | .done r s => orderedReset (finish q.id r s)
  | .wait s => s

/-- A host command's row: the opcode it carries (spec/03_command_interface.md, Table 3-19) and the command. -/
def hostCommand (i : Instr) : Option (Nat × Cmd) :=
  match i with
  | .sysIdentify q => some (0x0101, q)
  | .sysHello q => some (0x0102, q)
  | .sysHealth q => some (0x0103, q)
  | .sysAbort q => some (0x0104, q)
  | .sysNop q => some (0x0105, q)
  | .sysReset q => some (0x0106, q)
  | .sysConfigSave q => some (0x0107, q)
  | .sysConfigLoad q => some (0x0108, q)
  | .sysFwWrite q => some (0x0109, q)
  | .sysFwActivate q => some (0x010A, q)
  | .sysGpio q => some (0x010B, q)
  | .secStatus q => some (0x0201, q)
  | .secProtectRead q => some (0x0202, q)
  | .secProtectWrite q => some (0x0203, q)
  | .secKeyLoad q => some (0x0204, q)
  | .secKeyRotate q => some (0x0205, q)
  | .secKeyRevoke q => some (0x0206, q)
  | .secLifecycle q => some (0x0207, q)
  | .secDebug q => some (0x0208, q)
  | .secCounterRead q => some (0x0209, q)
  | .jobLoad q => some (0x0301, q)
  | .jobEncode q => some (0x0302, q)
  | .jobCancel q => some (0x0303, q)
  | .jobDelete q => some (0x0304, q)
  | .jobList q => some (0x0305, q)
  | .jobInfo q => some (0x0306, q)
  | .jobStoreStatus q => some (0x0307, q)
  | .jobRead q => some (0x0308, q)
  | .jobTransferDone _ _ _ _ _ _ => none
  | .layerConfig q => some (0x0401, q)
  | .layerFlip q => some (0x0402, q)
  | .layerFence q => some (0x0403, q)
  | .layerPalette q => some (0x0404, q)
  | .layerTone q => some (0x0405, q)
  | .layerOrder q => some (0x0406, q)
  | .layerGuard q => some (0x0407, q)
  | .layerStatus q => some (0x0408, q)
  | .colourInkLimit q => some (0x0501, q)
  | .colourCurves q => some (0x0502, q)
  | .colourLoopConfig q => some (0x0503, q)
  | .colourLoopEnable q => some (0x0504, q)
  | .colourTrimRead q => some (0x0505, q)
  | .colourTrimWrite q => some (0x0506, q)
  | .colourProfileSave q => some (0x0507, q)
  | .colourStrip q => some (0x0508, q)
  | .colourLedgerRead q => some (0x0509, q)
  | .barConfig q => some (0x0601, q)
  | .barHeadMap q => some (0x0602, q)
  | .barSegments q => some (0x0603, q)
  | .barScreen q => some (0x0604, q)
  | .barNozzleMap q => some (0x0605, q)
  | .barDerive q => some (0x0606, q)
  | .barEnable q => some (0x0607, q)
  | .barDisable q => some (0x0608, q)
  | .barStatus q => some (0x0609, q)
  | .printStart q => some (0x0701, q)
  | .printStop q => some (0x0702, q)
  | .printCapo q => some (0x0703, q)
  | .printLead q => some (0x0704, q)
  | .printOffsets q => some (0x0705, q)
  | .printStatus q => some (0x0706, q)
  | .posEncoderConfig q => some (0x0801, q)
  | .posScale q => some (0x0802, q)
  | .posRead q => some (0x0803, q)
  | .posCompare q => some (0x0804, q)
  | .posBackup q => some (0x0805, q)
  | .posCalibrate q => some (0x0806, q)
  | .timeConfig q => some (0x0901, q)
  | .timeRead q => some (0x0902, q)
  | .timeStep q => some (0x0903, q)
  | .timePtpConfig q => some (0x0904, q)
  | .timeAsymmetry q => some (0x0905, q)
  | .timeTrigger q => some (0x0906, q)
  | .timeCapture q => some (0x0907, q)
  | .timeStatus q => some (0x0908, q)
  | .camConfig q => some (0x0A01, q)
  | .camPipeline q => some (0x0A02, q)
  | .camEnable q => some (0x0A03, q)
  | .camCalibrate q => some (0x0A04, q)
  | .camFrameRead q => some (0x0A05, q)
  | .camArchive q => some (0x0A06, q)
  | .camStatus q => some (0x0A07, q)
  | .linkCourseConfig q => some (0x0B01, q)
  | .linkTrain q => some (0x0B02, q)
  | .linkLaneSlip q => some (0x0B03, q)
  | .linkPrbs q => some (0x0B04, q)
  | .linkInject q => some (0x0B05, q)
  | .linkQueueFlush q => some (0x0B06, q)
  | .linkStatus q => some (0x0B07, q)
  | .linkEthConfig q => some (0x0B08, q)
  | .ethPortRetrained _ _ _ => none
  | .linkMarks q => some (0x0B09, q)
  | .headDiscover q => some (0x0C01, q)
  | .headMirRead q => some (0x0C02, q)
  | .headGateTest q => some (0x0C03, q)
  | .headEnable q => some (0x0C04, q)
  | .headDisable q => some (0x0C05, q)
  | .headStatus q => some (0x0C06, q)
  | .headBridgeMgmt q => some (0x0C07, q)
  | .thermLevels q => some (0x0D01, q)
  | .thermRead q => some (0x0D02, q)
  | .thermSensorTrim q => some (0x0D03, q)
  | .thermPowerState q => some (0x0D04, q)
  | .thermPmbus q => some (0x0D05, q)
  | .thermBudget q => some (0x0D06, q)
  | .pairConfig q => some (0x0E01, q)
  | .pairHealth q => some (0x0E02, q)
  | .pairHandover q => some (0x0E03, q)
  | .pairMirror q => some (0x0E04, q)
  | .pairStatus q => some (0x0E05, q)
  | .pairRejoin q => some (0x0E06, q)
  | .statFrameRecord q => some (0x0F01, q)
  | .statCounters q => some (0x0F02, q)
  | .statClear q => some (0x0F03, q)
  | .statEventMask q => some (0x0F04, q)
  | .statEventFetch q => some (0x0F05, q)
  | .statPeaks q => some (0x0F06, q)
  | .diagSelfTest q => some (0x1001, q)
  | .diagUnitRestore q => some (0x1002, q)
  | .diagUnitRetire q => some (0x1003, q)
  | .diagMemTest q => some (0x1004, q)
  | .diagRegRead q => some (0x1005, q)
  | .diagInject q => some (0x1006, q)
  | .diagTrace q => some (0x1007, q)
  | .sqDb _ _ _ => none
  | .cqDb _ _ _ => none
  | .evqDb _ _ => none
  | .ringEnableSet _ _ => none
  | .ringEnableClear _ _ => none
  | .ringReset _ _ => none
  | .evqEnableSet _ => none
  | .evqEnableClear _ => none
  | .bar2WindowRead _ _ _ _ => none
  | .bar2WindowWrite _ _ _ => none
  | .registerWrite _ _ _ _ => none
  | .slotFetch _ _ _ _ _ _ _ => none
  | .journalWriteDone _ => none
  | .completionCoalesceTimeout _ _ => none
  | .eventCoalesceTimeout _ _ => none
  | .commandDatagram _ _ _ _ _ _ _ => none
  | .arpRequest _ _ _ _ _ _ => none
  | .icmpEchoRequest _ _ _ _ _ _ _ _ => none
  | .ptpMessage _ _ _ _ _ => none
  | .pathHoldExpiry _ _ => none
  | .announceTimeout _ _ => none
  | .holdoverWarn _ _ => none
  | .ptpMasterSend _ _ _ => none
  | .ptpDelayRequest _ _ => none
  | .tb3RateStep _ => none
  | .tbfReload _ _ => none
  | .triggerFire _ _ => none
  | .conversionComplete _ _ _ _ => none
  | .captureInputEdge _ _ _ => none
  | .encoderEdge _ _ _ _ _ _ => none
  | .compareCatchUpFire _ _ => none
  | .encoderStall _ _ => none
  | .backupOffsetRefresh _ => none
  | .webEstimateUpdate _ => none
  | .lineTick _ => none
  | .readinessPoint _ => none
  | .sendDeadline _ _ _ => none
  | .stampFormation _ _ _ _ => none
  | .runEnd _ => none
  | .printInhibitAssert _ => none
  | .printInhibitRelease _ => none
  | .renderHeadLine _ _ _ => none
  | .composeContoneLine _ => none
  | .blockDecode _ _ _ _ _ _ _ => none
  | .memoryReadComplete _ _ _ _ => none
  | .patrolScrubRead _ _ _ => none
  | .unitRetirement _ _ => none
  | .pageMigrationDone _ _ => none
  | .packetReceive _ _ _ _ _ _ => none
  | .ackReceive _ _ _ _ _ => none
  | .nakReceive _ _ _ _ _ => none
  | .creditReceive _ _ _ _ _ => none
  | .alignReceive _ _ _ _ _ => none
  | .alignSend _ _ => none
  | .ackTimeout _ _ _ => none
  | .nakRepeat _ _ _ => none
  | .creditSend _ _ _ => none
  | .linePacketSend _ _ _ => none
  | .stampPacketSend _ _ => none
  | .blockLockLost _ _ => none
  | .blockLockGained _ _ => none
  | .huntSlip _ _ => none
  | .laneDown _ _ => none
  | .courseRetrain _ _ => none
  | .timeSyncSend _ _ => none
  | .timeEcho _ _ _ _ _ => none
  | .bridgeHello _ _ _ => none
  | .claimAck _ _ _ => none
  | .claimAckTimeout _ _ => none
  | .ownerChanged _ _ _ _ => none
  | .bridgeStatus _ _ _ => none
  | .mgmtReply _ _ _ => none
  | .headTempStale _ _ => none
  | .barSilenceHalt _ _ => none
  | .csiFrameStart _ _ _ _ => none
  | .csiLinePacket _ _ _ _ _ _ _ _ => none
  | .csiFrameEnd _ _ _ _ => none
  | .pipelineLineTurn _ => none
  | .exposureMid _ _ _ => none
  | .exposureRecordTimeout _ _ _ => none
  | .camCalibrateHoldEnd _ _ => none
  | .gatePulse _ _ => none
  | .thermalSample _ _ => none
  | .substitutionFloor _ => none
  | .shutdownHoldEnd _ => none
  | .hardwareTrip _ _ _ => none
  | .avsAdjust _ _ _ => none
  | .pmbusPoll _ _ _ => none
  | .powerSupervisorFault _ => none
  | .wake _ _ => none
  | .porstNRelease _ _ => none
  | .sysRstNAssert _ => none
  | .watchdogExpiry _ => none
  | .pciePerstNAssert _ => none
  | .trialBootTimeout _ => none
  | .idleRecordClose _ => none
  | .heartbeatSend _ => none
  | .heartbeatReceive _ _ _ _ _ => none
  | .heartbeatLoss _ => none
  | .peerAliveFall _ => none
  | .pairYieldNLow _ => none
  | .pairHello _ _ _ => none
  | .ptimeSync _ _ _ _ _ _ => none
  | .ptimeEcho _ _ _ _ => none
  | .baselineReceive _ _ => none
  | .recordReceive _ _ _ _ _ _ _ => none
  | .recordAck _ _ _ => none
  | .recordAckTimeout _ => none
  | .framePacketReceive _ _ => none
  | .checkpointSend _ => none
  | .checkpointReceive _ _ => none
  | .mirrorReceive _ _ _ _ => none
  | .standbySelfTest _ _ => none
  | .pairHealthEvaluate _ => none
  | .healthReceive _ _ => none
  | .yieldReceive _ _ => none
  | .handoverReq _ => none
  | .handoverReady _ => none
  | .handoverGo _ _ => none
  | .handoverDone _ => none
  | .handoverTimeout _ => none
  | .jobDeleteDone _ _ => none
  | .norWriteDone _ => none
  | .profileSaveHoldExpiry _ => none
  | .porstNAssert _ => none
  | .sysRstNRelease _ => none
  | .bootReady _ => none
  | .pciePerstNRelease _ => none
  | .peerAliveRise _ => none
  | .pairYieldNRelease _ => none
  | .tapInstruction _ _ => none
  | .prbsCheckerInput _ _ _ => none
  | .hsSyncLost _ _ _ => none
  | .hsSyncRegained _ _ _ => none
  | .i2cTransferDone _ _ _ _ => none
  | .gateTestShot _ _ => none
  | .gateTestEnd _ _ => none
  | .posCalibrateTimeout _ _ => none
  | .mgmtReplyTimeout _ _ => none
  | .linkTrainTimeout _ _ => none
  | .pairRejoinTimeout _ => none
  | .yieldCriterionTimer _ _ _ => none
  | .powerSupervisorClear _ _ => none
  | .pllLockLost _ _ => none
  | .pllRelocked _ _ => none
  | .lockstepMismatch _ _ => none

/-- Opcodes whose effect changes nothing but the host interface and the statistics: they read, greet, or clear the statistics. -/
def leavesRest (op : Nat) : Bool :=
  [0x0101, 0x0102, 0x0103, 0x0105, 0x0201, 0x0202, 0x0209, 0x0305, 0x0306, 0x0408, 0x0505, 0x0509, 0x0609, 0x0706, 0x0803, 0x0902, 0x0908, 0x0C02, 0x0C06, 0x0D02, 0x0E02, 0x0E05, 0x0F01, 0x0F02, 0x0F03, 0x0F05].contains op

/-- Everything but the host interface (rings, event ring, vectors), the statistics, what has been put out and the model's queue:
what neither a completion nor an event changes. -/
def State.rest (s : State) : Sec × Nor × Pos × Tim × Store × Compose × Bars × Fire × Links × Cam × Colour × Thermal × PairUnit × Board × Nat :=
  (s.sec, s.nor, s.pos, s.tim, s.store, s.cps, s.bars, s.fire, s.links, s.cam, s.clr, s.thm, s.pair, s.board, s.free)

end Sys2Proof.Machine
end

