-- ==== Sys2Proof/Certificates/Slice0/Obligations.lean ====
section
/-!
DEFINITION. The statements for the provers. For the rows of each group: on what state and operands they complete, and the next state,
whole. A command is taken on the state `s₀.begun op q`, in which its time has passed and it is in flight and has started; its next state
is what it leaves there, with its completion where it has finished. What a completion leaves unchanged is CompletionFrame; what the time
that passes leaves unchanged is TimePassesAlone.
-/
open Sys2Proof Sys2Proof.Machine

/-- A step with a row at the front of the queue is exec of that row on the state with the queue's rest. The queue is the model's own (log 1). (02_architecture.md) -/
def Obligations.StepRunsFront : Prop :=
  ∀ (c : Instr) (s : State), step { s with pending := c :: s.pending } = exec c s

/-- With no row waiting, a step is what the device does of its own accord: in reset and in P3 and P4 nothing; else the oldest command that a barrier held back and that may start now starts (R65); with none, nothing. That a step on an empty queue is this is the model's choice (log 2). (R65) -/
def Obligations.StepOnEmptyQueue : Prop :=
  ∀ s : State, s.pending = [] →
    step s = .next (idle s) ∧
    (s.held = true ∨ s.thm.power = .p3 ∨ s.thm.power = .p4 ∨ startable [] s.hif.inflight = none → step s = .next s) ∧
    (∀ e, s.held = false → s.thm.power ≠ .p3 → s.thm.power ≠ .p4 → startable [] s.hif.inflight = some e →
      step s = .next (carryOut e.opcode (opTable e.opcode).1 (opTable e.opcode).2 e.cmd s) ∧
      e ∈ s.hif.inflight ∧ e.started = false)

/-- After every step that answers a next state, the queue is what stood behind its front. The queue is the model's own (log 1). (02_architecture.md) -/
def Obligations.QueueConsumed : Prop :=
  ∀ s t : State, step s = .next t → t.pending = s.pending.tail

/-- For every host command: where the device fetches it, its TAG is free, no barrier holds it back, checks 7 to 9 and its own pass, nothing exclusive holds what it needs and no standby refuses it, exec answers its opcode's effect on the state in which it has started, and its completion where it has finished. The table of opcodes is that of Table 3-19. (R54, R64, R65, R66, R70, R80) -/
def Obligations.HostCommandsRun : Prop :=
  ∀ (c : Instr) (s : State) (op : Nat) (q : Cmd), hostCommand c = some (op, q) → Runs op (opTable op).1 q s = true →
    exec c s = .next (((opTable op).2 q (s.begun op q)).left q)

/-- For every host command that starts: a reserved FLAGS bit that is set (R7), or else its own first failing check, gives its reply (R70); where an exclusive command holds what it needs the reply is ST_BUSY (R66); where a standby refuses it ST_STATE with DETAIL 0x01F1 (15 R395). And a completion that is not ST_OK changes nothing outside the host interface and the statistics. (R66, R70, R395) -/
def Obligations.FailedCommandsAreCarriedOutInNoPart : Prop :=
  ∀ (c : Instr) (s : State) (op : Nat) (q : Cmd), hostCommand c = some (op, q) → Starts op q s = true →
    let t := s.begun op q
    let held := (t.holding .device && !unitFree op) || t.barHeld op q
    (∀ r, (flagFault q).or ((opTable op).1 q t) = some r → exec c s = .next (finish q.id r t)) ∧
    (flagFault q = none → (opTable op).1 q t = none → held = true → exec c s = .next (finish q.id (.err .busy) t)) ∧
    (flagFault q = none → (opTable op).1 q t = none → held = false → t.standbyRefuses op q = true → exec c s = .next (finish q.id (.err .state 0x01F1) t)) ∧
    (∀ r : Reply, r.status ≠ .ok → (finish q.id r t).rest = (advance q.dt s).rest)

/-- For every host command: a ring that is not fetching leaves its slot unfetched (the row then stands for nothing, log 5); the first failing check of checks 7 to 9 completes it at once; and while a barrier holds it back it stands in flight, not started. (R54, R65, R70) -/
def Obligations.WhereACommandWaits : Prop :=
  ∀ (c : Instr) (s₀ : State) (op : Nat) (q : Cmd), hostCommand c = some (op, q) → q.ring < 8 →
    let s := advance q.dt s₀
    let t := s.onHif fun h => { h with
      inflight := h.inflight ++ [{ cmd := q, opcode := op }] }
    (s.mayFetch q.ring = false → exec c s₀ = .next s) ∧
    (s.mayFetch q.ring = true → s.flying q.id = none → ∀ r, gateCheck op q t = some r → exec c s₀ = .next (deliver q.id r t)) ∧
    (s.mayFetch q.ring = true → s.flying q.id = none → gateCheck op q t = none → mayStart q s.hif.inflight = false → exec c s₀ = .next t)

/-- The device knows a command in flight by its ring and its TAG. A command, or a slot that passes the earlier checks, whose TAG is in flight on its ring completes at once with ST_BAD_PARAM and DETAIL 0x0002, and what is in flight is not affected. (R64) -/
def Obligations.TagInFlight : Prop :=
  (∀ (s : State) (n tag : Nat) (e : InFlight), s.flying (n, tag) = some e → e ∈ s.hif.inflight ∧ e.cmd.ring = n ∧ e.cmd.tag = tag) ∧
  (∀ (c : Instr) (s₀ : State) (op : Nat) (q : Cmd) (e : InFlight), hostCommand c = some (op, q) → q.ring < 8 →
    let s := advance q.dt s₀
    let t := deliverTo op q (.err .badParam 0x0002) s
    s.mayFetch q.ring = true → s.flying q.id = some e →
    exec c s₀ = .next t ∧ t.hif.inflight = s.hif.inflight ∧ t.rest = s.rest) ∧
  (∀ (dt ring : Nat) (slot pblk : List Byte) (descs : List Desc) (data : List Byte) (s₀ : State) (e : InFlight),
    ring < 8 → slot.length = 128 →
    let s := advance dt s₀
    let v := viewSlot slot
    s.mayFetch ring = true → (s.ring ring).ethernet = false → (s.ring ring).sqHead ≠ (s.ring ring).sqTail → v.seq = (s.ring ring).expSeq →
    (if v.opcode = 0x0102 then 1 ≤ v.version ∧ v.version ≤ 15 else v.version = (s.ring ring).agreed) →
    v.length ≤ (if v.auth then 72 else 96) → v.pblkLen ≤ 1048576 → s.flying (ring, v.tag) = some e →
    let u := s.onRing ring fun r => { r with
      sqHead := (r.sqHead + 1) % 2 ^ r.sqLog2, expSeq := (r.expSeq + 1) % 2 ^ 32 }
    let t := deliverTo v.opcode (slotCmd slot ring (padTo v.pblkLen pblk) descs data none) (.err .badParam 0x0002) u
    exec (.slotFetch dt ring slot pblk descs data false) s₀ = .next t ∧ t.hif.inflight = s.hif.inflight ∧ t.rest = s.rest)

/-- Every well-formed row answers a next state in every state; a read of device memory where its line is fitted. A row that names a ring, a port, a lane or another unit that the device does not have stops. (R29, R158) -/
def Obligations.RowsAlwaysAnswer : Prop :=
  ∀ (c : Instr) (s : State),
    (c.wellFormed = true → (∀ dt line owner ecc, c = .memoryReadComplete dt line owner ecc → line < s.store.lines) → ∃ t, exec c s = .next t) ∧
    (c.wellFormed = false → exec c s = .fault .noSuchUnit)

/-- Where a SYS command is taken and its checks pass, exec answers the next state with its own effect (its result and every field it writes; nothing else changes but its completion) for every row of the group. (R81, R82, R427, R67, R443, R434, R435, R105, R106) -/
def Obligations.SysCommandsComplete : Prop :=
  (∀ (q : Cmd) (s₀ : State), Runs 0x0101 noParams q s₀ = true → let s := s₀.begun 0x0101 q;
    exec (.sysIdentify q) s₀ = .next ((Ans.done (.good (identity q s)) s).left q)) ∧
  (∀ (q : Cmd) (s₀ : State) (v : Nat), Runs 0x0102 sysHelloCheck q s₀ = true → let s := s₀.begun 0x0102 q; agree (q.u8 1) (q.u8 0) = some v →
    exec (.sysHello q) s₀ = .next ((Ans.done (.good (toLe 1 v ++ toLe 1 0 ++ toLe 2 s.hif.floor ++ toLe 2 s.sec.running.featLevel ++ toLe 2 0
      ++ toLe 4 s.sec.running.fwVersion ++ toLe 2 0x8200 ++ toLe 1 0xA1 ++ toLe 1 (s.cmdRole q))) (s.onRing q.ring fun r => { r with agreed := v, featHost := q.u16 2, hostId := q.u32 4 })).left q)) ∧
  (∀ (q : Cmd) (s₀ : State), Runs 0x0103 sysHealthCheck q s₀ = true → let s := s₀.begun 0x0103 q;
    exec (.sysHealth q) s₀ = .next ((Ans.done (.withExt (healthResult s) (q.u64 8) (healthBlock (if q.src.isSome then 85 else s.stat.retired.length) s)) (s.onStat fun t => { t with overwritten := false, lostAtHealth := s.hif.lost })).left q)) ∧
  (∀ (q : Cmd) (s₀ : State) (e : InFlight), Runs 0x0104 sysAbortCheck q s₀ = true → let s := s₀.begun 0x0104 q; s.flying (q.u8 0, q.u16 2) = some e → e.started = false → e.cmd.id = (q.u8 0, q.u16 2) →
    exec (.sysAbort q) s₀ = .next ((Ans.done .good (deliver (q.u8 0, q.u16 2) (.err .cancelled) s)).left q)) ∧
  (∀ (q : Cmd) (s₀ : State) (e : InFlight), Runs 0x0104 sysAbortCheck q s₀ = true → let s := s₀.begun 0x0104 q; s.flying (q.u8 0, q.u16 2) = some e → e.started = true → e.abortable = true →
    exec (.sysAbort q) s₀ = .next ((Ans.done .good (cancelStarted e s)).left q)) ∧
  (∀ (q : Cmd) (s₀ : State), Runs 0x0105 noParams q s₀ = true → let s := s₀.begun 0x0105 q;
    exec (.sysNop q) s₀ = .next ((Ans.done .good s).left q)) ∧
  (∀ (q : Cmd) (s₀ : State), Runs 0x0106 sysResetCheck q s₀ = true → let s := s₀.begun 0x0106 q;
    exec (.sysReset q) s₀ = .next ((Ans.done .good (s.onSec fun c => { c with resetOrdered := some 3 })).left q)) ∧
  (∀ (q : Cmd) (s₀ : State), Runs 0x0107 sysConfigSaveCheck q s₀ = true → let s := s₀.begun 0x0107 q; q.u8 0 = 2 →
    exec (.sysConfigSave q) s₀ = .next (beginNor 4 q.pblk q.id (hold q [.device] false s))) ∧
  (∀ (q : Cmd) (s₀ : State), Runs 0x0107 sysConfigSaveCheck q s₀ = true → let s := s₀.begun 0x0107 q; q.u8 0 ≠ 2 →
    exec (.sysConfigSave q) s₀ = .next (beginNor 3 [] q.id ((hold q [.device] false s).onBoard fun b => { b with saving := some (q.u8 0, bit (q.u8 1) 0) }))) ∧
  (∀ (q : Cmd) (s₀ : State) (t : State), Runs 0x0108 sysConfigLoadCheck q s₀ = true → let s := s₀.begun 0x0108 q; replayAll replayTable ((s.nor.configs.getD (q.u8 0) none).getD []) 0 s = .ok t →
    exec (.sysConfigLoad q) s₀ = .next ((Ans.done .good t).left q)) ∧
  (∀ (q : Cmd) (s₀ : State), Runs 0x0109 sysFwWriteCheck q s₀ = true → let s := s₀.begun 0x0109 q;
    exec (.sysFwWrite q) s₀ = .next (beginNor 2 (q.bulk (q.u32 4)) q.id ((hold q [.fwSlot (q.u8 0)] true s).onNor fun f => { f with slots := upd (q.u8 0) (fun _ => none) f.slots }))) ∧
  (∀ (q : Cmd) (s₀ : State), Runs 0x010A sysFwActivateCheck q s₀ = true → let s := s₀.begun 0x010A q; q.u8 0 = 0 →
    exec (.sysFwActivate q) s₀ = .next ((Ans.done .good ((s.emit (.nor 5 [])).onNor fun n => { n with trial := some (q.u8 1) })).left q)) ∧
  (∀ (q : Cmd) (s₀ : State), Runs 0x010A sysFwActivateCheck q s₀ = true → let s := s₀.begun 0x010A q; q.u8 0 = 1 →
    exec (.sysFwActivate q) s₀ = .next ((Ans.done .good (((s.emit (.nor 5 [])).onNor fun n => { n with bootSlot := s.sec.bootImage }).onSec fun c => { c with confirmed := true, onTrial := false })).left q)) ∧
  (∀ (q : Cmd) (s₀ : State), Runs 0x010A sysFwActivateCheck q s₀ = true → let s := s₀.begun 0x010A q; 2 ≤ q.u8 0 →
    exec (.sysFwActivate q) s₀ = .next ((Ans.done .good (s.onSec fun c => { c with svnMin := max c.svnMin c.running.svn })).left q)) ∧
  (∀ (q : Cmd) (s₀ : State), Runs 0x010B sysGpioCheck q s₀ = true → let s := s₀.begun 0x010B q;
    let s := s.onBoard fun b => { b with
      gpioDir := mergeBits (q.u16 0) (q.u16 2) b.gpioDir, gpioOd := mergeBits (q.u16 0) (q.u16 4) b.gpioOd
      gpioOut := mergeBits (q.u16 0) (q.u16 6) b.gpioOut }
    let s := s.emits (((List.range 16).filter fun i => bit (q.u16 0) i && bit (q.u16 2) i).map fun i => .pin (.gpio i) (bit (q.u16 6) i))
   
    exec (.sysGpio q) s₀ = .next ((Ans.done (.good (toLe 2 s.board.levels)) s).left q))

/-- Where a SEC command is taken and its checks pass, exec answers the next state with its own effect: what it returns, the NOR write it begins, the lifecycle transition or the debug state it sets, and nothing else but its completion. (R87, R91, R92, R93, R96, R98, R107) -/
def Obligations.SecCommandsComplete : Prop :=
  (∀ (q : Cmd) (s₀ : State), Runs 0x0201 noParams q s₀ = true → let s := s₀.begun 0x0201 q;
    exec (.secStatus q) s₀ = .next ((Ans.done (.good (secStatusResult s)) s).left q)) ∧
  (∀ (q : Cmd) (s₀ : State), Runs 0x0202 secProtectReadCheck q s₀ = true → let s := s₀.begun 0x0202 q;
    exec (.secProtectRead q) s₀ = .next ((Ans.done (.withExt (toLe 4 s.sec.prot.generation ++ toLe 4 s.sec.prot.crcOf) (q.u64 0) s.sec.prot.encode) s).left q)) ∧
  (∀ (q : Cmd) (s₀ : State) (t : ProtTable), Runs 0x0203 secProtectWriteCheck q s₀ = true → let s := s₀.begun 0x0203 q; let x := judgeFlying t q.id ((hold q [.device] false s).onHif fun h => { h with stops := .protect :: h.stops }); ProtTable.decode q.pblk = some t →
    exec (.secProtectWrite q) s₀ = .next (beginNor 0 t.encode q.id (x.2.onSec fun c => { c with switch := some { table := t, cmd := q.id, cancelled := x.1, writing := true } }))) ∧
  (∀ (q : Cmd) (s₀ : State), Runs 0x0204 secKeyLoadCheck q s₀ = true → let s := s₀.begun 0x0204 q; let t := (changeKeys 0x0204 q s).sec;
    exec (.secKeyLoad q) s₀ = .next (beginNor 1 (wrapStore t.keys t.current) q.id (hold q [.device] false s))) ∧
  (∀ (q : Cmd) (s₀ : State), Runs 0x0205 secKeyRotateCheck q s₀ = true → let s := s₀.begun 0x0205 q; let w := s.onHif fun h => { h with stops := .role (q.u8 0) :: h.stops }; let t := (changeKeys 0x0205 q w).sec;
    exec (.secKeyRotate q) s₀ = .next (beginNor 1 (wrapStore t.keys t.current) q.id (hold q [.device] false w))) ∧
  (∀ (q : Cmd) (s₀ : State), Runs 0x0206 secKeyRevokeCheck q s₀ = true → let s := s₀.begun 0x0206 q; let t := (changeKeys 0x0206 q s).sec;
    exec (.secKeyRevoke q) s₀ = .next (beginNor 1 (wrapStore t.keys t.current) q.id (hold q [.device] false s))) ∧
  (∀ (q : Cmd) (s₀ : State), Runs 0x0207 secLifecycleCheck q s₀ = true → let s := s₀.begun 0x0207 q;
    exec (.secLifecycle q) s₀ = .next ((Ans.done .good (advanceLifecycle (Lifecycle.ofCode (q.u8 0)) s)).left q)) ∧
  (∀ (q : Cmd) (s₀ : State), Runs 0x0208 secDebugCheck q s₀ = true → let s := s₀.begun 0x0208 q; s.sec.debug = .full → Debug.ofCode (q.u8 0) ≠ .full →
    exec (.secDebug q) s₀ = .next ((Ans.done .good ((setDebug (Debug.ofCode (q.u8 0)) s).onSec fun c => { c with resetOrdered := some 5 })).left q)) ∧
  (∀ (q : Cmd) (s₀ : State), Runs 0x0208 secDebugCheck q s₀ = true → let s := s₀.begun 0x0208 q; s.sec.debug ≠ .full ∨ Debug.ofCode (q.u8 0) = .full →
    exec (.secDebug q) s₀ = .next ((Ans.done .good (setDebug (Debug.ofCode (q.u8 0)) s)).left q)) ∧
  (∀ (q : Cmd) (s₀ : State), Runs 0x0209 secCounterReadCheck q s₀ = true → let s := s₀.begun 0x0209 q; q.u8 1 ≠ 0xFF →
    exec (.secCounterRead q) s₀ = .next ((Ans.done (.good (toLe 8 (s.sec.counters.getD (4 * q.u8 0 + q.u8 1) {}).last ++ toLe 8 (s.sec.counters.getD (4 * q.u8 0 + q.u8 1) {}).mark)) s).left q)) ∧
  (∀ (q : Cmd) (s₀ : State), Runs 0x0209 secCounterReadCheck q s₀ = true → let s := s₀.begun 0x0209 q; q.u8 1 = 0xFF →
    exec (.secCounterRead q) s₀ = .next ((Ans.done (.good (toLe 8 (s.sec.counters.getD (4 * q.u8 0 + (s.ring (q.u8 0)).role) {}).last ++ toLe 8 (s.sec.counters.getD (4 * q.u8 0 + (s.ring (q.u8 0)).role) {}).mark)) s).left q))

/-- Where a JOB command is taken and its checks pass, exec answers the next state with its own effect: the job it adds, marks for deletion or cancels, or the list it returns. (R179, R182, R183, R184, R185) -/
def Obligations.JobCommandsComplete : Prop :=
  (∀ (q : Cmd) (s₀ : State), Runs 0x0301 jobLoadCheck q s₀ = true → let s := s₀.begun 0x0301 q;
    exec (.jobLoad q) s₀ = .next (addJob { id := q.u32 0, pages := pagesOf (q.u64 24), load := some { cmd := q.id, verify := bit (q.u8 4) 0 } } (hold q (if bit (q.u8 4) 0 then [.encoder] else []) true s))) ∧
  (∀ (q : Cmd) (s₀ : State), Runs 0x0302 jobEncodeCheck q s₀ = true → let s := s₀.begun 0x0302 q;
    exec (.jobEncode q) s₀ = .next (addJob { id := q.u32 0, load := some { cmd := q.id, encode := true, maxPages := q.u32 32 } } ((hold q [.encoder] true s).onStore fun t => { t with staging := min 32 t.freePages }))) ∧
  (∀ (q : Cmd) (s₀ : State) (e : InFlight), Runs 0x0303 jobCancelCheck q s₀ = true → let s := s₀.begun 0x0303 q; s.jobFlying (q.u32 0) = some e → e.started = false →
    exec (.jobCancel q) s₀ = .next ((Ans.done .good (deliver e.cmd.id (.err .cancelled) s)).left q)) ∧
  (∀ (q : Cmd) (s₀ : State) (e : InFlight), Runs 0x0303 jobCancelCheck q s₀ = true → let s := s₀.begun 0x0303 q; s.jobFlying (q.u32 0) = some e → e.started = true → e.abortable = true →
    exec (.jobCancel q) s₀ = .next ((Ans.done .good (cancelStarted e s)).left q)) ∧
  (∀ (q : Cmd) (s₀ : State), Runs 0x0304 jobDeleteCheck q s₀ = true → let s := s₀.begun 0x0304 q;
    exec (.jobDelete q) s₀ = .next (s.onJob (q.u32 0) fun j => { j with st := .deleting, delete := some q.id })) ∧
  (∀ (q : Cmd) (s₀ : State), Runs 0x0305 jobListCheck q s₀ = true → let s := s₀.begun 0x0305 q; let got := (s.store.jobs.drop (q.u32 0)).take (q.u16 4);
    exec (.jobList q) s₀ = .next ((Ans.done (.withExt (toLe 2 got.length ++ toLe 2 s.store.jobs.length) (q.u64 8) (got.flatMap (jobEntry s))) s).left q)) ∧
  (∀ (q : Cmd) (s₀ : State) (j : Job), Runs 0x0306 jobInfoCheck q s₀ = true → let s := s₀.begun 0x0306 q; let got := ((indexed (directory j.bytes)).drop (q.u16 4)).take (q.u16 6); s.job (q.u32 0) = some j → j.usable = true →
    exec (.jobInfo q) s₀ = .next ((Ans.done (.withExt (toLe 1 j.st.code ++ toLe 1 0 ++ toLe 2 (objCount j.bytes) ++ toLe 2 got.length ++ toLe 2 0 ++ toLe 4 j.pages
        ++ toLe 4 (j.bad.length + j.badMore)) (q.u64 8) (j.bytes.take 64 ++ got.flatMap fun x => objEntry j x.1 x.2)) s).left q)) ∧
  (∀ (q : Cmd) (s₀ : State) (j : Job), Runs 0x0306 jobInfoCheck q s₀ = true → let s := s₀.begun 0x0306 q; s.job (q.u32 0) = some j → j.usable = false →
    exec (.jobInfo q) s₀ = .next ((Ans.done (.good (toLe 1 j.st.code ++ toLe 7 0 ++ toLe 4 j.pages)) s).left q)) ∧
  (∀ (q : Cmd) (s₀ : State), Runs 0x0307 jobStoreStatusCheck q s₀ = true → let s := s₀.begun 0x0307 q; bit (q.u8 0) 0 = false →
    exec (.jobStoreStatus q) s₀ = .next ((Ans.done (.withExt (toLe 4 s.store.totalPages ++ toLe 4 s.store.freePages ++ toLe 4 s.store.jobPages ++ toLe 2 s.store.retired.length
        ++ toLe 2 s.store.spares) (q.u64 8) (if q.src.isNone && q.u64 8 == 0 then [] else storeBlock s.store)) s).left q)) ∧
  (∀ (q : Cmd) (s₀ : State), Runs 0x0307 jobStoreStatusCheck q s₀ = true → let s := s₀.begun 0x0307 q; let s := checkLow (s.onStore fun t => { t with lowMark := q.u32 4, lowArmed := true }); bit (q.u8 0) 0 = true →
    exec (.jobStoreStatus q) s₀ = .next ((Ans.done (.withExt (toLe 4 s.store.totalPages ++ toLe 4 s.store.freePages ++ toLe 4 s.store.jobPages ++ toLe 2 s.store.retired.length
        ++ toLe 2 s.store.spares) (q.u64 8) (if q.src.isNone && q.u64 8 == 0 then [] else storeBlock s.store)) s).left q)) ∧
  (∀ (q : Cmd) (s₀ : State), Runs 0x0308 jobReadCheck q s₀ = true → let s := s₀.begun 0x0308 q;
    exec (.jobRead q) s₀ = .next (setAbortable q.id true s))

/-- Where a LAYER command is taken and its checks pass, exec answers the next state with its own effect: at once with no run armed, else held for the next frame boundary. (R191, R192, R199, R203, R207, R208, R216) -/
def Obligations.LayerCommandsComplete : Prop :=
  (∀ (q : Cmd) (s₀ : State), Runs 0x0401 layerConfigCheck q s₀ = true → let s := s₀.begun 0x0401 q; s.fire.run = none →
    exec (.layerConfig q) s₀ = .next ((Ans.done (madeCfg q s).2 (s.onLayer (q.u8 0) (Layer.config (madeCfg q s).1))).left q)) ∧
  (∀ (q : Cmd) (s₀ : State) (r : Run), Runs 0x0401 layerConfigCheck q s₀ = true → let s := s₀.begun 0x0401 q; s.fire.run = some r →
    exec (.layerConfig q) s₀ = .next (keepFor q.id (madeCfg q s).2 (s.onLayer (q.u8 0) fun l => { l with pend := some ((madeCfg q s).1, q.id), merged := l.merged ++ (l.pend.map (·.2)).toList }))) ∧
  (∀ (q : Cmd) (s₀ : State), Runs 0x0402 layerFlipCheck q s₀ = true → let s := s₀.begun 0x0402 q; (s.job (q.u32 4)).any (·.usable) = true → flipFault (q.u8 0) (q.u32 4) (q.u32 8) s = none →
    exec (.layerFlip q) s₀ = .next (setAbortable q.id true (s.onLayer (q.u8 0) fun l => { l with flips := l.flips ++ [
      { cmd := q.id, job := q.u32 4, obj := q.u32 8, target := flipTarget (s.layer (q.u8 0)) (q.u32 12) s
        wait := if bit (q.u8 1) 1 then some (q.u8 2, q.u32 16) else none
        origin := if bit (q.u8 1) 0 then some (q.s32 20, q.s32 24) else none }] }))) ∧
  (∀ (q : Cmd) (s₀ : State), Runs 0x0403 layerFenceCheck q s₀ = true → let s := s₀.begun 0x0403 q; bit (q.u8 1) 0 = true →
    exec (.layerFence q) s₀ = .next ((Ans.done (.good (toLe 4 (q.u32 4))) (s.onCps fun c => { c with fences := upd (q.u8 0) (fun _ => q.u32 4) c.fences })).left q)) ∧
  (∀ (q : Cmd) (s₀ : State), Runs 0x0403 layerFenceCheck q s₀ = true → let s := s₀.begun 0x0403 q; bit (q.u8 1) 0 = false →
    exec (.layerFence q) s₀ = .next ((Ans.done (.good (toLe 4 (max (s.cps.fences.getD (q.u8 0) 0) (q.u32 4)))) (s.onCps fun c => { c with fences := upd (q.u8 0) (fun _ => max (s.cps.fences.getD (q.u8 0) 0) (q.u32 4)) c.fences })).left q)) ∧
  (∀ (q : Cmd) (s₀ : State) (p : Palette), Runs 0x0404 layerPaletteCheck q s₀ = true → let s := s₀.begun 0x0404 q; palObject q s = some p →
    exec (.layerPalette q) s₀ = .next ((Ans.done .good (s.onCps fun c => { c with palettes := upd (q.u8 0) (fun _ => p) c.palettes })).left q)) ∧
  (∀ (q : Cmd) (s₀ : State), Runs 0x0405 layerToneCheck q s₀ = true → let s := s₀.begun 0x0405 q;
    exec (.layerTone q) s₀ = .next ((Ans.done .good (s.onCps fun c => { c with transforms := upd (q.u8 0) (fun _ => some { tone := (toneObject q s).getD [], cube := (cubeObject q s).getD [] }) c.transforms })).left q)) ∧
  (∀ (q : Cmd) (s₀ : State), Runs 0x0406 layerOrderCheck q s₀ = true → let s := s₀.begun 0x0406 q; s.fire.run = none →
    exec (.layerOrder q) s₀ = .next ((Ans.done .good (s.onCps fun c => { c with order := { mode := q.u8 0, list := (List.range (q.u8 1)).map fun i => q.u8 (4 + i) } })).left q)) ∧
  (∀ (q : Cmd) (s₀ : State) (r : Run), Runs 0x0406 layerOrderCheck q s₀ = true → let s := s₀.begun 0x0406 q; s.fire.run = some r →
    exec (.layerOrder q) s₀ = .next (s.onCps fun c => { c with pendOrder := some ({ mode := q.u8 0, list := (List.range (q.u8 1)).map fun i => q.u8 (4 + i) }, ((c.pendOrder.map (·.2)).getD []) ++ [q.id]) })) ∧
  (∀ (q : Cmd) (s₀ : State), Runs 0x0407 layerGuardCheck q s₀ = true → let s := s₀.begun 0x0407 q;
    exec (.layerGuard q) s₀ = .next ((Ans.done (madeCfg q s).2 (s.onLayer 7 (Layer.config (madeCfg q s).1))).left q)) ∧
  (∀ (q : Cmd) (s₀ : State), Runs 0x0408 layerStatusCheck q s₀ = true → let s := s₀.begun 0x0408 q;
    exec (.layerStatus q) s₀ = .next ((Ans.done (.withExt (toLe 4 s.cps.nextFrame ++ toLe 1 s.cps.activeMask ++ toLe 1 s.pipes ++ toLe 1 s.cps.order.mode ++ toLe 1 0
      ++ toLe 2 (sliceWidth s.spanWidth s.pipes)) (q.u64 8) ((if q.u8 0 = 0xFF then List.range 8 else [q.u8 0]).flatMap (layerEntry s))) s).left q))

/-- Where a COLOUR command is taken and its checks pass, exec answers the next state with its own effect: limits and curves at once with no run armed, else held for the frame boundary; the loop, its trims, its profile, its strip and its ledger. (R204, R205, R342, R347, R350, R351, R363) -/
def Obligations.ColourCommandsComplete : Prop :=
  (∀ (q : Cmd) (s₀ : State), Runs 0x0501 colourInkLimitCheck q s₀ = true → let s := s₀.begun 0x0501 q; s.fire.run = none →
    exec (.colourInkLimit q) s₀ = .next ((Ans.done .good (s.onCps fun c => { c with limit := { limit := q.u32 0, mask := q.u8 4 } })).left q)) ∧
  (∀ (q : Cmd) (s₀ : State) (r : Run), Runs 0x0501 colourInkLimitCheck q s₀ = true → let s := s₀.begun 0x0501 q; s.fire.run = some r →
    exec (.colourInkLimit q) s₀ = .next (s.onCps fun c => { c with pendLimit := some ({ limit := q.u32 0, mask := q.u8 4 }, ((c.pendLimit.map (·.2)).getD []) ++ [q.id]) })) ∧
  (∀ (q : Cmd) (s₀ : State) (k : Curves), Runs 0x0502 colourCurvesCheck q s₀ = true → let s := s₀.begun 0x0502 q; s.fire.run = none → curvesObject q s = some k →
    exec (.colourCurves q) s₀ = .next ((Ans.done .good (s.onCps fun c => { c with curves := k })).left q)) ∧
  (∀ (q : Cmd) (s₀ : State) (r : Run) (k : Curves), Runs 0x0502 colourCurvesCheck q s₀ = true → let s := s₀.begun 0x0502 q; s.fire.run = some r → curvesObject q s = some k →
    exec (.colourCurves q) s₀ = .next (s.onCps fun c => { c with pendCurves := some (k, ((c.pendCurves.map (·.2)).getD []) ++ [q.id]) })) ∧
  (∀ (q : Cmd) (s₀ : State), Runs 0x0503 colourLoopConfigCheck q s₀ = true → let s := s₀.begun 0x0503 q;
    let o := (loopObject q s).getD []
    let s := s.onClr fun k => { k with
      ledgerBands := some (ledgerBands q), ledger := [], profile := profileOf o
      cfg := { bands := ledgerBands q, bars := q.u16 4, gain := orDefault (q.u16 6) 128, maxStep := orDefault (q.u16 8) 512
               trimRange := orDefault (q.u16 10) 4096, windowBands := orDefault (q.u16 12) 64, minPx := orDefault (q.u16 14) 1000
               minCell := orDefault (q.u16 16) 16, dominance := orDefault (q.u8 18) 154, xMin := orDefault (q.u8 19) 8 } }
    let s := checkLow (s.onStore fun t => { t with ledger := ledgerPages (ledgerBands q) })
   
    exec (.colourLoopConfig q) s₀ = .next ((Ans.done .good (((List.range 10).filter fun b => bit (rd o 8 2) b).foldl (fun s b =>
        barWrite b (fun i => { i.putTrims (profileTrims o b) with gen := (s.bar b).nextGen }) s) s)).left q)) ∧
  (∀ (q : Cmd) (s₀ : State), Runs 0x0504 colourLoopEnableCheck q s₀ = true → let s := s₀.begun 0x0504 q; q.u8 0 = 0 →
    exec (.colourLoopEnable q) s₀ = .next ((Ans.done (.good (toLe 1 0)) (setLoop .stopped s)).left q)) ∧
  (∀ (q : Cmd) (s₀ : State), Runs 0x0504 colourLoopEnableCheck q s₀ = true → let s := s₀.begun 0x0504 q; q.u8 0 = 1 →
    exec (.colourLoopEnable q) s₀ = .next ((Ans.done (.good (toLe 1 1)) (setLoop .running s)).left q)) ∧
  (∀ (q : Cmd) (s₀ : State), Runs 0x0504 colourLoopEnableCheck q s₀ = true → let s := s₀.begun 0x0504 q; 2 ≤ q.u8 0 → s.clr.st ≠ .stopped →
    exec (.colourLoopEnable q) s₀ = .next ((Ans.done (.good (toLe 1 2)) (setLoop .frozen s)).left q)) ∧
  (∀ (q : Cmd) (s₀ : State), Runs 0x0505 colourTrimReadCheck q s₀ = true → let s := s₀.begun 0x0505 q;
    exec (.colourTrimRead q) s₀ = .next ((Ans.done (.withExt (toLe 4 (s.bar (q.u8 0)).act.gen) (q.u64 8) (if q.src.isNone && q.u64 8 == 0 then []
      else (List.range (q.u8 2)).flatMap fun z => (((s.bar (q.u8 0)).act.trim (q.u8 1 + z)).flatMap (toLe 2)))) s).left q)) ∧
  (∀ (q : Cmd) (s₀ : State), Runs 0x0506 colourTrimWriteCheck q s₀ = true → let s := s₀.begun 0x0506 q;
    exec (.colourTrimWrite q) s₀ = .next ((barWriteCmd (q.u8 0) (fun i => { i.putTrims ((List.range (q.u8 2)).map fun z => (q.u8 1 + z, nums q.pblk (34 * z) 2 17)) with
      gen := (s.bar (q.u8 0)).nextGen }) (.good (toLe 4 (s.bar (q.u8 0)).nextGen)) q s).left q)) ∧
  (∀ (q : Cmd) (s₀ : State), Runs 0x0507 colourProfileSaveCheck q s₀ = true → let s := s₀.begun 0x0507 q; s.clr.saveHeld = [] → (s.clr.savedAt.any fun t => within s t 60 1) = false →
    exec (.colourProfileSave q) s₀ = .next (beginSave q.id s)) ∧
  (∀ (q : Cmd) (s₀ : State) (t : Int), Runs 0x0507 colourProfileSaveCheck q s₀ = true → let s := s₀.begun 0x0507 q; s.clr.savedAt = some t → within s t 60 1 = true →
    exec (.colourProfileSave q) s₀ = .next (s.onClr fun k => { k with saveHeld := k.saveHeld ++ [q.id] })) ∧
  (∀ (q : Cmd) (s₀ : State), Runs 0x0508 colourStripCheck q s₀ = true → let s := s₀.begun 0x0508 q; q.u8 0 = 0 →
    exec (.colourStrip q) s₀ = .next ((setStrip (some (stripOf q)) q.id s).left q)) ∧
  (∀ (q : Cmd) (s₀ : State), Runs 0x0508 colourStripCheck q s₀ = true → let s := s₀.begun 0x0508 q; q.u8 0 = 1 →
    exec (.colourStrip q) s₀ = .next ((setStrip none q.id s).left q)) ∧
  (∀ (q : Cmd) (s₀ : State), Runs 0x0508 colourStripCheck q s₀ = true → let s := s₀.begun 0x0508 q; let list := (s.clr.strikes.filter (·.suspect)).take (q.u32 24); q.u8 0 = 2 →
    exec (.colourStrip q) s₀ = .next ((Ans.done (.withExt (toLe 4 list.length) (q.u64 16) (list.flatMap fun x => toLe 1 x.bar ++ toLe 1 x.strikes ++ toLe 2 0 ++ toLe 4 x.column)) s).left q)) ∧
  (∀ (q : Cmd) (s₀ : State), Runs 0x0508 colourStripCheck q s₀ = true → let s := s₀.begun 0x0508 q; 3 ≤ q.u8 0 →
    exec (.colourStrip q) s₀ = .next ((Ans.done .good (s.onClr fun k => { k with strikes := (k.strikes.map fun x => { x with suspect := false }).filter fun x => x.strikes != 0 })).left q)) ∧
  (∀ (q : Cmd) (s₀ : State), Runs 0x0509 colourLedgerReadCheck q s₀ = true → let s := s₀.begun 0x0509 q; q.u64 16 ≠ 0 →
    exec (.colourLedgerRead q) s₀ = .next ((Ans.done (.withExt (toLe 2 (q.u16 8)) (q.u64 16) ((List.range (q.u16 8)).flatMap fun i =>
      (((s.clr.entryOf (q.u64 0 + i)).filter fun e => e.band == q.u64 0 + i).getD { band := q.u64 0 + i }).bytes)) s).left q)) ∧
  (∀ (q : Cmd) (s₀ : State), Runs 0x0509 colourLedgerReadCheck q s₀ = true → let s := s₀.begun 0x0509 q; q.u64 16 = 0 →
    exec (.colourLedgerRead q) s₀ = .next ((Ans.done (.withExt (toLe 2 (q.u16 8)) (q.u64 16) []) s).left q))

/-- Where a BAR command is taken and its checks pass, exec answers the next state with its own effect on the bar: its configuration, heads, segments, written images, enable and disable, and its status. (R223, R224, R226, R232, R234, R235, R242, R243, R251) -/
def Obligations.BarCommandsComplete : Prop :=
  (∀ (q : Cmd) (s₀ : State), Runs 0x0601 barConfigCheck q s₀ = true → let s := s₀.begun 0x0601 q;
    exec (.barConfig q) s₀ = .next ((Ans.done .good (s.onBar (q.u8 0) fun b => { b with
        cfg := some (barCfgOf q), engine := s.engineFor (q.u8 0) (q.u8 5)
        committed := b.committed && b.conf.interleave == (barCfgOf q).interleave && b.conf.colFirst == (barCfgOf q).colFirst
          && b.conf.colLast == (barCfgOf q).colLast })).left q)) ∧
  (∀ (q : Cmd) (s₀ : State) (c : Nat), Runs 0x0602 barHeadMapCheck q s₀ = true → let s := s₀.begun 0x0602 q; q.u8 2 = 1 → ((s.bar (q.u8 0)).place (q.u8 1)).ctx = some c →
    exec (.barHeadMap q) s₀ = .next ((Ans.done (.good (toLe 1 c)) ((s.onCtx c fun x => { retired := x.retired }).onBar (q.u8 0) fun b => { (b.dropSegs (q.u8 1)) with
      heads := upd (q.u8 1) (fun _ => {}) b.heads, act := b.act.dropNozzles fun n => n.head == q.u8 1 })).left q)) ∧
  (∀ (q : Cmd) (s₀ : State) (c : Nat), Runs 0x0602 barHeadMapCheck q s₀ = true → let s := s₀.begun 0x0602 q;
    let t := (s.onCtx c fun x => { retired := x.retired, owner := some (q.u8 0, q.u8 1), mir := s.headRecord (q.u8 0) (q.u8 8)
                                   complete := !(s.headRecord (q.u8 0) (q.u8 8)).isEmpty }).onBar (q.u8 0) fun b => { b with
      heads := upd (q.u8 1) (fun _ => { ctx := some c, rows := givenRows q, stitch := q.s32 4, slot := q.u8 8 }) b.heads
      committed := b.committed && !(b.segs.any fun g => g.valid && g.head == q.u8 1)
      act := b.act.dropNozzles fun n => n.head == q.u8 1
        && ((givenRows q).getD n.row {}).nozzles != (((s.bar (q.u8 0)).place (q.u8 1)).rows.getD n.row {}).nozzles }
    q.u8 2 ≠ 1 → ((s.bar (q.u8 0)).place (q.u8 1)).ctx = none → s.freeCtx = some c →
    exec (.barHeadMap q) s₀ = .next ((Ans.done (.good (toLe 1 c ++ toLe 3 0 ++ toLeS 4 (((List.range (givenRows q).length).map fun r => (t.bar (q.u8 0)).rowD (q.u8 1) r).min?.getD 0)
        ++ toLeS 4 (((List.range (givenRows q).length).map fun r => (t.bar (q.u8 0)).rowD (q.u8 1) r).max?.getD 0))) t).left q)) ∧
  (∀ (q : Cmd) (s₀ : State), Runs 0x0603 barSegmentsCheck q s₀ = true → let s := s₀.begun 0x0603 q; let b := s.bar (q.u8 0); let segs := newSegs q b;
    exec (.barSegments q) s₀ = .next ((Ans.done (.good (toLe 4 (segs.filter (·.valid)).length
        ++ toLe 4 (((List.range b.conf.interleave).map fun ph => ((List.range (b.conf.colLast + 1 - b.conf.colFirst)).filter fun i =>
            (phaseSegs b segs ph).any fun g => (g.nozzleAt (b.conf.colFirst + i)).isSome).length).sum)
        ++ toLe 4 (((segs.filter (·.valid)).map fun g => ceilDiv g.nozzles 16).sum))) (s.onBar (q.u8 0) fun b => { b with segs, committed := bit (q.u8 1) 0 })).left q)) ∧
  (∀ (q : Cmd) (s₀ : State), Runs 0x0604 barScreenCheck q s₀ = true → let s := s₀.begun 0x0604 q;
    exec (.barScreen q) s₀ = .next ((barWriteCmd (q.u8 0) (fun i => { i with planes := screenObject q s }) .good q s).left q)) ∧
  (∀ (q : Cmd) (s₀ : State) (l : List Nat), Runs 0x0605 barNozzleMapCheck q s₀ = true → let s := s₀.begun 0x0605 q; mapEntries q s = some l →
    exec (.barNozzleMap q) s₀ = .next ((barWriteCmd (q.u8 0) (fun i => { i.putNozzles (q.u8 1) (q.u8 2) (q.u16 4) l with gen := (s.bar (q.u8 0)).nextGen }) .good q s).left q)) ∧
  (∀ (q : Cmd) (s₀ : State), Runs 0x0606 barDeriveCheck q s₀ = true → let s := s₀.begun 0x0606 q;
    exec (.barDerive q) s₀ = .next ((barWriteCmd (q.u8 0) (fun i => { i with
        derive := { mask := q.u8 2, sx := q.u8 3, sy := q.u8 4
                    tables := if q.u8 1 = 0xFF then i.derive.tables else putKey (q.u8 1) (numbers 2 q.pblk) i.derive.tables } }) .good q s).left q)) ∧
  (∀ (q : Cmd) (s₀ : State), Runs 0x0607 barEnableCheck q s₀ = true → let s := s₀.begun 0x0607 q; (s.bar (q.u8 0)).enabled = false →
    exec (.barEnable q) s₀ = .next ((Ans.done (.good (toLe 8 (enableBar (q.u8 0) s).2)) (enableBar (q.u8 0) s).1).left q)) ∧
  (∀ (q : Cmd) (s₀ : State), Runs 0x0607 barEnableCheck q s₀ = true → let s := s₀.begun 0x0607 q; (s.bar (q.u8 0)).enabled = true →
    exec (.barEnable q) s₀ = .next ((Ans.done (.good (toLe 8 (s.bar (q.u8 0)).firstLine)) s).left q)) ∧
  (∀ (q : Cmd) (s₀ : State), Runs 0x0608 barDisableCheck q s₀ = true → let s := s₀.begun 0x0608 q; (s.bar (q.u8 0)).enabled = false →
    exec (.barDisable q) s₀ = .next ((Ans.done (.good (toLe 8 (s.bar (q.u8 0)).lastPushed ++ toLe 4 0)) s).left q)) ∧
  (∀ (q : Cmd) (s₀ : State), Runs 0x0608 barDisableCheck q s₀ = true → let s := s₀.begun 0x0608 q; (s.bar (q.u8 0)).enabled = true → s.inPrint (q.u8 0) = false →
    exec (.barDisable q) s₀ = .next (disableBar (q.u8 0) [q.id] (bit (q.u8 1) 0) s)) ∧
  (∀ (q : Cmd) (s₀ : State), Runs 0x0608 barDisableCheck q s₀ = true → let s := s₀.begun 0x0608 q; (s.bar (q.u8 0)).enabled = true → s.inPrint (q.u8 0) = true → (s.bar (q.u8 0)).disabling = none →
    exec (.barDisable q) s₀ = .next (s.onBar (q.u8 0) fun x => { x with disabling := some ([q.id], bit (q.u8 1) 0) })) ∧
  (∀ (q : Cmd) (s₀ : State), Runs 0x0609 barStatusCheck q s₀ = true → let s := s₀.begun 0x0609 q;
    exec (.barStatus q) s₀ = .next ((Ans.done (.withExt (toLe 1 (barState (q.u8 0) s) ++ toLe 1 (s.bar (q.u8 0)).engine ++ toLe 1 (s.bar (q.u8 0)).placed.length ++ toLe 1 (s.leadOf (q.u8 0))
      ++ toLe 8 (s.barNext (q.u8 0)) ++ toLe 4 (s.bar (q.u8 0)).load) (q.u64 8)
      (if q.src.isNone && q.u64 8 == 0 then [] else barStatusBlock (q.u8 0) s)) s).left q))

/-- Where a PRINT command is taken and its checks pass, exec answers the next state with its own effect: the run armed, stopped or halted, the capos, the lead and the offsets set at once or slewed towards, and the status. (R255, R256, R258, R263, R268, R280) -/
def Obligations.PrintCommandsComplete : Prop :=
  (∀ (q : Cmd) (s₀ : State), Runs 0x0701 printStartCheck q s₀ = true → let s := s₀.begun 0x0701 q;
    exec (.printStart q) s₀ = .next ((Ans.done (.good (toLe 4 s.fire.nextRun ++ toLe 4 (((armRun q s).fire.run.map (·.ceiling)).getD 0) ++ toLeS 8 (printArgs q s).capo)) (armRun q s)).left q)) ∧
  (∀ (q : Cmd) (s₀ : State) (r₀ : Run), Runs 0x0702 printStopCheck q s₀ = true → let s := s₀.begun 0x0702 q; s.fire.run = some r₀ → r₀.stop = none → q.u8 0 < 3 →
    exec (.printStop q) s₀ = .next (s.onRun fun r => { r with stop := some { mode := q.u8 0, last := stopLine q r₀ s, cmds := [q.id] } })) ∧
  (∀ (q : Cmd) (s₀ : State) (r₀ : Run), Runs 0x0702 printStopCheck q s₀ = true → let s := s₀.begun 0x0702 q; s.fire.run = some r₀ → r₀.stop = none → q.u8 0 = 3 →
    exec (.printStop q) s₀ = .next (haltRun 1 (s.onRun fun r => { r with stop := some { mode := 3, last := none, cmds := [q.id] } }))) ∧
  (∀ (q : Cmd) (s₀ : State) (r₀ : Run) (st : Stop), Runs 0x0702 printStopCheck q s₀ = true → let s := s₀.begun 0x0702 q; s.fire.run = some r₀ → r₀.stop = some st → st.mode < q.u8 0 → q.u8 0 < 3 →
    exec (.printStop q) s₀ = .next (s.onRun fun r => { r with stop := some { mode := q.u8 0, last := stricter (stopLine q r₀ s) st.last, cmds := st.cmds ++ [q.id] } })) ∧
  (∀ (q : Cmd) (s₀ : State) (r₀ : Run) (st : Stop), Runs 0x0702 printStopCheck q s₀ = true → let s := s₀.begun 0x0702 q; s.fire.run = some r₀ → r₀.stop = some st → q.u8 0 ≤ st.mode → st.mode < 3 →
    exec (.printStop q) s₀ = .next (s.onRun fun r => { r with stop := some { st with cmds := st.cmds ++ [q.id] } })) ∧
  (∀ (q : Cmd) (s₀ : State), Runs 0x0703 printCapoCheck q s₀ = true → let s := s₀.begun 0x0703 q; bit (q.u8 4) 0 = false →
    exec (.printCapo q) s₀ = .next ((Ans.done .good (s.onFire fun f => { f with capos := (s.fire.capos.filter fun c => c.1 != q.u32 0) ++ [(q.u32 0, q.s64 8)] })).left q)) ∧
  (∀ (q : Cmd) (s₀ : State), Runs 0x0703 printCapoCheck q s₀ = true → let s := s₀.begun 0x0703 q; bit (q.u8 4) 0 = true →
    exec (.printCapo q) s₀ = .next ((Ans.done .good (s.onFire fun f => { f with capos := s.fire.capos.filter fun c => c.1 != q.u32 0 })).left q)) ∧
  (∀ (q : Cmd) (s₀ : State), Runs 0x0704 printLeadCheck q s₀ = true → let s := s₀.begun 0x0704 q; s.fire.run = none ∨ s.fire.lead = q.u8 0 →
    exec (.printLead q) s₀ = .next ((Ans.done .good (finishAll ((s.fire.leadTo.map (·.2)).getD []) .good (s.onFire fun f => { f with lead := q.u8 0, leadTo := none }))).left q)) ∧
  (∀ (q : Cmd) (s₀ : State) (r : Run), Runs 0x0704 printLeadCheck q s₀ = true → let s := s₀.begun 0x0704 q; s.fire.run = some r → s.fire.lead ≠ q.u8 0 →
    exec (.printLead q) s₀ = .next (s.onFire fun f => { f with leadTo := some (q.u8 0, ((s.fire.leadTo.map (·.2)).getD []) ++ [q.id]) })) ∧
  (∀ (q : Cmd) (s₀ : State), Runs 0x0705 printOffsetsCheck q s₀ = true → let s := s₀.begun 0x0705 q; s.fire.run = none →
    exec (.printOffsets q) s₀ = .next ((Ans.done .good (finishAll (((s.bar (q.u8 0)).alignTo.map (·.2.2)).getD []) .good (s.onBar (q.u8 0) fun x => { x with alignF := q.s32 4, alignR := q.s32 8, alignTo := none }))).left q)) ∧
  (∀ (q : Cmd) (s₀ : State) (r : Run), Runs 0x0705 printOffsetsCheck q s₀ = true → let s := s₀.begun 0x0705 q; s.fire.run = some r → (s.bar (q.u8 0)).alignF ≠ q.s32 4 ∨ (s.bar (q.u8 0)).alignR ≠ q.s32 8 →
    exec (.printOffsets q) s₀ = .next (s.onBar (q.u8 0) fun x => { x with alignTo := some (q.s32 4, q.s32 8, (((s.bar (q.u8 0)).alignTo.map (·.2.2)).getD []) ++ [q.id]) })) ∧
  (∀ (q : Cmd) (s₀ : State), Runs 0x0706 printStatusCheck q s₀ = true → let s := s₀.begun 0x0706 q;
    exec (.printStatus q) s₀ = .next ((Ans.done (.withExt (printStatusResult s) (q.u64 8) (if q.src.isNone && q.u64 8 == 0 then [] else printStatusBlock s)) s).left q))

/-- Where a POS command is taken and its checks pass, exec answers the next state with its own effect on the channel, the compare unit or the backup, or with the position it reads. (R116, R125, R127, R129, R130) -/
def Obligations.PosCommandsComplete : Prop :=
  (∀ (q : Cmd) (s₀ : State), Runs 0x0801 posEncoderConfigCheck q s₀ = true → let s := s₀.begun 0x0801 q;
    let ch := q.u8 0
    let sc := q.u8 1 == 2
    let web := q.u8 2 == 1 && q.u8 1 != 0
    let t := (s.onChan ch fun c =>
      { k := c.k, k0 := c.k0, q0 := c.q0, scale := c.scale, a := c.a, b := c.b, z := c.z
        illegal := c.illegal, signal := c.signal, indexErr := c.indexErr, diverged := c.diverged
        unreferenced := c.unreferenced, furthest := c.k, tally := c.k, moves := [(c.k, s.tb1)]
        mode := q.u8 1, invert := bit (q.u8 3) 0, zLow := bit (q.u8 3) 1, offsetBinary := sc && bit (q.u8 3) 2
        filter := q.u8 4, trigger := if sc then q.u8 5 else 0, aperture := if sc then q.u16 6 else 0
        indexPeriod := q.u32 8, convNs := if sc then q.u16 12 else 0, sckDiv := if sc then q.u8 14 else 5
        sinOff := if sc then q.s16 16 else 0, cosOff := if sc then q.s16 18 else 0
        sinGain := if sc then q.u16 20 else 0, cosGain := if sc then q.u16 22 else 0
        ampMin := if sc then q.u16 24 else 0, ampMax := if sc then q.u16 26 else 0
        window := orDefault (q.u32 0x1C) 20000, stallMs := orDefault (q.u32 0x20) 100, revHyst := orDefault (q.u16 0x24) 4 }).onPos fun p => { p with
      web := if web then some ch else if p.web == some ch then none else p.web
      backup := if (web || q.u8 1 == 0) && (p.backup.map (·.ch)) == some ch then none else p.backup }
    (s.chan ch).pend = none →
    exec (.posEncoderConfig q) s₀ = .next ((Ans.done .good t).left q)) ∧
  (∀ (q : Cmd) (s₀ : State) (ch : Nat), Runs 0x0802 posScaleCheck q s₀ = true → let s := s₀.begun 0x0802 q; s.chanOf (q.u8 0) = some ch → bit (q.u8 1) 0 = true → bit (q.u8 1) 1 = true →
    exec (.posScale q) s₀ = .next ((Ans.done .good (s.onChan ch fun c => { c with q0 := q.s64 16 * 2 ^ 32, k0 := c.k, posSet := true, unreferenced := false, indexRef := none, indexErrs := 0 })).left q)) ∧
  (∀ (q : Cmd) (s₀ : State) (ch : Nat), Runs 0x0802 posScaleCheck q s₀ = true → let s := s₀.begun 0x0802 q; s.chanOf (q.u8 0) = some ch → bit (q.u8 1) 0 = false → bit (q.u8 1) 1 = false →
    exec (.posScale q) s₀ = .next (orderScale ch { cmd := q.id, scale := q.u64 8 } (setAbortable q.id true s))) ∧
  (∀ (q : Cmd) (s₀ : State) (ch : Nat), Runs 0x0803 posReadCheck q s₀ = true → let s := s₀.begun 0x0803 q; s.chanOf (q.u8 0) = some ch →
    exec (.posRead q) s₀ = .next ((Ans.done (.withExt (toLeS 8 (((s.chan ch).posQ.getD noPosition).fdiv (2 ^ 32)) ++ toLe 4 (posFlags ch s)
      ++ toLeS 4 (satS 32 ((s.chan ch).speedRead.tdiv (2 ^ 32)))) (q.u64 8) (if q.src.isNone && q.u64 8 == 0 then [] else posReadBlock ch (q.u8 1) s)) s).left q)) ∧
  (∀ (q : Cmd) (s₀ : State), Runs 0x0804 posCompareCheck q s₀ = true → let s := s₀.begun 0x0804 q; q.u8 2 = 2 →
    exec (.posCompare q) s₀ = .next ((Ans.done .good (s.onCmp (q.u8 0) fun c => { c with armed := false })).left q)) ∧
  (∀ (q : Cmd) (s₀ : State), Runs 0x0804 posCompareCheck q s₀ = true → let s := s₀.begun 0x0804 q;
    let c : Compare :=
      { armed := true, ch := optUnit (q.u8 1), reverse := q.u8 2 == 1, post := bit (q.u8 3) 1, trigger := optUnit (q.u8 4)
        capture := optUnit (q.u8 5), gpio := optUnit (q.u8 6), pulseUs := q.u8 7, value := q.s64 8, period := q.u64 16
        count := q.u32 24 }
    q.u8 2 ≠ 2 → (((s.onCmp (q.u8 0) fun _ => c).cmpChan c).bind fun n => ((s.onCmp (q.u8 0) fun _ => c).chan n).posQ) = none →
    exec (.posCompare q) s₀ = .next ((Ans.done .good (s.onCmp (q.u8 0) fun _ => c)).left q)) ∧
  (∀ (q : Cmd) (s₀ : State), Runs 0x0805 posBackupCheck q s₀ = true → let s := s₀.begun 0x0805 q; q.u8 0 = 0xFF →
    exec (.posBackup q) s₀ = .next ((Ans.done .good (s.onPos fun p => { p with backup := none })).left q)) ∧
  (∀ (q : Cmd) (s₀ : State), Runs 0x0805 posBackupCheck q s₀ = true → let s := s₀.begun 0x0805 q; q.u8 0 ≠ 0xFF →
    exec (.posBackup q) s₀ = .next ((Ans.done .good (setBackupOffset (s.onPos fun p => { p with backup := some { ch := q.u8 0, limit := orDefault (q.u32 4) 3024, since := s.tb1 } }))).left q)) ∧
  (∀ (q : Cmd) (s₀ : State) (ch : Nat), Runs 0x0806 posCalibrateCheck q s₀ = true → let s := s₀.begun 0x0806 q; let t := hold q [.channel ch, .capture (q.u8 1)] true s; s.chanOf (q.u8 0) = some ch →
    exec (.posCalibrate q) s₀ = .next (t.onChan ch fun c => { c with
      calib := some { cmd := q.id, capture := q.u8 1, intervals := q.u8 2, limitBp := q.u16 4, spreadPpm := orDefault (q.u16 6) 500
                      spacingNm := q.u64 8, deadline := t.tb1 + msT (q.u32 16) } }))

/-- Where a TIME command is taken and its checks pass, exec answers the next state with its own effect on the domain, the time base, the PTP port, the trigger or the capture, or with the time it reads. (R139, R146, R149, R150, R152, R154, R155) -/
def Obligations.TimeCommandsComplete : Prop :=
  (∀ (q : Cmd) (s₀ : State), Runs 0x0901 timeConfigCheck q s₀ = true → let s := s₀.begun 0x0901 q;
    let t := s.onDom (q.u8 0) fun d => { d with
      test := bit (q.u8 1) 0, lockNs := orDefault (q.u16 2) 100, unlockNs := orDefault (q.u16 4) 1000
      joinPpm := orDefault (q.u16 6) 100, kp := q.u32 8, ki := q.u32 12, stepNs := orDefault (q.u32 16) 1000
      warnS := orDefault (q.u16 20) 600 }
   
    exec (.timeConfig q) s₀ = .next ((Ans.done .good (if q.u8 0 = 0 then t.onTim fun x => { x with tb3Step := orDefault (q.u16 22) 1000 } else t)).left q)) ∧
  (∀ (q : Cmd) (s₀ : State), Runs 0x0902 timeReadCheck q s₀ = true → let s := s₀.begun 0x0902 q; q.u8 0 ≠ 0x0F →
    exec (.timeRead q) s₀ = .next ((Ans.done (.withExt (encT (s.tb (q.u8 0)).t32 ++ toLe 1 (if q.u8 0 = 0 then (s.dom 0).st.code else if q.u8 0 = 2 then (s.dom 1).st.code else 0)) (q.u64 8)
      (if q.src.isNone && q.u64 8 == 0 then [] else timeSnapshot s)) s).left q)) ∧
  (∀ (q : Cmd) (s₀ : State), Runs 0x0902 timeReadCheck q s₀ = true → let s := s₀.begun 0x0902 q; q.u8 0 = 0x0F →
    exec (.timeRead q) s₀ = .next ((Ans.done (.withExt (encN30 s.latchedTbf.1 s.latchedTbf.2.1 ++ toLe 1 (s.dom 0).st.code) (q.u64 8)
      (if q.src.isNone && q.u64 8 == 0 then [] else timeSnapshot s)) s).left q)) ∧
  (∀ (q : Cmd) (s₀ : State), Runs 0x0903 timeStepCheck q s₀ = true → let s := s₀.begun 0x0903 q; q.u8 1 = 1 →
    exec (.timeStep q) s₀ = .next ((Ans.done .good (stepTb (q.u8 0) (rdS q.params 8 8) (rd q.params 4 4 * 2 ^ 32) s)).left q)) ∧
  (∀ (q : Cmd) (s₀ : State), Runs 0x0903 timeStepCheck q s₀ = true → let s := s₀.begun 0x0903 q; let total := (s.tb (q.u8 0)).frac + rd q.params 4 4 * 2 ^ 32; q.u8 1 ≠ 1 →
    exec (.timeStep q) s₀ = .next ((Ans.done .good (stepTb (q.u8 0) ((s.tb (q.u8 0)).sec + rdS q.params 8 8 + (total / 2 ^ 64 : Nat)) (total % 2 ^ 64) s)).left q)) ∧
  (∀ (q : Cmd) (s₀ : State), Runs 0x0904 timePtpConfigCheck q s₀ = true → let s := s₀.begun 0x0904 q;
    let w := if (s.ptp (q.u8 0)).p2p = bit (q.u8 3) 0 then s else s.onPtp (q.u8 0) fun x => { x with exchange := none, reqSent := none, presp := none }
    (s.ptp (q.u8 0)).role = q.u8 1 →
    exec (.timePtpConfig q) s₀ = .next ((Ans.done .good (reportGroups (q.u8 0) (settleDomain 1 (settleDomain 0 (w.onPtp (q.u8 0) (PtpPort.configured q)))))).left q)) ∧
  (∀ (q : Cmd) (s₀ : State), Runs 0x0904 timePtpConfigCheck q s₀ = true → let s := s₀.begun 0x0904 q;
    let o := s.onPtp (q.u8 0) PtpPort.fresh
    let w := if (o.ptp (q.u8 0)).p2p = bit (q.u8 3) 0 then o else o.onPtp (q.u8 0) fun x => { x with exchange := none, reqSent := none, presp := none }
    let t := w.onPtp (q.u8 0) (PtpPort.configured q)
    (s.ptp (q.u8 0)).role ≠ q.u8 1 →
    exec (.timePtpConfig q) s₀ = .next ((Ans.done .good (reportGroups (q.u8 0) (settleDomain 1 (settleDomain 0 (t.onPtp (q.u8 0) fun x => { x with lastAnnounce := some t.tb1 }))))).left q)) ∧
  (∀ (q : Cmd) (s₀ : State), Runs 0x0905 timeAsymmetryCheck q s₀ = true → let s := s₀.begun 0x0905 q;
    exec (.timeAsymmetry q) s₀ = .next ((Ans.done .good (s.onPtp (q.u8 0) fun t => { t with asym := q.s32 4 })).left q)) ∧
  (∀ (q : Cmd) (s₀ : State), Runs 0x0906 timeTriggerCheck q s₀ = true → let s := s₀.begun 0x0906 q; q.u8 1 = 0 → (s.tim.triggers.getD (q.u8 0) {}).mode = 0 →
    exec (.timeTrigger q) s₀ = .next ((Ans.done .good (s.onTrigger (q.u8 0) fun t => { t with mode := 0, running := false })).left q)) ∧
  (∀ (q : Cmd) (s₀ : State), Runs 0x0906 timeTriggerCheck q s₀ = true → let s := s₀.begun 0x0906 q; q.u8 1 ≠ 0 → (s.tim.triggers.getD (q.u8 0) {}).mode = 0 → q.u8 1 ≠ 1 ∨ (s.tb (q.u8 2)).t48 ≤ rdT q.params 16 * 2 ^ 16 →
    exec (.timeTrigger q) s₀ = .next ((Ans.done .good (s.onTrigger (q.u8 0) fun t => { t with
        mode := q.u8 1, running := q.u8 1 == 1, tb := q.u8 2, actions := q.u16 4, gpio := q.u8 6, camera := q.u8 7
        capture := q.u8 8, next := q.u8 9, pulseW := q.u16 10, count := q.u32 12, fired := 0, t := rdT q.params 16 * 2 ^ 16
        delay := rdT q.params 16 * 2 ^ 16, period := q.u64 32, late := false })).left q)) ∧
  (∀ (q : Cmd) (s₀ : State), Runs 0x0907 timeCaptureCheck q s₀ = true → let s := s₀.begun 0x0907 q; let lost := (s.tim.captures.getD (q.u8 0) {}).dropRun; q.u8 1 = 0 → q.u8 0 < s.tim.captures.length →
    exec (.timeCapture q) s₀ = .next ((Ans.done (.good (toLe 1 0 ++ toLe 1 0 ++ toLe 2 0 ++ toLe 4 0)) ((if 0 < lost then post evCaptureOverflow (0x0D20 + q.u8 0) (q.u8 0) (u32 lost) s else s).onTim fun t => { t with
        captures := upd (q.u8 0) (fun _ => { enable := true, source := q.u8 2, index := q.u8 3, edge := q.u8 4, channel := q.u8 5 }) t.captures })).left q)) ∧
  (∀ (q : Cmd) (s₀ : State), Runs 0x0907 timeCaptureCheck q s₀ = true → let s := s₀.begun 0x0907 q;
    let got := (s.tim.captures.getD (q.u8 0) {}).entries.take (q.u8 6)
    let t := s.onTim fun x => { x with captures := upd (q.u8 0) (fun c => { c with entries := c.entries.drop (q.u8 6) }) x.captures }
    q.u8 1 = 1 →
    exec (.timeCapture q) s₀ = .next ((Ans.done (.withExt (toLe 1 got.length ++ toLe 1 ((t.tim.captures.getD (q.u8 0) {}).entries.length) ++ toLe 2 0 ++ toLe 4 (t.tim.captures.getD (q.u8 0) {}).lost)
      (q.u64 8) (got.flatMap encCapture)) t).left q)) ∧
  (∀ (q : Cmd) (s₀ : State), Runs 0x0907 timeCaptureCheck q s₀ = true → let s := s₀.begun 0x0907 q;
    let t := s.onTim fun x => { x with captures := upd (q.u8 0) (fun c => { c with enable := false }) x.captures }
    q.u8 1 = 2 →
    exec (.timeCapture q) s₀ = .next ((Ans.done (.good (toLe 1 0 ++ toLe 1 ((t.tim.captures.getD (q.u8 0) {}).entries.length) ++ toLe 2 0 ++ toLe 4 (t.tim.captures.getD (q.u8 0) {}).lost)) t).left q)) ∧
  (∀ (q : Cmd) (s₀ : State), Runs 0x0907 timeCaptureCheck q s₀ = true → let s := s₀.begun 0x0907 q; let t := latchCapture (q.u8 0) s; 3 ≤ q.u8 1 →
    exec (.timeCapture q) s₀ = .next ((Ans.done (.good (toLe 1 0 ++ toLe 1 ((t.tim.captures.getD (q.u8 0) {}).entries.length) ++ toLe 2 0 ++ toLe 4 (t.tim.captures.getD (q.u8 0) {}).lost)) t).left q)) ∧
  (∀ (q : Cmd) (s₀ : State), Runs 0x0908 timeStatusCheck q s₀ = true → let s := s₀.begun 0x0908 q; let x := s.dom (q.u8 0);
    exec (.timeStatus q) s₀ = .next ((Ans.done (.withExt (toLe 1 x.st.code ++ toLe 1 (x.servoPort.getD 0xFF)
      ++ toLe 2 (b2n (s.ptp 0).hold.isSome + 2 * b2n (s.ptp 1).hold.isSome + 4 * b2n x.disagree + 8 * b2n ((x.gm.map (·.utcValid)).getD false))
      ++ toLeS 4 (satS 32 x.lastE)
      ++ toLeS 4 (match x.servoPort with | some p => sar ((s.ptp p).refMpd.getD 0) 16 | none => 0)
      ++ toLeS 4 (match x.holdSince with | some t => if x.st = .holdover ∨ x.st = .recovering then (s.tb1 - t).fdiv (2 ^ 32) else 0 | none => 0))
      (q.u64 8) (timeStatusBlock (q.u8 0) s)) s).left q))

/-- Where a CAM command is taken and its checks pass, exec answers the next state with its own effect on the port, its pending parameters, its calibration or the archive, or with the reports it returns. (R325, R334, R335, R337, R339, R355) -/
def Obligations.CamCommandsComplete : Prop :=
  (∀ (q : Cmd) (s₀ : State), Runs 0x0A01 camConfigCheck q s₀ = true → let s := s₀.begun 0x0A01 q;
    exec (.camConfig q) s₀ = .next ((Ans.done .good (s.onPort (q.u8 0) fun p => { p with cfg := some (camCfgOf q) })).left q)) ∧
  (∀ (q : Cmd) (s₀ : State), Runs 0x0A02 camPipelineCheck q s₀ = true → let s := s₀.begun 0x0A02 q; let secs := (sectionsOf q.pblk (q.u16 2)).1; secs.find? (fun x => x.1 == 9) = none →
    exec (.camPipeline q) s₀ = .next (applyIdle (q.u8 0) (sendSensor (q.u8 0) (hold q [.camera (q.u8 0)] false (s.onPort (q.u8 0) fun p => { p with
      pend := some { cmd := some q.id, params := secs.foldl (readSection q.pblk) {}, sections := q.u16 2, writes := [], delay := 0 } }))))) ∧
  (∀ (q : Cmd) (s₀ : State), Runs 0x0A03 camEnableCheck q s₀ = true → let s := s₀.begun 0x0A03 q; q.u8 1 = 0 → (s.port (q.u8 0)).enable = false →
    exec (.camEnable q) s₀ = .next ((Ans.done (.good (toLe 4 (s.port (q.u8 0)).lastSeq)) (s.onPort (q.u8 0) fun p => { p with enabling := p.enabling.map fun e => { e with after := false } })).left q)) ∧
  (∀ (q : Cmd) (s₀ : State), Runs 0x0A03 camEnableCheck q s₀ = true → let s := s₀.begun 0x0A03 q; let t := s.onPort (q.u8 0) fun p => { p with enabling := p.enabling.map fun e => { e with after := false } }; q.u8 1 = 0 → (s.port (q.u8 0)).enable = true → (s.port (q.u8 0)).frames = [] →
    exec (.camEnable q) s₀ = .next ((Ans.done (if t.portGone (q.u8 0) then .errUnit .retired 0 (unitCam (q.u8 0)) else .good (toLe 4 (s.port (q.u8 0)).lastSeq)) (disablePort (q.u8 0) 1 t)).left q)) ∧
  (∀ (q : Cmd) (s₀ : State), Runs 0x0A03 camEnableCheck q s₀ = true → let s := s₀.begun 0x0A03 q; q.u8 1 = 0 → (s.port (q.u8 0)).enable = true → (s.port (q.u8 0)).frames ≠ [] → (s.port (q.u8 0)).disabling = none →
    exec (.camEnable q) s₀ = .next ((s.onPort (q.u8 0) fun p => { p with enabling := p.enabling.map fun e => { e with after := false } }).onPort (q.u8 0) fun p => { p with disabling := some q.id })) ∧
  (∀ (q : Cmd) (s₀ : State), Runs 0x0A03 camEnableCheck q s₀ = true → let s := s₀.begun 0x0A03 q; q.u8 1 ≠ 0 → (s.port (q.u8 0)).enable = true → (s.port (q.u8 0)).frames ≠ [] →
    exec (.camEnable q) s₀ = .next (s.onPort (q.u8 0) fun p => { p with
      enabling := some { cmds := (p.enabling.map (·.cmds)).getD [] ++ [q.id], after := p.disabling.isSome, mode := q.u8 2, loop := bit (q.u8 3) 0
                         pulseW := q.u16 4, spacing := q.u64 8, x0 := q.s64 16 } })) ∧
  (∀ (q : Cmd) (s₀ : State), Runs 0x0A03 camEnableCheck q s₀ = true → let s := s₀.begun 0x0A03 q;
    let k := q.u8 0
    let t := s.onTim fun t => { t with triggers := t.triggers.map fun x => if x.reserved = some k then { x with reserved := none, mode := 0, running := false } else x }
    let t := if q.u8 2 = 0 then t.onTrigger (s.port k).conf.trigger fun t => { t with reserved := some k, mode := 0, running := false } else t
    q.u8 1 ≠ 0 → (s.port (q.u8 0)).enable = false ∨ (s.port (q.u8 0)).frames = [] →
    exec (.camEnable q) s₀ = .next ((Ans.done (.good (toLe 4 (s.port k).lastSeq)) (armPort k ((t.onPort k fun p => { p with enable := true, next := none, seq := if p.enable then p.seq else 0 }).onPort k fun p => { p with
        enabling := none, mode := q.u8 2, loop := bit (q.u8 3) 0, pulseW := q.u16 4, spacing := q.u64 8, x0 := q.s64 16 }))).left q)) ∧
  (∀ (q : Cmd) (s₀ : State), Runs 0x0A04 camCalibrateCheck q s₀ = true → let s := s₀.begun 0x0A04 q;
    exec (.camCalibrate q) s₀ = .next (hold q [.camera (q.u8 0)] true (s.onPort (q.u8 0) fun p => { p with
      cal := some { cmd := q.id, frames := if q.u8 1 = 0 then 4 else q.u8 1, flat := bit (q.u8 3) 0, meanMax := if q.u16 4 = 0 then 300 else q.u16 4
                    maxMax := if q.u16 6 = 0 then 800 else q.u16 6, patches := (List.range (q.u8 2)).map (patchOf q.pblk), since := s.tb1 } }))) ∧
  (∀ (q : Cmd) (s₀ : State), Runs 0x0A05 camFrameReadCheck q s₀ = true → let s := s₀.begun 0x0A05 q; let rs := wantedReports (s.port (q.u8 0)) (q.u32 4) (q.u8 1); packReports rs = [] →
    exec (.camFrameRead q) s₀ = .next ((Ans.done (.good (toLe 4 rs.length ++ toLe 4 0 ++ toLe 8 0)) s).left q)) ∧
  (∀ (q : Cmd) (s₀ : State), Runs 0x0A05 camFrameReadCheck q s₀ = true → let s := s₀.begun 0x0A05 q; let rs := wantedReports (s.port (q.u8 0)) (q.u32 4) (q.u8 1); packReports rs ≠ [] →
    exec (.camFrameRead q) s₀ = .next (s.onFlying q.id fun e => { e with
      abortable := true, reply := some (.good (toLe 4 rs.length ++ toLe 4 0 ++ toLe 8 (packReports rs).length))
      out := some (upToLast (q.counted (q.u32 16)), (packReports rs).take (q.listBytes (q.u32 16))) })) ∧
  (∀ (q : Cmd) (s₀ : State), Runs 0x0A06 camArchiveCheck q s₀ = true → let s := s₀.begun 0x0A06 q;
    let t := checkLow ((s.onCam fun c => { c with
        archive := some { pages := q.u32 8, stage := q.u8 1, keepMarked := bit (q.u8 2) 0, portMask := q.u8 3, keepEvery := q.u16 4
                          rate := if q.u16 6 = 0 then 400 else q.u16 6, budgetAt := s.tb1 } }).onStore fun t => { t with archive := q.u32 8 })
    q.u8 0 = 0 →
    exec (.camArchive q) s₀ = .next ((Ans.done (.good (archiveResult t).1) (archiveResult t).2).left q)) ∧
  (∀ (q : Cmd) (s₀ : State), Runs 0x0A06 camArchiveCheck q s₀ = true → let s := s₀.begun 0x0A06 q; let t := s; let bytes := ((s.archived.filter fun e => decide (q.u32 12 ≤ e.entry)).take (q.u16 16)).flatMap (·.header); q.u8 0 = 1 → bytes = [] →
    exec (.camArchive q) s₀ = .next ((Ans.done (.good (archiveResult t).1) (archiveResult t).2).left q)) ∧
  (∀ (q : Cmd) (s₀ : State), Runs 0x0A06 camArchiveCheck q s₀ = true → let s := s₀.begun 0x0A06 q; let bytes := ((s.archived.filter fun e => decide (q.u32 12 ≤ e.entry)).take (q.u16 16)).flatMap (·.header); q.u8 0 = 1 → bytes ≠ [] →
    exec (.camArchive q) s₀ = .next ((archiveResult s).2.onFlying q.id fun e => { e with
      abortable := true, reply := some (.good (archiveResult s).1)
      out := some (upToLast (q.counted (q.u32 32)), bytes.take (q.listBytes (q.u32 32))) })) ∧
  (∀ (q : Cmd) (s₀ : State) (e : ArchEntry), Runs 0x0A06 camArchiveCheck q s₀ = true → let s := s₀.begun 0x0A06 q; q.u8 0 = 2 → s.archived.find? (fun e => e.entry == q.u32 12) = some e → e.header ++ e.image ≠ [] →
    exec (.camArchive q) s₀ = .next ((archiveResult s).2.onFlying q.id fun x => { x with
      abortable := true, reply := some (.good (archiveResult s).1)
      out := some (upToLast (q.counted (q.u32 32)), (e.header ++ e.image).take (q.listBytes (q.u32 32))) })) ∧
  (∀ (q : Cmd) (s₀ : State), Runs 0x0A06 camArchiveCheck q s₀ = true → let s := s₀.begun 0x0A06 q; let t := s.onCam fun c => { c with archive := c.archive.map fun a => { a with entries := [] } }; 3 ≤ q.u8 0 →
    exec (.camArchive q) s₀ = .next ((Ans.done (.good (archiveResult t).1) (archiveResult t).2).left q)) ∧
  (∀ (q : Cmd) (s₀ : State), Runs 0x0A07 camStatusCheck q s₀ = true → let s := s₀.begun 0x0A07 q; let p := s.port (q.u8 0);
    exec (.camStatus q) s₀ = .next ((Ans.done (.good (toLe 1 p.code ++ toLe 1 (b2n p.conf.wide) ++ toLe 1 p.lanesOk ++ toLe 1 0 ++ toLe 4 p.lastSeq ++ toLe 2 p.lastMarks
      ++ toLe 2 p.peak ++ toLe 4 p.gen)) (s.onPort (q.u8 0) fun p => { p with peak := 0 })).left q))

/-- Where a LINK command is taken and its checks pass, exec answers the next state with its own effect on the course, the lane, the queue or the Ethernet port. (R79, R290, R291, R301, R308, R313, R315, R318) -/
def Obligations.LinkCommandsComplete : Prop :=
  (∀ (q : Cmd) (s₀ : State), Runs 0x0B01 linkCourseConfigCheck q s₀ = true → let s := s₀.begun 0x0B01 q;
    exec (.linkCourseConfig q) s₀ = .next ((Ans.done .good (s.onCourse (q.u8 0) fun c => { c with cfg := courseCfgOf q })).left q)) ∧
  (∀ (q : Cmd) (s₀ : State), Runs 0x0B02 linkTrainCheck q s₀ = true → let s := s₀.begun 0x0B02 q;
    exec (.linkTrain q) s₀ = .next (trainLook (q.u8 0) (startTrain (q.u8 0) (some q.id) (bit (q.u8 1) 0) ([2 * q.u8 0, 2 * q.u8 0 + 1].foldl (fun s n => s.onLane n fun x => { x with prbs := none }) (hold q [.course (q.u8 0)] false s))))) ∧
  (∀ (q : Cmd) (s₀ : State), Runs 0x0B03 linkLaneSlipCheck q s₀ = true → let s := s₀.begun 0x0B03 q;
    let lock := s.freeVal Config.siteSlip % 2 == 1
    let errs := s.freeVal Config.siteSlip / 2 % 2 ^ 32
    20 ≤ q.u8 0 →
    exec (.linkLaneSlip q) s₀ = .next ((Ans.done (.good (toLe 1 (b2n lock) ++ toLe 3 0 ++ toLe 4 errs)) (s.useFree.onLane (q.u8 0) fun x => { x with
        slip := (x.slip + q.u8 1) % 66, slipSince := s.useFree.tb1, lock := lock, hdr := x.hdr + errs, deskewed := x.deskewed && lock
        lostSince := if lock then none else some (x.lostSince.getD s.useFree.tb1), down := x.down && !lock })).left q)) ∧
  (∀ (q : Cmd) (s₀ : State), Runs 0x0B03 linkLaneSlipCheck q s₀ = true → let s := s₀.begun 0x0B03 q;
    let lock := s.freeVal Config.siteSlip % 2 == 1
    let errs := s.freeVal Config.siteSlip / 2 % 2 ^ 32
    q.u8 0 < 20 →
    exec (.linkLaneSlip q) s₀ = .next ((Ans.done (.good (toLe 1 (b2n lock) ++ toLe 3 0 ++ toLe 4 errs)) (bump (ctr 9 (linkOf (q.u8 0)) 4) errs (s.useFree.onLane (q.u8 0) fun x => { x with
        slip := (x.slip + q.u8 1) % 66, slipSince := s.useFree.tb1, lock := lock, hdr := x.hdr + errs, deskewed := x.deskewed && lock
        lostSince := if lock then none else some (x.lostSince.getD s.useFree.tb1), down := x.down && !lock }))).left q)) ∧
  (∀ (q : Cmd) (s₀ : State), Runs 0x0B04 linkPrbsCheck q s₀ = true → let s := s₀.begun 0x0B04 q; q.u8 1 = 0 →
    exec (.linkPrbs q) s₀ = .next ((Ans.done (.good (prbsResult (s.lane (q.u8 0)).prbs)) (s.onLane (q.u8 0) fun x => { x with prbs := none })).left q)) ∧
  (∀ (q : Cmd) (s₀ : State), Runs 0x0B04 linkPrbsCheck q s₀ = true → let s := s₀.begun 0x0B04 q; q.u8 1 = 4 →
    exec (.linkPrbs q) s₀ = .next ((Ans.done (.good (prbsResult (s.lane (q.u8 0)).prbs)) s).left q)) ∧
  (∀ (q : Cmd) (s₀ : State), Runs 0x0B04 linkPrbsCheck q s₀ = true → let s := s₀.begun 0x0B04 q; q.u8 1 = 5 →
    exec (.linkPrbs q) s₀ = .next ((Ans.done (.good (prbsResult (s.lane (q.u8 0)).prbs)) (s.onLane (q.u8 0) fun x => { x with prbs := x.prbs.map fun p => { p with errors := 0, bits := 0 } })).left q)) ∧
  (∀ (q : Cmd) (s₀ : State), Runs 0x0B04 linkPrbsCheck q s₀ = true → let s := s₀.begun 0x0B04 q;
    let told (w : State) : State := if (s.course (linkOf (q.u8 0))).up && linkOf (q.u8 0) < 10 then post evCourseDown (unitCourse (linkOf (q.u8 0))) (linkOf (q.u8 0)) 0 w else w
    let p : Prbs := { gen := bit (q.u8 1) 0, chk := bit (q.u8 1) 1, p31 := q.u8 2 == 1, invert := bit (q.u8 3) 0
                      genReg := 1 + s.freeVal Config.sitePrbs % ((if q.u8 2 == 1 then 2 ^ 31 else 2 ^ 9) - 1) }
    q.u8 1 ≠ 0 → q.u8 1 < 4 →
    exec (.linkPrbs q) s₀ = .next ((Ans.done (.good (prbsResult (some p))) (checkLimit (told ((s.useFree.onLane (q.u8 0) fun x => { x with prbs := some p, rxMseq := none, deskewed := false }).onCourse (linkOf (q.u8 0)) fun c => { c with
        up := false, wanted := false, prbs := true, train := none, owned := false, out := [], hot := [] })))).left q)) ∧
  (∀ (q : Cmd) (s₀ : State), Runs 0x0B05 linkInjectCheck q s₀ = true → let s := s₀.begun 0x0B05 q; q.u8 1 ≤ 3 →
    exec (.linkInject q) s₀ = .next ((Ans.done .good (pump (linkOf (q.u8 0)) (s.onLane (q.u8 0) fun x => { x with injects := x.injects ++ [(q.u8 1, bit (q.u8 3) 0, q.u16 4)] }))).left q)) ∧
  (∀ (q : Cmd) (s₀ : State), Runs 0x0B05 linkInjectCheck q s₀ = true → let s := s₀.begun 0x0B05 q; 3 < q.u8 1 →
    exec (.linkInject q) s₀ = .next ((Ans.done .good (s.onCourse (q.u8 0 - 0x80) fun c => { c with injects := c.injects ++ [(q.u8 1, q.u8 2, bit (q.u8 3) 0, q.u16 4)] })).left q)) ∧
  (∀ (q : Cmd) (s₀ : State) (t : State) (n f : Nat), Runs 0x0B06 linkQueueFlushCheck q s₀ = true → let s := s₀.begun 0x0B06 q; flushQueue (q.u8 0) [q.id] s = (t, some (n, f)) →
    exec (.linkQueueFlush q) s₀ = .next ((Ans.done (.good (toLe 4 n ++ toLe 4 f)) t).left q)) ∧
  (∀ (q : Cmd) (s₀ : State) (t : State), Runs 0x0B06 linkQueueFlushCheck q s₀ = true → let s := s₀.begun 0x0B06 q; flushQueue (q.u8 0) [q.id] s = (t, none) →
    exec (.linkQueueFlush q) s₀ = .next (t)) ∧
  (∀ (q : Cmd) (s₀ : State), Runs 0x0B07 linkStatusCheck q s₀ = true → let s := s₀.begun 0x0B07 q;
    let c := s.course (q.u8 0)
    let res := toLe 1 c.stateCode ++ toLe 1 c.run.version ++ toLe 1 (if c.owned then 1 else if c.owner = 0 then 0 else 2)
      ++ toLe 1 (b2n (c.marks.getD 0 {}).sticky + 2 * b2n (c.marks.getD 1 {}).sticky) ++ toLe 4 c.depth ++ toLe 4 c.peak ++ toLeS 4 c.delay
    bit (q.u8 1) 0 = false →
    exec (.linkStatus q) s₀ = .next ((Ans.done (.withExt res (q.u64 8) (linkStatusStruct (q.u8 0) s)) s).left q)) ∧
  (∀ (q : Cmd) (s₀ : State), Runs 0x0B07 linkStatusCheck q s₀ = true → let s := s₀.begun 0x0B07 q;
    let c := s.course (q.u8 0)
    let res := toLe 1 c.stateCode ++ toLe 1 c.run.version ++ toLe 1 (if c.owned then 1 else if c.owner = 0 then 0 else 2)
      ++ toLe 1 (b2n (c.marks.getD 0 {}).sticky + 2 * b2n (c.marks.getD 1 {}).sticky) ++ toLe 4 c.depth ++ toLe 4 c.peak ++ toLeS 4 c.delay
    bit (q.u8 1) 0 = true →
    exec (.linkStatus q) s₀ = .next ((Ans.done (.withExt res (q.u64 8) (linkStatusStruct (q.u8 0) s)) (s.onCourse (q.u8 0) fun c => { c with marks := c.marks.map fun m => { m with sticky := false }, peak := c.depth })).left q)) ∧
  (∀ (q : Cmd) (s₀ : State), Runs 0x0B08 linkEthConfigCheck q s₀ = true → let s := s₀.begun 0x0B08 q; (s.hif.eth.getD (q.u8 0) {}).enable = bit (q.u8 1) 0 → (s.hif.eth.getD (q.u8 0) {}).is25 = bit (q.u8 1) 1 → (s.hif.eth.getD (q.u8 0) {}).fec = bit (q.u8 1) 2 →
    exec (.linkEthConfig q) s₀ = .next ((Ans.done .good (s.onHif fun h => { h with eth := upd (q.u8 0) (EthPort.address q) h.eth })).left q)) ∧
  (∀ (q : Cmd) (s₀ : State), Runs 0x0B08 linkEthConfigCheck q s₀ = true → let s := s₀.begun 0x0B08 q; (s.hif.eth.getD (q.u8 0) {}).enable = false → bit (q.u8 1) 0 = true →
    exec (.linkEthConfig q) s₀ = .next ((s.onHif fun h => { h with eth := upd (q.u8 0) (fun p => { p with enable := true, is25 := bit (q.u8 1) 1, fec := bit (q.u8 1) 2, linkUp := false }) h.eth }).onHif
      fun h => { h with eth := upd (q.u8 0) (fun p => { p with retrain := some q.id }) h.eth })) ∧
  (∀ (q : Cmd) (s₀ : State), Runs 0x0B08 linkEthConfigCheck q s₀ = true → let s := s₀.begun 0x0B08 q; (s.hif.eth.getD (q.u8 0) {}).enable = true → bit (q.u8 1) 0 = false →
    exec (.linkEthConfig q) s₀ = .next ((Ans.done .good ((s.onHif fun h => { h with eth := upd (q.u8 0) (fun p => { p with enable := false, is25 := bit (q.u8 1) 1, fec := bit (q.u8 1) 2, linkUp := false }) h.eth }).onHif
      fun h => { h with eth := upd (q.u8 0) (EthPort.address q) h.eth })).left q)) ∧
  (∀ (q : Cmd) (s₀ : State), Runs 0x0B09 linkMarksCheck q s₀ = true → let s := s₀.begun 0x0B09 q;
    exec (.linkMarks q) s₀ = .next ((Ans.done .good (checkMarks (q.u8 0) (s.onCourse (q.u8 0) fun c => { c with marks := upd (q.u8 1) (fun m => { m with level := q.u32 4, hyst := q.u32 8, armed := true }) c.marks }))).left q))

/-- Where a HEAD command is taken and its checks pass, exec answers the next state with its own effect: discovery and reads begun, the head enabled or taken out at once or at the next boundary, the gate test begun. (R245, R358, R440, R441, R443) -/
def Obligations.HeadCommandsComplete : Prop :=
  (∀ (q : Cmd) (s₀ : State), Runs 0x0C01 headDiscoverCheck q s₀ = true → let s := s₀.begun 0x0C01 q;
    let t := hold q ((chosenPaths q).map pathResource) true s
    let live := (chosenPaths q).filter fun p => decide (p < 5) || (t.course (p - 0x80)).up
   
    exec (.headDiscover q) s₀ = .next (checkDiscover (live.foldl (fun s p => readNext q.id p s) (t.onBoard fun b => { b with discover := some { cmd := q.id, todo := live.flatMap fun p => placesOn p t } })))) ∧
  (∀ (q : Cmd) (s₀ : State) (m : Mir), Runs 0x0C02 headMirReadCheck q s₀ = true → let s := s₀.begun 0x0C02 q; heldMir (q.u8 0) (q.u8 1) s = some m →
    exec (.headMirRead q) s₀ = .next ((Ans.done (.withExt [] (q.u64 16) (if q.src.isNone && q.u64 16 == 0 then [] else slice m.bytes (q.u32 4) (q.u32 8))) s).left q)) ∧
  (∀ (q : Cmd) (s₀ : State), Runs 0x0C03 headGateTestCheck q s₀ = true → let s := s₀.begun 0x0C03 q;
    let w := hold q [.bar (q.u8 0), .course (q.u8 0), .gate (q.u8 0)] true s
    let t : GateTest :=
      { cmd := q.id, bar := q.u8 0, apply := bit (q.u8 1) 0, takeOut := bit (q.u8 1) 1, repeats := orDefault (q.u8 2) 3, drop := orDefault (q.u8 3) 2
        shotNs := q.u32 8, flightNs := orDefault (q.u32 12) (w.gateFlight (q.u8 0)), windowNs := orDefault (q.u16 16) 5000
        weakNs := orDefault (q.u16 18) 1000, failLimit := orDefault (q.u16 20) 50, heads := q.u32 4, addr := q.u64 24, room := q.u32 32
        runId := 2 ^ 31 + (w.clr.testRuns + 1) % 2 ^ 31, again := (w.bar (q.u8 0)).enabled, began := w.tb1 }
    (s.bar (q.u8 0)).enabled = false → (w.bar (q.u8 0)).enabled = false → ((w.onClr fun k => { k with tests := k.tests ++ [t], testRuns := (k.testRuns + 1) % 2 ^ 31 }).bar (q.u8 0)).enabled = false →
    exec (.headGateTest q) s₀ = .next (beginTest t (w.onClr fun k => { k with tests := k.tests ++ [t], testRuns := (k.testRuns + 1) % 2 ^ 31 }))) ∧
  (∀ (q : Cmd) (s₀ : State) (b h : Nat), Runs 0x0C04 headEnableCheck q s₀ = true → let s := s₀.begun 0x0C04 q; (s.ctx (q.u8 0)).owner = some (b, h) → s.inPrint b = false →
    exec (.headEnable q) s₀ = .next ((Ans.done .good (checkLimit (s.onCtx (q.u8 0) fun x => { x with enabled := true, halted := none, haltAt := none }))).left q)) ∧
  (∀ (q : Cmd) (s₀ : State) (b h : Nat), Runs 0x0C04 headEnableCheck q s₀ = true → let s := s₀.begun 0x0C04 q; (s.ctx (q.u8 0)).owner = some (b, h) → s.inPrint b = true →
    exec (.headEnable q) s₀ = .next (keepFor q.id .good (s.onBar b fun x => { x with
      headOn := x.headOn ++ ((x.headOff.filter fun o => o.1 == h).filterMap fun o => o.2.map fun i => (h, i)) ++ [(h, q.id)]
      headOff := x.headOff.filter fun o => o.1 != h }))) ∧
  (∀ (q : Cmd) (s₀ : State) (b h : Nat), Runs 0x0C05 headDisableCheck q s₀ = true → let s := s₀.begun 0x0C05 q; (s.ctx (q.u8 0)).owner = some (b, h) → s.inPrint b = false →
    exec (.headDisable q) s₀ = .next ((Ans.done (if s.isDoomed (unitHead (q.u8 0)) then .errUnit .retired 0 (unitHead (q.u8 0)) else .good) (checkLimit (headOff (q.u8 0) [] s))).left q)) ∧
  (∀ (q : Cmd) (s₀ : State) (b h : Nat), Runs 0x0C05 headDisableCheck q s₀ = true → let s := s₀.begun 0x0C05 q; (s.ctx (q.u8 0)).owner = some (b, h) → s.inPrint b = true →
    exec (.headDisable q) s₀ = .next (headOff (q.u8 0) [some q.id] (keepFor q.id .good s))) ∧
  (∀ (q : Cmd) (s₀ : State), Runs 0x0C06 headStatusCheck q s₀ = true → let s := s₀.begun 0x0C06 q; let c := s.ctx (q.u8 0);
    exec (.headStatus q) s₀ = .next ((Ans.done (.good (toLe 1 (if c.retired then 4 else if c.owner.isNone then 0 else if c.halted.isSome then 3 else if c.enabled then 2 else 1)
      ++ toLe 1 (c.hflags + 128 * b2n c.stale) ++ toLeS 2 (c.temp.getD 0) ++ toLe 4 0 ++ toLe 8 (if c.mir.isEmpty then 0 else mirUid c.mir))) s).left q)) ∧
  (∀ (q : Cmd) (s₀ : State), Runs 0x0C07 headBridgeMgmtCheck q s₀ = true → let s := s₀.begun 0x0C07 q;
    exec (.headBridgeMgmt q) s₀ = .next (sendMgmt (q.u8 0) { mid := rd q.pblk 2 2, cmd := q.id } q.pblk s))

/-- Where a THERM command is taken and its checks pass, exec answers the next state with its own effect: levels held for the next sample, the trim, the power state, the rail and the PMBus transaction, or the temperatures and the budget read. The budget's powers are free values (the model's Config.powerEstimate). (R374, R377, R381, R383, R384) -/
def Obligations.ThermCommandsComplete : Prop :=
  (∀ (q : Cmd) (s₀ : State), Runs 0x0D01 thermLevelsCheck q s₀ = true → let s := s₀.begun 0x0D01 q;
    exec (.thermLevels q) s₀ = .next (s.onThm fun t => { t with newLevels := some (levelsOf q, ((t.newLevels.map (·.2)).getD []) ++ [q.id]) })) ∧
  (∀ (q : Cmd) (s₀ : State), Runs 0x0D02 thermAddrCheck q s₀ = true → let s := s₀.begun 0x0D02 q;
    exec (.thermRead q) s₀ = .next ((Ans.done (.withExt (toLeS 2 s.thm.hottest ++ toLe 1 s.thm.hotSensor ++ toLe 1 (if s.thm.hold then 3 else s.thm.level)
      ++ toLe 2 ((List.range 16).map fun n => if (s.die n).failed = 0 then 0 else 2 ^ n).sum
      ++ toLe 2 (match s.thm.substSince with | some t => min 65535 (tUs (s.tb1 - t) / 1000000).toNat | none => 0))
      (q.u64 8) ((List.range 16).flatMap (dieBytes s))) s).left q)) ∧
  (∀ (q : Cmd) (s₀ : State), Runs 0x0D03 thermSensorTrimCheck q s₀ = true → let s := s₀.begun 0x0D03 q; bit (q.u8 1) 0 = false →
    exec (.thermSensorTrim q) s₀ = .next ((Ans.done .good (s.onThm fun t => { t with sensors := upd (q.u8 0) (fun x => { x with trim := q.s16 2 }) t.sensors })).left q)) ∧
  (∀ (q : Cmd) (s₀ : State), Runs 0x0D03 thermSensorTrimCheck q s₀ = true → let s := s₀.begun 0x0D03 q; bit (q.u8 1) 0 = true →
    exec (.thermSensorTrim q) s₀ = .next ((Ans.done .good (journal (.trim (q.u8 0) (q.s16 2)) (s.onThm fun t => { t with sensors := upd (q.u8 0) (fun x => { x with trim := q.s16 2 }) t.sensors }))).left q)) ∧
  (∀ (q : Cmd) (s₀ : State), Runs 0x0D04 thermPowerStateCheck q s₀ = true → let s := s₀.begun 0x0D04 q; s.thm.power = Power.ofCode (q.u8 0) →
    exec (.thermPowerState q) s₀ = .next ((Ans.done (.good (toLe 1 (Power.ofCode (q.u8 0)).code ++ toLe 3 0 ++ toLe 4 0)) s).left q)) ∧
  (∀ (q : Cmd) (s₀ : State), Runs 0x0D04 thermPowerStateCheck q s₀ = true → let s := s₀.begun 0x0D04 q; s.thm.power ≠ .p1 → Power.ofCode (q.u8 0) = .p1 →
    exec (.thermPowerState q) s₀ = .next (enterPower q.id .p1 s.tb1 ((hold q [.device] false s).onThm fun x => { x with going := some (q.id, .p1, s.tb1) }))) ∧
  (∀ (q : Cmd) (s₀ : State), Runs 0x0D04 thermPowerStateCheck q s₀ = true → let s := s₀.begun 0x0D04 q; s.thm.power ≠ Power.ofCode (q.u8 0) → Power.ofCode (q.u8 0) ≠ .p1 →
    exec (.thermPowerState q) s₀ = .next (settlePower (endWork ((hold q [.device] false s).onThm fun x => { x with going := some (q.id, Power.ofCode (q.u8 0), s.tb1), wakeMask := if Power.ofCode (q.u8 0) == .p3 then q.u16 2 else x.wakeMask })))) ∧
  (∀ (q : Cmd) (s₀ : State), Runs 0x0D05 thermPmbusCheck q s₀ = true → let s := s₀.begun 0x0D05 q; q.u8 0 = 2 →
    exec (.thermPmbus q) s₀ = .next ((Ans.done (.good (List.replicate 8 0)) (s.onThm fun t => { t with rails := upd (q.u8 1) (fun _ => some { addr := q.u8 2, page := q.u8 3, rail := q.u8 4 }) t.rails })).left q)) ∧
  (∀ (q : Cmd) (s₀ : State) (r : Rail), Runs 0x0D05 thermPmbusCheck q s₀ = true → let s := s₀.begun 0x0D05 q; q.u8 0 ≠ 2 → s.rail (q.u8 1) = some r →
    exec (.thermPmbus q) s₀ = .next (pmbusWrite r (pmbusTransaction q) ((hold q [.pmb0] false s).onThm fun t => { t with pmbus := some (q.id, q.u8 0, q.u8 1, false) }))) ∧
  (∀ (q : Cmd) (s₀ : State), Runs 0x0D06 thermAddrCheck q s₀ = true → let s := s₀.begun 0x0D06 q;
    exec (.thermBudget q) s₀ = .next ((Ans.done (.withExt (toLe 4 (u32 ((List.range 10).map fun i => Config.powerEstimate i s.free % 2 ^ 32).sum) ++ toLe 2 (s.thm.vcore / 10)
      ++ toLe 2 ((((s.thm.rails.filterMap id).find? (·.rail == 0)).map (·.iout / 10)).getD 0)) (q.u64 8)
      (((List.range 10).map fun i => Config.powerEstimate i s.free % 2 ^ 32).flatMap (toLe 4))) s.useFree).left q))

/-- Where a PAIR command is taken and its checks pass, exec answers the next state with its own effect on the pair, or with the health and status it reads. (R399, R402, R408, R409, R412) -/
def Obligations.PairCommandsComplete : Prop :=
  (∀ (q : Cmd) (s₀ : State), Runs 0x0E01 pairConfigCheck q s₀ = true → let s := s₀.begun 0x0E01 q;
    let s := s.onPair fun p => { p with
      enable := true, prefer := bit (q.u8 0) 1, autoJoin := bit (q.u8 0) 2, refSpeed := q.u32 4, peerUid := q.u64 8 }
    let s := s.onCourse 10 fun c => { c with cfg := { c.cfg with enable := true, rate := q.u8 1, lanes := 3, version := 2 } }
    bit (q.u8 0) 0 = true → s.pair.st ≠ .off →
    exec (.pairConfig q) s₀ = .next ((Ans.done .good s).left q)) ∧
  (∀ (q : Cmd) (s₀ : State), Runs 0x0E01 pairConfigCheck q s₀ = true → let s := s₀.begun 0x0E01 q;
    let s := s.onPair fun p => { p with
      enable := true, prefer := bit (q.u8 0) 1, autoJoin := bit (q.u8 0) 2, refSpeed := q.u32 4, peerUid := q.u64 8 }
    let s := s.onCourse 10 fun c => { c with cfg := { c.cfg with enable := true, rate := q.u8 1, lanes := 3, version := 2 } }
    bit (q.u8 0) 0 = true → s.pair.st = .off → q.ring ≠ ringReplay →
    exec (.pairConfig q) s₀ = .next ((Ans.done .good (setPair .linking (trainPair s))).left q)) ∧
  (∀ (q : Cmd) (s₀ : State), Runs 0x0E01 pairConfigCheck q s₀ = true → let s := s₀.begun 0x0E01 q;
    let s := s.onPair fun p => { p with
      enable := false, prefer := bit (q.u8 0) 1, autoJoin := bit (q.u8 0) 2, refSpeed := q.u32 4, peerUid := q.u64 8 }
    let s := s.onCourse 10 fun c => { c with cfg := { c.cfg with enable := false, rate := q.u8 1, lanes := 3, version := 2 } }
    let s := s.onCourse 10 fun c => { c with up := false, wanted := false, train := none }
    let s := setPair .off (s.onPair fun p => { p with peer := none, peerState := .off, beatSeen := none, beatLost := false })
    bit (q.u8 0) 0 = false →
    exec (.pairConfig q) s₀ = .next ((Ans.done .good (orderFloor (drivePairYield false s))).left q)) ∧
  (∀ (q : Cmd) (s₀ : State), Runs 0x0E02 pairReadCheck q s₀ = true → let s := s₀.begun 0x0E02 q;
    exec (.pairHealth q) s₀ = .next ((Ans.done (.withExt ((s.pair.health.getD { time := s.tb1 }).result s.tb1) (q.u64 8) (s.pair.health.getD { time := s.tb1 }).block) s).left q)) ∧
  (∀ (q : Cmd) (s₀ : State), Runs 0x0E03 pairHandoverCheck q s₀ = true → let s := s₀.begun 0x0E03 q; let t := hold q [.device] true s;
    exec (.pairHandover q) s₀ = .next (pairSend .ctrl 0x46 [] (t.onPair fun p => { p with handover := some { cmd := some q.id, since := t.tb1, stepSince := t.tb1, step := 1 } }))) ∧
  (∀ (q : Cmd) (s₀ : State), Runs 0x0E04 pairMirrorCheck q s₀ = true → let s := s₀.begun 0x0E04 q; let t := s.onPair fun p => { p with auto := bit (q.u8 1) 0, mirrorRate := orDefault (q.u16 2) 4000 }; q.u8 0 = 0 →
    exec (.pairMirror q) s₀ = .next ((Ans.done (.good (mirrorResult t)) t).left q)) ∧
  (∀ (q : Cmd) (s₀ : State), Runs 0x0E04 pairMirrorCheck q s₀ = true → let s := s₀.begun 0x0E04 q; q.u8 0 = 1 →
    exec (.pairMirror q) s₀ = .next ((Ans.done (.good (mirrorResult (mirrorJob (q.u32 4) s))) (mirrorJob (q.u32 4) s)).left q)) ∧
  (∀ (q : Cmd) (s₀ : State), Runs 0x0E04 pairMirrorCheck q s₀ = true → let s := s₀.begun 0x0E04 q; 2 ≤ q.u8 0 →
    exec (.pairMirror q) s₀ = .next ((Ans.done (.good (mirrorResult s)) s).left q)) ∧
  (∀ (q : Cmd) (s₀ : State), Runs 0x0E05 pairReadCheck q s₀ = true → let s := s₀.begun 0x0E05 q;
    exec (.pairStatus q) s₀ = .next ((Ans.done (.withExt (toLe 1 s.pair.st.code ++ toLe 1 s.pair.peerState.code ++ toLe 2 s.hif.floor ++ toLe 2 s.ckptFormat ++ toLe 2 0
      ++ toLe 4 s.pair.lastRecord) (q.u64 8) (pairStatusBlock s)) s).left q)) ∧
  (∀ (q : Cmd) (s₀ : State), Runs 0x0E06 pairRejoinCheck q s₀ = true → let s := s₀.begun 0x0E06 q;
    let t := setAbortable q.id true (drivePairYield false s)
    let t := setPair .linking (t.onPair fun p => { p with rejoin := some (q.id, t.tb1 + secT (orDefault (q.u32 0) 600)) })
    (t.course 10).up = true →
    exec (.pairRejoin q) s₀ = .next (sendPairHello t)) ∧
  (∀ (q : Cmd) (s₀ : State), Runs 0x0E06 pairRejoinCheck q s₀ = true → let s := s₀.begun 0x0E06 q;
    let t := setAbortable q.id true (drivePairYield false s)
    let t := setPair .linking (t.onPair fun p => { p with rejoin := some (q.id, t.tb1 + secT (orDefault (q.u32 0) 600)) })
    (t.course 10).up = false → (t.course 10).train = none →
    exec (.pairRejoin q) s₀ = .next (trainPair t))

/-- Where a STAT command is taken and its checks pass, exec answers the next state with its own effect: the records, counters, history and peaks it returns or clears, and the mask it writes. (R421, R422, R428) -/
def Obligations.StatCommandsComplete : Prop :=
  (∀ (q : Cmd) (s₀ : State) (r o : Record) (rs : List Record), Runs 0x0F01 statFrameRecordCheck q s₀ = true → let s := s₀.begun 0x0F01 q;
    let sp := readSpan (q.u32 0) (q.u16 4) o.seq r.seq
    let got := (s.stat.records.filter fun x => decide (sp.1 ≤ x.seq) && decide (x.seq < sp.1 + sp.2)).reverse
    s.stat.records = r :: rs → s.stat.records.getLast? = some o →
    exec (.statFrameRecord q) s₀ = .next ((Ans.done (.withExt (toLe 2 sp.2 ++ toLe 2 0 ++ toLe 4 sp.1 ++ toLe 4 r.seq) (q.u64 8)
      (if q.src.isSome then window (q.u16 6) (got.flatMap encRecord) else ((got.map encRecord).intersperse (List.replicate 56 0)).flatten)) (s.onStat fun t => { t with readUpTo := max t.readUpTo (sp.1 + sp.2) })).left q)) ∧
  (∀ (q : Cmd) (s₀ : State), Runs 0x0F01 statFrameRecordCheck q s₀ = true → let s := s₀.begun 0x0F01 q; s.stat.records = [] →
    exec (.statFrameRecord q) s₀ = .next ((Ans.done (.good (toLe 2 0 ++ toLe 2 0 ++ toLe 4 s.stat.recSeq ++ toLe 4 ((s.stat.recSeq + (2 ^ 32 - 1)) % 2 ^ 32))) s).left q)) ∧
  (∀ (q : Cmd) (s₀ : State), Runs 0x0F02 statCountersCheck q s₀ = true → let s := s₀.begun 0x0F02 q; bit (q.u8 0) 0 = true →
    exec (.statCounters q) s₀ = .next ((Ans.done (.withExt [] (q.u64 8) (if q.src.isSome then window (q.u16 2) (encRecord s.cumulative) else encRecord s.cumulative)) (s.onStat fun t => { t with cumul := clearedCumul s })).left q)) ∧
  (∀ (q : Cmd) (s₀ : State), Runs 0x0F02 statCountersCheck q s₀ = true → let s := s₀.begun 0x0F02 q; bit (q.u8 0) 0 = false →
    exec (.statCounters q) s₀ = .next ((Ans.done (.withExt [] (q.u64 8) (if q.src.isSome then window (q.u16 2) (encRecord s.cumulative) else encRecord s.cumulative)) s).left q)) ∧
  (∀ (q : Cmd) (s₀ : State), Runs 0x0F03 statClearCheck q s₀ = true → let s := s₀.begun 0x0F03 q;
    exec (.statClear q) s₀ = .next ((Ans.done .good (s.onStat fun t => { t with
        cumul := if bit (q.u8 0) 0 then clearedCumul s else t.cumul
        records := if bit (q.u8 0) 1 then [] else t.records
        history := if bit (q.u8 0) 2 then [] else t.history })).left q)) ∧
  (∀ (q : Cmd) (s₀ : State), Runs 0x0F04 statEventMaskCheck q s₀ = true → let s := s₀.begun 0x0F04 q;
    exec (.statEventMask q) s₀ = .next ((Ans.done .good ((s.onStat fun t => { t with
        masks := if q.u8 0 = 0xFF then t.masks.map fun _ => { postSev := q.u8 1, irqSev := q.u8 2, vector := q.u8 3 }
          else upd (q.u8 0 - 1) (fun _ => { postSev := q.u8 1, irqSev := q.u8 2, vector := q.u8 3 }) t.masks }).onVec (q.u8 3)
        fun v => { v with count := q.u8 4, time := q.u16 6 })).left q)) ∧
  (∀ (q : Cmd) (s₀ : State), Runs 0x0F05 statEventFetchCheck q s₀ = true → let s := s₀.begun 0x0F05 q; s.stat.history = [] →
    exec (.statEventFetch q) s₀ = .next ((Ans.done (.good (toLe 2 0 ++ toLe 2 0 ++ toLe 4 s.stat.hseq ++ toLe 4 ((s.stat.hseq + (2 ^ 32 - 1)) % 2 ^ 32))) s).left q)) ∧
  (∀ (q : Cmd) (s₀ : State), Runs 0x0F05 statEventFetchCheck q s₀ = true → let s := s₀.begun 0x0F05 q; let sp := readSpan (q.u32 0) (q.u16 4) s.oldestHseq (s.stat.hseq - 1); s.stat.history ≠ [] →
    exec (.statEventFetch q) s₀ = .next ((Ans.done (.withExt (toLe 2 sp.2 ++ toLe 2 0 ++ toLe 4 sp.1 ++ toLe 4 (s.stat.hseq - 1)) (q.u64 8)
      (((s.stat.history.reverse.drop (sp.1 - s.oldestHseq)).take sp.2).flatMap (encEvent false))) s).left q)) ∧
  (∀ (q : Cmd) (s₀ : State), Runs 0x0F06 statPeaksCheck q s₀ = true → let s := s₀.begun 0x0F06 q; let got := ((stickyEntries s).filter fun e => q.u16 0 == 0xFFFF || e.1 == q.u16 0).take (q.u8 3);
    exec (.statPeaks q) s₀ = .next ((Ans.done (.withExt (toLe 2 got.length) (q.u64 8) (got.flatMap fun e => toLe 2 e.1 ++ toLe 1 e.2.1 ++ toLe 5 0 ++ toLeS 8 e.2.2)) (if bit (q.u8 2) 0 then (got.map (·.1)).foldl clearSticky s else s)).left q))

/-- Where a DIAG command is taken and its checks pass, exec answers the next state with its own effect. What a self-test code, a memory test, a register and a trace read as is a free value (the spec states no value for them). (R39, R443) -/
def Obligations.DiagCommandsComplete : Prop :=
  (∀ (q : Cmd) (s₀ : State), Runs 0x1001 diagSelfTestCheck q s₀ = true → let s := s₀.begun 0x1001 q;
    exec (.diagSelfTest q) s₀ = .next ((Ans.done (.good (toLe 1 (b2n s.testPassed) ++ toLe 3 0 ++ toLe 4 (if s.testPassed then 0 else s.freeVal Config.siteTestCode % (2 ^ 32 - 1) + 1))) (if s.testPassed || s.isRetired (q.u16 0) then s.useFree else testFailed (q.u16 0) s.useFree)).left q)) ∧
  (∀ (q : Cmd) (s₀ : State), Runs 0x1002 diagUnitRestoreCheck q s₀ = true → let s := s₀.begun 0x1002 q; s.isRetired (q.u16 0) = false →
    exec (.diagUnitRestore q) s₀ = .next ((Ans.done .good s).left q)) ∧
  (∀ (q : Cmd) (s₀ : State), Runs 0x1002 diagUnitRestoreCheck q s₀ = true → let s := s₀.begun 0x1002 q; s.isRetired (q.u16 0) = true →
    exec (.diagUnitRestore q) s₀ = .next ((Ans.done (if s.testPassed then .good else .errUnit .hwFault 0 (q.u16 0)) (if s.testPassed then restoreUnit (q.u16 0) s.useFree else s.useFree)).left q)) ∧
  (∀ (q : Cmd) (s₀ : State), Runs 0x1003 diagUnitRetireCheck q s₀ = true → let s := s₀.begun 0x1003 q;
    exec (.diagUnitRetire q) s₀ = .next (doom (q.u16 0) 0x05 (s.onStat fun t => { t with retireCmds := t.retireCmds ++ [(q.u16 0, q.id)] }))) ∧
  (∀ (q : Cmd) (s₀ : State), Runs 0x1004 diagMemTestCheck q s₀ = true → let s := s₀.begun 0x1004 q;
    exec (.diagMemTest q) s₀ = .next ((Ans.done (.good (toLe 4 (s.freeVal Config.siteMemTest % 2 ^ 32))) s.useFree).left q)) ∧
  (∀ (q : Cmd) (s₀ : State), Runs 0x1005 (fun q _ => firstFail (shape q 16 [(0, 6)] ++ [(q.u32 0 % 4 != 0, Reply.bad 0), (q.u16 4 == 0 || decide (4 < q.u16 4), Reply.bad 4)])) q s₀ = true → let s := s₀.begun 0x1005 q; let sec := (List.range (q.u16 4)).any fun i => Config.secAddress (q.u32 0 + 4 * i);
    exec (.diagRegRead q) s₀ = .next (if sec = true then finish q.id (.err .denied) s else (Ans.done (.good ((List.range (q.u16 4)).flatMap fun i => toLe 4 (Config.free Config.siteRegister (s.free + i) % 2 ^ 32))) { s with free := s.free + 4 }).left q)) ∧
  (∀ (q : Cmd) (s₀ : State), Runs 0x1006 diagInjectCheck q s₀ = true → let s := s₀.begun 0x1006 q;
    exec (.diagInject q) s₀ = .next (injectFault (q.u16 0) (q.u8 2) (!bit (q.u8 3) 0) (finish q.id .good s))) ∧
  (∀ (q : Cmd) (s₀ : State), Runs 0x1007 diagTraceCheck q s₀ = true → let s := s₀.begun 0x1007 q; let n := q.listBytes (q.u32 16); 0 < n →
    exec (.diagTrace q) s₀ = .next ((hold q [.unit (q.u16 0)] true { s with free := s.free + n }).onFlying q.id fun e => { e with
      abortable := true, reply := some .good
      out := some (upToLast (q.counted (q.u32 16)), ((List.range n).map fun i => BitVec.ofNat 8 (Config.free Config.siteTrace (s.free + i))).take n) }))

/-- In a device that is up, each host register row answers the next state with its own effect: the doorbell taken, the ring or the event queue enabled with its indices at zero or disabled, the halted ring released, the register written, the coalesced interrupt sent. (R48, R50, R51, R53, R57, R62, R63, R419, R421, R478) -/
def Obligations.HostRegisterRowsComplete : Prop :=
  (∀ (dt : Nat) (ring value : Nat) (s₀ : State), let s := advance dt s₀; ring < 8 → s.bar0 = true → (s.ring ring).ethernet = false → (s.ring ring).enable = true → value ≠ (s.ring ring).sqTail → value < 2 ^ (s.ring ring).sqLog2 →
    exec (.sqDb dt ring value) s₀ = .next (s.onRing ring fun r => { r with sqTail := value })) ∧
  (∀ (dt : Nat) (ring value : Nat) (s₀ : State), let s := advance dt s₀; ring < 8 → s.bar0 = true → (s.ring ring).ethernet = false → (s.ring ring).enable = true → value ≠ (s.ring ring).sqTail → 2 ^ (s.ring ring).sqLog2 ≤ value →
    exec (.sqDb dt ring value) s₀ = .next (haltRing ring 0x02 s)) ∧
  (∀ (dt : Nat) (ring value : Nat) (s₀ : State), let s := advance dt s₀; ring < 8 → s.bar0 = true → (s.ring ring).ethernet = false → (s.ring ring).enable = true → value ≠ (s.ring ring).cqHead → value < 2 ^ (s.ring ring).cqLog2 →
    exec (.cqDb dt ring value) s₀ = .next (s.onRing ring fun r => { r with cqHead := value, cqUsed := r.cqUsed - (value + 2 ^ r.cqLog2 - r.cqHead) % 2 ^ r.cqLog2 })) ∧
  (∀ (dt : Nat) (value : Nat) (s₀ : State), let s := advance dt s₀; s.bar0 = true → s.hif.evqEnable = true → value < s.hif.evqN →
    exec (.evqDb dt value) s₀ = .next (reportLost (s.onHif fun h => { h with evqHead := value }))) ∧
  (∀ (dt : Nat) (ring : Nat) (s₀ : State), let s := advance dt s₀; ring < 8 → s.bar0 = true → (s.ring ring).enable = false → 4 ≤ (s.ring ring).sqLog2 → (s.ring ring).sqLog2 ≤ 12 → 4 ≤ (s.ring ring).cqLog2 → (s.ring ring).cqLog2 ≤ 12 → (s.ring ring).halted = false → (s.ring ring).ethernet = false ∨ (s.sec.prot.rings.getD ring {}).ethAllowed = true →
    exec (.ringEnableSet dt ring) s₀ = .next (s.onRing ring fun r => { r with
      enable := true, configErr := false, sqHead := 0, sqTail := 0, cqTail := 0, cqHead := 0, cqUsed := 0, expSeq := 0, cqPhase := true, agreed := 2 })) ∧
  (∀ (dt : Nat) (ring : Nat) (s₀ : State), let s := advance dt s₀; ring < 8 → s.bar0 = true → (s.ring ring).enable = false → (s.ring ring).halted = true →
    exec (.ringEnableSet dt ring) s₀ = .next (s.onRing ring fun r => { r with configErr := true })) ∧
  (∀ (dt : Nat) (ring : Nat) (s₀ : State), let s := advance dt s₀; ring < 8 → s.bar0 = true →
    exec (.ringEnableClear dt ring) s₀ = .next (s.onRing ring fun r => { r with enable := false })) ∧
  (∀ (dt : Nat) (ring : Nat) (s₀ : State), let s := advance dt s₀; ring < 8 → s.bar0 = true → (s.ring ring).enable = false → s.ringFlying ring = 0 →
    exec (.ringReset dt ring) s₀ = .next (s.onRing ring fun r => { r with halted := false, haltReason := 0 })) ∧
  (∀ (dt : Nat) (s₀ : State), let s := advance dt s₀; s.bar0 = true → s.hif.evqEnable = false → 6 ≤ s.hif.evqSize → s.hif.evqSize ≤ 14 →
    exec (.evqEnableSet dt) s₀ = .next (reportLost (s.onHif fun h => { h with evqEnable := true, evqTail := 0, evqHead := 0, evqPhase := true }))) ∧
  (∀ (dt : Nat) (s₀ : State), let s := advance dt s₀; s.bar0 = true →
    exec (.evqEnableClear dt) s₀ = .next (s.onHif fun h => { h with evqEnable := false })) ∧
  (∀ (dt : Nat) (offset size value : Nat) (s₀ : State), let s := advance dt s₀; offset < 0x4000 → size ≠ 4 →
    exec (.registerWrite dt offset size value) s₀ = .next (s)) ∧
  (∀ (dt : Nat) (offset size value : Nat) (s₀ : State), let s := advance dt s₀; s.thm.power ≠ .p3 → s.thm.power ≠ .p4 → offset = 0x10 → size = 4 →
    exec (.registerWrite dt offset size value) s₀ = .next (s.onHif fun h => { h with winBase := h.winBase / 2 ^ 32 * 2 ^ 32 + value % 2 ^ 32 / 2 ^ 26 * 2 ^ 26 })) ∧
  (∀ (dt : Nat) (offset size value : Nat) (s₀ : State), let s := advance dt s₀; s.thm.power ≠ .p3 → s.thm.power ≠ .p4 → offset = 0x18 → size = 4 →
    exec (.registerWrite dt offset size value) s₀ = .next (s.onHif fun h => { h with winEnable := bit value 0, winWrite := bit value 1, winDenied := h.winDenied && !bit value 2 })) ∧
  (∀ (dt : Nat) (offset size value : Nat) (s₀ : State), let s := advance dt s₀; s.thm.power ≠ .p3 → s.thm.power ≠ .p4 → offset % 4 = 0 → 0x1000 ≤ offset → offset < 0x1400 → s.hif.ready = true → size = 4 →
    exec (.registerWrite dt offset size value) s₀ = .next (writeRingReg ((offset - 0x1000) / 0x80) ((offset - 0x1000) % 0x80) value s)) ∧
  (∀ (dt : Nat) (ring : Nat) (s₀ : State), let s := advance dt s₀; ring < 8 → 0 < (s.ring ring).irqPending → 0 < (s.ring ring).coalTime → passed s (s.ring ring).irqSince (s.ring ring).coalTime 1000000 = true →
    exec (.completionCoalesceTimeout dt ring) s₀ = .next (sendVector (s.ring ring).vec (s.onRing ring fun r => { r with irqPending := 0 }))) ∧
  (∀ (dt : Nat) (vector : Nat) (s₀ : State), let s := advance dt s₀; 8 ≤ vector → vector < 64 → 0 < (s.stat.vecs.getD vector {}).pending → 0 < (s.stat.vecs.getD vector {}).time → passed s (s.stat.vecs.getD vector {}).since (s.stat.vecs.getD vector {}).time 1000000 = true →
    exec (.eventCoalesceTimeout dt vector) s₀ = .next (flushEvVec vector s))

/-- A read through an open window returns the bytes there; a write inside SCRATCH through a window open for writing stores its bytes there; an access that the window denies sets its denied flag and stores nothing. What a byte of SCRATCH that nothing has written reads as is the model's choice (log 25). (R52) -/
def Obligations.WindowRowsComplete : Prop :=
  (∀ (dt : Nat) (offset len : Nat) (uncorrectable : Bool) (s₀ : State), let s := advance dt s₀; offset + len ≤ 0x4000000 → s.hif.winEnable = true → s.hif.winBase + offset + len ≤ s.usable →
    exec (.bar2WindowRead dt offset len uncorrectable) s₀ = .next (if Config.windowForbids s.sec.lifecycle.code (Debug.code s.sec.debug) = true then denyWindow (s.emit (.windowData (List.replicate len 0) false)) else (s.useFree).emit (.windowData (windowBytes (s.hif.winBase + offset) len s) uncorrectable))) ∧
  (∀ (dt : Nat) (offset len : Nat) (uncorrectable : Bool) (s₀ : State), let s := advance dt s₀; offset + len ≤ 0x4000000 → s.hif.winEnable = false →
    exec (.bar2WindowRead dt offset len uncorrectable) s₀ = .next (denyWindow (s.emit (.windowData (List.replicate len 0) false)))) ∧
  (∀ (dt : Nat) (offset : Nat) (bytes : List Byte) (s₀ : State), let s := advance dt s₀; offset + bytes.length ≤ 0x4000000 → s.hif.winEnable = true → s.hif.winWrite = true → scratchBase ≤ s.hif.winBase + offset → s.hif.winBase + offset + bytes.length ≤ scratchEnd →
    exec (.bar2WindowWrite dt offset bytes) s₀ = .next (if Config.windowForbids s.sec.lifecycle.code (Debug.code s.sec.debug) = true then denyWindow s else s.onStore fun m => { m with scratch := scratchWrite (s.hif.winBase + offset - scratchBase) bytes m.scratch })) ∧
  (∀ (dt : Nat) (offset : Nat) (bytes : List Byte) (s₀ : State), let s := advance dt s₀; offset + bytes.length ≤ 0x4000000 → s.hif.winEnable = false ∨ s.hif.winWrite = false ∨ s.hif.winBase + offset < scratchBase ∨ scratchEnd < s.hif.winBase + offset + bytes.length →
    exec (.bar2WindowWrite dt offset bytes) s₀ = .next (denyWindow s))

/-- A slot in order that passes its checks is admitted; a datagram for an Ethernet ring is taken or dropped; ARP and echo requests to the port's address are answered; the oldest NOR and journal writes end and their commands with them. (R70, R75, R76, R79, R88, R94) -/
def Obligations.SlotRowsComplete : Prop :=
  (∀ (dt : Nat) (ring : Nat) (slot pblk : List Byte) (descs : List Desc) (data : List Byte) (pcieError : Bool) (s₀ : State), let s := advance dt s₀; let t := (s.onRing ring fun r => { r with sqHead := (r.sqHead + 1) % 2 ^ r.sqLog2 }).onRing ring fun r => { r with expSeq := (r.expSeq + 1) % 2 ^ 32 }; ring < 8 → slot.length = 128 → s.mayFetch ring = true → (s.ring ring).ethernet = false → (s.ring ring).sqHead ≠ (s.ring ring).sqTail → pcieError = false → (viewSlot slot).seq = ((s.onRing ring fun r => { r with sqHead := (r.sqHead + 1) % 2 ^ r.sqLog2 }).ring ring).expSeq ∧ (viewSlot slot).seq = (s.ring ring).expSeq → slotChecks slot ring (padTo (viewSlot slot).pblkLen pblk) false t = none →
    exec (.slotFetch dt ring slot pblk descs data pcieError) s₀ = .next (admitSlot opTable slot ring (padTo (viewSlot slot).pblkLen pblk) (slotCmd slot ring (padTo (viewSlot slot).pblkLen pblk) descs data none) false t)) ∧
  (∀ (dt : Nat) (ring : Nat) (slot pblk : List Byte) (descs : List Desc) (data : List Byte) (pcieError : Bool) (s₀ : State), let s := advance dt s₀; ring < 8 → slot.length = 128 → s.mayFetch ring = true → (s.ring ring).ethernet = false → (s.ring ring).sqHead ≠ (s.ring ring).sqTail → pcieError = true →
    exec (.slotFetch dt ring slot pblk descs data pcieError) s₀ = .next (haltRing ring 0x03 s)) ∧
  (∀ (dt : Nat) (s₀ : State) (ring role mark : Nat) (held : Bool) (rest : List JournalItem), let s := advance dt s₀; s.nor.queue = .counter ring role mark held :: rest →
    exec (.journalWriteDone dt) s₀ = .next (counterWritten ring role mark held (s.onNor fun n => { n.take (.counter ring role mark held) with queue := rest }))) ∧
  (∀ (dt : Nat) (s₀ : State) (p : List Byte) (cmd : CmdId) (rest : List JournalItem), let s := advance dt s₀; s.nor.queue = .profile p cmd :: rest →
    exec (.journalWriteDone dt) s₀ = .next (profileWritten cmd (s.onNor fun n => { n.take (.profile p cmd) with queue := rest }))) ∧
  (∀ (dt : Nat) (port : Nat) (from_ : EthFrom) (vlan : Option Nat) (address udpPort : Nat) (bytes : List Byte) (s₀ : State), let s := advance dt s₀; port < 2 → ethAccepts port vlan s = true → address = (s.hif.eth.getD port {}).ip → udpPort = (s.hif.eth.getD port {}).udp →
    exec (.commandDatagram dt port from_ vlan address udpPort bytes) s₀ = .next (takeDatagram opTable port from_ bytes s)) ∧
  (∀ (dt : Nat) (port : Nat) (from_ : EthFrom) (vlan : Option Nat) (address udpPort : Nat) (bytes : List Byte) (s₀ : State), let s := advance dt s₀; port < 2 → ethAccepts port vlan s = true → address ≠ (s.hif.eth.getD port {}).ip ∨ udpPort ≠ (s.hif.eth.getD port {}).udp →
    exec (.commandDatagram dt port from_ vlan address udpPort bytes) s₀ = .next (dropDatagram port s)) ∧
  (∀ (dt : Nat) (port : Nat) (from_ : EthFrom) (vlan : Option Nat) (address udpPort : Nat) (bytes : List Byte) (s₀ : State), let s := advance dt s₀; port < 2 → ethAccepts port vlan s = false →
    exec (.commandDatagram dt port from_ vlan address udpPort bytes) s₀ = .next (s)) ∧
  (∀ (dt : Nat) (port : Nat) (vlan : Option Nat) (mac ip target : Nat) (s₀ : State), let s := advance dt s₀; port < 2 → ethAccepts port vlan s = true → target = (s.hif.eth.getD port {}).ip →
    exec (.arpRequest dt port vlan mac ip target) s₀ = .next (s.emit (.arpReply port mac ip))) ∧
  (∀ (dt : Nat) (port : Nat) (vlan : Option Nat) (ip target protocol type : Nat) (bytes : List Byte) (s₀ : State), let s := advance dt s₀; port < 2 → ethAccepts port vlan s = true → protocol = 1 → type = 8 → target = (s.hif.eth.getD port {}).ip →
    exec (.icmpEchoRequest dt port vlan ip target protocol type bytes) s₀ = .next (s.emit (.icmpReply port ip bytes))) ∧
  (∀ (dt : Nat) (port : Nat) (linkUp : Bool) (s₀ : State) (id : CmdId) (e : InFlight), let s := advance dt s₀;
    let t := (s.hif.eth.getD port {}).waiting.foldl (fun s w => s.emit (.datagram port w.1 w.2))
      (reportGroups port (s.onHif fun h => { h with eth := upd port (fun p => { p with linkUp := true, retrain := none, waiting := [] }) h.eth }))
    port < 2 → linkUp = true → (s.hif.eth.getD port {}).enable = true → (s.hif.eth.getD port {}).retrain = some id → t.flying id = some e →
    exec (.ethPortRetrained dt port linkUp) s₀ = .next (finish id .good (t.onHif fun h => { h with eth := upd port (EthPort.address e.cmd) h.eth }))) ∧
  (∀ (dt : Nat) (s₀ : State) (bytes : List Byte) (id : CmdId) (rest : List (Nat × List Byte × CmdId)), let s := advance dt s₀; s.sec.norWrites = (0, bytes, id) :: rest →
    exec (.norWriteDone dt) s₀ = .next (protectWritten id (s.onSec fun c => { c with norWrites := rest }))) ∧
  (∀ (dt : Nat) (s₀ : State) (bytes : List Byte) (id : CmdId) (rest : List (Nat × List Byte × CmdId)), let s := advance dt s₀; s.sec.norWrites = (1, bytes, id) :: rest →
    exec (.norWriteDone dt) s₀ = .next (keysWritten id bytes (s.onSec fun c => { c with norWrites := rest }))) ∧
  (∀ (dt : Nat) (s₀ : State) (bytes : List Byte) (id : CmdId) (rest : List (Nat × List Byte × CmdId)), let s := advance dt s₀; s.sec.norWrites = (2, bytes, id) :: rest →
    exec (.norWriteDone dt) s₀ = .next (imageWritten id bytes (s.onSec fun c => { c with norWrites := rest })))

/-- PTP messages, holds, timeouts and sends, the slewing of TB3, the reload of TBF and the fires of triggers and captures: where its condition holds, each row answers the next state with its own effect. (R136, R139, R142, R143, R144, R145, R147, R150, R152) -/
def Obligations.TimeRowsComplete : Prop :=
  (∀ (dt : Nat) (port : Nat) (via : PtpVia) (domainNumber : Nat) (msg : PtpMsg) (s₀ : State), let s := advance dt s₀; port < 2 → s.ptpOn port = true → s.ptpArrives port via msg = true → (s.ptp port).domainNumber = domainNumber →
    exec (.ptpMessage dt port via domainNumber msg) s₀ = .next (takePtp ((s.ptp port).role - 1) port msg s)) ∧
  (∀ (dt : Nat) (port : Nat) (s₀ : State) (h : PathHold), let s := advance dt s₀; port < 2 → (s.ptp port).hold = some h → passed s h.since 8 1 = true →
    exec (.pathHoldExpiry dt port) s₀ = .next (s.onPtp port fun t => { t with hold := some { h with looking := true } })) ∧
  (∀ (dt : Nat) (port : Nat) (s₀ : State) (at_ : Int), let s := advance dt s₀; port < 2 → (s.ptp port).lastAnnounce = some at_ → (s.ptp port).role ≠ 0 → (s.ptp port).isMaster = false → passedLog s at_ (s.ptp port).announceTimeout (s.ptp port).logAnnounce = true →
    exec (.announceTimeout dt port) s₀ = .next (loseMaster ((s.ptp port).role - 1) port (s.onPtp port fun t => { t with lastAnnounce := none }))) ∧
  (∀ (dt : Nat) (domain : Nat) (s₀ : State) (at_ : Int), let s := advance dt s₀; domain < 2 → (s.dom domain).holdoverAt = some at_ → (s.dom domain).st = .holdover → (s.dom domain).longPosted = false → passed s at_ (s.dom domain).warnS 1 = true →
    exec (.holdoverWarn dt domain) s₀ = .next (post evTimeHoldoverLong (unitTb (domTb domain)) domain (s.dom domain).warnS (s.onDom domain fun x => { x with longPosted := true }))) ∧
  (∀ (dt : Nat) (port : Nat) (announce : Bool) (s₀ : State), let s := advance dt s₀; port < 2 → s.ptpOn port = true → (s.ptp port).isMaster = true → announce = true → intervalDone s (s.ptp port).annAt (s.ptp port).logAnnounce = true →
    exec (.ptpMasterSend dt port announce) s₀ = .next (sendMaster ((s.ptp port).role - 1) port announce s)) ∧
  (∀ (dt : Nat) (port : Nat) (announce : Bool) (s₀ : State), let s := advance dt s₀; port < 2 → s.ptpOn port = true → (s.ptp port).isMaster = true → announce = false → intervalDone s (s.ptp port).syncAt (s.ptp port).logSync = true →
    exec (.ptpMasterSend dt port announce) s₀ = .next (sendMaster ((s.ptp port).role - 1) port announce s)) ∧
  (∀ (dt : Nat) (port : Nat) (s₀ : State), let s := advance dt s₀; let time := s.servoClock ((s.ptp port).role - 1) - (s.ptp port).egress; let kind := if (s.ptp port).p2p then 3 else 2; port < 2 → s.ptpOn port = true → (s.ptp port).p2p = true ∨ ((s.ptp port).isMaster = false ∧ (s.ptp port).master.isSome = true) → intervalDone s (s.ptp port).reqAt (s.ptp port).logDelay = true →
    exec (.ptpDelayRequest dt port) s₀ = .next ((s.emit (.ptp port kind (s.ptp port).seq time ((s.ptp port).route kind).1 ((s.ptp port).route kind).2)).onPtp port
      fun t => { t with reqSent := some (t.seq, time), reqAt := some s.tb1, seq := (t.seq + 1) % 65536, presp := none })) ∧
  (∀ (dt : Nat) (s₀ : State), let s := advance dt s₀;
    let lim : Int := (s.tim.tb3Step : Int) * 2 ^ 40 / 1000000000
    let t := (noteAdj s).onTim fun x => { x with lastRateStep := s.tb1 }
    s.tim.pairServo = false → passed s s.tim.lastRateStep 1 1000 = true →
    exec (.tb3RateStep dt) s₀ = .next (noteAdj (t.onTb 3 fun x => { x with adj := (s.tb 3).adj + clampI ((s.tb 0).adj - (s.tb 3).adj) (-lim) lim }))) ∧
  (∀ (dt : Nat) (domain : Nat) (s₀ : State), let s := advance dt s₀; domain < 2 → (s.dom domain).st = .locked → (s.dom domain).lastReload ≠ some (s.tb (domTb domain)).sec →
    exec (.tbfReload dt domain) s₀ = .next ((keepOffset ((s.onTbf fun f => { f with sec := (toN30 (s.tb (domTb domain)).t32).1, ns := (toN30 (s.tb (domTb domain)).t32).2, sub := 0 }).onTim fun t => { t with tbfCarry := false })).onDom domain
      fun x => { x with lastReload := some (s.tb (domTb domain)).sec })) ∧
  (∀ (dt : Nat) (unit : Nat) (s₀ : State), let s := advance dt s₀; unit < 16 → s.posRuns = true → (s.tim.triggers.getD unit {}).mode = 1 → (s.tim.triggers.getD unit {}).t ≤ (s.tb (s.tim.triggers.getD unit {}).tb).t48 →
    exec (.triggerFire dt unit) s₀ = .next (fireTrigger unit s)) ∧
  (∀ (dt : Nat) (unit : Nat) (s₀ : State), let s := advance dt s₀; unit < 16 → s.posRuns = true → (s.tim.triggers.getD unit {}).mode ≠ 0 → (s.tim.triggers.getD unit {}).running = true → (s.tim.triggers.getD unit {}).t ≤ (s.tb (s.tim.triggers.getD unit {}).tb).t48 →
    exec (.triggerFire dt unit) s₀ = .next (fireTrigger unit s)) ∧
  (∀ (dt : Nat) (gpio : Nat) (rising : Bool) (s₀ : State), let s := advance dt s₀; gpio < 16 → bit s.board.gpioIn gpio ≠ rising → bit s.board.gpioDir gpio = false →
    exec (.captureInputEdge dt gpio rising) s₀ = .next (settleCalibs ((List.range 16).foldl (fun s u =>
      if (s.tim.captures.getD u {}).enable && (s.tim.captures.getD u {}).source == 0 && (s.tim.captures.getD u {}).index == gpio
        && ((s.tim.captures.getD u {}).edge == 2 || ((s.tim.captures.getD u {}).edge == 0) == rising) then latchCapture u s else s)
      (s.onBoard fun b => { b with gpioIn := setBit b.gpioIn gpio rising }))))

/-- Levels and conversions of a running channel are taken; a stalled channel has its speed set to zero; a compare that its position has passed fires; the backup's offset is refreshed; a calibration whose time is up finishes with ST_TIMEOUT. (R111, R114, R121, R125, R127, R129) -/
def Obligations.PositionRowsComplete : Prop :=
  (∀ (dt : Nat) (ch sinRaw cosRaw : Nat) (s₀ : State) (t0 : Int), let s := advance dt s₀; ch < 4 → (s.chan ch).conv = some t0 → s.posRuns = true → (s.chan ch).mode = 2 → (s.chan ch).retired = false → t0 + nsT ((s.chan ch).convNs + 32 * (s.chan ch).sckDiv : Nat) ≤ s.tb3 →
    exec (.conversionComplete dt ch sinRaw cosRaw) s₀ = .next (takeConversion ch sinRaw cosRaw t0 s)) ∧
  (∀ (dt : Nat) (ch : Nat) (a b z : Bool) (held : Nat) (s₀ : State), let s := advance dt s₀; ch < 4 → s.posRuns = true → (s.chan ch).filter < held →
    exec (.encoderEdge dt ch a b z held) s₀ = .next (takeLevels ch a b z (s.tb3 - nsT (4 * (held - 1) : Nat)) s)) ∧
  (∀ (dt : Nat) (ch : Nat) (a b z : Bool) (held : Nat) (s₀ : State), let s := advance dt s₀; ch < 4 → held ≤ (s.chan ch).filter →
    exec (.encoderEdge dt ch a b z held) s₀ = .next (s)) ∧
  (∀ (dt : Nat) (unit : Nat) (s₀ : State) (n : Nat) (k : Nat) (p : Pair) (ps : List Pair), let s := advance dt s₀; unit < 16 → s.cmpChan (s.pos.cmp.getD unit {}) = some n → (s.chan n).scale = some k → (s.chan n).pairs = p :: ps → (s.pos.cmp.getD unit {}).armed = true → (s.pos.cmp.getD unit {}).behind = false → 4 ≤ (s.pos.cmp.getD unit {}).sgn * (p.pos.fdiv (2 ^ 32) - (s.pos.cmp.getD unit {}).value) →
    exec (.compareCatchUpFire dt unit) s₀ = .next (fireCompare unit false p.time s)) ∧
  (∀ (dt : Nat) (ch : Nat) (s₀ : State), let s := advance dt s₀; let moves := (s.chan ch).window121 s.tb1; ch < 4 → s.posRuns = true → (s.chan ch).mode ≠ 0 → (s.chan ch).retired = false → (s.chan ch).stalled = false → moves.any (fun m => passed s m.2 (s.chan ch).stallMs 1000) = true → (s.chan ch).still moves = true →
    exec (.encoderStall dt ch) s₀ = .next (s.onChan ch fun c => { c with moves, stalled := true, speed := 0 })) ∧
  (∀ (dt : Nat) (s₀ : State) (b : Backup), let s := advance dt s₀; s.pos.backup = some b → s.posRuns = true → s.fire.run = none → passed s b.since 1 1 = true →
    exec (.backupOffsetRefresh dt) s₀ = .next (setBackupOffset s)) ∧
  (∀ (dt : Nat) (ch : Nat) (s₀ : State) (k : Calib), let s := advance dt s₀; ch < 4 → (s.chan ch).calib = some k → k.deadline ≤ s.tb1 →
    exec (.posCalibrateTimeout dt ch) s₀ = .next (finish k.cmd (.err .timeout) (s.onChan ch fun c => { c with calib := none })))

/-- Ticks, readiness points, stamps, deadlines, rendering and composing: where its condition holds, each row answers the next state with its own effect on the run. (R20, R206, R212, R229, R258, R260, R265, R266, R277) -/
def Obligations.FiringRowsComplete : Prop :=
  (∀ (dt : Nat) (s₀ : State),   let s := advanceProgress (advance dt s₀);
    exec (.webEstimateUpdate dt) s₀ = .next (checkLimit s)) ∧
  (∀ (dt : Nat) (s₀ : State) (r : Run),   let s := advanceProgress (advance dt s₀); s.fire.run = some r → s.tickDue r = true → s.copies = false →
    exec (.lineTick dt) s₀ = .next (lineTick r s)) ∧
  (∀ (dt : Nat) (s₀ : State) (r : Run),   let s := advanceProgress (advance dt s₀); s.fire.run = some r → r.wants (s.startOf r s.cps.nextFrame).line = true → r.dueOver = false → r.stop = none → s.pair.st ≠ .standby → s.pair.st ≠ .joining → s.readyNow r (s.startOf r s.cps.nextFrame) = true →
    exec (.readinessPoint dt) s₀ = .next (readyFrame r (s.startOf r s.cps.nextFrame) s)) ∧
  (∀ (dt : Nat) (bar head : Nat) (s₀ : State) (r : Run) (h : HeadRun) (d : DueLine), let s := advance dt s₀; bar < 10 → head < 32 → s.fire.run = some r → r.headRun bar head = some h → h.due.find? (fun d => d.open (s.course bar).up) = some d → s.mayPrint = true → s.pastDeadline r bar head d.line = true →
    exec (.sendDeadline dt bar head) s₀ = .next (settleSwap bar (lateLine bar head d.line s))) ∧
  (∀ (dt : Nat) (bar head row : Nat) (s₀ : State) (r : Run) (h : HeadRun) (w : RowRun) (x : Nat × Bool × Bool),   let s := pump bar (advanceProgress (advance dt s₀)); bar < 10 → head < 32 → row < 8 → s.fire.run = some r → r.headRun bar head = some h → h.rows.find? (·.row == row) = some w → nextStamp (s.bar bar) h w = some x → s.mayPrint = true → s.isV1 bar = false → (s.course bar).prio.length < prioCap →
    exec (.stampFormation dt bar head row) s₀ = .next (doStamp h w x.1 (planStamp r h w x.1 (x.2.1 && (s.course bar).carried ((s.bar bar).place head).slot x.1) x.2.2 s) s)) ∧
  (∀ (dt : Nat) (s₀ : State) (r : Run),   let s := advanceProgress (advance dt s₀); s.fire.run = some r → s.runDone r = true → s.copies = false →
    exec (.runEnd dt) s₀ = .next (runEnd ((r.stop.map (·.reason)).getD 2) s)) ∧
  (∀ (dt : Nat) (s₀ : State), let s := advance dt s₀; s.posRuns = true → s.fire.inhibit = false →
    exec (.printInhibitAssert dt) s₀ = .next (setInhibit true s)) ∧
  (∀ (dt : Nat) (s₀ : State), let s := advance dt s₀; s.posRuns = true → s.fire.inhibit = true →
    exec (.printInhibitRelease dt) s₀ = .next (setInhibit false s)) ∧
  (∀ (dt : Nat) (bar clocks : Nat) (s₀ : State) (r : Run) (h : HeadRun) (d : DueLine), let s := advance dt s₀; bar < 10 → s.fire.run = some r → s.nextRender bar = some (h, d) → s.mayPrint = true → bit s.board.pllLost 1 = false → s.swapBusy bar = false → s.isRetired (unitBre (s.bar bar).engine) = false → s.isDoomed (unitBre (s.bar bar).engine) = false → (s.course bar).written = false → s.pastDeadline r bar h.head d.line = false → d.early = false → (s.lineEnv r bar d.line d.tick).ready h.head = true →
    exec (.renderHeadLine dt bar clocks) s₀ = .next (settleSwap bar (writeOn bar clocks (renderLine (s.lineEnv r bar d.line d.tick) bar h.head d.line s)))) ∧
  (∀ (dt : Nat) (bar clocks : Nat) (s₀ : State) (r : Run) (h : HeadRun) (d : DueLine), let s := advance dt s₀; bar < 10 → s.fire.run = some r → s.nextRender bar = some (h, d) → s.mayPrint = true → bit s.board.pllLost 1 = false → s.swapBusy bar = false → s.isRetired (unitBre (s.bar bar).engine) = false → s.isDoomed (unitBre (s.bar bar).engine) = false → (s.course bar).written = false → s.pastDeadline r bar h.head d.line = true →
    exec (.renderHeadLine dt bar clocks) s₀ = .next (settleSwap bar (lateLine bar h.head d.line (bump (ctr 6 bar 1) 1 s)))) ∧
  (∀ (dt : Nat) (bar clocks : Nat) (s₀ : State) (r : Run) (h : HeadRun) (d : DueLine), let s := advance dt s₀; bar < 10 → s.fire.run = some r → s.nextRender bar = some (h, d) → s.mayPrint = true → bit s.board.pllLost 1 = false → s.swapBusy bar = false → s.isRetired (unitBre (s.bar bar).engine) = false → s.isDoomed (unitBre (s.bar bar).engine) = false → (s.course bar).written = true →
    exec (.renderHeadLine dt bar clocks) s₀ = .next (settleSwap bar (writeOn bar clocks s))) ∧
  (∀ (dt : Nat) (s₀ : State) (r : Run) (f : Frame), let s := advance dt s₀; let t := reserveFronts r s; s.fire.run = some r → s.thm.power = .p0 → bit s.board.pllLost 1 = false → s.pipes ≠ 0 → t.frontTurn r = none → t.clFrame t.cps.nextCl = some f → t.asked r t.cps.nextCl = true → r.composes t.cps.nextCl = true → t.pair.waits.any (fun w => w.frame == some f.number) = false → t.cps.nextCl < t.ringOldest r + r.ringLines →
    exec (.composeContoneLine dt) s₀ = .next (composeNext r t.cps.nextCl f t)) ∧
  (∀ (dt : Nat) (s₀ : State) (r : Run) (b : Nat) (f : Front), let s := advance dt s₀; let t := reserveFronts r s; s.fire.run = some r → s.thm.power = .p0 → bit s.board.pllLost 1 = false → s.pipes ≠ 0 → t.frontTurn r = some (b, f) →
    exec (.composeContoneLine dt) s₀ = .next (composeFront r b f t))

/-- Decoded blocks, memory reads, the patrol scrub, migrations, transfers, deletions and retirements: where its condition holds, each row answers the next state with its own effect. (R35, R37, R38, R161, R163, R164, R177, R182, R183, R363) -/
def Obligations.StoreRowsComplete : Prop :=
  (∀ (dt : Nat) (pipe job obj block : Nat) (poisoned glitch : Bool) (s₀ : State) (o : List Byte), let s := advance dt s₀; pipe < 5 → s.image job obj = some o → block < (ImageHeader.of o).blocks → s.isRetired (0x0500 + pipe) = false → (s.job job).any (fun j => j.bad.contains { obj, block }) = false → poisoned = false → glitch = false → (decodeBlock (ImageHeader.of o) block (objBlock o block)).isSome = true →
    exec (.blockDecode dt pipe job obj block poisoned glitch) s₀ = .next (bump (ctr 4 0 1) 1 (bump (ctr 4 0 0) ((4 + (objBlock o block).length : Nat) : Int) s))) ∧
  (∀ (dt : Nat) (pipe job obj block : Nat) (poisoned glitch : Bool) (s₀ : State) (o : List Byte), let s := advance dt s₀; pipe < 5 → s.image job obj = some o → block < (ImageHeader.of o).blocks → s.isRetired (0x0500 + pipe) = false → (s.job job).any (fun j => j.bad.contains { obj, block }) = false → poisoned = true →
    exec (.blockDecode dt pipe job obj block poisoned glitch) s₀ = .next (badBlock job obj block (bump (ctr 4 0 0) ((4 + (objBlock o block).length : Nat) : Int) s))) ∧
  (∀ (dt : Nat) (line : Nat) (owner : Owner) (ecc : EccResult) (s₀ : State), let s := advance dt s₀; line < s.store.lines →
    exec (.memoryReadComplete dt line owner ecc) s₀ = .next (memoryRead line owner ecc s)) ∧
  (∀ (dt : Nat) (owner : Owner) (ecc : EccResult) (s₀ : State), let s := advance dt s₀; let t := memoryRead s.store.scrub owner ecc s; s.hif.ready = true → s.thm.power ≠ .p3 → s.thm.power ≠ .p4 → s.thm.level < 2 → s.store.retired.contains (s.store.scrub / 32768) = false →
    exec (.patrolScrubRead dt owner ecc) s₀ = .next (if t.store.rereads.contains s.store.scrub then t else t.onStore fun x => { x with scrub := (s.store.scrub + 1) % max 1 x.lines })) ∧
  (∀ (dt : Nat) (unit : Nat) (s₀ : State) (crit : Nat), let s := advance dt s₀; unitExists unit = true → s.stat.doomed.find? (·.1 == unit) = some (unit, crit) → cannotRetire unit s = false → atBoundary unit s = true → s.toldBySwap unit = false →
    exec (.unitRetirement dt unit) s₀ = .next (retireAnswers unit (latchRetired unit crit false (retireAction unit crit s)))) ∧
  (∀ (dt : Nat) (unit : Nat) (s₀ : State) (crit : Nat), let s := advance dt s₀; unitExists unit = true → s.stat.doomed.find? (·.1 == unit) = some (unit, crit) → cannotRetire unit s = false → atBoundary unit s = true → s.toldBySwap unit = true →
    exec (.unitRetirement dt unit) s₀ = .next (retireAnswers unit (latchUnit unit crit false (retireAction unit crit s)))) ∧
  (∀ (dt : Nat) (unit : Nat) (s₀ : State) (crit : Nat), let s := advance dt s₀; unitExists unit = true → s.stat.doomed.find? (·.1 == unit) = some (unit, crit) → cannotRetire unit s = true →
    exec (.unitRetirement dt unit) s₀ = .next (retireAnswers unit (deviceFault unit crit s))) ∧
  (∀ (dt : Nat) (page : Nat) (s₀ : State) (m : Migration), let s := advance dt s₀;
    let t := s.onStore fun t => { t with
      migrations := t.migrations.filter fun x => !(x.page == page), retired := t.retired ++ [page]
      remap := if m.owner.remapped then t.remapPage page (288 + s.freeVal Config.sitePage % max 1 t.poolPages) else t.remap }
    let t := if m.owner.remapped then t.useFree else t
    let w := post evUnitRetired (unitMem (lineChannel m.line)) (unitMem (lineChannel m.line)) m.criterion
      (post evPageRetired unitCtl page 0 (notePage (t.onNor fun n => { n with queue := n.queue ++ [.page page] })))
    s.store.migrations.find? (·.page == page) = some m →
    exec (.pageMigrationDone dt page) s₀ = .next (newSpare w)) ∧
  (∀ (dt : Nat) (ring tag : Nat) (glitches : Nat) (mismatch : Option Nat) (lost : List Nat) (s₀ : State) (e : InFlight) (out : List Desc × List Byte), let s := advance dt s₀; s.flying (ring, tag) = some e → e.started = true → e.out = some out →
    exec (.jobTransferDone dt ring tag glitches mismatch lost) s₀ = .next (endRead e.cmd.id out s)) ∧
  (∀ (dt : Nat) (ring tag : Nat) (glitches : Nat) (mismatch : Option Nat) (lost : List Nat) (s₀ : State) (e : InFlight), let s := advance dt s₀; s.flying (ring, tag) = some e → e.started = true → e.out = none → s.thm.level < 2 → e.opcode = 0x0308 →
    exec (.jobTransferDone dt ring tag glitches mismatch lost) s₀ = .next (readDone e.cmd lost s)) ∧
  (∀ (dt : Nat) (ring tag : Nat) (glitches : Nat) (mismatch : Option Nat) (lost : List Nat) (s₀ : State) (e : InFlight) (j : Job) (l : LoadKind), let s := advance dt s₀; s.flying (ring, tag) = some e → e.started = true → e.out = none → s.thm.level < 2 → e.opcode ≠ 0x0308 → s.store.jobs.find? (fun j => j.load.any (·.cmd == (ring, tag))) = some j → j.load = some l → l.encode = false →
    exec (.jobTransferDone dt ring tag glitches mismatch lost) s₀ = .next (loadDone e.cmd j.id l s)) ∧
  (∀ (dt : Nat) (ring tag : Nat) (glitches : Nat) (mismatch : Option Nat) (lost : List Nat) (s₀ : State) (e : InFlight) (j : Job) (l : LoadKind), let s := advance dt s₀; s.flying (ring, tag) = some e → e.started = true → e.out = none → s.thm.level < 2 → e.opcode ≠ 0x0308 → s.store.jobs.find? (fun j => j.load.any (·.cmd == (ring, tag))) = some j → j.load = some l → l.encode = true →
    exec (.jobTransferDone dt ring tag glitches mismatch lost) s₀ = .next (encodeDone e.cmd j.id l glitches mismatch s)) ∧
  (∀ (dt : Nat) (job : Nat) (s₀ : State) (j : Job), let s := advance dt s₀; s.job job = some j → j.st = .deleting →
    exec (.jobDeleteDone dt job) s₀ = .next (finishAll j.delete.toList .good (dropJob job s))) ∧
  (∀ (dt : Nat) (s₀ : State) (id : CmdId) (r : List CmdId) (t : Int), let s := advance dt s₀; s.clr.saveHeld = id :: r → s.clr.savedAt = some t → passed s t 60 1 = true →
    exec (.profileSaveHoldExpiry dt) s₀ = .next (beginSave id (s.onClr fun k => { k with saveHeld := r }))) ∧
  (∀ (dt : Nat) (pair : Nat) (s₀ : State), let s := advance dt s₀; pair < 2 → s.held = false → s.thm.power ≠ .p3 → s.thm.power ≠ .p4 →
    exec (.lockstepMismatch dt pair) s₀ = .next (deviceFault (0x0300 + pair) 0x04 s)) ∧
  (∀ (dt : Nat) (domain : Nat) (s₀ : State), let s := advance dt s₀; pllDomains.contains domain = true → bit s.board.pllLost domain = false → domain ≠ 9 →
    exec (.pllLockLost dt domain) s₀ = .next ((lockLoss (unitPll domain) s).onBoard fun b => { b with pllLost := b.pllLost + 2 ^ domain })) ∧
  (∀ (dt : Nat) (domain : Nat) (s₀ : State), let s := advance dt s₀; pllDomains.contains domain = true → bit s.board.pllLost domain = true → domain ≠ 9 →
    exec (.pllRelocked dt domain) s₀ = .next (s.onBoard fun b => { b with pllLost := b.pllLost - 2 ^ domain }))

/-- A packet in sequence advances the receiver and is acknowledged; an acknowledgement releases what it covers; a negative one, or the timeout, resends; credits and alignment blocks are taken and sent; queued lines and stamps go out. (R288, R289, R295, R296, R297, R298, R299, R311) -/
def Obligations.LinkRowsComplete : Prop :=
  (∀ (dt : Nat) (lane : Nat) (start bytes : List Byte) (crc : Nat) (whole : Bool) (s₀ : State) (k : Cls), let s := advance dt s₀; let l := linkOf lane; lane < 22 → start.length = 8 → crc < 2 ^ 32 → classOfStart (rd start 0 1) = some k → (s.course (linkOf lane)).open = true → listens lane s = true → whole = true → bytes.length = 4 * rd start 3 2 → crc = crc32c (start ++ bytes) → (s.course l).run.version = 2 → rd start 1 2 = ((s.course l).at k).rxSeq → (s.course l).injects = [] →
    exec (.packetReceive dt lane start bytes crc whole) s₀ = .next (sendLink l (k.num + 1) (rd start 1 2) (s.onCourse l fun c => { (c.onCls k fun x => { x with
        rxSeq := (rd start 1 2 + 1) % 65536, nakSince := none, freed := x.freed + flitsOf bytes.length, ackHeld := false }) with injects := [] }))) ∧
  (∀ (dt : Nat) (lane : Nat) (start bytes : List Byte) (crc : Nat) (whole : Bool) (s₀ : State) (k : Cls), let s := advance dt s₀;
    let l := linkOf lane
    let t := s.onCourse l fun c => { c with rxStomped := c.rxStomped + 1 }
    lane < 22 → start.length = 8 → crc < 2 ^ 32 → classOfStart (rd start 0 1) = some k → (s.course (linkOf lane)).open = true → listens lane s = true → whole = true → bytes.length = 4 * rd start 3 2 → crc = 0xFFFFFFFF - crc32c (start ++ bytes) → (t.course l).run.version = 2 → rd start 1 2 = ((t.course l).at k).rxSeq → (t.course l).injects = [] →
    exec (.packetReceive dt lane start bytes crc whole) s₀ = .next (sendLink l (k.num + 1) (rd start 1 2) (t.onCourse l fun c => { (c.onCls k fun x => { x with
        rxSeq := (rd start 1 2 + 1) % 65536, nakSince := none, freed := x.freed + flitsOf bytes.length, ackHeld := false }) with injects := [] }))) ∧
  (∀ (dt : Nat) (lane : Nat) (start bytes : List Byte) (crc : Nat) (whole : Bool) (s₀ : State) (k : Cls), let s := advance dt s₀; let l := linkOf lane; lane < 22 → start.length = 8 → crc < 2 ^ 32 → classOfStart (rd start 0 1) = some k → (s.course (linkOf lane)).open = true → listens lane s = true → whole = true → bytes.length = 4 * rd start 3 2 → crc = crc32c (start ++ bytes) → (s.course l).run.version = 2 → rd start 1 2 ≠ ((s.course l).at k).rxSeq → ((s.course l).at k).nakSince = none →
    exec (.packetReceive dt lane start bytes crc whole) s₀ = .next (sendLink l (0x11 + k.num) ((s.course l).at k).rxSeq (s.onCourse l fun c => c.onCls k fun x => { x with nakSince := some s.tb1 }))) ∧
  (∀ (dt : Nat) (lane : Nat) (start bytes : List Byte) (crc : Nat) (whole : Bool) (s₀ : State) (k : Cls), let s := advance dt s₀; let l := linkOf lane; let t := upset (unitLane lane) s; lane < 22 → start.length = 8 → crc < 2 ^ 32 → classOfStart (rd start 0 1) = some k → (s.course (linkOf lane)).open = true → listens lane s = true → whole = true → bytes.length = 4 * rd start 3 2 → crc ≠ crc32c (start ++ bytes) → crc ≠ 0xFFFFFFFF - crc32c (start ++ bytes) → (t.course l).run.version = 2 → ((t.course l).at k).nakSince = none →
    exec (.packetReceive dt lane start bytes crc whole) s₀ = .next (sendLink l (0x11 + k.num) ((t.course l).at k).rxSeq (t.onCourse l fun c => c.onCls k fun x => { x with nakSince := some t.tb1 }))) ∧
  (∀ (dt : Nat) (lane : Nat) (start bytes : List Byte) (crc : Nat) (whole : Bool) (s₀ : State) (k : Cls), let s := advance dt s₀; let l := linkOf lane; lane < 22 → start.length = 8 → crc < 2 ^ 32 → classOfStart (rd start 0 1) = some k → (s.course (linkOf lane)).open = true → listens lane s = true → whole = true → bytes.length = 4 * rd start 3 2 → crc = crc32c (start ++ bytes) → (s.course l).run.version = 1 →
    exec (.packetReceive dt lane start bytes crc whole) s₀ = .next (s.onCourse l fun c => { (c.onCls k fun x => { x with rxSeq := (rd start 1 2 + 1) % 65536, nakSince := none, freed := x.freed + flitsOf bytes.length }) with rxGaps := c.rxGaps + b2n (rd start 1 2 != (c.at k).rxSeq) })) ∧
  (∀ (dt : Nat) (lane : Nat) (start bytes : List Byte) (crc : Nat) (whole : Bool) (s₀ : State), let s := advance dt s₀; lane < 22 → start.length = 8 → crc < 2 ^ 32 → classOfStart (rd start 0 1) = none →
    exec (.packetReceive dt lane start bytes crc whole) s₀ = .next (headerError lane s)) ∧
  (∀ (dt : Nat) (lane : Nat) (cls : Cls) (seq crc : Nat) (s₀ : State), let s := advance dt s₀; let l := linkOf lane; lane < 22 → seq < 65536 → crc < 256 → listens lane s = true → rd (linkBlock (0x01 + cls.num) seq) 7 1 = crc → ((s.course l).at cls).unacked.any (fun p => p.seq == seq) = true →
    exec (.ackReceive dt lane cls seq crc) s₀ = .next (drain l (s.onCourse l fun c => c.onCls cls fun x => { x with unacked := (x.unacked.dropWhile fun p => p.seq != seq).drop 1, resend := none }))) ∧
  (∀ (dt : Nat) (lane : Nat) (cls : Cls) (seq crc : Nat) (s₀ : State), let s := advance dt s₀; lane < 22 → seq < 65536 → crc < 256 → listens lane s = true → rd (linkBlock (0x01 + cls.num) seq) 7 1 ≠ crc →
    exec (.ackReceive dt lane cls seq crc) s₀ = .next (badLinkBlock lane s)) ∧
  (∀ (dt : Nat) (lane : Nat) (cls : Cls) (seq crc : Nat) (s₀ : State), let s := advance dt s₀; let l := linkOf lane; lane < 22 → seq < 65536 → crc < 256 → listens lane s = true → rd (linkBlock (0x11 + cls.num) seq) 7 1 = crc → (s.course l).run.version ≠ 1 → ((s.course l).at cls).resend = none →
    exec (.nakReceive dt lane cls seq crc) s₀ = .next (resendFrom l cls seq (if l < 10 then bump (ctr 9 l 1) 1 s else s))) ∧
  (∀ (dt : Nat) (lane : Nat) (cls : Cls) (seq crc : Nat) (s₀ : State), let s := advance dt s₀; lane < 22 → seq < 65536 → crc < 256 → listens lane s = true → rd (linkBlock (0x11 + cls.num) seq) 7 1 ≠ crc →
    exec (.nakReceive dt lane cls seq crc) s₀ = .next (badLinkBlock lane s)) ∧
  (∀ (dt : Nat) (lane : Nat) (cls : Cls) (limit crc : Nat) (s₀ : State), let s := advance dt s₀; let l := linkOf lane; lane < 22 → limit < 2 ^ 32 → crc < 256 → listens lane s = true → rd (linkBlock (0x21 + cls.num) limit) 7 1 = crc → (s.course l).open = true → 0 < signed 32 (limit + 2 ^ 32 - ((s.course l).at cls).limit) →
    exec (.creditReceive dt lane cls limit crc) s₀ = .next (drain l (s.onCourse l fun c => c.onCls cls fun x => { x with limit := limit % 2 ^ 32 }))) ∧
  (∀ (dt : Nat) (lane : Nat) (cls : Cls) (limit crc : Nat) (s₀ : State), let s := advance dt s₀; lane < 22 → limit < 2 ^ 32 → crc < 256 → listens lane s = true → rd (linkBlock (0x21 + cls.num) limit) 7 1 ≠ crc →
    exec (.creditReceive dt lane cls limit crc) s₀ = .next (badLinkBlock lane s)) ∧
  (∀ (dt : Nat) (lane hdr : Nat) (bytes : List Byte) (bip : Nat) (s₀ : State), let s := advance dt s₀; let t := deskew lane (s.onLane lane fun q => { q with rxMseq := some (rd bytes 3 1), alignAt := s.tb1 }); lane < 22 → hdr < 4 → bytes.length = 8 → (s.lane lane).prbs = none → hdr = 2 → rd bytes 0 1 = 0x2D → crc8 (bytes.take 7) = rd bytes 7 1 → rd bytes 4 1 = bip ∨ (s.lane lane).rxMseq = none →
    exec (.alignReceive dt lane hdr bytes bip) s₀ = .next (checkLimit (trainLook (linkOf lane) (t.onCourse (linkOf lane) fun c => followMode lane (bit (rd bytes 2 1) 0) { c with rxOk := rd bytes 2 1 / 2 % 4 })))) ∧
  (∀ (dt : Nat) (lane hdr : Nat) (bytes : List Byte) (bip : Nat) (s₀ : State), let s := advance dt s₀; lane < 22 → hdr < 4 → bytes.length = 8 → (s.lane lane).prbs = none → hdr = 0 ∨ hdr = 3 ∨ (hdr = 2 ∧ blockTypes.contains (rd bytes 0 1) = false) →
    exec (.alignReceive dt lane hdr bytes bip) s₀ = .next (headerError lane s)) ∧
  (∀ (dt : Nat) (lane hdr : Nat) (bytes : List Byte) (bip : Nat) (s₀ : State), let s := advance dt s₀; lane < 22 → hdr < 4 → bytes.length = 8 → (s.lane lane).prbs = none → hdr = 2 → rd bytes 0 1 = 0x2D → crc8 (bytes.take 7) ≠ rd bytes 7 1 →
    exec (.alignReceive dt lane hdr bytes bip) s₀ = .next (badLinkBlock lane s)) ∧
  (∀ (dt : Nat) (lane : Nat) (s₀ : State), let s := advance dt s₀;
    let l := linkOf lane
    let v := pump l s
    let m := (v.lane lane).mseq
    let t := if m = (v.lane (if lane % 2 = 0 then lane + 1 else lane - 1)).mseq then startInterval l v else v
    let c := t.course l
    let b := toLe 1 0x2D ++ toLe 1 (lane % 2)
      ++ toLe 1 (b2n (!c.duo && c.carry == lane % 2) + 2 * b2n (rxOkLane (2 * l) t) + 4 * b2n (rxOkLane (2 * l + 1) t))
      ++ toLe 1 m ++ toLe 1 (laneBip lane v) ++ toLe 1 l ++ toLe 1 0
    let w := sendBlock lane { hdr := 2, bytes := b ++ toLe 1 (crc8 b) } t
    lane < 22 → (s.course (linkOf lane)).sending = true → (s.lane lane).prbs = none → s.thm.power ≠ .p3 → alignDue lane s = true →
    exec (.alignSend dt lane) s₀ = .next (checkLimit (w.onLane lane fun q => { q with mseq := (m + 1) % 256, alignSent := some w.tb1, parity := 0, blocks := 0 }))) ∧
  (∀ (dt : Nat) (link : Nat) (cls : Cls) (s₀ : State) (p : SentPacket) (ps : List SentPacket),   let s := pump link (advance dt s₀); link ≤ 10 → ((s.course link).at cls).unacked = p :: ps → (s.course link).open = true → ((s.course link).hot ++ (s.course link).out).all (fun o => !(o.fresh cls && o.seq == p.seq)) = true → passed s p.time (s.course link).run.ackTimeout 1000000 = true →
    exec (.ackTimeout dt link cls) s₀ = .next (resendFrom link cls p.seq s)) ∧
  (∀ (dt : Nat) (link : Nat) (cls : Cls) (s₀ : State) (t : Int), let s := advance dt s₀; link ≤ 10 → ((s.course link).at cls).nakSince = some t → (s.course link).open = true → passed s t 20 1000000 = true →
    exec (.nakRepeat dt link cls) s₀ = .next (sendLink link (0x11 + cls.num) ((s.course link).at cls).rxSeq (s.onCourse link fun c => c.onCls cls fun x => { x with nakSince := some s.tb1 }))) ∧
  (∀ (dt : Nat) (link : Nat) (cls : Cls) (s₀ : State), let s := advance dt s₀; let limit := (rxCap cls + ((s.course link).at cls).freed) % 2 ^ 32; link ≤ 10 → (s.course link).open = true → link = 10 ∨ cls = .ctrl → 64 ≤ (limit + 2 ^ 32 - ((s.course link).at cls).limitSent) % 2 ^ 32 ∨ passed s ((s.course link).at cls).creditSince 10 1000000 = true →
    exec (.creditSend dt link cls) s₀ = .next (sendLink link (0x21 + cls.num) limit (s.onCourse link fun c => c.onCls cls fun x => { x with limitSent := limit, creditSince := s.tb1 }))) ∧
  (∀ (dt : Nat) (course clocks : Nat) (s₀ : State) (p : QueuePacket) (ps : List QueuePacket),   let s := pump course (advance dt s₀); course < 10 → s.carries course = true → (s.course course).queue = p :: ps → p.popped = 0 → p.visible s.tb1 = true → p.discard = false → (s.course course).maySend .data p.bytes.length = true →
    exec (.linePacketSend dt course clocks) s₀ = .next (popOn course clocks p (sendLine course p s))) ∧
  (∀ (dt : Nat) (course clocks : Nat) (s₀ : State) (p : QueuePacket) (ps : List QueuePacket),   let s := pump course (advance dt s₀); course < 10 → s.carries course = true → (s.course course).queue = p :: ps → p.popped = 0 → p.visible s.tb1 = true → p.discard = false → (s.course course).maySend .data p.bytes.length = false → (s.course course).hasCredit .data p.bytes.length = false →
    exec (.linePacketSend dt course clocks) s₀ = .next (s.onCourse course fun c => { c with stallSince := some (c.stallSince.getD s.tb1) })) ∧
  (∀ (dt : Nat) (course clocks : Nat) (s₀ : State) (p : QueuePacket) (ps : List QueuePacket),   let s := pump course (advance dt s₀); course < 10 → (s.course course).queue = p :: ps → p.popped ≠ 0 ∨ (s.carries course = true ∧ p.visible s.tb1 = true ∧ p.discard = true) →
    exec (.linePacketSend dt course clocks) s₀ = .next (popOn course clocks p s)) ∧
  (∀ (dt : Nat) (course : Nat) (s₀ : State), let s := advance dt s₀;
    let t := settleWaited course s
    let es := takeStamps 32 (t.course course).prio
    let w := t.onCourse course fun c => { c with prio := c.prio.drop es.length, prioWait := false, stampSince := some t.tb1 }
    course < 10 → s.carries course = true → (s.course course).run.version = 2 → (s.course course).prio ≠ [] → (s.course course).stampSince = none → (s.course course).run.rate = 1 → (s.course course).maySend .prio (16 + 8 * (takeStamps 32 (s.course course).prio).length) = true →
    exec (.stampPacketSend dt course) s₀ = .next (bump (ctr 9 course 9) 1 (transmit course .prio 0 (stampBody w.tb3 es) false w)))

/-- Lock lost and gained, hunting, training, time synchronisation, hello, claims, ownership, status, management and silence: where its condition holds, each row answers the next state with its own effect on the course. The hunt's step is the model's reading of R473. (R287, R290, R303, R306, R308, R309, R317, R375, R407, R439, R443, R473) -/
def Obligations.CourseRowsComplete : Prop :=
  (∀ (dt : Nat) (lane : Nat) (s₀ : State), let s := advance dt s₀; let t := s.onLane lane fun q => { q with lock := false, lostSince := some s.tb1, rxMseq := none, deskewed := false, slip := 0, slipSince := s.tb1 }; lane < 24 → (s.lane lane).lock = true →
    exec (.blockLockLost dt lane) s₀ = .next (checkLimit (post evLaneLockLost (unitLane lane) lane 0 (if (t.lane lane).retired then t else lockLoss (unitLane lane) t)))) ∧
  (∀ (dt : Nat) (lane : Nat) (s₀ : State), let s := advance dt s₀; lane < 24 → (s.lane lane).lock = false →
    exec (.blockLockGained dt lane) s₀ = .next (checkLimit (trainLook (linkOf lane) (s.onLane lane fun q => { q with lock := true, lostSince := none, down := false })))) ∧
  (∀ (dt : Nat) (lane : Nat) (s₀ : State), let s := advance dt s₀; lane < 24 → (s.lane lane).lock = false → passed s (s.lane lane).slipSince 39 1000000 = true →
    exec (.huntSlip dt lane) s₀ = .next (s.onLane lane fun q => { q with slip := (q.slip + 1) % 66, slipSince := s.tb1 })) ∧
  (∀ (dt : Nat) (lane : Nat) (s₀ : State) (t : Int), let s := advance dt s₀; lane < 22 → (s.lane lane).lostSince = some t → (s.lane lane).lock = false → (s.lane lane).down = false → passed s t 10 1000 = true →
    exec (.laneDown dt lane) s₀ = .next (checkLimit (checkCourseDown (linkOf lane) (post evLaneDown (unitLane lane) lane 0 (s.onLane lane fun q => { q with down := true }))))) ∧
  (∀ (dt : Nat) (course : Nat) (s₀ : State), let s := advance dt s₀; course ≤ 10 → (s.course course).wanted = true → (s.course course).up = false → (s.course course).train = none → (s.course course).prbs = false → passed s (s.course course).tried 100 1000 = true → s.thm.power ≠ .p3 →
    exec (.courseRetrain dt course) s₀ = .next (startTrain course none false s)) ∧
  (∀ (dt : Nat) (course : Nat) (s₀ : State), let s := advance dt s₀; course < 10 → (s.course course).run.version = 2 → (s.course course).up = true → passed s (s.course course).syncSince (s.course course).cfg.timeInterval 1000000 = true →
    exec (.timeSyncSend dt course) s₀ = .next (sendTimeSync course s)) ∧
  (∀ (dt : Nat) (course : Nat) (s₀ : State), let s := advance dt s₀; course = 10 → s.mirrors = true → (s.course course).up = true → passed s (s.course course).syncSince (s.course course).cfg.timeInterval 1000000 = true →
    exec (.timeSyncSend dt course) s₀ = .next (pairTimeSync s)) ∧
  (∀ (dt : Nat) (course syncId turn : Nat) (offset : Int) (s₀ : State) (t : Int), let s := advance dt s₀; course < 10 → (s.course course).t1 = some (t, syncId) → (s.course course).open = true →
    exec (.timeEcho dt course syncId turn offset) s₀ = .next (takeEcho course syncId turn s)) ∧
  (∀ (dt : Nat) (course : Nat) (bytes : List Byte) (s₀ : State), let s := advance dt s₀; course < 10 → (s.course course).open = true →
    exec (.bridgeHello dt course bytes) s₀ = .next (takeHello course bytes s)) ∧
  (∀ (dt : Nat) (course : Nat) (bytes : List Byte) (s₀ : State) (w : ClaimWait), let s := advance dt s₀; course < 10 → (s.course course).claim = some w → rd bytes 0 4 = w.epoch → rd bytes 4 1 = 0 →
    exec (.claimAck dt course bytes) s₀ = .next (takeCourse course w (rowEntries (rd bytes 6 2) (bytes.drop 8)) s)) ∧
  (∀ (dt : Nat) (course : Nat) (bytes : List Byte) (s₀ : State) (w : ClaimWait), let s := advance dt s₀; course < 10 → (s.course course).claim = some w → rd bytes 0 4 = w.epoch → rd bytes 4 1 = 1 → (s.course course).train = none → w.again = false → w.planned = false →
    exec (.claimAck dt course bytes) s₀ = .next (sendClaim course (w.epoch + 16) none true s)) ∧
  (∀ (dt : Nat) (course : Nat) (s₀ : State) (w : ClaimWait), let s := advance dt s₀; course < 10 → (s.course course).claim = some w → (s.course course).train = none → passed s w.since 200 1000000 = true →
    exec (.claimAckTimeout dt course) s₀ = .next (post evCourseDown (unitCourse course) course 0 (s.onCourse course fun c => { c with claim := none, up := false, wanted := true, owned := false, tried := s.tb1 }))) ∧
  (∀ (dt : Nat) (course epoch owner : Nat) (s₀ : State), let s := advance dt s₀; course < 10 → (s.course course).open = true → owner ≠ Config.uid →
    exec (.ownerChanged dt course epoch owner) s₀ = .next (post evCourseClaimedAway (unitCourse course) course epoch (s.onCourse course fun c => { c with owner, epoch, owned := false, claim := none, prio := [] }))) ∧
  (∀ (dt : Nat) (course : Nat) (bytes : List Byte) (s₀ : State), let s := advance dt s₀; course < 10 → (s.course course).open = true →
    exec (.bridgeStatus dt course bytes) s₀ = .next (takeStatus course bytes s)) ∧
  (∀ (dt : Nat) (course : Nat) (bytes : List Byte) (s₀ : State) (w : MgmtWait), let s := advance dt s₀; course < 10 → (s.course course).mgmt.find? (fun w => w.mid == rd bytes 2 2) = some w → bit (rd bytes 0 1) 7 = true → w.kind ≠ 0 →
    exec (.mgmtReply dt course bytes) s₀ = .next (partRead course w bytes (s.onCourse course fun c => { c with mgmt := c.mgmt.filter (· != w) }))) ∧
  (∀ (dt : Nat) (course : Nat) (s₀ : State) (w : MgmtWait) (ws : List MgmtWait), let s := advance dt s₀; course < 10 → (s.course course).mgmt = w :: ws → passed s w.since 1 1000 = true → w.kind = 0 →
    exec (.mgmtReplyTimeout dt course) s₀ = .next (finish w.cmd (Reply.err .timeout 0x0207) (s.onCourse course fun c => { c with mgmt := c.mgmt.filter (· != w) }))) ∧
  (∀ (dt : Nat) (course : Nat) (s₀ : State), let s := advance dt s₀; course < 10 → (s.course course).up = true → (s.course course).owned = true → (s.course course).silent = 0 → passed s (s.course course).heardAt 5 1000 = true →
    exec (.headTempStale dt course) s₀ = .next (post evHeadTempStale (unitCourse course) course 1 (((s.bar course).placed.foldl (fun s h => match ((s.bar course).place h).ctx with
      | some x => s.onCtx x fun x => { x with stale := true }
      | none => s) s).onCourse course fun c => { c with silent := 1 }))) ∧
  (∀ (dt : Nat) (bar : Nat) (s₀ : State), let s := advance dt s₀; bar < 10 → (s.course bar).up = true → (s.course bar).owned = true → (s.course bar).silent = 1 → s.inPrint bar = true → passed s (s.course bar).heardAt 100 1000 = true →
    exec (.barSilenceHalt dt bar) s₀ = .next (post evHeadTempStale (unitCourse bar) bar 2 ((((s.bar bar).placed.filterMap fun h => ((s.bar bar).place h).ctx).foldl (fun s c => haltHead c s) s).onCourse bar
      fun c => { c with silent := 2 }))) ∧
  (∀ (dt : Nat) (course : Nat) (s₀ : State) (t : Train), let s := advance dt s₀; course ≤ 10 → (s.course course).train = some t → passed s t.stepAt (trainBound (s.course course) t.step) 1000000000 = true → t.step ≠ 2 →
    exec (.linkTrainTimeout dt course) s₀ = .next (failTrain course (Reply.errUnit .timeout 0x0195 (unitLane ((([2 * course, 2 * course + 1].filter fun n => laneUsable n s && !rxOkLane n s).head?).getD (2 * course)))) s)) ∧
  (∀ (dt : Nat) (lane : Nat) (bits : List Bool) (s₀ : State),   let s := sendPrbs lane bits.length (advance dt s₀); lane < 22 →
    exec (.prbsCheckerInput dt lane bits) s₀ = .next (s.onLane lane fun x => { x with prbs := x.prbs.map fun p => if p.chk then bits.foldl prbsBit p else p }))

/-- Frame starts, line packets, frame ends, exposures, the pipeline's turn, the calibration's hold, lane lock and I2C answers: where its condition holds, each row answers the next state with its own effect on the port. (R322, R323, R324, R326, R327, R340, R357) -/
def Obligations.CameraRowsComplete : Prop :=
  (∀ (dt : Nat) (port vc : Nat) (ecc : EccResult) (s₀ : State) (t : State), let s := advance dt s₀; port < 4 → s.portLive port = true → takeHeader port vc ecc s = (t, true) →
    exec (.csiFrameStart dt port vc ecc) s₀ = .next (frameStart port vc t)) ∧
  (∀ (dt : Nat) (port vc : Nat) (ecc : EccResult) (s₀ : State) (t : State), let s := advance dt s₀; port < 4 → s.portLive port = true → takeHeader port vc ecc s = (t, false) →
    exec (.csiFrameStart dt port vc ecc) s₀ = .next (t)) ∧
  (∀ (dt : Nat) (port vc dataType wordCount : Nat) (px : List Nat) (ecc : EccResult) (crcOk : Bool) (s₀ : State) (t : State) (f : CamFrame), let s := advance dt s₀; port < 4 → s.portLive port = true → takeHeader port vc ecc s = (t, true) → dataType ≠ 0x12 → dataType = (t.port port).conf.dataType → (t.port port).conf.expects vc = true → (t.port port).openOn vc = some f →
    exec (.csiLinePacket dt port vc dataType wordCount px ecc crcOk) s₀ = .next (takeLine port vc wordCount px crcOk f t)) ∧
  (∀ (dt : Nat) (port vc dataType wordCount : Nat) (px : List Nat) (ecc : EccResult) (crcOk : Bool) (s₀ : State) (t : State), let s := advance dt s₀; port < 4 → s.portLive port = true → takeHeader port vc ecc s = (t, false) →
    exec (.csiLinePacket dt port vc dataType wordCount px ecc crcOk) s₀ = .next (t)) ∧
  (∀ (dt : Nat) (port vc : Nat) (ecc : EccResult) (s₀ : State) (t : State) (f : CamFrame), let s := advance dt s₀;
    let c := (t.port port).conf
    let short := if f.got.getD (c.slot vc) 0 < c.height then 1 else 0
    port < 4 → s.portLive port = true → takeHeader port vc ecc s = (t, true) → (t.port port).openOn vc = some f →
    exec (.csiFrameEnd dt port vc ecc) s₀ = .next (tryClose port f.seq ((markFrame port f.seq short t).onFrame port f.seq fun g => { g with ended := g.ended ||| 2 ^ c.slot vc }))) ∧
  (∀ (dt : Nat) (port vc : Nat) (ecc : EccResult) (s₀ : State) (t : State), let s := advance dt s₀; port < 4 → s.portLive port = true → takeHeader port vc ecc s = (t, false) →
    exec (.csiFrameEnd dt port vc ecc) s₀ = .next (t)) ∧
  (∀ (dt : Nat) (s₀ : State) (k y : Nat) (f : CamFrame), let s := advance dt s₀; s.held = false → bit s.board.pllLost 1 = false → s.thm.power = .p0 ∨ s.thm.power = .p1 → ((List.range 4).map fun i => (s.cam.turn + i) % 4).findSome? (fun k => (s.port k).ready.map fun x => (k, x)) = some (k, f, y) → (s.port k).conf.wide = false →
    exec (.pipelineLineTurn dt) s₀ = .next (tryClose k f.seq ((s.onFrame k f.seq fun x => { x with
      buffered := x.buffered.drop 1, taken := x.taken ++ (f.buffered.filter fun l => some l == f.buffered.head?), merged := y + 1 }).onCam
      fun c => { c with turn := (k + 1) % 4 }))) ∧
  (∀ (dt : Nat) (port vc : Nat) (s₀ : State) (f : CamFrame), let s := advance dt s₀; port < 4 → (s.port port).frames.find? (fun f => (f.exposure.map (Exposure.due s vc)).getD false) = some f →
    exec (.exposureMid dt port vc) s₀ = .next (s.onFrame port f.seq fun f => { f with exposure := f.exposure.map (Exposure.atMid s) })) ∧
  (∀ (dt : Nat) (port vc : Nat) (s₀ : State) (e : Exposure), let s := advance dt s₀; port < 4 → (s.port port).frames.find? (fun f => (f.exposure.map (Exposure.due s vc)).getD false) = none → (s.port port).records.find? (Exposure.due s vc) = some e →
    exec (.exposureMid dt port vc) s₀ = .next (s.onPort port fun p => { p with records := p.records.map fun x => if x = e then e.atMid s else x })) ∧
  (∀ (dt : Nat) (port vc : Nat) (s₀ : State) (e : Exposure), let s := advance dt s₀; port < 4 → (s.port port).records.find? (fun e => e.vc == vc) = some e → e.mid + msT (s.port port).conf.timeoutMs ≤ s.tb3 →
    exec (.exposureRecordTimeout dt port vc) s₀ = .next (post evCamExposureMissed (unitCam port) port vc (bump (ctr 10 port 7) 1 (s.onPort port fun p => { p with records := p.records.erase e })))) ∧
  (∀ (dt : Nat) (port : Nat) (s₀ : State) (c : CamCal), let s := advance dt s₀; port < 4 → (s.port port).cal = some c → passed s c.since 2 1 = true → c.taken.length < c.frames →
    exec (.camCalibrateHoldEnd dt port) s₀ = .next (finish c.cmd (Reply.errUnit .timeout 0x01B0 (unitCam port)) (s.onPort port fun p => { p with cal := none }))) ∧
  (∀ (dt : Nat) (port : Nat) (s₀ : State) (c : CamCal), let s := advance dt s₀; port < 4 → (s.port port).cal = some c → passed s c.since 2 1 = true → c.frames ≤ c.taken.length →
    exec (.camCalibrateHoldEnd dt port) s₀ = .next (s.onPort port fun p => { p with cal := some { c with released := true } })) ∧
  (∀ (dt : Nat) (port lane : Nat) (s₀ : State), let s := advance dt s₀; port < 4 → lane < 4 →
    exec (.hsSyncLost dt port lane) s₀ = .next (setSync port lane false s)) ∧
  (∀ (dt : Nat) (port lane : Nat) (s₀ : State), let s := advance dt s₀; port < 4 → lane < 4 →
    exec (.hsSyncRegained dt port lane) s₀ = .next (setSync port lane true s)) ∧
  (∀ (dt : Nat) (bus : Nat) (acked : Bool) (bytes : List Byte) (s₀ : State), let s := advance dt s₀; bus < 6 → s.awake = true →
    exec (.i2cTransferDone dt bus acked bytes) s₀ = .next (i2cDone bus acked bytes s))

/-- A test not begun begins, a begun one commits its next shot; a pulse of its gate is assigned; when every shot is sent and its windows are over the test ends. (R359) -/
def Obligations.GateRowsComplete : Prop :=
  (∀ (dt : Nat) (bar : Nat) (s₀ : State) (t : GateTest), let s := advance dt s₀; bar < 10 → s.clr.tests.find? (·.bar == bar) = some t → t.t0 = none →
    exec (.gateTestShot dt bar) s₀ = .next (beginTest t s)) ∧
  (∀ (dt : Nat) (bar : Nat) (s₀ : State) (t : GateTest) (t0 : Int), let s := advance dt s₀; bar < 10 → s.clr.tests.find? (·.bar == bar) = some t → t.t0 = some t0 →
    exec (.gateTestShot dt bar) s₀ = .next (commitShot t s)) ∧
  (∀ (dt : Nat) (gate : Nat) (s₀ : State), let s := advance dt s₀; gate < 10 →
    exec (.gatePulse dt gate) s₀ = .next (s.onTest gate fun t => if t.t0.isNone then t else Machine.gatePulse t s.tb3)) ∧
  (∀ (dt : Nat) (bar : Nat) (s₀ : State) (t : GateTest), let s := advance dt s₀; bar < 10 → s.clr.tests.find? (·.bar == bar) = some t → t.t0.isSome = true → t.sent = t.shots → ((t.shots * t.shotNs + t.windowNs + 1000000) * 2 ^ 32 : Nat) ≤ t.since s.tb3 →
    exec (.gateTestEnd dt bar) s₀ = .next (endTest t s))

/-- Samples, substitution, the shutdown's hold, the hardware trip, voltage scaling, PMBus polls, supply faults and waking: where its condition holds, each row answers the next state with its own effect. (R368, R369, R372, R373, R378, R381, R382, R456) -/
def Obligations.ThermalRowsComplete : Prop :=
  (∀ (dt : Nat) (raws : List (Option Int)) (s₀ : State), let s := advance dt s₀; raws.length = 16 → s.awake = true → passed s s.thm.sampled 1000 1000000 = true → s.thm.hottest < s.thm.levels.throttle - 96 → s.thm.hottest < s.thm.levels.shutdown - 96 →
    exec (.thermalSample dt raws) s₀ = .next (thermalSample raws s)) ∧
  (∀ (dt : Nat) (raws : List (Option Int)) (s₀ : State), let s := advance dt s₀; raws.length = 16 → s.awake = true → passed s s.thm.sampled 100 1000000 = true → s.thm.levels.throttle - 96 ≤ s.thm.hottest ∨ s.thm.levels.shutdown - 96 ≤ s.thm.hottest →
    exec (.thermalSample dt raws) s₀ = .next (thermalSample raws s)) ∧
  (∀ (dt : Nat) (s₀ : State) (t : Int), let s := advance dt s₀; s.thm.substSince = some t → s.awake = true → s.thm.floor = 0 → passed s t 60 1 = true →
    exec (.substitutionFloor dt) s₀ = .next (setLevel (min 2 (s.thm.level + 1)) (s.onThm fun t => { t with floor := min 2 (s.thm.level + 1) }))) ∧
  (∀ (dt : Nat) (s₀ : State) (t : Int), let s := advance dt s₀; s.thm.coolSince = some t → s.awake = true → s.thm.hold = true → passed s t 10 1 = true →
    exec (.shutdownHoldEnd dt) s₀ = .next (endHold s)) ∧
  (∀ (dt : Nat) (temps : List Int) (unserviced : Bool) (s₀ : State), let s := advance dt s₀; temps.length = 16 → s.thm.power ≠ .p4 → s.thm.tripped = false → 1920 ≤ (temps.max?).getD 0 →
    exec (.hardwareTrip dt temps unserviced) s₀ = .next (hardwareTrip s)) ∧
  (∀ (dt : Nat) (target : Nat) (reached : Bool) (s₀ : State) (i : Nat), let s := advance dt s₀; s.awake = true → s.hif.ready = true → s.thm.avsOff = false → passed s s.thm.avsAt 1 1000 = true → s.thm.rails.findIdx? (fun r => r.any (·.rail == 0)) = some i → reached = false →
    exec (.avsAdjust dt target reached) s₀ = .next (railLost i (pmbusUpset (pmbusUpset (s.onThm fun t => { t with avsAt := s.tb1 }))))) ∧
  (∀ (dt : Nat) (target : Nat) (reached : Bool) (s₀ : State) (i : Nat) (r : Rail), let s := advance dt s₀;
    let v := min 8000 (max 7200 target)
    let new := if s.thm.vcore < v then min v (s.thm.vcore + 50) else max v (s.thm.vcore - 50)
    let t := (s.onThm fun t => { t with avsAt := s.tb1 }).onRail i fun r => { r with unreachable := false }
    s.awake = true → s.hif.ready = true → s.thm.avsOff = false → passed s s.thm.avsAt 1 1000 = true → s.thm.rails.findIdx? (fun r => r.any (·.rail == 0)) = some i → reached = true → t.rail i = some r → new ≠ s.thm.vcore →
    exec (.avsAdjust dt target reached) s₀ = .next (pmbusWrite r (toLe 1 0x21 ++ toLe 2 (new / 10)) (t.onThm fun t => { t with vcore := new }))) ∧
  (∀ (dt : Nat) (index : Nat) (answer : Option RailAnswer) (s₀ : State) (r : Rail) (a : RailAnswer), let s := advance dt s₀; index < 16 → s.rail index = some r → s.awake = true → s.hif.ready = true → r.polled = none → answer = some a →
    exec (.pmbusPoll dt index answer) s₀ = .next (railAnswer index a (s.onRail index fun r => { r with polled := some s.tb1 }))) ∧
  (∀ (dt : Nat) (index : Nat) (answer : Option RailAnswer) (s₀ : State) (r : Rail), let s := advance dt s₀; index < 16 → s.rail index = some r → s.awake = true → s.hif.ready = true → r.polled = none → answer = none →
    exec (.pmbusPoll dt index answer) s₀ = .next (railLost index (pmbusUpset (pmbusUpset (s.onRail index fun r => { r with polled := some s.tb1 }))))) ∧
  (∀ (dt : Nat) (s₀ : State), let s := advance dt s₀; s.thm.power ≠ .p4 →
    exec (.powerSupervisorFault dt) s₀ = .next ((deviceReset (.supply :: s.board.holds.filter (· != .supply)) 1 s).onThm fun t => { t with tripped := s.thm.tripped })) ∧
  (∀ (dt : Nat) (porst : Bool) (s₀ : State), let s := advance dt s₀; s.board.holds.contains .supply = true →
    exec (.powerSupervisorClear dt porst) s₀ = .next (s.onBoard fun b => { b with holds := if porst then b.holds.filter fun h => h != .supply && h != .porst else .porst :: b.holds.filter fun h => h != .supply && h != .porst })) ∧
  (∀ (dt : Nat) (gpio : Option Nat) (s₀ : State), let s := advance dt s₀; gpio = none → s.thm.power = .p3 → s.hif.pcieUp = true →
    exec (.wake dt gpio) s₀ = .next (wakeUp s)) ∧
  (∀ (dt : Nat) (gpio : Option Nat) (s₀ : State) (n : Nat), let s := advance dt s₀; gpio = some n → n < 16 → s.thm.power = .p3 → bit s.thm.wakeMask n = true →
    exec (.wake dt gpio) s₀ = .next (wakeUp (s.onBoard fun b => { b with gpioIn := b.gpioIn ^^^ 2 ^ n })))

/-- The reset inputs, the watchdog, PERST#, the trial's timeout, the boot's last step, the idle record and the TAP: where its condition holds, each row answers the next state with its own effect. What the TAP's codes mean is the implementation's (the model's Config.tapMeaning). (R49, R99, R106, R423, R430, R432, R461) -/
def Obligations.ResetRowsComplete : Prop :=
  (∀ (dt : Nat) (s₀ : State), let s := advance dt s₀;
    exec (.porstNAssert dt) s₀ = .next (deviceReset (.porst :: s.board.holds.filter fun h => h == .supply || h == .sysRst) 1 s)) ∧
  (∀ (dt : Nat) (gpio : Nat) (s₀ : State), let s := advance dt s₀; let t := s.onBoard fun b => { b with holds := b.holds.filter (· != .porst), gpioIn := gpio % 65536 }; s.board.holds.contains .porst = true → s.board.holds.contains .supply = false → t.board.holds.contains .supply = false →
    exec (.porstNRelease dt gpio) s₀ = .next ((t.onBoard fun b => { b with bootHold := bit gpio 0, gen3 := bit gpio 1, fault := bit gpio 0 || t.imageBad }))) ∧
  (∀ (dt : Nat) (s₀ : State), let s := advance dt s₀; s.thm.power ≠ .p4 → s.board.holds.contains .sysRst = false → s.held = false →
    exec (.sysRstNAssert dt) s₀ = .next (deviceReset [.sysRst] 2 s)) ∧
  (∀ (dt : Nat) (s₀ : State), let s := advance dt s₀;
    exec (.sysRstNRelease dt) s₀ = .next (s.onBoard fun b => { b with holds := b.holds.filter (· != .sysRst) })) ∧
  (∀ (dt : Nat) (s₀ : State), let s := advance dt s₀; s.held = false → s.thm.power ≠ .p3 → s.thm.power ≠ .p4 →
    exec (.watchdogExpiry dt) s₀ = .next (deviceReset [] 4 s)) ∧
  (∀ (dt : Nat) (s₀ : State), let s := advance dt s₀; let z : Hif := {};
    exec (.pciePerstNAssert dt) s₀ = .next (s.onHif fun h => { h with
      pcieUp := false, rings := h.rings.mapIdx (quietRing h.inflight), evqEnable := false, evqBase := z.evqBase, evqSize := z.evqSize
      evqTail := z.evqTail, evqHead := z.evqHead, evqPhase := true, winBase := 0, winEnable := false, winWrite := false, winDenied := false
      msixTable := z.msixTable, msixPending := 0 })) ∧
  (∀ (dt : Nat) (s₀ : State), let s := advance dt s₀;
    exec (.pciePerstNRelease dt) s₀ = .next (s.onHif fun h => { h with pcieUp := true })) ∧
  (∀ (dt : Nat) (s₀ : State) (cause : Nat), let s := advance dt s₀; s.board.booting = some cause → s.sec.onTrial = true → s.held = false → passed s 0 10 1 = true →
    exec (.trialBootTimeout dt) s₀ = .next (deviceReset [] cause s)) ∧
  (∀ (dt : Nat) (s₀ : State) (cause : Nat), let s := advance dt s₀; s.board.booting = some cause → s.held = false → s.board.bootHold = false → s.board.fault = false →
    exec (.bootReady dt) s₀ = .next (raiseReady replayTable cause s)) ∧
  (∀ (dt : Nat) (s₀ : State), let s := advance dt s₀; s.hif.ready = true → s.fire.run = none → s.stat.isOpen = true → passed s s.stat.idleSince 1 1 = true →
    exec (.idleRecordClose dt) s₀ = .next (closeRecord 8 {} (s.onStat fun t => { t with idleSince := t.idleSince + secT 1 }))) ∧
  (∀ (dt : Nat) (instr : Nat) (s₀ : State), let s := advance dt s₀; let t := s.onBoard fun b => { b with tap := instr, tapDebug := Config.tapMeaning instr == 4 };
    exec (.tapInstruction dt instr) s₀ = .next (match Config.tapMeaning instr with
      | 1 => t.emit (.tap 0x182009AB)
      | 3 => if t.scannable then (if t.held || t.board.scan then t else scanFault t)
          else if t.held || t.thm.power == .p4 then t else post evDebugRefused unitCtl instr t.thm.power.code t
      | _ => t))

/-- Heartbeats sent, taken and missed, the peer's alive and yield wires, its hello and its time: where its condition holds, each row answers the next state with its own effect on the pair. (R387, R388, R392, R394, R403, R404) -/
def Obligations.PairWireRowsComplete : Prop :=
  (∀ (dt : Nat) (s₀ : State), let s := advance dt s₀;
    let arg := s.pair.beat + 65536 * s.pair.st.code + 16777216 * s.beatFlags
    let t := [20, 21].foldl (fun t n => if (t.lane n).lock && !(t.lane n).retired then sendBlock n { hdr := 2, bytes := linkBlock 0x31 arg } t else t) s
    s.pair.enable = true → s.hif.ready = true → s.thm.power ≠ .p3 → s.thm.power ≠ .p4 → passed s s.pair.beatSent 10 1000000 = true →
    exec (.heartbeatSend dt) s₀ = .next (t.onPair fun p => { p with beat := (p.beat + 1) % 65536, beatSent := t.tb1 })) ∧
  (∀ (dt : Nat) (lane beat st flags : Nat) (s₀ : State) (x : PairState), let s := advance dt s₀; let t := bump (ctr 13 0 4) (missedBeats s) s; lane = 20 ∨ lane = 21 → beat < 65536 → s.pair.enable = true → PairState.ofCode st = some x →
    exec (.heartbeatReceive dt lane beat st flags) s₀ = .next (learnPeer x (t.onPair fun p => { p with beatSeen := some t.tb1, beatLost := false, downPosted := false, peerFlags := flags }))) ∧
  (∀ (dt : Nat) (s₀ : State) (b : Int), let s := advance dt s₀; let t := s.onPair fun p => { p with beatLost := true }; s.pair.beatSeen = some b → s.pair.beatLost = false → passed s b 52 1000000 = true → t.pair.st = .standby → t.pair.peerAlive = false →
    exec (.heartbeatLoss dt) s₀ = .next (takeover 2 t)) ∧
  (∀ (dt : Nat) (s₀ : State) (b : Int), let s := advance dt s₀; let t := s.onPair fun p => { p with beatLost := true }; s.pair.beatSeen = some b → s.pair.beatLost = false → passed s b 52 1000000 = true → t.pair.st ≠ .standby →
    exec (.heartbeatLoss dt) s₀ = .next (standAlone t)) ∧
  (∀ (dt : Nat) (s₀ : State), let s := advance dt s₀; let t := s.onPair fun p => { p with peerAlive := false }; t.pair.st = .standby → t.pair.beatLost = true →
    exec (.peerAliveFall dt) s₀ = .next (takeover 2 t)) ∧
  (∀ (dt : Nat) (s₀ : State), let s := advance dt s₀; let t := s.onPair fun p => { p with peerAlive := false }; t.pair.st = .standby → t.pair.beatLost = false →
    exec (.peerAliveFall dt) s₀ = .next (linkDown 2 t)) ∧
  (∀ (dt : Nat) (s₀ : State), let s := advance dt s₀;
    exec (.peerAliveRise dt) s₀ = .next (s.onPair fun p => { p with peerAlive := true })) ∧
  (∀ (dt : Nat) (s₀ : State), let s := advance dt s₀; let t := s.onPair fun p => { p with yieldIn := true }; t.pair.st = .standby →
    exec (.pairYieldNLow dt) s₀ = .next (takeover 1 t)) ∧
  (∀ (dt : Nat) (s₀ : State), let s := advance dt s₀; let t := drivePairYield false s; s.pair.st = .standby ∨ s.pair.st = .detached ∨ s.pair.st = .off → t.pair.yieldOut = false →
    exec (.pairYieldNRelease dt) s₀ = .next (t.onPair fun p => { p with yieldIn := false })) ∧
  (∀ (dt : Nat) (code : Nat) (s₀ : State), let s := advance dt s₀; let t := heardPair s; t.pair.st = .standby → code < 256 →
    exec (.yieldReceive dt code) s₀ = .next (takeover 1 t)) ∧
  (∀ (dt peerUp : Nat) (peerMoves : Bool) (s₀ : State) (r : Run), let s := advance dt s₀; let t := s.onPair fun p => { p with webDead := some (p.webDead.getD s.tb1) }; s.pair.st = .active → bit s.pair.peerFlags 2 = true → s.webStill = true → peerMoves = true → s.fire.run = some r → (List.range 10).any (fun l => bit r.bars l && !(t.course l).up && bit peerUp l && passed t (t.course l).tried 1 1000) = false → passed t (s.pair.webDead.getD s.tb1) 10 1000 = true →
    exec (.yieldCriterionTimer dt peerUp peerMoves) s₀ = .next (yieldPair 0x05 t)) ∧
  (∀ (dt : Nat) (peer : Peer) (authentic : Bool) (s₀ : State), let s := advance dt s₀; let t := heardPair s; t.pair.st ≠ .off → (t.course 10).up = true →
    exec (.pairHello dt peer authentic) s₀ = .next (judgeHello peer authentic (if t.pair.judged then sendPairHello t else t))) ∧
  (∀ (dt : Nat) (t1 delay : Int) (valid : Bool) (syncId : Nat) (adj : Int) (s₀ : State), let s := advance dt s₀; let t := heardPair s; t.copies = true →
    exec (.ptimeSync dt t1 delay valid syncId adj) s₀ = .next (takePtime t1 delay valid syncId adj t)) ∧
  (∀ (dt : Nat) (syncId turn : Nat) (offset : Int) (s₀ : State) (t1 : Int), let s := advance dt s₀; let t := heardPair s; let x := timeExchange ((t.tb3 - t1) - turn) (t.course 10).rtts; (t.course 10).t1 = some (t1, syncId) → t.pair.st.leads = true →
    exec (.ptimeEcho dt syncId turn offset) s₀ = .next ((t.onCourse 10 fun c => { c with t1 := none, rtts := x.1, delay := sar (x.2.1 + 1) 1, delayValid := decide (2 ≤ x.1.length) }).onPair
      fun p => { p with tb3Offset := offset }))

/-- The baseline, records and their acknowledgements, frame notes, checkpoints, mirrored jobs, the self tests and the health: where its condition holds, each row answers the next state with its own effect on the copy. (R394, R396, R397, R398, R399, R400, R402, R412) -/
def Obligations.PairCopyRowsComplete : Prop :=
  (∀ (dt : Nat) (part : BaselinePart) (s₀ : State) (recordSeq : Nat) (crcOk : Bool), let s := advance dt s₀; s.pair.st = .joining → part = .last recordSeq crcOk →
    exec (.baselineReceive dt part) s₀ = .next (endBaseline recordSeq crcOk s)) ∧
  (∀ (dt : Nat) (part : BaselinePart) (s₀ : State), let s := advance dt s₀; s.pair.st = .joining → (∀ n c, part ≠ .last n c) →
    exec (.baselineReceive dt part) s₀ = .next (takePart part s)) ∧
  (∀ (dt : Nat) (seq ring tag cmdSeq : Nat) (body : RecordBody) (status : Status) (s₀ : State), let s := advance dt s₀; let t := heardPair s; t.copies = true → t.pair.st ≠ .joining ∨ 3 ≤ t.pair.joinStep →
    exec (.recordReceive dt seq ring tag cmdSeq body status) s₀ = .next (applyRecord seq ring tag cmdSeq body status t)) ∧
  (∀ (dt : Nat) (seq ring tag cmdSeq : Nat) (body : RecordBody) (status : Status) (s₀ : State), let s := advance dt s₀; let t := heardPair s; t.copies = true → t.pair.st = .joining → t.pair.joinStep < 3 →
    exec (.recordReceive dt seq ring tag cmdSeq body status) s₀ = .next (t.onPair fun p => { p with early := p.early ++ [.record seq ring tag cmdSeq body status] })) ∧
  (∀ (dt : Nat) (seq : Nat) (status : Status) (s₀ : State), let s := advance dt s₀;
    exec (.recordAck dt seq status) s₀ = .next (takeRecordAck seq (heardPair s))) ∧
  (∀ (dt : Nat) (s₀ : State) (w : RecordWait) (ws : List RecordWait), let s := advance dt s₀; s.pair.waits = w :: ws → passed s w.since 1 1000 = true →
    exec (.recordAckTimeout dt) s₀ = .next (sendPairHello (releaseWaits s))) ∧
  (∀ (dt : Nat) (note : FrameNote) (s₀ : State), let s := advance dt s₀; let t := heardPair s; t.copies = true → t.pair.st ≠ .joining ∨ 3 ≤ t.pair.joinStep →
    exec (.framePacketReceive dt note) s₀ = .next (takeFrame note t)) ∧
  (∀ (dt : Nat) (s₀ : State), let s := advance dt s₀; s.mirrors = true → (s.pair.ckptSent * 1000).fdiv (2 ^ 32) < (s.tb3 * 1000).fdiv (2 ^ 32) → (s.tb3 * 10000).fdiv (2 ^ 32) - 10 * (s.tb3 * 1000).fdiv (2 ^ 32) < 1 →
    exec (.checkpointSend dt) s₀ = .next (sendCheckpoint s)) ∧
  (∀ (dt : Nat) (ckpt : Checkpoint) (s₀ : State), let s := advance dt s₀; let t := heardPair s; let w := keepCkpt ckpt (alignWeb ckpt (adoptRest ckpt t)); t.copies = true → t.pair.joinStep ≠ 1 → t.pair.joinStep ≠ 2 →
    exec (.checkpointReceive dt ckpt) s₀ = .next (rejoined (checkJoin (if w.pair.handover.isSome then w else adoptRun ckpt w)))) ∧
  (∀ (dt : Nat) (job : Nat) (bytes : List Byte) (last : Option Nat) (s₀ : State), let s := advance dt s₀; s.copies = true → s.pair.mirror = none → last = none →
    exec (.mirrorReceive dt job bytes last) s₀ = .next (s.onPair fun p => { p with mirror := some (job, bytes) })) ∧
  (∀ (dt : Nat) (job : Nat) (bytes : List Byte) (last : Option Nat) (s₀ : State) (crc : Nat), let s := advance dt s₀; let w := s.onPair fun p => { p with mirror := none }; s.copies = true → s.pair.mirror = none → last = some crc →
    exec (.mirrorReceive dt job bytes last) s₀ = .next (match storeMirror job crc bytes w with | .ok t => checkJoin t | .error st => post evPairMirror unitPair job st.code w)) ∧
  (∀ (dt : Nat) (pass : Bool) (s₀ : State), let s := advance dt s₀; s.pair.st = .standby → s.thm.power = .p2 → passed s s.pair.testAt 100 1000 = true → pass = true → s.isRetired (testUnits.getD s.pair.testTurn 0x0600) = false → s.isDoomed (testUnits.getD s.pair.testTurn 0x0600) = false → s.pair.testTurn + 1 < testUnits.length →
    exec (.standbySelfTest dt pass) s₀ = .next (s.onPair fun p => { p with testAt := s.tb1, testTurn := p.testTurn + 1, testCycle := p.testCycle + 1 })) ∧
  (∀ (dt : Nat) (pass : Bool) (s₀ : State), let s := advance dt s₀; s.pair.st = .standby → s.thm.power = .p2 → passed s s.pair.testAt 100 1000 = true → pass = false → s.isRetired (testUnits.getD s.pair.testTurn 0x0600) = false → s.isDoomed (testUnits.getD s.pair.testTurn 0x0600) = false → s.pair.testTurn + 1 < testUnits.length →
    exec (.standbySelfTest dt pass) s₀ = .next (testFailed (testUnits.getD s.pair.testTurn 0x0600) (s.onPair fun p => { p with testAt := s.tb1, testTurn := p.testTurn + 1 }))) ∧
  (∀ (dt : Nat) (s₀ : State), let s := advance dt s₀; let t := keepHealth (makeHealth s) (s.onPair fun p => { p with healthAt := s.tb1 }); s.pair.st = .standby → passed s s.pair.healthAt 10 1000 = true →
    exec (.pairHealthEvaluate dt) s₀ = .next (settleReady (pairSend .ctrl 0x44 ((makeHealth s).result t.tb1 ++ (makeHealth s).block) t))) ∧
  (∀ (dt : Nat) (health : Health) (s₀ : State), let s := advance dt s₀; let t := heardPair s; t.pair.st.leads = true →
    exec (.healthReceive dt health) s₀ = .next (keepHealth { health with time := t.tb1 } t)) ∧
  (∀ (dt : Nat) (s₀ : State) (id : CmdId) (t : Int), let s := advance dt s₀; s.pair.rejoin = some (id, t) → t ≤ s.tb1 →
    exec (.pairRejoinTimeout dt) s₀ = .next (finish id (.err .timeout) (s.onPair fun p => { p with rejoin := none })))

/-- Request, ready, go, done and the step's timeout: where its condition holds, each row answers the next state with its own effect on both roles. (R408) -/
def Obligations.HandoverRowsComplete : Prop :=
  (∀ (dt : Nat) (s₀ : State), let s := advance dt s₀; let t := heardPair s; t.synced = true → (setPower .p0 (t.onPair fun p => { p with handover := some { since := t.tb1, stepSince := t.tb1, step := 2 } })).fire.run = none →
    exec (.handoverReq dt) s₀ = .next (setPower .p0 (t.onPair fun p => { p with handover := some { since := t.tb1, stepSince := t.tb1, step := 2 } }))) ∧
  (∀ (dt : Nat) (s₀ : State) (h : Handover), let s := advance dt s₀; let t := heardPair s; let w := t.onRun fun r => { r with handover := some 0 }; t.pair.handover = some h → t.pair.st = .active → h.step = 1 → t.fire.run = none → h.cmd = none →
    exec (.handoverReady dt) s₀ = .next (pairSend .ctrl 0x48 (toLe 8 0) (w.onPair fun p => { p with handover := some { h with step := 3, stepSince := w.tb1, h := some 0 } }))) ∧
  (∀ (dt : Nat) (h : Nat) (s₀ : State) (w : Handover) (k : Ckpt), let s := advance dt s₀; let t := heardPair s; t.pair.handover = some w → t.pair.ckpt = some k → t.pair.st = .standby → w.step = 3 →
    exec (.handoverGo dt h) s₀ = .next ((k.epochs.foldl (fun s e => if (s.course e.1).up then sendClaim e.1 (e.2 + 1) (some h) false s else s)
      ((drivePairActive true (setPair .active (t.onPair fun p => { p with handover := some { w with step := 4, stepSince := t.tb1, h := some h }, joinStep := 0 }))).onThm
        fun t => { t with wantP2 := false })).onRun (Run.startAt h))) ∧
  (∀ (dt : Nat) (s₀ : State) (h : Handover), let s := advance dt s₀; s.pair.handover = some h → s.pair.st = .active → h.step = 3 → s.fire.run = none →
    exec (.handoverDone dt) s₀ = .next (handoverEnds h s)) ∧
  (∀ (dt : Nat) (s₀ : State) (h : Handover), let s := advance dt s₀; s.pair.handover = some h → s.pair.st = .active → h.step = 4 →
    exec (.handoverDone dt) s₀ = .next (claimAll ((heardPair s).onPair fun p => { p with handover := none, peerState := .standby }))) ∧
  (∀ (dt : Nat) (s₀ : State) (h : Handover), let s := advance dt s₀; s.pair.handover = some h → passed s h.stepSince 5 1 = true → s.pair.st = .active → h.step = 1 →
    exec (.handoverTimeout dt) s₀ = .next (endHandover (.err .timeout 0x01F3) s)) ∧
  (∀ (dt : Nat) (s₀ : State) (h : Handover), let s := advance dt s₀; s.pair.handover = some h → passed s h.stepSince 5 1 = true → s.pair.st = .standby → h.step = 2 ∨ h.step = 3 →
    exec (.handoverTimeout dt) s₀ = .next (backToP2 (s.onPair fun p => { p with handover := none })))

/-- SCRATCH holds its bytes at rising addresses and lists no zero byte; from every state in which it does, every step that answers a next state answers one in which it does. That a byte that nothing has written is zero is R186. (R52, R186) -/
def Obligations.MemoryFormKept : Prop :=
  ∀ s t : State, scratchWf s.store.scratch = true → step s = .next t → scratchWf t.store.scratch = true

/-- After reset SCRATCH is in its canonical form and all zeros (R186), no row waits, READY is 0 (R49), nothing is in flight, and no reset stands ordered. (R49, R186) -/
def Obligations.ResetHasTheForm : Prop :=
  scratchWf State.reset.store.scratch = true ∧ (∀ a, scratchByte State.reset.store.scratch a = 0) ∧ State.reset.pending = [] ∧
  State.reset.hif.ready = false ∧ State.reset.hif.inflight = [] ∧ State.reset.sec.resetOrdered = none

/-- Over every step that answers a next state, from any state: the lifecycle state goes to no earlier one, SVN_MIN never falls, and a release key once revoked stays revoked. (R93, R96, R104) -/
def Obligations.FusesOnlyAdvance : Prop :=
  ∀ s t : State, step s = .next t →
    s.sec.lifecycle.code ≤ t.sec.lifecycle.code ∧ s.sec.svnMin ≤ t.sec.svnMin ∧
    (∀ k, s.sec.fwRevoked.getD k false = true → t.sec.fwRevoked.getD k false = true)

/-- Every row but BAR2_WINDOW_WRITE leaves SCRATCH as it is or, as a reset does, all zeros. (R52, R186) -/
def Obligations.ScratchOnlyByWindow : Prop :=
  ∀ (c : Instr) (s t : State), (∀ dt offset bytes, c ≠ .bar2WindowWrite dt offset bytes) → exec c s = .next t →
    t.store.scratch = s.store.scratch ∨ t.store.scratch = []

/-- A write inside SCRATCH through a window enabled for writing stores its bytes where they were addressed and leaves every other byte; nothing but SCRATCH and the time changes; and the window then reads those bytes there. Where the lifecycle and debug state forbid the window, the write is denied and stores nothing; which states do is left open by the spec (the model's Config.windowForbids, log 44). (R52) -/
def Obligations.ScratchReadsBackAsWritten : Prop :=
  ∀ (dt offset : Nat) (bytes : List Byte) (s₀ : State),
    let s := advance dt s₀
    let a := s.hif.winBase + offset
    scratchWf s.store.scratch = true → offset + bytes.length ≤ 0x4000000 → s.hif.winEnable = true → s.hif.winWrite = true →
    0x20000000 ≤ a → a + bytes.length ≤ 0x24000000 → a + bytes.length ≤ s.usable →
    (Config.windowForbids s.sec.lifecycle.code (Debug.code s.sec.debug) = true → exec (.bar2WindowWrite dt offset bytes) s₀ = .next (denyWindow s)) ∧
    (Config.windowForbids s.sec.lifecycle.code (Debug.code s.sec.debug) = false → ∃ t, exec (.bar2WindowWrite dt offset bytes) s₀ = .next t ∧
      (∀ x, scratchByte t.store.scratch x =
        if a ≤ 0x20000000 + x ∧ 0x20000000 + x < a + bytes.length then bytes.getD (0x20000000 + x - a) 0 else scratchByte s.store.scratch x) ∧
      windowBytes a bytes.length t = bytes ∧ t = { s with store := { s.store with scratch := t.store.scratch } })

/-- What passes before a row changes only the time bases: none of them while the device is held in reset, is in P4 or has lost the TB PLL's lock; the count asleep in P3; all of them otherwise. Passing m clocks and then n is passing m + n. That the clocks of P3 are counted in TB clocks is the model's choice (log 1). (R134, R137) -/
def Obligations.TimePassesAlone : Prop :=
  (∀ (n : Nat) (s : State), ∃ t, advance n s = { s with tim := t }) ∧
  (∀ (n : Nat) (s : State), s.held = true ∨ s.thm.power = .p4 ∨ s.tim.pllLock = false → advance n s = s) ∧
  (∀ (n : Nat) (s : State), s.held = false → s.thm.power = .p3 → s.tim.pllLock = true →
    (advance n s).tim.tb = s.tim.tb ∧ (advance n s).tim.tbf = s.tim.tbf ∧ (advance n s).tim.asleep = s.tim.asleep + n) ∧
  (∀ (n : Nat) (s : State), s.held = false → s.thm.power ≠ .p3 → s.thm.power ≠ .p4 → s.tim.pllLock = true →
    (advance n s).tim.tb = s.tim.tb.map (Tb.run n) ∧ (advance n s).tim.tbf = s.tim.tbf.run n) ∧
  (∀ (m n : Nat) (s : State), advance n (advance m s) = advance (m + n) s)

/-- Where nothing is mirrored to a standby, the completion of a command of a host's ring changes nothing but the host interface, the statistics, what is put out, and the board's list of the configuration in force; of what is in flight it removes that command alone, and it leaves every other ring as it is. (R33, R62) -/
def Obligations.CompletionFrame : Prop :=
  ∀ (id : CmdId) (r : Reply) (s : State), id.1 < 8 → s.mirrors = false → s.pair.auto = false →
    let t := finish id r s
    (t.onBoard fun _ => s.board).rest = s.rest ∧
    t.hif.inflight = s.hif.inflight.filter (fun e => !(e.cmd.id == id)) ∧
    (∀ n, n ≠ id.1 → t.ring n = s.ring n)

/-- SYS_IDENTIFY, SYS_HELLO, SYS_HEALTH, SYS_NOP, the status and list commands and the reads of a position, a time, a record or an event (the opcodes of leavesRest): whatever they answer, everything outside the host interface and the statistics is as it was, but for the time that has passed. No reset may stand ordered before them, which ResetHasTheForm says of reset. (R70, R81, R427) -/
def Obligations.ReadingCommandsChangeNothing : Prop :=
  ∀ (c : Instr) (s t : State) (op : Nat) (q : Cmd), hostCommand c = some (op, q) → leavesRest op = true → s.sec.resetOrdered = none →
    exec c s = .next t → t.rest = (advance q.dt s).rest

/-- Read from the 192 bytes of a protection table, the mask of role r and group g stands at 0x30 + 32 r + 2 (g - 1), and its bit op - 1 permits (g << 8) | op; check 9 passes exactly where the bit is 1, but for the opcodes of Table 4-3, whose permission ignores the masks. (R85) -/
def Obligations.PermissionMasks : Prop :=
  (∀ (bs : List Byte) (t : ProtTable) (r g o : Nat), ProtTable.decode bs = some t → r < 4 → 1 ≤ g → g ≤ 16 → 1 ≤ o → o ≤ 16 →
    fixedRoles (256 * g + o) = none → t.permits r (256 * g + o) = bit (rd bs (0x30 + 32 * r + 2 * (g - 1)) 2) (o - 1)) ∧
  (∀ (t : ProtTable) (r op : Nat) (rs : List Nat), fixedRoles op = some rs → t.permits r op = rs.contains r) ∧
  (∀ op, fixedRoles op =
    if op = 0x0101 ∨ op = 0x0102 ∨ op = 0x0104 ∨ op = 0x0105 ∨ op = 0x0201 ∨ op = 0x0209 then some [0, 1, 2, 3]
    else if 0x0203 ≤ op ∧ op ≤ 0x0208 then some [0]
    else if op = 0x010A ∨ op = 0x1002 then some [0, 1] else none) ∧
  (∀ (op : Nat) (q : Cmd) (s : State), q.ring < 8 → opcodeDefined op = true → ((s.ring q.ring).ethernet && dmaOps.contains op) = false →
    1 ≤ s.hif.floor →
    gateCheck op q s = if s.sec.prot.permits (s.ring q.ring).role op then none else some (.err .denied))

/-- Writes at the base and size registers of an enabled ring are ignored, and of a disabled one taken; an enable with a size outside 4 to 12 or of a halted ring leaves ENABLE at 0 and sets CONFIG_ERR; an enable that is taken sets SQ_HEAD, CQ_TAIL and the expected SEQ to 0 and the completion phase to 1, and changes no other ring. (R50) -/
def Obligations.RingEnable : Prop :=
  ∀ (dt n v : Nat) (s₀ : State), n < 8 → s₀.hif.rings.length = 8 →
    let s := advance dt s₀
    let r := s.ring n
    s.bar0 = true →
    (r.enable = true → ∀ off, off ≤ 0x10 → exec (.registerWrite dt (0x1000 + 0x80 * n + off) 4 v) s₀ = .next s) ∧
    (r.enable = false →
      exec (.registerWrite dt (0x1000 + 0x80 * n) 4 v) s₀ = .next (s.onRing n fun r => { r with
        sqBase := setLow r.sqBase v }) ∧
      exec (.registerWrite dt (0x1000 + 0x80 * n + 4) 4 v) s₀ = .next (s.onRing n fun r => { r with
        sqBase := setHigh r.sqBase v }) ∧
      exec (.registerWrite dt (0x1000 + 0x80 * n + 8) 4 v) s₀ = .next (s.onRing n fun r => { r with
        cqBase := setLow r.cqBase v }) ∧
      exec (.registerWrite dt (0x1000 + 0x80 * n + 12) 4 v) s₀ = .next (s.onRing n fun r => { r with
        cqBase := setHigh r.cqBase v }) ∧
      exec (.registerWrite dt (0x1000 + 0x80 * n + 16) 4 v) s₀ = .next (s.onRing n fun r => { r with
        sqLog2 := bitsOf v 0 3, cqLog2 := bitsOf v 8 11 })) ∧
    (r.enable = false → r.sqLog2 < 4 ∨ 12 < r.sqLog2 ∨ r.cqLog2 < 4 ∨ 12 < r.cqLog2 ∨ r.halted = true →
      exec (.ringEnableSet dt n) s₀ = .next (s.onRing n fun r => { r with
        configErr := true })) ∧
    (r.enable = false → 4 ≤ r.sqLog2 → r.sqLog2 ≤ 12 → 4 ≤ r.cqLog2 → r.cqLog2 ≤ 12 → r.halted = false →
      (r.ethernet = true → (s.sec.prot.rings.getD n {}).ethAllowed = true) →
      ∃ t, exec (.ringEnableSet dt n) s₀ = .next t ∧ (t.ring n).enable = true ∧ (t.ring n).sqHead = 0 ∧ (t.ring n).cqTail = 0 ∧
        (t.ring n).expSeq = 0 ∧ (t.ring n).cqPhase = true ∧ (∀ m, m ≠ n → t.ring m = s.ring m) ∧ t.rest = s.rest)

/-- A fetched slot whose SEQ is not the expected one is not carried out: the ring is halted with HALT_SEQ, EV_RING_HALTED is posted, and a completion with the slot's TAG, ST_BAD_PARAM and DETAIL 0x0001 is written; what is in flight goes on. The halt is undone by clearing ENABLE, waiting for RUNNING to fall, RESET and enabling again: RESET does nothing before, and a halted ring is not enabled. (R57) -/
def Obligations.SequenceHalt : Prop :=
  (∀ (dt n : Nat) (slot pblk : List Byte) (descs : List Desc) (data : List Byte) (s₀ : State),
    n < 8 → s₀.hif.rings.length = 8 → slot.length = 128 →
    let s := advance dt s₀
    let v := viewSlot slot
    s.mayFetch n = true → (s.ring n).ethernet = false → (s.ring n).sqHead ≠ (s.ring n).sqTail → v.seq ≠ (s.ring n).expSeq →
    let u := s.onRing n fun r => { r with
      sqHead := (r.sqHead + 1) % 2 ^ r.sqLog2 }
    let q := slotCmd slot n (padTo v.pblkLen pblk) descs data none
    ∃ t, exec (.slotFetch dt n slot pblk descs data false) s₀ = .next t ∧
      t = deliverTo v.opcode q (.err .badParam 0x0001) (post evRingHalted (unitRing n) n 0x01 (u.onRing n fun r => { r with
        halted := true, haltReason := 0x01 })) ∧
      (t.ring n).halted = true ∧ (t.ring n).haltReason = 1 ∧ t.hif.inflight = s.hif.inflight ∧ t.rest = s.rest ∧
      (∃ phase, .completion n (s.ring n).cqTail (encCompletion phase v.opcode q (.err .badParam 0x0001)) ∈ t.out)) ∧
  (∀ (phase : Bool) (op : Nat) (q : Cmd), q.tag < 65536 →
    let b := encCompletion phase op q (.err .badParam 0x0001)
    rd b 0 2 = q.tag ∧ rd b 2 1 = 0x11 ∧ rd b 6 2 = 0x0001) ∧
  (∀ (dt n : Nat) (s₀ : State), n < 8 → s₀.hif.rings.length = 8 →
    let s := advance dt s₀
    s.bar0 = true →
    exec (.ringEnableClear dt n) s₀ = .next (s.onRing n fun r => { r with
      enable := false }) ∧
    (((s.ring n).enable = true ∨ s.ringFlying n ≠ 0) → exec (.ringReset dt n) s₀ = .next s) ∧
    ((s.ring n).enable = false → s.ringFlying n = 0 → exec (.ringReset dt n) s₀ = .next (s.onRing n fun r => { r with
      halted := false, haltReason := 0 })) ∧
    ((s.ring n).enable = false → (s.ring n).halted = true → ∃ t, exec (.ringEnableSet dt n) s₀ = .next t ∧ (t.ring n).enable = false))

/-- The channel of an address is bits [10:8] XOR bits [13:11], one channel for each 256-byte unit; of any eight consecutive units that begin at a multiple of 2,048 bytes each channel has exactly one, so of the 8,192 units of a 2 MB page each channel has 1,024. A read's link error that link ECC corrects counts against that channel's unit (R161). (R159) -/
def Obligations.MemoryChannels : Prop :=
  (∀ a : Nat, lineChannel (a / 64) = (a / 2 ^ 8 % 8) ^^^ (a / 2 ^ 11 % 8) ∧ lineChannel (a / 64) < 8) ∧
  (∀ k ch : Nat, ch < 8 → ((List.range 8).filter fun u => lineChannel ((2048 * k + 256 * u) / 64) == ch).length = 1) ∧
  (∀ page ch : Nat, ch < 8 → ((List.range 8192).filter fun u => lineChannel ((2097152 * page + 256 * u) / 64) == ch).length = 1024) ∧
  (∀ (dt line : Nat) (owner : Owner) (s₀ : State), line < s₀.store.lines →
    exec (.memoryReadComplete dt line owner .linkCorrected) s₀ = .next (upset (0x0400 + lineChannel line) ((advance dt s₀).onStore fun t => { t with
      rereads := t.rereads.filter (· != line) })))

/-- There are 64 fences, 0 after every reset. LAYER_FENCE raises a fence to VALUE or leaves a higher one; with RESET it sets it to VALUE, and with a run armed completes with ST_STATE. A flip taken with FENCE_WAIT set waits on its fence for WAIT_VALUE: while the fence is lower a due flip of a stored job is not taken; one taken without it waits on none. (R207) -/
def Obligations.Fences : Prop :=
  (State.reset.cps.fences = List.replicate 64 0 ∧ ∀ (hold : List Hold) (cause : Nat) (s : State), (deviceReset hold cause s).cps.fences = List.replicate 64 0) ∧
  (∀ (q : Cmd) (s₀ : State), Runs 0x0403 layerFenceCheck q s₀ = true →
    let s := s₀.begun 0x0403 q
    let old := s.cps.fences.getD (q.u8 0) 0
    q.u8 0 < 64 ∧ q.u32 4 < 2 ^ 32 ∧
    (bit (q.u8 1) 0 = false → q.u32 4 ≤ old → s.cps.fences.length = 64 →
      exec (.layerFence q) s₀ = .next ((Ans.done (.good (toLe 4 old)) s).left q)) ∧
    (bit (q.u8 1) 0 = false → old < q.u32 4 →
      exec (.layerFence q) s₀ = .next ((Ans.done (.good (toLe 4 (q.u32 4))) (s.onCps fun c => { c with
        fences := c.fences.set (q.u8 0) (q.u32 4) })).left q)) ∧
    (bit (q.u8 1) 0 = true → s.fire.run = none ∧
      exec (.layerFence q) s₀ = .next ((Ans.done (.good (toLe 4 (q.u32 4))) (s.onCps fun c => { c with
        fences := c.fences.set (q.u8 0) (q.u32 4) })).left q))) ∧
  (∀ (q : Cmd) (s₀ : State), Starts 0x0403 q s₀ = true →
    let s := s₀.begun 0x0403 q
    flagFault q = none → firstFail (shape q 8 [(0, 2), (4, 4)]) = none → q.u8 0 < 64 → extraBits (q.u8 1) 1 = false → bit (q.u8 1) 0 = true → s.fire.run.isSome = true →
    exec (.layerFence q) s₀ = .next (finish q.id (.err .state) s)) ∧
  (∀ (q : Cmd) (s₀ : State), Runs 0x0402 layerFlipCheck q s₀ = true →
    let s := s₀.begun 0x0402 q
    (if (s.job (q.u32 4)).any (·.usable) then flipFault (q.u8 0) (q.u32 4) (q.u32 8) s else none) = none → q.u8 0 < s.cps.layers.length →
    ∃ (t : State) (f : Flip), exec (.layerFlip q) s₀ = .next t ∧ (t.layer (q.u8 0)).flips = (s.layer (q.u8 0)).flips ++ [f] ∧
      f.wait = if bit (q.u8 1) 1 then some (q.u8 2, q.u32 16) else none) ∧
  (∀ (frame i : Nat) (s : State) (f : Flip) (later : List Flip) (n v : Nat) (j : Job),
    (s.layer i).flips = f :: later → f.target ≤ frame → f.wait = some (n, v) → s.job f.job = some j → j.usable = true →
    s.cps.fences.getD n 0 < v → planFlip frame i s = .waits)

/-- After every reset of the device, and in the state right after reset: no ledger is reserved and none written, no profile is loaded, the loop is STOPPED, the strip is off and none is to come, no suspect and no strike is held, every GEN is 0, every trim is the identity curve and every nozzle map entry is 0x0300. (R365) -/
def Obligations.ColourAfterReset : Prop :=
  ∀ (hold : List Hold) (cause : Nat) (s t : State), t = deviceReset hold cause s ∨ t = State.reset →
    t.store.ledger = 0 ∧ t.clr.ledgerBands = none ∧ t.clr.ledger = [] ∧ t.clr.profile = none ∧ t.clr.st = .stopped ∧
    t.clr.strip = none ∧ t.clr.pendStrip = none ∧ t.clr.strikes = [] ∧
    (∀ b, (t.bar b).act.gen = 0 ∧ (t.bar b).pend = none ∧
      (∀ z k, k < 17 → ((t.bar b).act.trim z).getD k 0 = 1024 * k) ∧
      (∀ h row n, (t.bar b).act.nozzle h row n = 0x0300))

/-- Every reset of the device leaves the fuses and what stands in the flash as they were (the lifecycle, SVN_MIN, the revoked release keys; the protection table's copies, the saved keys, the images, the configurations, the journal's marks and lists), READY 0, nothing in flight, every ring and SCRATCH at its reset value, the model's queue untouched, and the debug state FULL in BLANK and RETURNED and OFF otherwise. (R49, R97, R186, R430, R433) -/
def Obligations.ResetLeaves : Prop :=
  ∀ (hold : List Hold) (cause : Nat) (s : State),
    let t := deviceReset hold cause s
    t.sec.lifecycle = s.sec.lifecycle ∧ t.sec.svnMin = s.sec.svnMin ∧ t.sec.fwRevoked = s.sec.fwRevoked ∧
    t.nor.protCopies = s.nor.protCopies ∧ t.nor.keyCopy = s.nor.keyCopy ∧ t.nor.slots = s.nor.slots ∧
    t.nor.bootSlot = s.nor.bootSlot ∧ t.nor.boardRecord = s.nor.boardRecord ∧ t.nor.configs = s.nor.configs ∧
    t.nor.bootConfig = s.nor.bootConfig ∧ t.nor.marks = s.nor.marks ∧ t.nor.retired = s.nor.retired ∧ t.nor.pages = s.nor.pages ∧
    t.nor.trims = s.nor.trims ∧ t.nor.profiles = s.nor.profiles ∧
    t.hif.ready = false ∧ t.hif.inflight = [] ∧ t.hif.rings = State.reset.hif.rings ∧ t.store.scratch = [] ∧ t.pending = s.pending ∧
    ((s.sec.lifecycle = .blank ∨ s.sec.lifecycle = .returned) → t.sec.debug = .full) ∧
    ((s.sec.lifecycle = .provisioned ∨ s.sec.lifecycle = .locked) → t.sec.debug = .off)

/-- For every protection table with eight ring entries of roles 0 to 3, four role entries of sixteen 16-bit masks and a 32-bit generation: reading the 192 bytes it is written as gives that table with its CRC. (R84, R85) -/
def Obligations.ProtectionTableRoundTrip : Prop :=
  ∀ t : ProtTable, t.generation < 2 ^ 32 → t.rings.length = 8 → (∀ e ∈ t.rings, e.role ≤ 3) → t.perms.length = 4 →
    (∀ p ∈ t.perms, p.length = 16 ∧ ∀ m ∈ p, m < 2 ^ 16) →
    t.encode.length = 192 ∧ ProtTable.decode t.encode = some { t with crc := t.crcOf }

/-- A block that the device encodes is a whole number of 4-byte words and at most 11 bytes longer than its raw bytes: 8 of header and 3 of padding. (R168, R172) -/
def Obligations.EncodedBlockBounded : Prop :=
  ∀ (h : ImageHeader) (n : Nat) (raw : List Byte),
    (encodeBlock h n raw).length % 4 = 0 ∧ (encodeBlock h n raw).length ≤ raw.length + 11

/-- For every image header of depth 8 or 16 with at least one channel, every block of it that is not empty and every raw content of that block's size: what the device's encoder stores, its decoder gives back, in each of the modes SOLID, CODED and RAW. (R169, R170, R171) -/
def Obligations.BlockRoundTrip : Prop :=
  ∀ (h : ImageHeader) (n : Nat) (raw : List Byte), (h.depth = 8 ∨ h.depth = 16) → 1 ≤ h.channels → h.channels ≤ 9 →
    raw.length = h.blockRaw n → raw ≠ [] → decodeBlock h n (encodeBlock h n raw) = some raw

/-- The conversions compute what R135 writes down, and a time given in seconds and nanoseconds comes back unchanged from the fraction that it converts to. (R135) -/
def Obligations.TimeConversion : Prop :=
  (∀ (sec : Int) (frac : Nat), frac < 2 ^ 32 →
    let ns := (frac * 1000000000 + 2 ^ 31) / 2 ^ 32
    toN30 (sec * 2 ^ 32 + frac) = if ns = 1000000000 then (sec + 1, 0) else (sec, ns)) ∧
  (∀ (sec : Int) (ns : Nat), ns < 1000000000 →
    (ns * 2 ^ 32 + 500000000) / 1000000000 < 2 ^ 32 ∧
    toF32 sec ns = sec * 2 ^ 32 + ((ns * 2 ^ 32 + 500000000) / 1000000000 : Nat) ∧ toN30 (toF32 sec ns) = (sec, ns))

/-- A write at an offset that Table 3-2 does not list as writable, or of a size other than 4 bytes, changes nothing; while READY is 0 the doorbells, the enables and resets of the rings and writes to their registers change nothing. A read at an offset that Table 3-2 does not list, of a size other than 4 bytes or not aligned reads 0, a doorbell reads 0, and DEV_ID reads part 0x8200, revision 0xA1 and protocol version 2. (R2, R8, R48, R49) -/
def Obligations.WritesThatAreIgnored : Prop :=
  ∀ (dt : Nat) (s₀ : State),
    let s := advance dt s₀
    (∀ off v, off < 0x4000 → (off % 4 ≠ 0 ∨ (off ∉ [0x10, 0x14, 0x18, 0x20, 0x24, 0x28] ∧ ¬(0x1000 ≤ off ∧ off < 0x1400) ∧ ¬(0x3000 ≤ off ∧ off < 0x3400))) →
      exec (.registerWrite dt off 4 v) s₀ = .next s) ∧
    (∀ off size v, off < 0x4000 → size ≠ 4 → exec (.registerWrite dt off size v) s₀ = .next s) ∧
    (s.hif.ready = false →
      (∀ n v, n < 8 → exec (.sqDb dt n v) s₀ = .next s ∧ exec (.cqDb dt n v) s₀ = .next s ∧ exec (.ringEnableSet dt n) s₀ = .next s ∧
        exec (.ringEnableClear dt n) s₀ = .next s ∧ exec (.ringReset dt n) s₀ = .next s) ∧
      (∀ v, exec (.evqDb dt v) s₀ = .next s) ∧
      (∀ off v, 0x1000 ≤ off → off < 0x1400 → exec (.registerWrite dt off 4 v) s₀ = .next s)) ∧
    (∀ off, off ∉ [0x00, 0x04, 0x10, 0x14, 0x18, 0x20, 0x24, 0x28, 0x2C, 0x30, 0x3800, 0x3804] → ¬(0x1000 ≤ off ∧ off < 0x1400) →
      ¬(0x3000 ≤ off ∧ off < 0x3400) → s.readRegister off 4 = 0) ∧
    (∀ n, n < 8 → s.readRegister (0x2000 + 8 * n) 4 = 0 ∧ s.readRegister (0x2004 + 8 * n) 4 = 0) ∧ s.readRegister 0x2040 4 = 0 ∧
    (∀ off size, size ≠ 4 ∨ off % 4 ≠ 0 → s.readRegister off size = 0) ∧
    (s.thm.power ≠ .p4 → s.readRegister 0 4 = 0x8200 + 0xA1 * 2 ^ 16 + 2 * 2 ^ 24 + 2 * 2 ^ 28)
end

