-- ==== Sys2Proof/Laws/Commands.lean ====
section
/-!
SUPPORT. What a host command's row answers: once for all commands, by where its checks stop.
-/
namespace Sys2Proof.Machine

/-- A command that starts is carried out on the state in which it is in flight. -/
theorem runCmd_starts {op : Nat} {check : Cmd → State → Option Reply} {effect : Cmd → State → Ans} {q : Cmd} {s : State}
    (h : Starts op q s = true) :
    runCmd op check effect q s = .next (carryOut op check effect q ((advance q.dt s).onHif fun h =>
      { h with inflight := h.inflight ++ [{ cmd := q, opcode := op }] })) := by
  simp only [Starts, Bool.and_eq_true, decide_eq_true_eq, Option.isNone_iff_eq_none] at h
  obtain ⟨⟨⟨⟨h1, h2⟩, h3⟩, h4⟩, h5⟩ := h
  unfold runCmd launch
  simp [Nat.not_le.2 h1, h2, h3, h4, h5]

/-- A command that runs answers its effect on the state in which it has started. -/
theorem runCmd_runs {op : Nat} {check : Cmd → State → Option Reply} {effect : Cmd → State → Ans} {q : Cmd} {s : State}
    (h : Runs op check q s = true) : runCmd op check effect q s = .next ((effect q (s.begun op q)).left q) := by
  simp only [Runs, Bool.and_eq_true, Option.isNone_iff_eq_none, Bool.not_eq_true', Bool.or_eq_false_iff] at h
  obtain ⟨⟨⟨⟨h1, h0⟩, h2⟩, h3⟩, h4⟩ := h
  rw [runCmd_starts h1]
  unfold carryOut
  show Host.Outcome.next (match (flagFault q).or (check q (s.begun op q)) with
    | some r => _
    | none => _) = _
  rw [h0, h2]
  simp only [State.begun] at h2 h3 h4 ⊢
  simp only [h3, h4, Bool.or_self, Bool.false_eq_true, if_false]
  rfl

/-- A command that starts and fails the check of its flags, or one of its own, finishes with that check's reply. -/
theorem runCmd_rejects {op : Nat} {check : Cmd → State → Option Reply} {effect : Cmd → State → Ans} {q : Cmd} {s : State} {r : Reply}
    (h : Starts op q s = true) (hr : (flagFault q).or (check q (s.begun op q)) = some r) :
    runCmd op check effect q s = .next (finish q.id r (s.begun op q)) := by
  rw [runCmd_starts h]
  unfold carryOut
  show Host.Outcome.next (match (flagFault q).or (check q (s.begun op q)) with
    | some r => _
    | none => _) = _
  rw [hr]
  rfl

/-- A list of checks is passed where both its parts are; the first failure decides. -/
theorem firstFail_append (l r : List (Bool × Reply)) : firstFail (l ++ r) = (firstFail l).or (firstFail r) := by
  induction l with
  | nil => rfl
  | cons x l ih =>
    obtain ⟨b, y⟩ := x
    cases b
    · exact ih
    · rfl

end Sys2Proof.Machine
end

