-- ==== Sys2Proof/Laws/Fixed.lean ====
section
/-!
SUPPORT. The part of the state that almost nothing writes: the queue of rows, SCRATCH, the lifecycle and the fuses. One lemma for each
modifier; the lemmas of the operations stand in the files FixedA and on.
-/
namespace Sys2Proof.Machine

/-- The queue, SCRATCH, the lifecycle state and the one-time fuses. -/
def State.fixed (s : State) : List Instr × List Host.Cell × Lifecycle × Nat × List Bool :=
  (s.pending, s.store.scratch, s.sec.lifecycle, s.sec.svnMin, s.sec.fwRevoked)

/-- The state that a command's effect leaves. -/
def Ans.state (a : Ans) : State :=
  match a with
  | .done _ s => s
  | .wait s => s

@[simp] theorem Ans.state_done (r : Reply) (s : State) : (Ans.done r s).state = s := rfl
@[simp] theorem Ans.state_wait (s : State) : (Ans.wait s).state = s := rfl

@[simp] theorem Ans.state_ite (c : Prop) [Decidable c] (a b : Ans) : (if c then a else b).state = if c then a.state else b.state := by
  split <;> rfl

@[simp] theorem fixed_ite (c : Prop) [Decidable c] (a b : State) : (if c then a else b).fixed = if c then a.fixed else b.fixed := by
  split <;> rfl

@[simp] theorem fixed_onHif (f : Hif → Hif) (s : State) : (s.onHif f).fixed = s.fixed := (rfl)
@[simp] theorem fixed_onNor (f : Nor → Nor) (s : State) : (s.onNor f).fixed = s.fixed := (rfl)
@[simp] theorem fixed_onPos (f : Pos → Pos) (s : State) : (s.onPos f).fixed = s.fixed := (rfl)
@[simp] theorem fixed_onTim (f : Tim → Tim) (s : State) : (s.onTim f).fixed = s.fixed := (rfl)
@[simp] theorem fixed_onCps (f : Compose → Compose) (s : State) : (s.onCps f).fixed = s.fixed := (rfl)
@[simp] theorem fixed_onBars (f : Bars → Bars) (s : State) : (s.onBars f).fixed = s.fixed := (rfl)
@[simp] theorem fixed_onFire (f : Fire → Fire) (s : State) : (s.onFire f).fixed = s.fixed := (rfl)
@[simp] theorem fixed_onLinks (f : Links → Links) (s : State) : (s.onLinks f).fixed = s.fixed := (rfl)
@[simp] theorem fixed_onCam (f : Cam → Cam) (s : State) : (s.onCam f).fixed = s.fixed := (rfl)
@[simp] theorem fixed_onClr (f : Colour → Colour) (s : State) : (s.onClr f).fixed = s.fixed := (rfl)
@[simp] theorem fixed_onThm (f : Thermal → Thermal) (s : State) : (s.onThm f).fixed = s.fixed := (rfl)
@[simp] theorem fixed_onPair (f : PairUnit → PairUnit) (s : State) : (s.onPair f).fixed = s.fixed := (rfl)
@[simp] theorem fixed_onStat (f : Stat → Stat) (s : State) : (s.onStat f).fixed = s.fixed := (rfl)
@[simp] theorem fixed_onBoard (f : Board → Board) (s : State) : (s.onBoard f).fixed = s.fixed := (rfl)
@[simp] theorem fixed_emit (o : Output) (s : State) : (s.emit o).fixed = s.fixed := (rfl)
@[simp] theorem fixed_emits (os : List Output) (s : State) : (s.emits os).fixed = s.fixed := (rfl)
@[simp] theorem fixed_setFree (n : Nat) (s : State) : ({ s with free := n } : State).fixed = s.fixed := (rfl)
@[simp] theorem fixed_useFree (s : State) : s.useFree.fixed = s.fixed := (rfl)

@[simp] theorem fixed_onSec (f : Sec → Sec) (s : State)
    (h : ∀ c, (f c).lifecycle = c.lifecycle ∧ (f c).svnMin = c.svnMin ∧ (f c).fwRevoked = c.fwRevoked) : (s.onSec f).fixed = s.fixed := by
  simp [State.fixed, State.onSec, h]

@[simp] theorem fixed_onStore (f : Store → Store) (s : State) (h : ∀ m, (f m).scratch = m.scratch) : (s.onStore f).fixed = s.fixed := by
  simp [State.fixed, State.onStore, h]

/-- A fold of steps that leave the fixed part leaves it. -/
@[simp] theorem fixed_foldl {α : Type} (g : State → α → State) (h : ∀ s a, (g s a).fixed = s.fixed) (l : List α) (s : State) :
    (l.foldl g s).fixed = s.fixed := by
  induction l generalizing s with
  | nil => rfl
  | cons a l ih => simp [List.foldl, ih, h]

/-- The same where the fold carries the state as the first of a pair. -/
theorem fixed_foldl_fst {α β : Type} (g : State × β → α → State × β) (h : ∀ x a, (g x a).1.fixed = x.1.fixed) (l : List α) (x : State × β) :
    (l.foldl g x).1.fixed = x.1.fixed := by
  induction l generalizing x with
  | nil => rfl
  | cons a l ih => simp [List.foldl, ih, h]

/-- The same where the fold carries the state as the second of a pair. -/
theorem fixed_foldl_snd {α β : Type} (g : β × State → α → β × State) (h : ∀ x a, (g x a).2.fixed = x.2.fixed) (l : List α) (x : β × State) :
    (l.foldl g x).2.fixed = x.2.fixed := by
  induction l generalizing x with
  | nil => rfl
  | cons a l ih => simp [List.foldl, ih, h]

end Sys2Proof.Machine
end

