-- ==== Sys2Proof/Laws/FixedA.lean ====
section
/-!
SUPPORT. What leaves the queue, SCRATCH, the lifecycle state and the fuses as they were: the operations of Machine/Ops, Events, Upset, LinkOps, Complete, Dma, Hif, Stat.
-/
namespace Sys2Proof.Machine

@[simp] theorem fixed_State_onRing (n : Nat) (f : Ring → Ring) (s : State) : (State.onRing n f s).fixed = s.fixed := by
  unfold State.onRing
  repeat' (first | (simp; done) | split | simp)

@[simp] theorem fixed_advance (n : Nat) (s : State) : (advance n s).fixed = s.fixed := by
  unfold advance
  repeat' (first | (simp; done) | split | simp)

@[simp] theorem fixed_State_onRec (f : Record → Record) (s : State) : (State.onRec f s).fixed = s.fixed := by
  unfold State.onRec
  repeat' (first | (simp; done) | split | simp)

@[simp] theorem fixed_bump (k : Nat) (n : Int) (s : State) : (bump k n s).fixed = s.fixed := by
  unfold bump
  repeat' (first | (simp; done) | split | simp)

@[simp] theorem fixed_bumpMax (k : Nat) (v : Int) (s : State) : (bumpMax k v s).fixed = s.fixed := by
  unfold bumpMax
  repeat' (first | (simp; done) | split | simp)

@[simp] theorem fixed_noteAdj (s : State) : (noteAdj s).fixed = s.fixed := by
  unfold noteAdj
  repeat' (first | (simp; done) | split | simp)

@[simp] theorem fixed_bumpMin (k : Nat) (v : Int) (s : State) : (bumpMin k v s).fixed = s.fixed := by
  unfold bumpMin
  repeat' (first | (simp; done) | split | simp)

@[simp] theorem fixed_sendVector (v : Nat) (s : State) : (sendVector v s).fixed = s.fixed := by
  unfold sendVector
  repeat' (first | (simp; done) | split | simp)

@[simp] theorem fixed_State_onVec (v : Nat) (f : EvVec → EvVec) (s : State) : (State.onVec v f s).fixed = s.fixed := by
  unfold State.onVec
  repeat' (first | (simp; done) | split | simp)

@[simp] theorem fixed_flushEvVec (v : Nat) (s : State) : (flushEvVec v s).fixed = s.fixed := by
  unfold flushEvVec
  repeat' (first | (simp; done) | split | simp)

@[simp] theorem fixed_raiseEvVec (v : Nat) (critical : Bool) (s : State) : (raiseEvVec v critical s).fixed = s.fixed := by
  unfold raiseEvVec
  repeat' (first | (simp; done) | split | simp)

@[simp] theorem fixed_writeEntry (e : Event) (s : State) : (writeEntry e s).fixed = s.fixed := by
  unfold writeEntry
  repeat' (first | (simp; done) | split | simp)

@[simp] theorem fixed_loseEntry (e : Event) (s : State) : (loseEntry e s).fixed = s.fixed := by
  unfold loseEntry
  repeat' (first | (simp; done) | split | simp)

@[simp] theorem fixed_toHistory (e : Event) (s : State) : (toHistory e s).fixed = s.fixed := by
  unfold toHistory
  repeat' (first | (simp; done) | split | simp)

@[simp] theorem fixed_reportLost (s : State) : (reportLost s).fixed = s.fixed := by
  unfold reportLost
  repeat' (first | (simp; done) | split | simp)

@[simp] theorem fixed_postEntry (e : Event) (s : State) : (postEntry e s).fixed = s.fixed := by
  unfold postEntry
  repeat' (first | (simp; done) | split | simp)

@[simp] theorem fixed_post (code : Nat) (source : Nat) (p1 : Nat) (p2 : Nat) (s : State) : (post code source p1 p2 s).fixed = s.fixed := by
  unfold post
  repeat' (first | (simp; done) | split | simp)

@[simp] theorem fixed_postKeyed (code : Nat) (key : Nat) (unit : Nat) (p1 : Nat) (p2 : Nat) (n : Nat) (den : Nat) (sum : Bool) (s : State) : (postKeyed code key unit p1 p2 n den sum s).fixed = s.fixed := by
  unfold postKeyed
  repeat' (first | (simp; done) | split | simp)

@[simp] theorem fixed_postLimited (code : Nat) (unit : Nat) (p1 : Nat) (p2 : Nat) (n : Nat) (den : Nat) (sum : Bool) (s : State) : (postLimited code unit p1 p2 n den sum s).fixed = s.fixed := by
  unfold postLimited
  repeat' (first | (simp; done) | split | simp)

@[simp] theorem fixed_postOnceKey (code : Nat) (key : Nat) (unit : Nat) (p1 : Nat) (p2 : Nat) (s : State) : (postOnceKey code key unit p1 p2 s).fixed = s.fixed := by
  unfold postOnceKey
  repeat' (first | (simp; done) | split | simp)

@[simp] theorem fixed_postOnceFrame (code : Nat) (unit : Nat) (p1 : Nat) (p2 : Nat) (s : State) : (postOnceFrame code unit p1 p2 s).fixed = s.fixed := by
  unfold postOnceFrame
  repeat' (first | (simp; done) | split | simp)

@[simp] theorem fixed_doom (u : Nat) (criterion : Nat) (s : State) : (doom u criterion s).fixed = s.fixed := by
  unfold doom
  repeat' (first | (simp; done) | split | simp)

@[simp] theorem fixed_upset (u : Nat) (s : State) : (upset u s).fixed = s.fixed := by
  unfold upset
  repeat' (first | (simp; done) | split | simp)

@[simp] theorem fixed_lockLoss (u : Nat) (s : State) : (lockLoss u s).fixed = s.fixed := by
  unfold lockLoss
  repeat' (first | (simp; done) | split | simp)

@[simp] theorem fixed_State_onCourse (l : Nat) (f : Course → Course) (s : State) : (State.onCourse l f s).fixed = s.fixed := by
  unfold State.onCourse
  repeat' (first | (simp; done) | split | simp)

@[simp] theorem fixed_State_onLane (n : Nat) (f : Lane → Lane) (s : State) : (State.onLane n f s).fixed = s.fixed := by
  unfold State.onLane
  repeat' (first | (simp; done) | split | simp)

@[simp] theorem fixed_sendBlock (n : Nat) (b : Blk) (s : State) : (sendBlock n b s).fixed = s.fixed := by
  unfold sendBlock
  repeat' (first | (simp; done) | split | simp)

@[simp] theorem fixed_idleInjects (s : State) (n : Nat) : (idleInjects s n).fixed = s.fixed := by
  unfold idleInjects
  repeat' (first | (simp; done) | split | simp)

@[simp] theorem fixed_beginPacket (l : Nat) (p : OutPacket) (s : State) : (beginPacket l p s).1.fixed = s.fixed := by
  unfold beginPacket
  simp

theorem fixed_pumpOne {l : Nat} {s t : State} (h : pumpOne l s = some t) : t.fixed = s.fixed := by
  unfold pumpOne at h
  dsimp only at h
  split at h
  · cases h
  · split at h
    · cases h; simp
    · split at h <;> (cases h; simp only [Option.elim]; repeat' (first | (simp; done) | split))

theorem fixed_pumpGo (l n : Nat) (s : State) : (pumpGo l n s).fixed = s.fixed := by
  induction n generalizing s with
  | zero => rfl
  | succ n ih =>
    unfold pumpGo
    split
    · rfl
    · rename_i h; rw [ih, fixed_pumpOne h]

@[simp] theorem fixed_pump (l : Nat) (s : State) : (pump l s).fixed = s.fixed := by
  unfold pump
  simp [fixed_pumpGo]

@[simp] theorem fixed_putOut (l : Nat) (p : OutPacket) (s : State) : (putOut l p s).fixed = s.fixed := by
  unfold putOut
  repeat' (first | (simp; done) | split | simp)

@[simp] theorem fixed_sendLink (l : Nat) (kind : Nat) (arg : Nat) (s : State) : (sendLink l kind arg s).fixed = s.fixed := by
  unfold sendLink
  repeat' (first | (simp; done) | split | simp)

@[simp] theorem fixed_sendPacket (l : Nat) (k : Cls) (p : SentPacket) (timing : Option Nat) (s : State) : (sendPacket l k p timing s).fixed = s.fixed := by
  unfold sendPacket
  repeat' (first | (simp; done) | split | simp)

@[simp] theorem fixed_transmit (l : Nat) (k : Cls) (kind : Nat) (bytes : List Byte) (stomped : Bool) (s : State) : (transmit l k kind bytes stomped s).fixed = s.fixed := by
  unfold transmit
  repeat' (first | (simp; done) | split | simp)

@[simp] theorem fixed_drainGo (l : Nat) (ws kept : List (Cls × Nat × List Byte)) (s : State) : (drainGo l ws kept s).fixed = s.fixed := by
  induction ws generalizing kept s with
  | nil => simp [drainGo]
  | cons w ws ih => obtain ⟨k, kind, bytes⟩ := w; unfold drainGo; split <;> simp [ih]

@[simp] theorem fixed_drain (l : Nat) (s : State) : (drain l s).fixed = s.fixed := by
  exact fixed_drainGo l _ _ s

@[simp] theorem fixed_sendOn (l : Nat) (k : Cls) (kind : Nat) (bytes : List Byte) (s : State) : (sendOn l k kind bytes s).fixed = s.fixed := by
  unfold sendOn
  repeat' (first | (simp; done) | split | simp)

@[simp] theorem fixed_sendCtrl (l : Nat) (ctype : Nat) (bytes : List Byte) (s : State) : (sendCtrl l ctype bytes s).fixed = s.fixed := by
  unfold sendCtrl
  repeat' (first | (simp; done) | split | simp)

@[simp] theorem fixed_pushPrio (l : Nat) (es : List PrioEntry) (s : State) : (pushPrio l es s).fixed = s.fixed := by
  unfold pushPrio
  repeat' (first | (simp; done) | split | simp)

@[simp] theorem fixed_checkMarks (l : Nat) (s : State) : (checkMarks l s).fixed = s.fixed := by
  unfold checkMarks
  repeat' (first | (simp; done) | split | simp)

@[simp] theorem fixed_State_onFlying (id : CmdId) (f : InFlight → InFlight) (s : State) : (State.onFlying id f s).fixed = s.fixed := by
  unfold State.onFlying
  repeat' (first | (simp; done) | split | simp)

@[simp] theorem fixed_hold (q : Cmd) (rs : List Resource) (abortable : Bool) (s : State) : (hold q rs abortable s).fixed = s.fixed := by
  unfold hold
  repeat' (first | (simp; done) | split | simp)

@[simp] theorem fixed_setAbortable (id : CmdId) (b : Bool) (s : State) : (setAbortable id b s).fixed = s.fixed := by
  unfold setAbortable
  repeat' (first | (simp; done) | split | simp)

@[simp] theorem fixed_raiseRing (n : Nat) (s : State) : (raiseRing n s).fixed = s.fixed := by
  unfold raiseRing
  repeat' (first | (simp; done) | split | simp)

@[simp] theorem fixed_writeCompletion (n : Nat) (opcode : Nat) (q : Cmd) (r : Reply) (s : State) : (writeCompletion n opcode q r s).fixed = s.fixed := by
  unfold writeCompletion
  repeat' (first | (simp; done) | split | simp)

@[simp] theorem fixed_sendDatagram (to_ : EthFrom) (bytes : List Byte) (s : State) : (sendDatagram to_ bytes s).fixed = s.fixed := by
  unfold sendDatagram
  repeat' (first | (simp; done) | split | simp)

@[simp] theorem fixed_keepReply (opcode : Nat) (q : Cmd) (r : Reply) (s : State) : (keepReply opcode q r s).fixed = s.fixed := by
  unfold keepReply
  repeat' (first | (simp; done) | split | simp)

@[simp] theorem fixed_deliverTo (opcode : Nat) (q : Cmd) (r : Reply) (s : State) : (deliverTo opcode q r s).fixed = s.fixed := by
  unfold deliverTo
  repeat' (first | (simp; done) | split | simp)

@[simp] theorem fixed_setPair (p : PairState) (s : State) : (setPair p s).fixed = s.fixed := by
  unfold setPair
  repeat' (first | (simp; done) | split | simp)

@[simp] theorem fixed_restartJoin (s : State) : (restartJoin s).fixed = s.fixed := by
  unfold restartJoin
  repeat' (first | (simp; done) | split | simp)

@[simp] theorem fixed_pairSend (k : Cls) (ptype : Nat) (content : List Byte) (s : State) : (pairSend k ptype content s).fixed = s.fixed := by
  unfold pairSend
  repeat' (first | (simp; done) | split | simp)

@[simp] theorem fixed_sendRecord (cmd : Option CmdId) (ring : Nat) (tag : Nat) (cmdSeq : Nat) (content : List Byte) (s : State) : (sendRecord cmd ring tag cmdSeq content s).fixed = s.fixed := by
  unfold sendRecord
  repeat' (first | (simp; done) | split | simp)

@[simp] theorem fixed_stateRecord (content : List Byte) (s : State) : (stateRecord content s).fixed = s.fixed := by
  unfold stateRecord
  repeat' (first | (simp; done) | split | simp)

@[simp] theorem fixed_mirrorJob (id : Nat) (s : State) : (mirrorJob id s).fixed = s.fixed := by
  unfold mirrorJob
  repeat' (first | (simp; done) | split | simp)

@[simp] theorem fixed_mirrorAfter (op : Nat) (q : Cmd) (s : State) : (mirrorAfter op q s).fixed = s.fixed := by
  unfold mirrorAfter
  repeat' (first | (simp; done) | split | simp)

@[simp] theorem fixed_settleFloor (s : State) : (settleFloor s).fixed = s.fixed := by
  unfold settleFloor
  repeat' (first | (simp; done) | split | simp)

@[simp] theorem fixed_orderFloor (s : State) : (orderFloor s).fixed = s.fixed := by
  unfold orderFloor
  repeat' (first | (simp; done) | split | simp)

@[simp] theorem fixed_remember (e : InFlight) (s : State) : (remember e s).fixed = s.fixed := by
  unfold remember
  repeat' (first | (simp; done) | split | simp)

@[simp] theorem fixed_deliver (id : CmdId) (r : Reply) (s : State) : (deliver id r s).fixed = s.fixed := by
  unfold deliver
  repeat' (first | (simp; done) | split | simp)

@[simp] theorem fixed_finish (id : CmdId) (r : Reply) (s : State) : (finish id r s).fixed = s.fixed := by
  unfold finish
  repeat' (first | (simp; done) | split | simp)

@[simp] theorem fixed_finishAll (ids : List CmdId) (r : Reply) (s : State) : (finishAll ids r s).fixed = s.fixed := by
  unfold finishAll
  repeat' (first | (simp; done) | split | simp)

@[simp] theorem fixed_tagInFlight (op : Nat) (q : Cmd) (s : State) : (tagInFlight op q s).fixed = s.fixed := by
  unfold tagInFlight
  repeat' (first | (simp; done) | split | simp)

@[simp] theorem fixed_startRead (q : Cmd) (countOff : Nat) (r : Reply) (bytes : List Byte) (s : State) : (startRead q countOff r bytes s).state.fixed = s.fixed := by
  unfold startRead
  repeat' (first | (simp; done) | split | simp)

@[simp] theorem fixed_endRead (id : CmdId) (out : List Desc × List Byte) (s : State) : (endRead id out s).fixed = s.fixed := by
  unfold endRead
  repeat' (first | (simp; done) | split | simp)

@[simp] theorem fixed_haltRing (n : Nat) (reason : Nat) (s : State) : (haltRing n reason s).fixed = s.fixed := by
  unfold haltRing
  repeat' (first | (simp; done) | split | simp)

@[simp] theorem fixed_writeSqDb (n : Nat) (v : Nat) (s : State) : (writeSqDb n v s).fixed = s.fixed := by
  unfold writeSqDb
  repeat' (first | (simp; done) | split | simp)

@[simp] theorem fixed_writeCqDb (n : Nat) (v : Nat) (s : State) : (writeCqDb n v s).fixed = s.fixed := by
  unfold writeCqDb
  repeat' (first | (simp; done) | split | simp)

@[simp] theorem fixed_writeEvqDb (v : Nat) (s : State) : (writeEvqDb v s).fixed = s.fixed := by
  unfold writeEvqDb
  repeat' (first | (simp; done) | split | simp)

@[simp] theorem fixed_enableRing (n : Nat) (s : State) : (enableRing n s).fixed = s.fixed := by
  unfold enableRing
  repeat' (first | (simp; done) | split | simp)

@[simp] theorem fixed_resetRing (n : Nat) (s : State) : (resetRing n s).fixed = s.fixed := by
  unfold resetRing
  repeat' (first | (simp; done) | split | simp)

@[simp] theorem fixed_enableEvq (s : State) : (enableEvq s).fixed = s.fixed := by
  unfold enableEvq
  repeat' (first | (simp; done) | split | simp)

@[simp] theorem fixed_denyWindow (s : State) : (denyWindow s).fixed = s.fixed := by
  unfold denyWindow
  repeat' (first | (simp; done) | split | simp)

@[simp] theorem fixed_writeRingReg (n : Nat) (off : Nat) (v : Nat) (s : State) : (writeRingReg n off v s).fixed = s.fixed := by
  unfold writeRingReg
  repeat' (first | (simp; done) | split | simp)

@[simp] theorem fixed_writeMsix (i : Nat) (v : Nat) (s : State) : (writeMsix i v s).fixed = s.fixed := by
  unfold writeMsix
  repeat' (first | (simp; done) | split | simp)

@[simp] theorem fixed_writeRegister (off : Nat) (v : Nat) (s : State) : (writeRegister off v s).fixed = s.fixed := by
  unfold writeRegister
  repeat' (first | (simp; done) | split | simp)

@[simp] theorem fixed_bumpTime (key : Nat) (since : Option Int) (s : State) : (bumpTime key since s).fixed = s.fixed := by
  unfold bumpTime
  repeat' (first | (simp; done) | split | simp)

@[simp] theorem fixed_settleTimes (s : State) : (settleTimes s).fixed = s.fixed := by
  unfold settleTimes
  repeat' (first | (simp; done) | split | simp)

@[simp] theorem fixed_openRecord (r : Record) (s : State) : (openRecord r s).fixed = s.fixed := by
  unfold openRecord
  repeat' (first | (simp; done) | split | simp)

@[simp] theorem fixed_ringPoisoned (s : State) : (ringPoisoned s).fixed = s.fixed := by
  unfold ringPoisoned
  repeat' (first | (simp; done) | split | simp)

@[simp] theorem fixed_closeRecord (flags : Nat) (next : Record) (s : State) : (closeRecord flags next s).fixed = s.fixed := by
  unfold closeRecord
  repeat' (first | (simp; done) | split | simp)

@[simp] theorem fixed_setFor (frame : Nat) (key : Nat) (v : Int) (s : State) : (setFor frame key v s).fixed = s.fixed := by
  unfold setFor
  repeat' (first | (simp; done) | split | simp)

@[simp] theorem fixed_addFor (frame : Nat) (key : Nat) (n : Int) (s : State) : (addFor frame key n s).fixed = s.fixed := by
  unfold addFor
  repeat' (first | (simp; done) | split | simp)

@[simp] theorem fixed_statFrameRecordEffect (q : Cmd) (s : State) : (statFrameRecordEffect q s).state.fixed = s.fixed := by
  unfold statFrameRecordEffect
  repeat' (first | (simp; done) | split | simp)

@[simp] theorem fixed_statCountersEffect (q : Cmd) (s : State) : (statCountersEffect q s).state.fixed = s.fixed := by
  unfold statCountersEffect
  repeat' (first | (simp; done) | split | simp)

@[simp] theorem fixed_statClearEffect (q : Cmd) (s : State) : (statClearEffect q s).state.fixed = s.fixed := by
  unfold statClearEffect
  repeat' (first | (simp; done) | split | simp)

@[simp] theorem fixed_statEventMaskEffect (q : Cmd) (s : State) : (statEventMaskEffect q s).state.fixed = s.fixed := by
  unfold statEventMaskEffect
  repeat' (first | (simp; done) | split | simp)

@[simp] theorem fixed_statEventFetchEffect (q : Cmd) (s : State) : (statEventFetchEffect q s).state.fixed = s.fixed := by
  unfold statEventFetchEffect
  repeat' (first | (simp; done) | split | simp)

@[simp] theorem fixed_clearSticky (s : State) (u : Nat) : (clearSticky s u).fixed = s.fixed := by
  unfold clearSticky
  repeat' (first | (simp; done) | split | simp)

@[simp] theorem fixed_statPeaksEffect (q : Cmd) (s : State) : (statPeaksEffect q s).state.fixed = s.fixed := by
  unfold statPeaksEffect
  repeat' (first | (simp; done) | split | simp)

end Sys2Proof.Machine
end

