-- ==== Sys2Proof/Laws/FixedB.lean ====
section
/-!
SUPPORT. What leaves the queue, SCRATCH, the lifecycle state and the fuses as they were: the operations of Machine/Store, Slot, Ceiling, Link, FireOps.
-/
namespace Sys2Proof.Machine

@[simp] theorem fixed_checkLow (s : State) : (checkLow s).fixed = s.fixed := by
  unfold checkLow
  repeat' (first | (simp; done) | split | simp)

@[simp] theorem fixed_State_onJob (id : Nat) (f : Job → Job) (s : State) : (State.onJob id f s).fixed = s.fixed := by
  unfold State.onJob
  repeat' (first | (simp; done) | split | simp)

@[simp] theorem fixed_addJob (j : Job) (s : State) : (addJob j s).fixed = s.fixed := by
  unfold addJob
  repeat' (first | (simp; done) | split | simp)

@[simp] theorem fixed_dropJob (id : Nat) (s : State) : (dropJob id s).fixed = s.fixed := by
  unfold dropJob
  repeat' (first | (simp; done) | split | simp)

@[simp] theorem fixed_damageJob (id : Nat) (cause : Nat) (s : State) : (damageJob id cause s).fixed = s.fixed := by
  unfold damageJob
  repeat' (first | (simp; done) | split | simp)

@[simp] theorem fixed_notePage (s : State) : (notePage s).fixed = s.fixed := by
  unfold notePage
  repeat' (first | (simp; done) | split | simp)

@[simp] theorem fixed_newSpare (s : State) : (newSpare s).fixed = s.fixed := by
  unfold newSpare
  repeat' (first | (simp; done) | split | simp)

@[simp] theorem fixed_retirePage (line : Nat) (criterion : Nat) (owner : Owner) (s : State) : (retirePage line criterion owner s).fixed = s.fixed := by
  unfold retirePage
  repeat' (first | (simp; done) | split | simp)

@[simp] theorem fixed_correctedLine (line : Nat) (owner : Owner) (s : State) : (correctedLine line owner s).fixed = s.fixed := by
  unfold correctedLine
  repeat' (first | (simp; done) | split | simp)

@[simp] theorem fixed_poisonRing (line : Nat) (s : State) : (poisonRing line s).fixed = s.fixed := by
  unfold poisonRing
  repeat' (first | (simp; done) | split | simp)

@[simp] theorem fixed_uncorrectableLine (line : Nat) (owner : Owner) (s : State) : (uncorrectableLine line owner s).fixed = s.fixed := by
  unfold uncorrectableLine
  repeat' (first | (simp; done) | split | simp)

@[simp] theorem fixed_memoryRead (line : Nat) (owner : Owner) (ecc : EccResult) (s : State) : (memoryRead line owner ecc s).fixed = s.fixed := by
  unfold memoryRead
  repeat' (first | (simp; done) | split | simp)

@[simp] theorem fixed_badBlock (job : Nat) (obj : Nat) (block : Nat) (s : State) : (badBlock job obj block s).fixed = s.fixed := by
  unfold badBlock
  repeat' (first | (simp; done) | split | simp)

@[simp] theorem fixed_jobLoadEffect (q : Cmd) (s : State) : (jobLoadEffect q s).state.fixed = s.fixed := by
  unfold jobLoadEffect
  repeat' (first | (simp; done) | split | simp)

@[simp] theorem fixed_jobEncodeEffect (q : Cmd) (s : State) : (jobEncodeEffect q s).state.fixed = s.fixed := by
  unfold jobEncodeEffect
  repeat' (first | (simp; done) | split | simp)

@[simp] theorem fixed_dropLoad (id : Nat) (s : State) : (dropLoad id s).fixed = s.fixed := by
  unfold dropLoad
  repeat' (first | (simp; done) | split | simp)

@[simp] theorem fixed_failLoad (id : Nat) (cmd : CmdId) (r : Reply) (s : State) : (failLoad id cmd r s).fixed = s.fixed := by
  unfold failLoad
  repeat' (first | (simp; done) | split | simp)

@[simp] theorem fixed_readyJob (id : Nat) (cmd : CmdId) (bytes : List Byte) (s : State) : (readyJob id cmd bytes s).fixed = s.fixed := by
  unfold readyJob
  repeat' (first | (simp; done) | split | simp)

@[simp] theorem fixed_loadDone (q : Cmd) (id : Nat) (l : LoadKind) (s : State) : (loadDone q id l s).fixed = s.fixed := by
  unfold loadDone
  repeat' (first | (simp; done) | split | simp)

@[simp] theorem fixed_encodeDone (q : Cmd) (id : Nat) (l : LoadKind) (glitches : Nat) (mismatch : Option Nat) (s : State) : (encodeDone q id l glitches mismatch s).fixed = s.fixed := by
  unfold encodeDone
  repeat' (first | (simp; done) | split | simp)

@[simp] theorem fixed_readDone (q : Cmd) (lost : List Nat) (s : State) : (readDone q lost s).fixed = s.fixed := by
  unfold readDone
  repeat' (first | (simp; done) | split | simp)

@[simp] theorem fixed_jobReadEffect (q : Cmd) (s : State) : (jobReadEffect q s).state.fixed = s.fixed := by
  unfold jobReadEffect
  repeat' (first | (simp; done) | split | simp)

@[simp] theorem fixed_jobDeleteEffect (q : Cmd) (s : State) : (jobDeleteEffect q s).state.fixed = s.fixed := by
  unfold jobDeleteEffect
  repeat' (first | (simp; done) | split | simp)

@[simp] theorem fixed_jobListEffect (q : Cmd) (s : State) : (jobListEffect q s).state.fixed = s.fixed := by
  unfold jobListEffect
  repeat' (first | (simp; done) | split | simp)

@[simp] theorem fixed_jobInfoEffect (q : Cmd) (s : State) : (jobInfoEffect q s).state.fixed = s.fixed := by
  unfold jobInfoEffect
  repeat' (first | (simp; done) | split | simp)

@[simp] theorem fixed_jobStoreStatusEffect (q : Cmd) (s : State) : (jobStoreStatusEffect q s).state.fixed = s.fixed := by
  unfold jobStoreStatusEffect
  repeat' (first | (simp; done) | split | simp)

@[simp] theorem fixed_State_onCounter (ring : Nat) (role : Nat) (f : Counter → Counter) (s : State) : (State.onCounter ring role f s).fixed = s.fixed := by
  unfold State.onCounter
  repeat' (first | (simp; done) | split | simp)

@[simp] theorem fixed_journal (j : JournalItem) (s : State) : (journal j s).fixed = s.fixed := by
  unfold journal
  repeat' (first | (simp; done) | split | simp)

@[simp] theorem fixed_acceptCounter (ring : Nat) (role : Nat) (c : Nat) (s : State) : (acceptCounter ring role c s).2.fixed = s.fixed := by
  unfold acceptCounter
  repeat' (first | (simp; done) | split | simp)

@[simp] theorem fixed_authReject (ring : Nat) (replay : Bool) (s : State) : (authReject ring replay s).fixed = s.fixed := by
  unfold authReject
  repeat' (first | (simp; done) | split | simp)

@[simp] theorem fixed_authenticate (b : List Byte) (ring : Nat) (pblk : List Byte) (mustAuth : Bool) (s : State) : (authenticate b ring pblk mustAuth s).2.fixed = s.fixed := by
  unfold authenticate
  repeat' (first | (simp; done) | split | simp)

@[simp] theorem fixed_park (b : List Byte) (ring : Nat) (q : Cmd) (s : State) : (park b ring q s).fixed = s.fixed := by
  unfold park
  repeat' (first | (simp; done) | split | simp)

@[simp] theorem fixed_dropDatagram (port : Nat) (s : State) : (dropDatagram port s).fixed = s.fixed := by
  unfold dropDatagram
  repeat' (first | (simp; done) | split | simp)

@[simp] theorem fixed_failAnswer (port : Nat) (op : Nat) (q : Cmd) (r : Reply) (s : State) : (failAnswer port op q r s).fixed = s.fixed := by
  unfold failAnswer
  repeat' (first | (simp; done) | split | simp)

@[simp] theorem fixed_reportGroups (port : Nat) (s : State) : (reportGroups port s).fixed = s.fixed := by
  unfold reportGroups
  repeat' (first | (simp; done) | split | simp)

@[simp] theorem fixed_linkEthConfigEffect (q : Cmd) (s : State) : (linkEthConfigEffect q s).state.fixed = s.fixed := by
  unfold linkEthConfigEffect
  repeat' (first | (simp; done) | split | simp)

@[simp] theorem fixed_ethRetrained (port : Nat) (up : Bool) (s : State) : (ethRetrained port up s).fixed = s.fixed := by
  unfold ethRetrained
  extract_lets p put s1 s2
  have h : ∀ f t, (put f t).fixed = t.fixed := fun f t => by unfold put; simp
  have h2 : s2.fixed = s.fixed := by unfold s2 s1; rw [fixed_foldl _ (by intros; exact fixed_emit _ _)]; simp [h]
  repeat' (first | rfl | exact h2 | split | simp [h, h2])

@[simp] theorem fixed_State_onBar (b : Nat) (f : Bar → Bar) (s : State) : (State.onBar b f s).fixed = s.fixed := by
  unfold State.onBar
  repeat' (first | (simp; done) | split | simp)

@[simp] theorem fixed_State_onCtx (h : Nat) (f : HeadCtx → HeadCtx) (s : State) : (State.onCtx h f s).fixed = s.fixed := by
  unfold State.onCtx
  repeat' (first | (simp; done) | split | simp)

@[simp] theorem fixed_State_onRun (f : Run → Run) (s : State) : (State.onRun f s).fixed = s.fixed := by
  unfold State.onRun
  repeat' (first | (simp; done) | split | simp)

@[simp] theorem fixed_setLimit (on : Bool) (ceiling : Nat) (s : State) : (setLimit on ceiling s).fixed = s.fixed := by
  unfold setLimit
  repeat' (first | (simp; done) | split | simp)

@[simp] theorem fixed_checkLimit (s : State) : (checkLimit s).fixed = s.fixed := by
  unfold checkLimit
  repeat' (first | (simp; done) | split | simp)

@[simp] theorem fixed_sendClaim (l : Nat) (epoch : Nat) (planned : Option Nat) (again : Bool) (s : State) : (sendClaim l epoch planned again s).fixed = s.fixed := by
  unfold sendClaim
  repeat' (first | (simp; done) | split | simp)

@[simp] theorem fixed_sendMgmt (l : Nat) (w : MgmtWait) (msg : List Byte) (s : State) : (sendMgmt l w msg s).fixed = s.fixed := by
  unfold sendMgmt
  repeat' (first | (simp; done) | split | simp)

@[simp] theorem fixed_askMir (l : Nat) (kind : Nat) (cmd : CmdId) (slot : Nat) (part : List Byte) (s : State) : (askMir l kind cmd slot part s).fixed = s.fixed := by
  unfold askMir
  repeat' (first | (simp; done) | split | simp)

@[simp] theorem fixed_refreshMirs (l : Nat) (s : State) : (refreshMirs l s).fixed = s.fixed := by
  unfold refreshMirs
  repeat' (first | (simp; done) | split | simp)

@[simp] theorem fixed_startTrain (l : Nat) (cmd : Option CmdId) (noClaim : Bool) (s : State) : (startTrain l cmd noClaim s).fixed = s.fixed := by
  unfold startTrain
  repeat' (first | (simp; done) | split | simp)

@[simp] theorem fixed_failTrain (l : Nat) (r : Reply) (s : State) : (failTrain l r s).fixed = s.fixed := by
  unfold failTrain
  repeat' (first | (simp; done) | split | simp)

@[simp] theorem fixed_courseUp (l : Nat) (s : State) : (courseUp l s).fixed = s.fixed := by
  unfold courseUp
  repeat' (first | (simp; done) | split | simp)

@[simp] theorem fixed_trainStep (l : Nat) (n : Nat) (s : State) : (trainStep l n s).fixed = s.fixed := by
  unfold trainStep
  repeat' (first | (simp; done) | split | simp)

@[simp] theorem fixed_trainClaim (l : Nat) (s : State) : (trainClaim l s).fixed = s.fixed := by
  unfold trainClaim
  repeat' (first | (simp; done) | split | simp)

@[simp] theorem fixed_sendPairHello (s : State) : (sendPairHello s).fixed = s.fixed := by
  unfold sendPairHello
  repeat' (first | (simp; done) | split | simp)

@[simp] theorem fixed_trainLanesDone (l : Nat) (s : State) : (trainLanesDone l s).fixed = s.fixed := by
  unfold trainLanesDone
  repeat' (first | (simp; done) | split | simp)

@[simp] theorem fixed_trainLook (l : Nat) (s : State) : (trainLook l s).fixed = s.fixed := by
  unfold trainLook
  repeat' (first | (simp; done) | split | simp)

@[simp] theorem fixed_checkCourseDown (l : Nat) (s : State) : (checkCourseDown l s).fixed = s.fixed := by
  unfold checkCourseDown
  repeat' (first | (simp; done) | split | simp)

@[simp] theorem fixed_chargeRetry (l : Nat) (p : SentPacket) (s : State) : (chargeRetry l p s).fixed = s.fixed := by
  unfold chargeRetry
  repeat' (first | (simp; done) | split | simp)

@[simp] theorem fixed_resendFrom (l : Nat) (k : Cls) (seq : Nat) (s : State) : (resendFrom l k seq s).fixed = s.fixed := by
  unfold resendFrom
  dsimp only
  split
  · simp
  · repeat' split
    all_goals
      simp only [fixed_postLimited, fixed_bump, fixed_chargeRetry]
      rw [fixed_foldl _ (by intros; split <;> simp)]
      simp

@[simp] theorem fixed_headerError (n : Nat) (s : State) : (headerError n s).fixed = s.fixed := by
  unfold headerError
  repeat' (first | (simp; done) | split | simp)

@[simp] theorem fixed_badLinkBlock (n : Nat) (s : State) : (badLinkBlock n s).fixed = s.fixed := by
  unfold badLinkBlock
  repeat' (first | (simp; done) | split | simp)

@[simp] theorem fixed_receiveV1 (l : Nat) (k : Cls) (seq : Nat) (n : Nat) (ok : Bool) (s : State) : (receiveV1 l k seq n ok s).fixed = s.fixed := by
  unfold receiveV1
  repeat' (first | (simp; done) | split | simp)

@[simp] theorem fixed_receiveV2 (l : Nat) (k : Cls) (seq : Nat) (n : Nat) (ok : Bool) (s : State) : (receiveV2 l k seq n ok s).fixed = s.fixed := by
  unfold receiveV2
  repeat' (first | (simp; done) | split | simp)

@[simp] theorem fixed_receivePacket (n : Nat) (k : Cls) (start : List Byte) (bytes : List Byte) (crc : Nat) (whole : Bool) (s : State) : (receivePacket n k start bytes crc whole s).fixed = s.fixed := by
  unfold receivePacket
  repeat' (first | (simp; done) | split | simp)

@[simp] theorem fixed_receiveLink (n : Nat) (kind : Nat) (arg : Nat) (crc : Nat) (f : State → State) (hf : ∀ x, (f x).fixed = x.fixed) (s : State) : (receiveLink n kind arg crc f s).fixed = s.fixed := by
  unfold receiveLink
  repeat' (first | (simp [hf]; done) | split)

@[simp] theorem fixed_takeAck (l : Nat) (k : Cls) (seq : Nat) (s : State) : (takeAck l k seq s).fixed = s.fixed := by
  unfold takeAck
  repeat' (first | (simp; done) | split | simp)

@[simp] theorem fixed_takeNak (l : Nat) (k : Cls) (seq : Nat) (s : State) : (takeNak l k seq s).fixed = s.fixed := by
  unfold takeNak
  repeat' (first | (simp; done) | split | simp)

@[simp] theorem fixed_takeCredit (l : Nat) (k : Cls) (limit : Nat) (s : State) : (takeCredit l k limit s).fixed = s.fixed := by
  unfold takeCredit
  repeat' (first | (simp; done) | split | simp)

@[simp] theorem fixed_bipError (n : Nat) (s : State) : (bipError n s).fixed = s.fixed := by
  unfold bipError
  repeat' (first | (simp; done) | split | simp)

@[simp] theorem fixed_deskew (n : Nat) (s : State) : (deskew n s).fixed = s.fixed := by
  unfold deskew
  repeat' (first | (simp; done) | split | simp)

@[simp] theorem fixed_takeAlign (n : Nat) (b : List Byte) (bip : Nat) (s : State) : (takeAlign n b bip s).fixed = s.fixed := by
  unfold takeAlign
  repeat' (first | (simp; done) | split | simp)

@[simp] theorem fixed_receiveAlign (n : Nat) (hdr : Nat) (b : List Byte) (bip : Nat) (s : State) : (receiveAlign n hdr b bip s).fixed = s.fixed := by
  unfold receiveAlign
  repeat' (first | (simp; done) | split | simp)

@[simp] theorem fixed_chooseMode (l : Nat) (s : State) : (chooseMode l s).fixed = s.fixed := by
  unfold chooseMode
  repeat' (first | (simp; done) | split | simp)

@[simp] theorem fixed_startInterval (l : Nat) (s : State) : (startInterval l s).fixed = s.fixed := by
  unfold startInterval
  repeat' (first | (simp; done) | split | simp)

@[simp] theorem fixed_sendAlign (n : Nat) (s : State) : (sendAlign n s).fixed = s.fixed := by
  unfold sendAlign
  repeat' (first | (simp; done) | split | simp)

@[simp] theorem fixed_trainTimeout (l : Nat) (s : State) : (trainTimeout l s).fixed = s.fixed := by
  unfold trainTimeout
  repeat' (first | (simp; done) | split | simp)

@[simp] theorem fixed_takeHello (l : Nat) (b : List Byte) (s : State) : (takeHello l b s).fixed = s.fixed := by
  unfold takeHello
  repeat' (first | (simp; done) | split | simp)

@[simp] theorem fixed_sendTimeSync (l : Nat) (s : State) : (sendTimeSync l s).fixed = s.fixed := by
  unfold sendTimeSync
  repeat' (first | (simp; done) | split | simp)

@[simp] theorem fixed_pairTimeSync (s : State) : (pairTimeSync s).fixed = s.fixed := by
  unfold pairTimeSync
  repeat' (first | (simp; done) | split | simp)

@[simp] theorem fixed_takeEcho (l : Nat) (syncId : Nat) (turn : Nat) (s : State) : (takeEcho l syncId turn s).fixed = s.fixed := by
  unfold takeEcho
  repeat' (first | (simp; done) | split | simp)

@[simp] theorem fixed_linkCourseConfigEffect (q : Cmd) (s : State) : (linkCourseConfigEffect q s).state.fixed = s.fixed := by
  unfold linkCourseConfigEffect
  repeat' (first | (simp; done) | split | simp)

@[simp] theorem fixed_linkTrainEffect (q : Cmd) (s : State) : (linkTrainEffect q s).state.fixed = s.fixed := by
  unfold linkTrainEffect
  repeat' (first | (simp; done) | split | simp)

@[simp] theorem fixed_linkLaneSlipEffect (q : Cmd) (s : State) : (linkLaneSlipEffect q s).state.fixed = s.fixed := by
  unfold linkLaneSlipEffect
  repeat' (first | (simp; done) | split | simp)

@[simp] theorem fixed_linkPrbsEffect (q : Cmd) (s : State) : (linkPrbsEffect q s).state.fixed = s.fixed := by
  unfold linkPrbsEffect
  repeat' (first | (simp; done) | split | simp)

@[simp] theorem fixed_sendPrbs (n : Nat) (bits : Nat) (s : State) : (sendPrbs n bits s).fixed = s.fixed := by
  unfold sendPrbs
  repeat' (first | (simp; done) | split | simp)

@[simp] theorem fixed_linkInjectEffect (q : Cmd) (s : State) : (linkInjectEffect q s).state.fixed = s.fixed := by
  unfold linkInjectEffect
  repeat' (first | (simp; done) | split | simp)

@[simp] theorem fixed_linkMarksEffect (q : Cmd) (s : State) : (linkMarksEffect q s).state.fixed = s.fixed := by
  unfold linkMarksEffect
  repeat' (first | (simp; done) | split | simp)

@[simp] theorem fixed_linkStatusEffect (q : Cmd) (s : State) : (linkStatusEffect q s).state.fixed = s.fixed := by
  unfold linkStatusEffect
  repeat' (first | (simp; done) | split | simp)

@[simp] theorem fixed_State_putHead (h : HeadRun) (s : State) : (State.putHead h s).fixed = s.fixed := by
  unfold State.putHead
  repeat' (first | (simp; done) | split | simp)

@[simp] theorem fixed_sendStamps (b : Nat) (es : List PrioEntry) (s : State) : (sendStamps b es s).fixed = s.fixed := by
  unfold sendStamps
  repeat' (first | (simp; done) | split | simp)

theorem fixed_cancelHead (keep : Bool) (sn : State × Nat) (h : HeadRun) : (cancelHead keep sn h).1.fixed = sn.1.fixed := by
  unfold cancelHead
  simp

@[simp] theorem fixed_cancelRun (keep : Bool) (s : State) : (cancelRun keep s).1.fixed = s.fixed := by
  unfold cancelRun
  split
  · exact fixed_foldl_fst (cancelHead keep) (by intros; exact fixed_cancelHead _ _ _) _ _
  · rfl

@[simp] theorem fixed_updateHead (c : Channel) (run : Run) (s : State) (h : HeadRun) : (updateHead c run s h).fixed = s.fixed := by
  unfold updateHead
  repeat' (first | (simp; done) | split | simp)

@[simp] theorem fixed_countBack (s : State) : (countBack s).fixed = s.fixed := by
  unfold countBack
  repeat' (first | (simp; done) | split | simp)

@[simp] theorem fixed_advanceProgress (s : State) : (advanceProgress s).fixed = s.fixed := by
  unfold advanceProgress
  repeat' (first | (simp; done) | split | simp)

@[simp] theorem fixed_runOnPair (s : State) : (runOnPair s).fixed = s.fixed := by
  unfold runOnPair
  repeat' (first | (simp; done) | split | simp)

@[simp] theorem fixed_webReversed (dir : Int) (turn : Int) (s : State) : (webReversed dir turn s).fixed = s.fixed := by
  unfold webReversed
  repeat' (first | (simp; done) | split | simp)

end Sys2Proof.Machine
end

