-- ==== Sys2Proof/Laws/FixedC.lean ====
section
/-!
SUPPORT. What leaves the queue, SCRATCH, the lifecycle state and the fuses as they were: the operations of Machine/Layer, Queue, Bar, Render, Compose.
-/
namespace Sys2Proof.Machine

@[simp] theorem fixed_State_onLayer (i : Nat) (f : Layer → Layer) (s : State) : (State.onLayer i f s).fixed = s.fixed := by
  unfold State.onLayer
  repeat' (first | (simp; done) | split | simp)

@[simp] theorem fixed_keepFor (id : CmdId) (r : Reply) (s : State) : (keepFor id r s).fixed = s.fixed := by
  unfold keepFor
  repeat' (first | (simp; done) | split | simp)

@[simp] theorem fixed_finishKept (s : State) (id : CmdId) : (finishKept s id).fixed = s.fixed := by
  unfold finishKept
  repeat' (first | (simp; done) | split | simp)

@[simp] theorem fixed_layerConfigEffect (q : Cmd) (s : State) : (layerConfigEffect q s).state.fixed = s.fixed := by
  unfold layerConfigEffect
  repeat' (first | (simp; done) | split | simp)

@[simp] theorem fixed_layerGuardEffect (q : Cmd) (s : State) : (layerGuardEffect q s).state.fixed = s.fixed := by
  unfold layerGuardEffect
  repeat' (first | (simp; done) | split | simp)

@[simp] theorem fixed_refuseFlip (i : Nat) (code : Nat) (frame : Nat) (s : State) : (refuseFlip i code frame s).fixed = s.fixed := by
  unfold refuseFlip
  repeat' (first | (simp; done) | split | simp)

@[simp] theorem fixed_layerFlipEffect (q : Cmd) (s : State) : (layerFlipEffect q s).state.fixed = s.fixed := by
  unfold layerFlipEffect
  repeat' (first | (simp; done) | split | simp)

@[simp] theorem fixed_dropFlip (s : State) (id : CmdId) : (dropFlip s id).fixed = s.fixed := by
  unfold dropFlip
  repeat' (first | (simp; done) | split | simp)

@[simp] theorem fixed_cancelFlips (s : State) : (cancelFlips s).fixed = s.fixed := by
  unfold cancelFlips
  repeat' (first | (simp; done) | split | simp)

@[simp] theorem fixed_layerFenceEffect (q : Cmd) (s : State) : (layerFenceEffect q s).state.fixed = s.fixed := by
  unfold layerFenceEffect
  repeat' (first | (simp; done) | split | simp)

@[simp] theorem fixed_layerPaletteEffect (q : Cmd) (s : State) : (layerPaletteEffect q s).state.fixed = s.fixed := by
  unfold layerPaletteEffect
  repeat' (first | (simp; done) | split | simp)

@[simp] theorem fixed_layerToneEffect (q : Cmd) (s : State) : (layerToneEffect q s).state.fixed = s.fixed := by
  unfold layerToneEffect
  repeat' (first | (simp; done) | split | simp)

@[simp] theorem fixed_layerOrderEffect (q : Cmd) (s : State) : (layerOrderEffect q s).state.fixed = s.fixed := by
  unfold layerOrderEffect
  repeat' (first | (simp; done) | split | simp)

@[simp] theorem fixed_colourInkLimitEffect (q : Cmd) (s : State) : (colourInkLimitEffect q s).state.fixed = s.fixed := by
  unfold colourInkLimitEffect
  repeat' (first | (simp; done) | split | simp)

@[simp] theorem fixed_colourCurvesEffect (q : Cmd) (s : State) : (colourCurvesEffect q s).state.fixed = s.fixed := by
  unfold colourCurvesEffect
  repeat' (first | (simp; done) | split | simp)

@[simp] theorem fixed_layerStatusEffect (q : Cmd) (s : State) : (layerStatusEffect q s).state.fixed = s.fixed := by
  unfold layerStatusEffect
  repeat' (first | (simp; done) | split | simp)

@[simp] theorem fixed_applyPendings (s : State) : (applyPendings s).fixed = s.fixed := by
  unfold applyPendings
  repeat' (first | (simp; done) | split | simp)

@[simp] theorem fixed_concludeFlip (frame : Nat) (i : Nat) (p : FlipPlan) (s : State) : (concludeFlip frame i p s).fixed = s.fixed := by
  unfold concludeFlip
  repeat' (first | (simp; done) | split | simp)

@[simp] theorem fixed_pushLadder (fr : FrameStart) (cls : Nat) (s : State) : (pushLadder fr cls s).fixed = s.fixed := by
  unfold pushLadder
  repeat' (first | (simp; done) | split | simp)

@[simp] theorem fixed_readiness (fr : FrameStart) (lines : Nat) (s : State) : (readiness fr lines s).fixed = s.fixed := by
  unfold readiness
  repeat' (first | (simp; done) | split | simp)

@[simp] theorem fixed_cutSpan (frame : Nat) (s : State) : (cutSpan frame s).fixed = s.fixed := by
  unfold cutSpan
  repeat' (first | (simp; done) | split | simp)

@[simp] theorem fixed_discardWork (unit : Nat) (n : Nat) (reason : Nat) (s : State) : (discardWork unit n reason s).fixed = s.fixed := by
  unfold discardWork
  repeat' (first | (simp; done) | split | simp)

@[simp] theorem fixed_State_onDue (b : Nat) (h : Nat) (n : Nat) (f : DueLine → DueLine) (s : State) : (State.onDue b h n f s).fixed = s.fixed := by
  unfold State.onDue
  repeat' (first | (simp; done) | split | simp)

@[simp] theorem fixed_pushFlit (l : Nat) (s : State) : (pushFlit l s).1.fixed = s.fixed := by
  unfold pushFlit
  repeat' (first | (simp; done) | split | simp)

@[simp] theorem fixed_flushed (l : Nat) (gone : List QueuePacket) (s : State) : (flushed l gone s).fixed = s.fixed := by
  unfold flushed
  repeat' (first | (simp; done) | split | simp)

@[simp] theorem fixed_commitHead (l : Nat) (s : State) : (commitHead l s).fixed = s.fixed := by
  unfold commitHead
  repeat' (first | (simp; done) | split | simp)

theorem fixed_pushSome (l n : Nat) (s : State) : (pushSome l n s).fixed = s.fixed := by
  induction n generalizing s with
  | zero => rfl
  | succ n ih =>
    unfold pushSome
    have h := fixed_pushFlit l s
    split
    · rename_i e; rw [e] at h; exact h
    · rename_i e; rw [e] at h
      split
      · rw [fixed_commitHead]; exact h
      · rw [ih]; exact h

theorem fixed_pushWhole (l n : Nat) (s : State) : (pushWhole l n s).fixed = s.fixed := by
  induction n generalizing s with
  | zero => rfl
  | succ n ih =>
    unfold pushWhole
    split
    · split
      · rfl
      · dsimp only
        split <;> simp [ih, fixed_pushSome]
    · rfl

@[simp] theorem fixed_settleWriting (l : Nat) (s : State) : (settleWriting l s).fixed = s.fixed := by
  unfold settleWriting
  simp [fixed_pushWhole]

@[simp] theorem fixed_writePacket (l : Nat) (p : QueuePacket) (render : Bool) (s : State) : (writePacket l p render s).fixed = s.fixed := by
  unfold writePacket
  repeat' (first | (simp; done) | split | simp)

@[simp] theorem fixed_writeOn (l : Nat) (clocks : Nat) (s : State) : (writeOn l clocks s).fixed = s.fixed := by
  unfold writeOn
  simp [fixed_pushSome]

@[simp] theorem fixed_dropWriting (l : Nat) (f : Writing → Bool) (s : State) : (dropWriting l f s).fixed = s.fixed := by
  unfold dropWriting
  dsimp only
  split <;> simp

@[simp] theorem fixed_softFlit (l : Nat) (s : State) (x : Nat × Bool) : (softFlit l s x).fixed = s.fixed := by
  unfold softFlit
  repeat' (first | (simp; done) | split | simp)

@[simp] theorem fixed_hardFlit (l : Nat) (s : State) (x : Nat × Bool) : (hardFlit l s x).fixed = s.fixed := by
  unfold hardFlit
  repeat' (first | (simp; done) | split | simp)

@[simp] theorem fixed_readFlits (l : Nat) (p : QueuePacket) (s : State) : (readFlits l p s).fixed = s.fixed := by
  unfold readFlits
  repeat' (first | (simp; done) | split | simp)

@[simp] theorem fixed_popFlits (l : Nat) (n : Nat) (s : State) : (popFlits l n s).1.fixed = s.fixed := by
  unfold popFlits
  repeat' (first | (simp; done) | split | simp)

@[simp] theorem fixed_barConfigEffect (q : Cmd) (s : State) : (barConfigEffect q s).state.fixed = s.fixed := by
  unfold barConfigEffect
  repeat' (first | (simp; done) | split | simp)

@[simp] theorem fixed_barHeadMapEffect (q : Cmd) (s : State) : (barHeadMapEffect q s).state.fixed = s.fixed := by
  unfold barHeadMapEffect
  repeat' (first | (simp; done) | split | simp)

@[simp] theorem fixed_barSegmentsEffect (q : Cmd) (s : State) : (barSegmentsEffect q s).state.fixed = s.fixed := by
  unfold barSegmentsEffect
  repeat' (first | (simp; done) | split | simp)

@[simp] theorem fixed_setImage (b : Nat) (i : BarImage) (s : State) : (setImage b i s).fixed = s.fixed := by
  unfold setImage
  repeat' (first | (simp; done) | split | simp)

@[simp] theorem fixed_barWrite (b : Nat) (f : BarImage → BarImage) (s : State) : (barWrite b f s).fixed = s.fixed := by
  unfold barWrite
  repeat' (first | (simp; done) | split | simp)

@[simp] theorem fixed_barWriteCmd (b : Nat) (f : BarImage → BarImage) (r : Reply) (q : Cmd) (s : State) : (barWriteCmd b f r q s).state.fixed = s.fixed := by
  unfold barWriteCmd
  repeat' (first | (simp; done) | split | simp)

@[simp] theorem fixed_applyBar (b : Nat) (s : State) : (applyBar b s).fixed = s.fixed := by
  unfold applyBar
  repeat' (first | (simp; done) | split | simp)

@[simp] theorem fixed_recordTrims (b : Nat) (trims : List (Nat × List Nat)) (gen : Nat) (s : State) : (recordTrims b trims gen s).fixed = s.fixed := by
  unfold recordTrims
  repeat' (first | (simp; done) | split | simp)

@[simp] theorem fixed_recordNozzles (b : Nat) (es : List NozzleEntry) (s : State) : (recordNozzles b es s).fixed = s.fixed := by
  unfold recordNozzles
  repeat' (first | (simp; done) | split | simp)

@[simp] theorem fixed_barScreenEffect (q : Cmd) (s : State) : (barScreenEffect q s).state.fixed = s.fixed := by
  unfold barScreenEffect
  repeat' (first | (simp; done) | split | simp)

@[simp] theorem fixed_barNozzleMapEffect (q : Cmd) (s : State) : (barNozzleMapEffect q s).state.fixed = s.fixed := by
  unfold barNozzleMapEffect
  repeat' (first | (simp; done) | split | simp)

@[simp] theorem fixed_barDeriveEffect (q : Cmd) (s : State) : (barDeriveEffect q s).state.fixed = s.fixed := by
  unfold barDeriveEffect
  repeat' (first | (simp; done) | split | simp)

@[simp] theorem fixed_joinRun (b : Nat) (first : Nat) (s : State) : (joinRun b first s).fixed = s.fixed := by
  unfold joinRun
  repeat' (first | (simp; done) | split | simp)

@[simp] theorem fixed_enableBar (b : Nat) (s : State) : (enableBar b s).1.fixed = s.fixed := by
  unfold enableBar
  repeat' (first | (simp; done) | split | simp)

@[simp] theorem fixed_barEnableEffect (q : Cmd) (s : State) : (barEnableEffect q s).state.fixed = s.fixed := by
  unfold barEnableEffect
  repeat' (first | (simp; done) | split | simp)

@[simp] theorem fixed_endSwap (b : Nat) (s : State) : (endSwap b s).fixed = s.fixed := by
  unfold endSwap
  repeat' (first | (simp; done) | split | simp)

@[simp] theorem fixed_dropHeadLines (b : Nat) (h : Nat) (s : State) : (dropHeadLines b h s).1.fixed = s.fixed := by
  unfold dropHeadLines
  repeat' (first | (simp; done) | split | simp)

@[simp] theorem fixed_switchOff (b : Nat) (s : State) (o : Nat × Option CmdId) : (switchOff b s o).fixed = s.fixed := by
  unfold switchOff
  repeat' (first | (simp; done) | split | simp)

@[simp] theorem fixed_switchOn (b : Nat) (s : State) (o : Nat × CmdId) : (switchOn b s o).fixed = s.fixed := by
  unfold switchOn
  repeat' (first | (simp; done) | split | simp)

@[simp] theorem fixed_switchHeads (b : Nat) (s : State) : (switchHeads b s).fixed = s.fixed := by
  unfold switchHeads
  repeat' (first | (simp; done) | split | simp)

@[simp] theorem fixed_standHalted (c : Nat) (n : Nat) (s : State) : (standHalted c n s).fixed = s.fixed := by
  unfold standHalted
  repeat' (first | (simp; done) | split | simp)

@[simp] theorem fixed_haltHeads (b : Nat) (s : State) : (haltHeads b s).fixed = s.fixed := by
  unfold haltHeads
  rw [fixed_foldl _ (by intros; repeat' (first | (simp; done) | split | simp))]

@[simp] theorem fixed_settleBar (b : Nat) (s : State) : (settleBar b s).fixed = s.fixed := by
  unfold settleBar
  repeat' (first | (simp; done) | split | simp)

@[simp] theorem fixed_leavePrint (b : Nat) (reason : Nat) (s : State) : (leavePrint b reason s).1.fixed = s.fixed := by
  unfold leavePrint
  repeat' (first | (simp; done) | split | simp)

@[simp] theorem fixed_flushQueue (l : Nat) (ids : List CmdId) (s : State) : (flushQueue l ids s).1.fixed = s.fixed := by
  unfold flushQueue
  dsimp only
  repeat' (first | (simp; done) | split | simp)

@[simp] theorem fixed_disableBar (b : Nat) (ids : List CmdId) (flush : Bool) (s : State) : (disableBar b ids flush s).fixed = s.fixed := by
  unfold disableBar
  repeat' (first | (simp; done) | split | simp)

@[simp] theorem fixed_barDisableEffect (q : Cmd) (s : State) : (barDisableEffect q s).state.fixed = s.fixed := by
  unfold barDisableEffect
  repeat' (first | (simp; done) | split | simp)

@[simp] theorem fixed_keepImage (b : Nat) (s : State) : (keepImage b s).fixed = s.fixed := by
  unfold keepImage
  repeat' (first | (simp; done) | split | simp)

@[simp] theorem fixed_barBoundary (b : Nat) (s : State) : (barBoundary b s).fixed = s.fixed := by
  unfold barBoundary
  repeat' (first | (simp; done) | split | simp)

@[simp] theorem fixed_barStatusEffect (q : Cmd) (s : State) : (barStatusEffect q s).state.fixed = s.fixed := by
  unfold barStatusEffect
  repeat' (first | (simp; done) | split | simp)

@[simp] theorem fixed_commitLine (b : Nat) (h : Nat) (n : Nat) (bytes : List Byte) (late : Bool) (s : State) : (commitLine b h n bytes late s).fixed = s.fixed := by
  unfold commitLine
  repeat' (first | (simp; done) | split | simp)

@[simp] theorem fixed_lateLine (b : Nat) (h : Nat) (n : Nat) (s : State) : (lateLine b h n s).fixed = s.fixed := by
  unfold lateLine
  repeat' (first | (simp; done) | split | simp)

@[simp] theorem fixed_renderLine (e : LineEnv) (b : Nat) (h : Nat) (n : Nat) (s : State) : (renderLine e b h n s).fixed = s.fixed := by
  unfold renderLine
  repeat' (first | (simp; done) | split | simp)

@[simp] theorem fixed_settleSwap (b : Nat) (s : State) : (settleSwap b s).fixed = s.fixed := by
  unfold settleSwap
  repeat' (first | (simp; done) | split | simp)

@[simp] theorem fixed_putRing (lines : Nat) (l : RingLine) (s : State) : (putRing lines l s).fixed = s.fixed := by
  unfold putRing
  repeat' (first | (simp; done) | split | simp)

@[simp] theorem fixed_closeBand (s : State) : (closeBand s).fixed = s.fixed := by
  unfold closeBand
  repeat' (first | (simp; done) | split | simp)

@[simp] theorem fixed_addToBand (cl : Nat) (pos : Int) (blank : Bool) (poisoned : Bool) (guarded : Bool) (sums : List (List Nat)) (s : State) : (addToBand cl pos blank poisoned guarded sums s).fixed = s.fixed := by
  unfold addToBand
  repeat' (first | (simp; done) | split | simp)

@[simp] theorem fixed_countPx (frame : Nat) (k : PxCount) (last : Bool) (s : State) : (countPx frame k last s).fixed = s.fixed := by
  unfold countPx
  repeat' (first | (simp; done) | split | simp)

@[simp] theorem fixed_composeNext (r : Run) (cl : Nat) (f : Frame) (s : State) : (composeNext r cl f s).fixed = s.fixed := by
  unfold composeNext
  repeat' (first | (simp; done) | split | simp)

@[simp] theorem fixed_markEarly (b : Nat) (fs : List Front) (s : State) : (markEarly b fs s).fixed = s.fixed := by
  unfold markEarly
  repeat' (first | (simp; done) | split | simp)

@[simp] theorem fixed_beginCatchUp (s : State) : (beginCatchUp s).fixed = s.fixed := by
  unfold beginCatchUp
  repeat' (first | (simp; done) | split | simp)

@[simp] theorem fixed_endFront (b : Nat) (s : State) (keep : List Front) : (endFront b s keep).fixed = s.fixed := by
  unfold endFront
  repeat' (first | (simp; done) | split | simp)

@[simp] theorem fixed_reserveFront (r : Run) (s : State) (x : Nat × Front) : (reserveFront r s x).fixed = s.fixed := by
  unfold reserveFront
  repeat' (first | (simp; done) | split | simp)

@[simp] theorem fixed_reserveFronts (r : Run) (s : State) : (reserveFronts r s).fixed = s.fixed := by
  unfold reserveFronts
  repeat' (first | (simp; done) | split | simp)

@[simp] theorem fixed_composeFront (r : Run) (b : Nat) (f : Front) (s : State) : (composeFront r b f s).fixed = s.fixed := by
  unfold composeFront
  repeat' (first | (simp; done) | split | simp)

end Sys2Proof.Machine
end

