-- ==== Sys2Proof/Laws/FixedD.lean ====
section
/-!
SUPPORT. What leaves the queue, SCRATCH, the lifecycle state and the fuses as they were: the operations of Machine/Ptp, CamOps, Time, Sys, Sec, Pos.
-/
namespace Sys2Proof.Machine

@[simp] theorem fixed_State_onDom (d : Nat) (f : Domain → Domain) (s : State) : (State.onDom d f s).fixed = s.fixed := by
  unfold State.onDom
  repeat' (first | (simp; done) | split | simp)

@[simp] theorem fixed_State_onPtp (p : Nat) (f : PtpPort → PtpPort) (s : State) : (State.onPtp p f s).fixed = s.fixed := by
  unfold State.onPtp
  repeat' (first | (simp; done) | split | simp)

@[simp] theorem fixed_State_onTb (n : Nat) (f : Tb → Tb) (s : State) : (State.onTb n f s).fixed = s.fixed := by
  unfold State.onTb
  repeat' (first | (simp; done) | split | simp)

@[simp] theorem fixed_State_onTbf (f : Tbf → Tbf) (s : State) : (State.onTbf f s).fixed = s.fixed := by
  unfold State.onTbf
  repeat' (first | (simp; done) | split | simp)

@[simp] theorem fixed_setAdj (n : Nat) (adj : Int) (s : State) : (setAdj n adj s).fixed = s.fixed := by
  unfold setAdj
  repeat' (first | (simp; done) | split | simp)

@[simp] theorem fixed_keepOffset (s : State) : (keepOffset s).fixed = s.fixed := by
  unfold keepOffset
  repeat' (first | (simp; done) | split | simp)

@[simp] theorem fixed_setServoAdj (d : Nat) (adj : Int) (s : State) : (setServoAdj d adj s).fixed = s.fixed := by
  unfold setServoAdj
  repeat' (first | (simp; done) | split | simp)

@[simp] theorem fixed_setPtp (d : Nat) (st : Ptp) (s : State) : (setPtp d st s).fixed = s.fixed := by
  unfold setPtp
  repeat' (first | (simp; done) | split | simp)

@[simp] theorem fixed_holdRate (d : Nat) (s : State) : (holdRate d s).fixed = s.fixed := by
  unfold holdRate
  repeat' (first | (simp; done) | split | simp)

@[simp] theorem fixed_recover (d : Nat) (cause : Nat) (s : State) : (recover d cause s).fixed = s.fixed := by
  unfold recover
  repeat' (first | (simp; done) | split | simp)

@[simp] theorem fixed_enterHoldover (d : Nat) (s : State) : (enterHoldover d s).fixed = s.fixed := by
  unfold enterHoldover
  repeat' (first | (simp; done) | split | simp)

@[simp] theorem fixed_stepTriggers (tb : Nat) (old : Int) (new : Int) (s : State) : (stepTriggers tb old new s).fixed = s.fixed := by
  unfold stepTriggers
  repeat' (first | (simp; done) | split | simp)

@[simp] theorem fixed_stepTb (n : Nat) (sec : Int) (frac : Nat) (s : State) : (stepTb n sec frac s).fixed = s.fixed := by
  unfold stepTb
  repeat' (first | (simp; done) | split | simp)

@[simp] theorem fixed_loadTb (n : Nat) (sec : Int) (frac : Nat) (s : State) : (loadTb n sec frac s).fixed = s.fixed := by
  unfold loadTb
  repeat' (first | (simp; done) | split | simp)

@[simp] theorem fixed_loadFromTbf (d : Nat) (s : State) : (loadFromTbf d s).fixed = s.fixed := by
  unfold loadFromTbf
  repeat' (first | (simp; done) | split | simp)

@[simp] theorem fixed_lockDomain (d : Nat) (s : State) : (lockDomain d s).fixed = s.fixed := by
  unfold lockDomain
  repeat' (first | (simp; done) | split | simp)

@[simp] theorem fixed_slewRate (d : Nat) (s : State) : (slewRate d s).fixed = s.fixed := by
  unfold slewRate
  repeat' (first | (simp; done) | split | simp)

@[simp] theorem fixed_lockTbf (d : Nat) (s : State) : (lockTbf d s).fixed = s.fixed := by
  unfold lockTbf
  repeat' (first | (simp; done) | split | simp)

@[simp] theorem fixed_endSlew (s : State) : (endSlew s).fixed = s.fixed := by
  unfold endSlew
  repeat' (first | (simp; done) | split | simp)

@[simp] theorem fixed_ptpTransitions (d : Nat) (s : State) : (ptpTransitions d s).fixed = s.fixed := by
  unfold ptpTransitions
  repeat' (first | (simp; done) | split | simp)

@[simp] theorem fixed_holdServo (d : Nat) (p : Nat) (s : State) : (holdServo d p s).fixed = s.fixed := by
  unfold holdServo
  repeat' (first | (simp; done) | split | simp)

@[simp] theorem fixed_pathCheck (d : Nat) (p : Nat) (mpd : Int) (s : State) : (pathCheck d p mpd s).fixed = s.fixed := by
  unfold pathCheck
  repeat' (first | (simp; done) | split | simp)

@[simp] theorem fixed_disagreement (d : Nat) (p : Nat) (s : State) : (disagreement d p s).fixed = s.fixed := by
  unfold disagreement
  repeat' (first | (simp; done) | split | simp)

@[simp] theorem fixed_stepTbf (by_ : Int) (s : State) : (stepTbf by_ s).fixed = s.fixed := by
  unfold stepTbf
  repeat' (first | (simp; done) | split | simp)

@[simp] theorem fixed_servo (d : Nat) (offset : Int) (log : Int) (s : State) : (servo d offset log s).fixed = s.fixed := by
  unfold servo
  repeat' (first | (simp; done) | split | simp)

@[simp] theorem fixed_takeSample (d : Nat) (p : Nat) (ms : Int) (s : State) : (takeSample d p ms s).fixed = s.fixed := by
  unfold takeSample
  repeat' (first | (simp; done) | split | simp)

@[simp] theorem fixed_becomeMaster (d : Nat) (p : Nat) (s : State) : (becomeMaster d p s).fixed = s.fixed := by
  unfold becomeMaster
  repeat' (first | (simp; done) | split | simp)

@[simp] theorem fixed_leaveMaster (d : Nat) (p : Nat) (s : State) : (leaveMaster d p s).fixed = s.fixed := by
  unfold leaveMaster
  repeat' (first | (simp; done) | split | simp)

@[simp] theorem fixed_chooseServo (d : Nat) (p : Nat) (first : Bool) (s : State) : (chooseServo d p first s).fixed = s.fixed := by
  unfold chooseServo
  repeat' (first | (simp; done) | split | simp)

@[simp] theorem fixed_takeAnnounce (d : Nat) (p : Nat) (gm : Gm) (s : State) : (takeAnnounce d p gm s).fixed = s.fixed := by
  unfold takeAnnounce
  repeat' (first | (simp; done) | split | simp)

@[simp] theorem fixed_loseMaster (d : Nat) (p : Nat) (s : State) : (loseMaster d p s).fixed = s.fixed := by
  unfold loseMaster
  repeat' (first | (simp; done) | split | simp)

@[simp] theorem fixed_sendPtp (p : Nat) (kind : Nat) (seq : Nat) (time : Int) (s : State) : (sendPtp p kind seq time s).fixed = s.fixed := by
  unfold sendPtp
  repeat' (first | (simp; done) | split | simp)

@[simp] theorem fixed_takePtp (d : Nat) (p : Nat) (m : PtpMsg) (s : State) : (takePtp d p m s).fixed = s.fixed := by
  unfold takePtp
  repeat' (first | (simp; done) | split | simp)

@[simp] theorem fixed_sendMaster (d : Nat) (p : Nat) (announce : Bool) (s : State) : (sendMaster d p announce s).fixed = s.fixed := by
  unfold sendMaster
  repeat' (first | (simp; done) | split | simp)

@[simp] theorem fixed_State_onPort (k : Nat) (f : Port → Port) (s : State) : (State.onPort k f s).fixed = s.fixed := by
  unfold State.onPort
  repeat' (first | (simp; done) | split | simp)

@[simp] theorem fixed_State_onTrigger (u : Nat) (f : Trigger → Trigger) (s : State) : (State.onTrigger u f s).fixed = s.fixed := by
  unfold State.onTrigger
  repeat' (first | (simp; done) | split | simp)

@[simp] theorem fixed_skipTargets (k : Nat) (sgn : Int) (pos : Int) (s : State) : (skipTargets k sgn pos s).fixed = s.fixed := by
  unfold skipTargets
  repeat' (first | (simp; done) | split | simp)

@[simp] theorem fixed_armPort (k : Nat) (s : State) : (armPort k s).fixed = s.fixed := by
  unfold armPort
  repeat' (first | (simp; done) | split | simp)

@[simp] theorem fixed_camOnPair (s : State) : (camOnPair s).fixed = s.fixed := by
  unfold camOnPair
  repeat' (first | (simp; done) | split | simp)

@[simp] theorem fixed_makeExposure (port : Nat) (vc : Nat) (pulseW : Nat) (s : State) : (makeExposure port vc pulseW s).fixed = s.fixed := by
  unfold makeExposure
  repeat' (first | (simp; done) | split | simp)

@[simp] theorem fixed_claimTarget (k : Nat) (s : State) : (claimTarget k s).1.fixed = s.fixed := by
  unfold claimTarget
  repeat' (first | (simp; done) | split | simp)

@[simp] theorem fixed_timeConfigEffect (q : Cmd) (s : State) : (timeConfigEffect q s).state.fixed = s.fixed := by
  unfold timeConfigEffect
  repeat' (first | (simp; done) | split | simp)

@[simp] theorem fixed_timeReadEffect (q : Cmd) (s : State) : (timeReadEffect q s).state.fixed = s.fixed := by
  unfold timeReadEffect
  repeat' (first | (simp; done) | split | simp)

@[simp] theorem fixed_timeStepEffect (q : Cmd) (s : State) : (timeStepEffect q s).state.fixed = s.fixed := by
  unfold timeStepEffect
  repeat' (first | (simp; done) | split | simp)

@[simp] theorem fixed_settleDomain (d : Nat) (s : State) : (settleDomain d s).fixed = s.fixed := by
  unfold settleDomain
  repeat' (first | (simp; done) | split | simp)

@[simp] theorem fixed_timePtpConfigEffect (q : Cmd) (s : State) : (timePtpConfigEffect q s).state.fixed = s.fixed := by
  unfold timePtpConfigEffect
  repeat' (first | (simp; done) | split | simp)

@[simp] theorem fixed_timeAsymmetryEffect (q : Cmd) (s : State) : (timeAsymmetryEffect q s).state.fixed = s.fixed := by
  unfold timeAsymmetryEffect
  repeat' (first | (simp; done) | split | simp)

@[simp] theorem fixed_timeStatusEffect (q : Cmd) (s : State) : (timeStatusEffect q s).state.fixed = s.fixed := by
  unfold timeStatusEffect
  repeat' (first | (simp; done) | split | simp)

@[simp] theorem fixed_latchCapture (u : Nat) (s : State) : (latchCapture u s).fixed = s.fixed := by
  unfold latchCapture
  repeat' (first | (simp; done) | split | simp)

@[simp] theorem fixed_latchFrom (source : Nat) (index : Nat) (s : State) : (latchFrom source index s).fixed = s.fixed := by
  unfold latchFrom
  repeat' (first | (simp; done) | split | simp)

@[simp] theorem fixed_timeCaptureEffect (q : Cmd) (s : State) : (timeCaptureEffect q s).state.fixed = s.fixed := by
  unfold timeCaptureEffect
  repeat' (first | (simp; done) | split | simp)

@[simp] theorem fixed_startTrigger (u : Nat) (s : State) : (startTrigger u s).fixed = s.fixed := by
  unfold startTrigger
  repeat' (first | (simp; done) | split | simp)

@[simp] theorem fixed_sysNopEffect (q : Cmd) (s : State) : (sysNopEffect q s).state.fixed = s.fixed := by
  unfold sysNopEffect
  repeat' (first | (simp; done) | split | simp)

@[simp] theorem fixed_sysIdentifyEffect (q : Cmd) (s : State) : (sysIdentifyEffect q s).state.fixed = s.fixed := by
  unfold sysIdentifyEffect
  repeat' (first | (simp; done) | split | simp)

@[simp] theorem fixed_sysHelloEffect (q : Cmd) (s : State) : (sysHelloEffect q s).state.fixed = s.fixed := by
  unfold sysHelloEffect
  repeat' (first | (simp; done) | split | simp)

@[simp] theorem fixed_sysHealthEffect (q : Cmd) (s : State) : (sysHealthEffect q s).state.fixed = s.fixed := by
  unfold sysHealthEffect
  repeat' (first | (simp; done) | split | simp)

@[simp] theorem fixed_sysResetEffect (q : Cmd) (s : State) : (sysResetEffect q s).state.fixed = s.fixed := by
  unfold sysResetEffect
  repeat' (first | (simp; done) | split | simp)

@[simp] theorem fixed_sysGpioEffect (q : Cmd) (s : State) : (sysGpioEffect q s).state.fixed = s.fixed := by
  unfold sysGpioEffect
  repeat' (first | (simp; done) | split | simp)

@[simp] theorem fixed_beginNor (region : Nat) (bytes : List Byte) (id : CmdId) (s : State) : (beginNor region bytes id s).fixed = s.fixed := by
  unfold beginNor
  repeat' (first | (simp; done) | split | simp)

@[simp] theorem fixed_sysConfigSaveEffect (q : Cmd) (s : State) : (sysConfigSaveEffect q s).state.fixed = s.fixed := by
  unfold sysConfigSaveEffect
  repeat' (first | (simp; done) | split | simp)

@[simp] theorem fixed_sysFwWriteEffect (q : Cmd) (s : State) : (sysFwWriteEffect q s).state.fixed = s.fixed := by
  unfold sysFwWriteEffect
  repeat' (first | (simp; done) | split | simp)

@[simp] theorem fixed_secStatusEffect (q : Cmd) (s : State) : (secStatusEffect q s).state.fixed = s.fixed := by
  unfold secStatusEffect
  repeat' (first | (simp; done) | split | simp)

@[simp] theorem fixed_secProtectReadEffect (q : Cmd) (s : State) : (secProtectReadEffect q s).state.fixed = s.fixed := by
  unfold secProtectReadEffect
  repeat' (first | (simp; done) | split | simp)

@[simp] theorem fixed_saveKeys (s : State) : (saveKeys s).fixed = s.fixed := by
  unfold saveKeys
  repeat' (first | (simp; done) | split | simp)

@[simp] theorem fixed_keyWrite (op : Nat) (q : Cmd) (s : State) : (keyWrite op q s).state.fixed = s.fixed := by
  unfold keyWrite
  repeat' (first | (simp; done) | split | simp)

@[simp] theorem fixed_secKeyLoadEffect (q : Cmd) (s : State) : (secKeyLoadEffect q s).state.fixed = s.fixed := by
  unfold secKeyLoadEffect
  repeat' (first | (simp; done) | split | simp)

@[simp] theorem fixed_secKeyRotateEffect (q : Cmd) (s : State) : (secKeyRotateEffect q s).state.fixed = s.fixed := by
  unfold secKeyRotateEffect
  repeat' (first | (simp; done) | split | simp)

@[simp] theorem fixed_secKeyRevokeEffect (q : Cmd) (s : State) : (secKeyRevokeEffect q s).state.fixed = s.fixed := by
  unfold secKeyRevokeEffect
  repeat' (first | (simp; done) | split | simp)

@[simp] theorem fixed_setDebug (d : Debug) (s : State) : (setDebug d s).fixed = s.fixed := by
  unfold setDebug
  repeat' (first | (simp; done) | split | simp)

@[simp] theorem fixed_secDebugEffect (q : Cmd) (s : State) : (secDebugEffect q s).state.fixed = s.fixed := by
  unfold secDebugEffect
  repeat' (first | (simp; done) | split | simp)

@[simp] theorem fixed_secCounterReadEffect (q : Cmd) (s : State) : (secCounterReadEffect q s).state.fixed = s.fixed := by
  unfold secCounterReadEffect
  repeat' (first | (simp; done) | split | simp)

@[simp] theorem fixed_State_onChan (ch : Nat) (f : Channel → Channel) (s : State) : (State.onChan ch f s).fixed = s.fixed := by
  unfold State.onChan
  repeat' (first | (simp; done) | split | simp)

@[simp] theorem fixed_State_onCmp (u : Nat) (f : Compare → Compare) (s : State) : (State.onCmp u f s).fixed = s.fixed := by
  unfold State.onCmp
  repeat' (first | (simp; done) | split | simp)

@[simp] theorem fixed_orderDone (ch : Nat) (s : State) (o : ScaleOrder) : (orderDone ch s o).fixed = s.fixed := by
  unfold orderDone
  repeat' (first | (simp; done) | split | simp)

@[simp] theorem fixed_applyScale (ch : Nat) (s : State) : (applyScale ch s).fixed = s.fixed := by
  unfold applyScale
  repeat' (first | (simp; done) | split | simp)

@[simp] theorem fixed_orderScale (ch : Nat) (o : ScaleOrder) (s : State) : (orderScale ch o s).fixed = s.fixed := by
  unfold orderScale
  repeat' (first | (simp; done) | split | simp)

@[simp] theorem fixed_judgeCalib (ch : Nat) (k : Calib) (s : State) : (judgeCalib ch k s).fixed = s.fixed := by
  unfold judgeCalib
  repeat' (first | (simp; done) | split | simp)

@[simp] theorem fixed_settleCalibs (s : State) : (settleCalibs s).fixed = s.fixed := by
  unfold settleCalibs
  rw [fixed_foldl _ (by intros; repeat' (first | (simp; done) | split | simp))]

@[simp] theorem fixed_fireCompare (u : Nat) (late : Bool) (pairTime : Int) (s : State) : (fireCompare u late pairTime s).fixed = s.fixed := by
  unfold fireCompare
  repeat' (first | (simp; done) | split | simp)

@[simp] theorem fixed_compareStep (u : Nat) (p : Int) (t : Int) (s : State) : (compareStep u p t s).fixed = s.fixed := by
  unfold compareStep
  repeat' (first | (simp; done) | split | simp)

@[simp] theorem fixed_compareAll (ch : Nat) (s : State) : (compareAll ch s).fixed = s.fixed := by
  unfold compareAll
  repeat' (first | (simp; done) | split | simp)

@[simp] theorem fixed_setBackupOffset (s : State) : (setBackupOffset s).fixed = s.fixed := by
  unfold setBackupOffset
  repeat' (first | (simp; done) | split | simp)

@[simp] theorem fixed_checkDivergence (s : State) : (checkDivergence s).fixed = s.fixed := by
  unfold checkDivergence
  repeat' (first | (simp; done) | split | simp)

@[simp] theorem fixed_takeFailover (ch : Nat) (s : State) : (takeFailover ch s).fixed = s.fixed := by
  unfold takeFailover
  repeat' (first | (simp; done) | split | simp)

@[simp] theorem fixed_encoderFault (ch : Nat) (s : State) : (encoderFault ch s).fixed = s.fixed := by
  unfold encoderFault
  repeat' (first | (simp; done) | split | simp)

@[simp] theorem fixed_illegalStep (ch : Nat) (s : State) : (illegalStep ch s).fixed = s.fixed := by
  unfold illegalStep
  repeat' (first | (simp; done) | split | simp)

@[simp] theorem fixed_signalFault (ch : Nat) (cause : Nat) (s : State) : (signalFault ch cause s).fixed = s.fixed := by
  unfold signalFault
  repeat' (first | (simp; done) | split | simp)

@[simp] theorem fixed_converterTimeout (ch : Nat) (s : State) : (converterTimeout ch s).fixed = s.fixed := by
  unfold converterTimeout
  repeat' (first | (simp; done) | split | simp)

@[simp] theorem fixed_afterCount (ch : Nat) (time : Int) (delta : Int) (s : State) : (afterCount ch time delta s).fixed = s.fixed := by
  unfold afterCount
  repeat' (first | (simp; done) | split | simp)

@[simp] theorem fixed_indexPulse (ch : Nat) (forward : Bool) (s : State) : (indexPulse ch forward s).fixed = s.fixed := by
  unfold indexPulse
  repeat' (first | (simp; done) | split | simp)

@[simp] theorem fixed_scaleAtSample (ch : Nat) (counted : Bool) (s : State) : (scaleAtSample ch counted s).fixed = s.fixed := by
  unfold scaleAtSample
  repeat' (first | (simp; done) | split | simp)

@[simp] theorem fixed_takeLevels (ch : Nat) (a : Bool) (b : Bool) (z : Bool) (time : Int) (s : State) : (takeLevels ch a b z time s).fixed = s.fixed := by
  unfold takeLevels
  repeat' (first | (simp; done) | split | simp)

@[simp] theorem fixed_takeConversion (ch : Nat) (sinRaw : Nat) (cosRaw : Nat) (t0 : Int) (s : State) : (takeConversion ch sinRaw cosRaw t0 s).fixed = s.fixed := by
  unfold takeConversion
  repeat' (first | (simp; done) | split | simp)

@[simp] theorem fixed_posBoundary (s : State) : (posBoundary s).fixed = s.fixed := by
  unfold posBoundary
  repeat' (first | (simp; done) | split | simp)

@[simp] theorem fixed_posRunEnd (s : State) : (posRunEnd s).fixed = s.fixed := by
  unfold posRunEnd
  rw [fixed_foldl _ (by intros; repeat' (first | (simp; done) | split | simp))]

@[simp] theorem fixed_posEncoderConfigEffect (q : Cmd) (s : State) : (posEncoderConfigEffect q s).state.fixed = s.fixed := by
  unfold posEncoderConfigEffect
  repeat' (first | (simp; done) | split | simp)

@[simp] theorem fixed_posScaleEffect (q : Cmd) (s : State) : (posScaleEffect q s).state.fixed = s.fixed := by
  unfold posScaleEffect
  repeat' (first | (simp; done) | split | simp)

@[simp] theorem fixed_posReadEffect (q : Cmd) (s : State) : (posReadEffect q s).state.fixed = s.fixed := by
  unfold posReadEffect
  repeat' (first | (simp; done) | split | simp)

@[simp] theorem fixed_posCompareEffect (q : Cmd) (s : State) : (posCompareEffect q s).state.fixed = s.fixed := by
  unfold posCompareEffect
  repeat' (first | (simp; done) | split | simp)

@[simp] theorem fixed_posBackupEffect (q : Cmd) (s : State) : (posBackupEffect q s).state.fixed = s.fixed := by
  unfold posBackupEffect
  repeat' (first | (simp; done) | split | simp)

@[simp] theorem fixed_posCalibrateEffect (q : Cmd) (s : State) : (posCalibrateEffect q s).state.fixed = s.fixed := by
  unfold posCalibrateEffect
  repeat' (first | (simp; done) | split | simp)

end Sys2Proof.Machine
end

