-- ==== Sys2Proof/Laws/FixedE.lean ====
section
/-!
SUPPORT. What leaves the queue, SCRATCH, the lifecycle state and the fuses as they were: the operations of Machine/Fire, Print, Stamp, Yield, Measure, Loop, CamPort, Power, Cam.
-/
namespace Sys2Proof.Machine

@[simp] theorem fixed_setPower (p : Power) (s : State) : (setPower p s).fixed = s.fixed := by
  unfold setPower
  repeat' (first | (simp; done) | split | simp)

@[simp] theorem fixed_frameBoundary (r : Run) (f : FrameStart) (s : State) : (frameBoundary r f s).fixed = s.fixed := by
  unfold frameBoundary
  repeat' (first | (simp; done) | split | simp)

@[simp] theorem fixed_tickOverspeed (r : Run) (pos : Int) (s : State) : (tickOverspeed r pos s).2.fixed = s.fixed := by
  unfold tickOverspeed
  repeat' (first | (simp; done) | split | simp)

@[simp] theorem fixed_alignStep (s : State) : (alignStep s).fixed = s.fixed := by
  unfold alignStep
  rw [fixed_foldl _ (by intros; repeat' (first | (simp; done) | split | simp))]

@[simp] theorem fixed_leadStep (s : State) : (leadStep s).fixed = s.fixed := by
  unfold leadStep
  repeat' (first | (simp; done) | split | simp)

@[simp] theorem fixed_dueHead (r : Run) (blank : Bool) (s : State) (h : HeadRun) : (dueHead r blank s h).fixed = s.fixed := by
  unfold dueHead
  repeat' (first | (simp; done) | split | simp)

@[simp] theorem fixed_noteStart (r : Run) (b : Nat) (was : Nat) (s : State) : (noteStart r b was s).fixed = s.fixed := by
  unfold noteStart
  repeat' (first | (simp; done) | split | simp)

@[simp] theorem fixed_barLoad (r : Run) (b : Nat) (s : State) : (barLoad r b s).fixed = s.fixed := by
  unfold barLoad
  repeat' (first | (simp; done) | split | simp)

@[simp] theorem fixed_settleV1 (r : Run) (s : State) (h : HeadRun) : (settleV1 r s h).fixed = s.fixed := by
  unfold settleV1
  repeat' (first | (simp; done) | split | simp)

@[simp] theorem fixed_lineTick (r : Run) (s : State) : (lineTick r s).fixed = s.fixed := by
  unfold lineTick
  extract_lets n pos f s1 s2 s3
  have h3 : s3.fixed = s.fixed := by
    unfold s3 s2 s1
    repeat' (first | (simp; done) | split | simp)
  split
  rename_i blank s4 h
  have h4 : s4.fixed = s.fixed := by
    have := congrArg (fun p => p.2.fixed) h
    simp only [fixed_tickOverspeed] at this
    rw [← this, h3]
  dsimp only
  split
  · rw [fixed_State_onRun, fixed_foldl _ (by intros; simp), fixed_foldl _ (by intros; simp), fixed_bumpMin, fixed_leadStep, fixed_alignStep, h4]
  · rw [fixed_checkLimit, fixed_State_onRun, fixed_foldl _ (by intros; split <;> simp), fixed_foldl _ (by intros; simp), fixed_foldl _ (by intros; simp),
      fixed_State_onRun, fixed_foldl _ (by intros; simp), fixed_foldl _ (by intros; simp), fixed_bumpMin, fixed_leadStep, fixed_alignStep, h4]

@[simp] theorem fixed_sendFrame (f : Frame) (applied : List Nat) (s : State) : (sendFrame f applied s).fixed = s.fixed := by
  unfold sendFrame
  repeat' (first | (simp; done) | split | simp)

@[simp] theorem fixed_readyFrame (r : Run) (f : FrameStart) (s : State) : (readyFrame r f s).fixed = s.fixed := by
  unfold readyFrame
  repeat' (first | (simp; done) | split | simp)

@[simp] theorem fixed_passLine (h : HeadRun) (row : RowRun) (n : Nat) (fired : Option Int) (s : State) : (passLine h row n fired s).fixed = s.fixed := by
  unfold passLine
  repeat' (first | (simp; done) | split | simp)

@[simp] theorem fixed_noteFirst (b : Nat) (time : Int) (s : State) : (noteFirst b time s).fixed = s.fixed := by
  unfold noteFirst
  repeat' (first | (simp; done) | split | simp)

@[simp] theorem fixed_doStamp (h : HeadRun) (row : RowRun) (n : Nat) (p : StampPlan) (s : State) : (doStamp h row n p s).fixed = s.fixed := by
  unfold doStamp
  repeat' (first | (simp; done) | split | simp)

@[simp] theorem fixed_sendRunEnd (r : Run) (last : Nat) (b : Nat) (s : State) : (sendRunEnd r last b s).fixed = s.fixed := by
  unfold sendRunEnd
  repeat' (first | (simp; done) | split | simp)

@[simp] theorem fixed_closeRun (r : Run) (s : State) : (closeRun r s).fixed = s.fixed := by
  unfold closeRun
  repeat' (first | (simp; done) | split | simp)

@[simp] theorem fixed_settleSlews (s : State) : (settleSlews s).fixed = s.fixed := by
  unfold settleSlews
  dsimp only
  rw [fixed_foldl _ (by intros; repeat' (first | (simp; done) | split | simp))]
  repeat' (first | (simp; done) | split | simp)

@[simp] theorem fixed_runEnd (reason : Nat) (s : State) : (runEnd reason s).fixed = s.fixed := by
  unfold runEnd
  repeat' (first | (simp; done) | split | simp)

@[simp] theorem fixed_dropUnsent (b : Nat) (p : QueuePacket → Bool) (s : State) : (dropUnsent b p s).fixed = s.fixed := by
  unfold dropUnsent
  repeat' (first | (simp; done) | split | simp)

@[simp] theorem fixed_haltRun (reason : Nat) (s : State) : (haltRun reason s).fixed = s.fixed := by
  unfold haltRun
  repeat' (first | (simp; done) | split | simp)

@[simp] theorem fixed_setInhibit (on : Bool) (s : State) : (setInhibit on s).fixed = s.fixed := by
  unfold setInhibit
  repeat' (first | (simp; done) | split | simp)

@[simp] theorem fixed_haltHead (c : Nat) (s : State) : (haltHead c s).fixed = s.fixed := by
  unfold haltHead
  repeat' (first | (simp; done) | split | simp)

@[simp] theorem fixed_sendRunBegin (r : Run) (s : State) : (sendRunBegin r s).fixed = s.fixed := by
  unfold sendRunBegin
  repeat' (first | (simp; done) | split | simp)

@[simp] theorem fixed_engineHome (b : Nat) (s : State) : (engineHome b s).fixed = s.fixed := by
  unfold engineHome
  repeat' (first | (simp; done) | split | simp)

@[simp] theorem fixed_armRun (q : Cmd) (s : State) : (armRun q s).fixed = s.fixed := by
  unfold armRun
  repeat' (first | (simp; done) | split | simp)

@[simp] theorem fixed_printStartEffect (q : Cmd) (s : State) : (printStartEffect q s).state.fixed = s.fixed := by
  unfold printStartEffect
  repeat' (first | (simp; done) | split | simp)

@[simp] theorem fixed_printStopEffect (q : Cmd) (s : State) : (printStopEffect q s).state.fixed = s.fixed := by
  unfold printStopEffect
  repeat' (first | (simp; done) | split | simp)

@[simp] theorem fixed_printCapoEffect (q : Cmd) (s : State) : (printCapoEffect q s).state.fixed = s.fixed := by
  unfold printCapoEffect
  repeat' (first | (simp; done) | split | simp)

@[simp] theorem fixed_printLeadEffect (q : Cmd) (s : State) : (printLeadEffect q s).state.fixed = s.fixed := by
  unfold printLeadEffect
  repeat' (first | (simp; done) | split | simp)

@[simp] theorem fixed_printOffsetsEffect (q : Cmd) (s : State) : (printOffsetsEffect q s).state.fixed = s.fixed := by
  unfold printOffsetsEffect
  repeat' (first | (simp; done) | split | simp)

@[simp] theorem fixed_printStatusEffect (q : Cmd) (s : State) : (printStatusEffect q s).state.fixed = s.fixed := by
  unfold printStatusEffect
  repeat' (first | (simp; done) | split | simp)

@[simp] theorem fixed_linkQueueFlushEffect (q : Cmd) (s : State) : (linkQueueFlushEffect q s).state.fixed = s.fixed := by
  unfold linkQueueFlushEffect
  have h := fixed_flushQueue (q.u8 0) [q.id] s
  split <;> (rename_i e; rw [e] at h; exact h)

@[simp] theorem fixed_sendLine (l : Nat) (p : QueuePacket) (s : State) : (sendLine l p s).fixed = s.fixed := by
  unfold sendLine
  repeat' (first | (simp; done) | split | simp)

@[simp] theorem fixed_popOn (l : Nat) (clocks : Nat) (p : QueuePacket) (s : State) : (popOn l clocks p s).fixed = s.fixed := by
  unfold popOn
  repeat' (first | (simp; done) | split | simp)

@[simp] theorem fixed_serveQueue (l : Nat) (clocks : Nat) (s : State) : (serveQueue l clocks s).fixed = s.fixed := by
  unfold serveQueue
  repeat' (first | (simp; done) | split | simp)

@[simp] theorem fixed_settleWaited (b : Nat) (s : State) : (settleWaited b s).fixed = s.fixed := by
  unfold settleWaited
  repeat' (first | (simp; done) | split | simp)

@[simp] theorem fixed_serveStamps (b : Nat) (s : State) : (serveStamps b s).fixed = s.fixed := by
  unfold serveStamps
  repeat' (first | (simp; done) | split | simp)

@[simp] theorem fixed_headReport (b : Nat) (s : State) (e : Nat × Nat × Int) : (headReport b s e).fixed = s.fixed := by
  unfold headReport
  repeat' (first | (simp; done) | split | simp)

@[simp] theorem fixed_bridgeLosses (lane : Nat) (n : Nat) (s : State) : (bridgeLosses lane n s).fixed = s.fixed := by
  unfold bridgeLosses
  repeat' (first | (simp; done) | split | simp)

@[simp] theorem fixed_bridgeBips (lane : Nat) (n : Nat) (since : Int) (s : State) : (bridgeBips lane n since s).fixed = s.fixed := by
  unfold bridgeBips
  repeat' (first | (simp; done) | split | simp)

@[simp] theorem fixed_takeStatus (l : Nat) (b : List Byte) (s : State) : (takeStatus l b s).fixed = s.fixed := by
  unfold takeStatus
  repeat' (first | (simp; done) | split | simp)

@[simp] theorem fixed_drivePairActive (on : Bool) (s : State) : (drivePairActive on s).fixed = s.fixed := by
  unfold drivePairActive
  repeat' (first | (simp; done) | split | simp)

@[simp] theorem fixed_drivePairYield (low : Bool) (s : State) : (drivePairYield low s).fixed = s.fixed := by
  unfold drivePairYield
  repeat' (first | (simp; done) | split | simp)

@[simp] theorem fixed_driveFault (low : Bool) (s : State) : (driveFault low s).fixed = s.fixed := by
  unfold driveFault
  repeat' (first | (simp; done) | split | simp)

@[simp] theorem fixed_releaseWaits (s : State) : (releaseWaits s).fixed = s.fixed := by
  unfold releaseWaits
  dsimp only
  rw [fixed_foldl _ (by intros; repeat' (first | (simp; done) | split | simp))]
  repeat' (first | (simp; done) | split | simp)

@[simp] theorem fixed_dropBarWork (b : Nat) (reason : Nat) (s : State) : (dropBarWork b reason s).fixed = s.fixed := by
  unfold dropBarWork
  repeat' (first | (simp; done) | split | simp)

@[simp] theorem fixed_stopFiring (discard : Nat) (ended : Nat) (s : State) : (stopFiring discard ended s).fixed = s.fixed := by
  unfold stopFiring
  repeat' (first | (simp; done) | split | simp)

@[simp] theorem fixed_idleCourses (s : State) : (idleCourses s).fixed = s.fixed := by
  unfold idleCourses
  repeat' (first | (simp; done) | split | simp)

@[simp] theorem fixed_endHandover (r : Reply) (s : State) : (endHandover r s).fixed = s.fixed := by
  unfold endHandover
  repeat' (first | (simp; done) | split | simp)

@[simp] theorem fixed_yieldPair (code : Nat) (s : State) : (yieldPair code s).fixed = s.fixed := by
  unfold yieldPair
  repeat' (first | (simp; done) | split | simp)

@[simp] theorem fixed_leavePair (s : State) : (leavePair s).fixed = s.fixed := by
  unfold leavePair
  repeat' (first | (simp; done) | split | simp)

@[simp] theorem fixed_cutPower (s : State) : (cutPower s).fixed = s.fixed := by
  unfold cutPower
  repeat' (first | (simp; done) | split | simp)

@[simp] theorem fixed_shutDown (code : Nat) (note : State → State) (hnote : ∀ x, (note x).fixed = x.fixed) (s : State) : (shutDown code note s).fixed = s.fixed := by
  unfold shutDown
  simp [hnote]

@[simp] theorem fixed_latchUnit (u : Nat) (criterion : Nat) (fault : Bool) (s : State) : (latchUnit u criterion fault s).fixed = s.fixed := by
  unfold latchUnit
  repeat' (first | (simp; done) | split | simp)

@[simp] theorem fixed_latchRetired (u : Nat) (criterion : Nat) (fault : Bool) (s : State) : (latchRetired u criterion fault s).fixed = s.fixed := by
  unfold latchRetired
  repeat' (first | (simp; done) | split | simp)

@[simp] theorem fixed_deviceFault (u : Nat) (criterion : Nat) (s : State) : (deviceFault u criterion s).fixed = s.fixed := by
  unfold deviceFault
  have h := fixed_shutDown 1 id (fun _ => rfl)
  simp [h]

@[simp] theorem fixed_Exposure_world (e : Exposure) (s : State) : (Exposure.world e s).fixed = s.fixed := by
  unfold Exposure.world
  repeat' (first | (simp; done) | split | simp)

@[simp] theorem fixed_State_onWindow (b : Nat) (f : LoopBar → LoopBar) (s : State) : (State.onWindow b f s).fixed = s.fixed := by
  unfold State.onWindow
  repeat' (first | (simp; done) | split | simp)

@[simp] theorem fixed_countCell (sgn : Int) (w0 : Int) (band : Nat) (zone : Nat) (node : Nat) (v : B64) (n : Nat) (b : Nat) (s : State) : (countCell sgn w0 band zone node v n b s).fixed = s.fixed := by
  unfold countCell
  repeat' (first | (simp; done) | split | simp)

@[simp] theorem fixed_loopCell (p : Profile) (sgn : Int) (e : LedgerEntry) (c : Cell) (s : State) : (loopCell p sgn e c s).fixed = s.fixed := by
  unfold loopCell
  dsimp only
  rw [fixed_foldl _ (by intros; repeat' (first | (simp; done) | split | simp))]

@[simp] theorem fixed_closeOccurrence (st : Strip) (o : Occurrence) (s : State) : (closeOccurrence st o s).fixed = s.fixed := by
  unfold closeOccurrence
  repeat' (first | (simp; done) | split | simp)

@[simp] theorem fixed_stripCell (port : Nat) (e : LedgerEntry) (c : Cell) (s : State) : (stripCell port e c s).fixed = s.fixed := by
  unfold stripCell
  repeat' (first | (simp; done) | split | simp)

@[simp] theorem fixed_feedCell (fit : Bool) (sgn : Int) (r : Report) (c : Cell) (s : State) : (feedCell fit sgn r c s).fixed = s.fixed := by
  unfold feedCell
  extract_lets band entry mine s1 gone
  split
  · split
    · rw [fixed_bump]
    · extract_lets s2 s3
      have h3 : s3.fixed = s.fixed := by unfold s3 s2; rw [fixed_stripCell, fixed_bump, fixed_onClr]
      repeat' (first | (simp [h3]; done) | split)
  · have h1 : s1.fixed = s.fixed := fixed_bump ..
    split <;> simp [h1]

@[simp] theorem fixed_updateTrims (sgn : Int) (b : Nat) (p : Profile) (s : State) : (updateTrims sgn b p s).fixed = s.fixed := by
  unfold updateTrims
  extract_lets x c cfg early gain sums zones clamped trims gen s1 s2 s3 s4
  have h3 : s3.fixed = s.fixed := by unfold s3 s2 s1; rw [fixed_bump, fixed_bump, fixed_State_onWindow, fixed_recordTrims, fixed_barWrite]
  unfold s4
  split <;> simp [h3]

@[simp] theorem fixed_checkWindows (sgn : Int) (s : State) : (checkWindows sgn s).fixed = s.fixed := by
  unfold checkWindows
  repeat' (first | (simp; done) | split | simp)

@[simp] theorem fixed_strike (l : Ladder) (bar : Nat) (column : Nat) (nz : Seg × Nat) (hit : Bool) (s : State) : (strike l bar column nz hit s).fixed = s.fixed := by
  unfold strike
  repeat' (first | (simp; done) | split | simp)

@[simp] theorem fixed_readRung (p : Profile) (m : Measured) (cp : CamParams) (r : Run) (l : Ladder) (rung : Nat) (s : State) : (readRung p m cp r l rung s).fixed = s.fixed := by
  unfold readRung
  repeat' (first | (simp; done) | split | simp)

@[simp] theorem fixed_readLadders (m : Measured) (cp : CamParams) (e : Exposure) (s : State) : (readLadders m cp e s).fixed = s.fixed := by
  unfold readLadders
  repeat' (first | (simp; done) | split | simp)

@[simp] theorem fixed_feedLoop (k : Nat) (m : Measured) (f : CamFrame) (s : State) : (feedLoop k m f s).fixed = s.fixed := by
  unfold feedLoop
  repeat' (first | (simp; done) | split | simp)

@[simp] theorem fixed_clearSums (s : State) : (clearSums s).fixed = s.fixed := by
  unfold clearSums
  repeat' (first | (simp; done) | split | simp)

@[simp] theorem fixed_applyPend (k : Nat) (seq : Nat) (s : State) : (applyPend k seq s).fixed = s.fixed := by
  unfold applyPend
  repeat' (first | (simp; done) | split | simp)

@[simp] theorem fixed_applyIdle (k : Nat) (s : State) : (applyIdle k s).fixed = s.fixed := by
  unfold applyIdle
  repeat' (first | (simp; done) | split | simp)

@[simp] theorem fixed_sendSensor (k : Nat) (s : State) : (sendSensor k s).fixed = s.fixed := by
  unfold sendSensor
  repeat' (first | (simp; done) | split | simp)

@[simp] theorem fixed_sensorDone (k : Nat) (acked : Bool) (s : State) : (sensorDone k acked s).fixed = s.fixed := by
  unfold sensorDone
  repeat' (first | (simp; done) | split | simp)

@[simp] theorem fixed_State_onFrame (k : Nat) (seq : Nat) (f : CamFrame → CamFrame) (s : State) : (State.onFrame k seq f s).fixed = s.fixed := by
  unfold State.onFrame
  repeat' (first | (simp; done) | split | simp)

@[simp] theorem fixed_markFrame (k : Nat) (seq : Nat) (m : Nat) (s : State) : (markFrame k seq m s).fixed = s.fixed := by
  unfold markFrame
  repeat' (first | (simp; done) | split | simp)

@[simp] theorem fixed_archiveSkip (k : Nat) (s : State) : (archiveSkip k s).fixed = s.fixed := by
  unfold archiveSkip
  repeat' (first | (simp; done) | split | simp)

@[simp] theorem fixed_archiveFrame (k : Nat) (f : CamFrame) (m : Measured) (s : State) : (archiveFrame k f m s).fixed = s.fixed := by
  unfold archiveFrame
  repeat' (first | (simp; done) | split | simp)

@[simp] theorem fixed_calFrame (k : Nat) (m : Measured) (s : State) : (calFrame k m s).fixed = s.fixed := by
  unfold calFrame
  repeat' (first | (simp; done) | split | simp)

@[simp] theorem fixed_freeTrigger (k : Nat) (s : State) : (freeTrigger k s).fixed = s.fixed := by
  unfold freeTrigger
  repeat' (first | (simp; done) | split | simp)

@[simp] theorem fixed_takeEnable (k : Nat) (e : EnablePend) (s : State) : (takeEnable k e s).fixed = s.fixed := by
  unfold takeEnable
  repeat' (first | (simp; done) | split | simp)

@[simp] theorem fixed_enablePort (k : Nat) (e : EnablePend) (s : State) : (enablePort k e s).fixed = s.fixed := by
  unfold enablePort
  repeat' (first | (simp; done) | split | simp)

@[simp] theorem fixed_disablePort (k : Nat) (reason : Nat) (s : State) : (disablePort k reason s).fixed = s.fixed := by
  unfold disablePort
  repeat' (first | (simp; done) | split | simp)

@[simp] theorem fixed_portBoundary (k : Nat) (s : State) : (portBoundary k s).fixed = s.fixed := by
  unfold portBoundary
  repeat' (first | (simp; done) | split | simp)

@[simp] theorem fixed_cancelJobs (s : State) : (cancelJobs s).fixed = s.fixed := by
  unfold cancelJobs
  repeat' (first | (simp; done) | split | simp)

@[simp] theorem fixed_disarmAll (s : State) : (disarmAll s).fixed = s.fixed := by
  unfold disarmAll
  repeat' (first | (simp; done) | split | simp)

@[simp] theorem fixed_endWork (s : State) : (endWork s).fixed = s.fixed := by
  unfold endWork
  repeat' (first | (simp; done) | split | simp)

@[simp] theorem fixed_courseAsleep (s : State) (l : Nat) : (courseAsleep s l).fixed = s.fixed := by
  unfold courseAsleep
  repeat' (first | (simp; done) | split | simp)

@[simp] theorem fixed_enterP3 (s : State) : (enterP3 s).fixed = s.fixed := by
  unfold enterP3
  repeat' (first | (simp; done) | split | simp)

@[simp] theorem fixed_pmbusWrite (r : Rail) (bytes : List Byte) (s : State) : (pmbusWrite r bytes s).fixed = s.fixed := by
  unfold pmbusWrite
  repeat' (first | (simp; done) | split | simp)

@[simp] theorem fixed_railsOff (s : State) : (railsOff s).fixed = s.fixed := by
  unfold railsOff
  repeat' (first | (simp; done) | split | simp)

@[simp] theorem fixed_flushJournal (s : State) : (flushJournal s).fixed = s.fixed := by
  unfold flushJournal
  repeat' (first | (simp; done) | split | simp)

@[simp] theorem fixed_enterPower (id : CmdId) (target : Power) (since : Int) (s : State) : (enterPower id target since s).fixed = s.fixed := by
  unfold enterPower
  repeat' (first | (simp; done) | split | simp)

@[simp] theorem fixed_settlePower (s : State) : (settlePower s).fixed = s.fixed := by
  unfold settlePower
  repeat' (first | (simp; done) | split | simp)

@[simp] theorem fixed_restartDomain (d : Nat) (s : State) : (restartDomain d s).fixed = s.fixed := by
  unfold restartDomain
  repeat' (first | (simp; done) | split | simp)

@[simp] theorem fixed_wakeTime (s : State) : (wakeTime s).fixed = s.fixed := by
  unfold wakeTime
  repeat' (first | (simp; done) | split | simp)

@[simp] theorem fixed_wakeUp (s : State) : (wakeUp s).fixed = s.fixed := by
  unfold wakeUp
  repeat' (first | (simp; done) | split | simp)

@[simp] theorem fixed_thermPowerStateEffect (q : Cmd) (s : State) : (thermPowerStateEffect q s).state.fixed = s.fixed := by
  unfold thermPowerStateEffect
  repeat' (first | (simp; done) | split | simp)

@[simp] theorem fixed_settlePort (k : Nat) (s : State) : (settlePort k s).fixed = s.fixed := by
  unfold settlePort
  repeat' (first | (simp; done) | split | simp)

@[simp] theorem fixed_closeFrame (k : Nat) (f : CamFrame) (s : State) : (closeFrame k f s).fixed = s.fixed := by
  unfold closeFrame
  repeat' (first | (simp; done) | split | simp)

@[simp] theorem fixed_tryClose (k : Nat) (seq : Nat) (s : State) : (tryClose k seq s).fixed = s.fixed := by
  unfold tryClose
  repeat' (first | (simp; done) | split | simp)

@[simp] theorem fixed_endAll (k : Nat) (f : CamFrame) (m : Nat) (s : State) : (endAll k f m s).fixed = s.fixed := by
  unfold endAll
  repeat' (first | (simp; done) | split | simp)

@[simp] theorem fixed_endExposure (k : Nat) (slot : Nat) (seq : Nat) (m : Nat) (s : State) : (endExposure k slot seq m s).fixed = s.fixed := by
  unfold endExposure
  repeat' (first | (simp; done) | split | simp)

@[simp] theorem fixed_takeHeader (k : Nat) (vc : Nat) (ecc : EccResult) (s : State) : (takeHeader k vc ecc s).1.fixed = s.fixed := by
  unfold takeHeader
  repeat' (first | (simp; done) | split | simp)

@[simp] theorem fixed_cutOpen (k : Nat) (vc : Nat) (s : State) : (cutOpen k vc s).fixed = s.fixed := by
  unfold cutOpen
  repeat' (first | (simp; done) | split | simp)

@[simp] theorem fixed_frameStart (k : Nat) (vc : Nat) (s : State) : (frameStart k vc s).fixed = s.fixed := by
  unfold frameStart
  extract_lets c s0 seq s1 s2 p e funded f
  have h0 : s0.fixed = s.fixed := by unfold s0; simp
  have h1 : s1.fixed = s.fixed := by unfold s1; simp [h0]
  have h2 : s2.fixed = s.fixed := by unfold s2; repeat' (first | exact h1 | split | simp [h1])
  repeat' (first | rfl | exact h0 | exact h2 | split | simp [h2])

@[simp] theorem fixed_takeLine (k : Nat) (vc : Nat) (wordCount : Nat) (px : List Nat) (crcOk : Bool) (f : CamFrame) (s : State) : (takeLine k vc wordCount px crcOk f s).fixed = s.fixed := by
  unfold takeLine
  repeat' (first | (simp; done) | split | simp)

@[simp] theorem fixed_frameEnd (k : Nat) (vc : Nat) (s : State) : (frameEnd k vc s).fixed = s.fixed := by
  unfold frameEnd
  repeat' (first | (simp; done) | split | simp)

@[simp] theorem fixed_setSync (k : Nat) (lane : Nat) (on : Bool) (s : State) : (setSync k lane on s).fixed = s.fixed := by
  unfold setSync
  repeat' (first | (simp; done) | split | simp)

end Sys2Proof.Machine
end

