-- ==== Sys2Proof/Laws/FixedF.lean ====
section
/-!
SUPPORT. What leaves the queue, SCRATCH, the lifecycle state and the fuses as they were: the operations of Machine/CamCmd, Colour, Gate, Head, Retire, Diag, Pair, PairJoin.
-/
namespace Sys2Proof.Machine

@[simp] theorem fixed_camConfigEffect (q : Cmd) (s : State) : (camConfigEffect q s).state.fixed = s.fixed := by
  unfold camConfigEffect
  repeat' (first | (simp; done) | split | simp)

@[simp] theorem fixed_camPipelineEffect (q : Cmd) (s : State) : (camPipelineEffect q s).state.fixed = s.fixed := by
  unfold camPipelineEffect
  repeat' (first | (simp; done) | split | simp)

@[simp] theorem fixed_camEnableEffect (q : Cmd) (s : State) : (camEnableEffect q s).state.fixed = s.fixed := by
  unfold camEnableEffect
  repeat' (first | (simp; done) | split | simp)

@[simp] theorem fixed_camCalibrateEffect (q : Cmd) (s : State) : (camCalibrateEffect q s).state.fixed = s.fixed := by
  unfold camCalibrateEffect
  repeat' (first | (simp; done) | split | simp)

@[simp] theorem fixed_camFrameReadEffect (q : Cmd) (s : State) : (camFrameReadEffect q s).state.fixed = s.fixed := by
  unfold camFrameReadEffect
  repeat' (first | (simp; done) | split | simp)

@[simp] theorem fixed_archiveResult (s : State) : (archiveResult s).2.fixed = s.fixed := by
  unfold archiveResult
  repeat' (first | (simp; done) | split | simp)

@[simp] theorem fixed_camArchiveEffect (q : Cmd) (s : State) : (camArchiveEffect q s).state.fixed = s.fixed := by
  unfold camArchiveEffect
  repeat' (first | (simp; done) | split | simp)

@[simp] theorem fixed_camStatusEffect (q : Cmd) (s : State) : (camStatusEffect q s).state.fixed = s.fixed := by
  unfold camStatusEffect
  repeat' (first | (simp; done) | split | simp)

@[simp] theorem fixed_colourLoopConfigEffect (q : Cmd) (s : State) : (colourLoopConfigEffect q s).state.fixed = s.fixed := by
  unfold colourLoopConfigEffect
  repeat' (first | (simp; done) | split | simp)

@[simp] theorem fixed_setLoop (new : LoopState) (s : State) : (setLoop new s).fixed = s.fixed := by
  unfold setLoop
  repeat' (first | (simp; done) | split | simp)

@[simp] theorem fixed_colourLoopEnableEffect (q : Cmd) (s : State) : (colourLoopEnableEffect q s).state.fixed = s.fixed := by
  unfold colourLoopEnableEffect
  repeat' (first | (simp; done) | split | simp)

@[simp] theorem fixed_colourTrimReadEffect (q : Cmd) (s : State) : (colourTrimReadEffect q s).state.fixed = s.fixed := by
  unfold colourTrimReadEffect
  repeat' (first | (simp; done) | split | simp)

@[simp] theorem fixed_colourTrimWriteEffect (q : Cmd) (s : State) : (colourTrimWriteEffect q s).state.fixed = s.fixed := by
  unfold colourTrimWriteEffect
  repeat' (first | (simp; done) | split | simp)

@[simp] theorem fixed_beginSave (id : CmdId) (s : State) : (beginSave id s).fixed = s.fixed := by
  unfold beginSave
  repeat' (first | (simp; done) | split | simp)

@[simp] theorem fixed_colourProfileSaveEffect (q : Cmd) (s : State) : (colourProfileSaveEffect q s).state.fixed = s.fixed := by
  unfold colourProfileSaveEffect
  repeat' (first | (simp; done) | split | simp)

@[simp] theorem fixed_setStrip (st : Option Strip) (id : CmdId) (s : State) : (setStrip st id s).state.fixed = s.fixed := by
  unfold setStrip
  repeat' (first | (simp; done) | split | simp)

@[simp] theorem fixed_colourStripEffect (q : Cmd) (s : State) : (colourStripEffect q s).state.fixed = s.fixed := by
  unfold colourStripEffect
  repeat' (first | (simp; done) | split | simp)

@[simp] theorem fixed_colourLedgerReadEffect (q : Cmd) (s : State) : (colourLedgerReadEffect q s).state.fixed = s.fixed := by
  unfold colourLedgerReadEffect
  repeat' (first | (simp; done) | split | simp)

@[simp] theorem fixed_State_onTest (b : Nat) (f : GateTest → GateTest) (s : State) : (State.onTest b f s).fixed = s.fixed := by
  unfold State.onTest
  repeat' (first | (simp; done) | split | simp)

@[simp] theorem fixed_beginTest (t : GateTest) (s : State) : (beginTest t s).fixed = s.fixed := by
  unfold beginTest
  repeat' (first | (simp; done) | split | simp)

@[simp] theorem fixed_headGateTestEffect (q : Cmd) (s : State) : (headGateTestEffect q s).state.fixed = s.fixed := by
  unfold headGateTestEffect
  repeat' (first | (simp; done) | split | simp)

@[simp] theorem fixed_commitShot (t : GateTest) (s : State) : (commitShot t s).fixed = s.fixed := by
  unfold commitShot
  repeat' (first | (simp; done) | split | simp)

@[simp] theorem fixed_leaveTest (t : GateTest) (s : State) : (leaveTest t s).1.fixed = s.fixed := by
  unfold leaveTest
  repeat' (first | (simp; done) | split | simp)

@[simp] theorem fixed_writeStates (t : GateTest) (s : State) : (writeStates t s).fixed = s.fixed := by
  unfold writeStates
  repeat' (first | (simp; done) | split | simp)

@[simp] theorem fixed_endTest (t : GateTest) (s : State) : (endTest t s).fixed = s.fixed := by
  unfold endTest
  extract_lets n failed detail s0 s1 blank
  have h1 : s1.fixed = s.fixed := by unfold s1; split <;> simp
  split
  rename_i s2 first h
  have h2 : s2.fixed = s.fixed := by
    have := congrArg (fun p => p.1.fixed) h
    simp only [fixed_leaveTest] at this
    rw [← this, h1]
  extract_lets ext s3 result s4 s5
  have h3 : s3.fixed = s.fixed := by unfold s3; split <;> simp [h2]
  have h4 : s4.fixed = s.fixed := by unfold s4; rw [fixed_post, h3]
  have h5 : s5.fixed = s.fixed := by unfold s5; split <;> simp [h4]
  split
  · rw [fixed_finish, h4]
  · rw [fixed_finish, h5]

@[simp] theorem fixed_abortTest (id : CmdId) (s : State) : (abortTest id s).fixed = s.fixed := by
  unfold abortTest
  repeat' (first | (simp; done) | split | simp)

@[simp] theorem fixed_headOff (c : Nat) (ids : List (Option CmdId)) (s : State) : (headOff c ids s).fixed = s.fixed := by
  unfold headOff
  repeat' (first | (simp; done) | split | simp)

@[simp] theorem fixed_takeRecord (path : Nat) (slot : Nat) (bytes : List Byte) (s : State) : (takeRecord path slot bytes s).1.fixed = s.fixed := by
  unfold takeRecord
  repeat' (first | (simp; done) | split | simp)

@[simp] theorem fixed_readNext (cmd : CmdId) (path : Nat) (s : State) : (readNext cmd path s).fixed = s.fixed := by
  unfold readNext
  split
  · rfl
  · dsimp only
    split
    · exact fixed_askMir _ _ _ _ _ _
    · rw [fixed_emit]; split
      · exact fixed_emit _ _
      · rfl

@[simp] theorem fixed_takeFound (d : Discover) (s : State) : (takeFound d s).1.fixed = s.fixed := by
  unfold takeFound
  generalize ((0 : Nat)) = k
  generalize d.found = l
  induction l generalizing s k with
  | nil => rfl
  | cons m l ih => rw [List.foldl_cons, ih]; exact fixed_takeRecord m.path m.slot m.bytes s

@[simp] theorem fixed_checkDiscover (s : State) : (checkDiscover s).fixed = s.fixed := by
  unfold checkDiscover
  repeat' (first | (simp; done) | split | simp)

@[simp] theorem fixed_placeDone (path : Nat) (slot : Nat) (bytes : Option (List Byte)) (s : State) : (placeDone path slot bytes s).fixed = s.fixed := by
  unfold placeDone
  split
  · rfl
  · dsimp only
    cases bytes
    · simp
    · simp only
      split <;> simp

@[simp] theorem fixed_headDiscoverEffect (q : Cmd) (s : State) : (headDiscoverEffect q s).state.fixed = s.fixed := by
  unfold headDiscoverEffect
  repeat' (first | (simp; done) | split | simp)

@[simp] theorem fixed_abortDiscover (id : CmdId) (s : State) : (abortDiscover id s).fixed = s.fixed := by
  unfold abortDiscover
  repeat' (first | (simp; done) | split | simp)

@[simp] theorem fixed_headMirReadEffect (q : Cmd) (s : State) : (headMirReadEffect q s).state.fixed = s.fixed := by
  unfold headMirReadEffect
  repeat' (first | (simp; done) | split | simp)

@[simp] theorem fixed_headBridgeMgmtEffect (q : Cmd) (s : State) : (headBridgeMgmtEffect q s).state.fixed = s.fixed := by
  unfold headBridgeMgmtEffect
  repeat' (first | (simp; done) | split | simp)

@[simp] theorem fixed_rereadNext (l : Nat) (slot : Nat) (s : State) : (rereadNext l slot s).fixed = s.fixed := by
  unfold rereadNext
  repeat' (first | (simp; done) | split | simp)

@[simp] theorem fixed_slotDone (l : Nat) (w : MgmtWait) (bytes : Option (List Byte)) (s : State) : (slotDone l w bytes s).fixed = s.fixed := by
  unfold slotDone
  repeat' (first | (simp; done) | split | simp)

@[simp] theorem fixed_partRead (l : Nat) (w : MgmtWait) (b : List Byte) (s : State) : (partRead l w b s).fixed = s.fixed := by
  unfold partRead
  repeat' (first | (simp; done) | split | simp)

@[simp] theorem fixed_takeMgmt (l : Nat) (b : List Byte) (s : State) : (takeMgmt l b s).fixed = s.fixed := by
  unfold takeMgmt
  repeat' (first | (simp; done) | split | simp)

@[simp] theorem fixed_headEnableEffect (q : Cmd) (s : State) : (headEnableEffect q s).state.fixed = s.fixed := by
  unfold headEnableEffect
  repeat' (first | (simp; done) | split | simp)

@[simp] theorem fixed_headDisableEffect (q : Cmd) (s : State) : (headDisableEffect q s).state.fixed = s.fixed := by
  unfold headDisableEffect
  repeat' (first | (simp; done) | split | simp)

@[simp] theorem fixed_headStatusEffect (q : Cmd) (s : State) : (headStatusEffect q s).state.fixed = s.fixed := by
  unfold headStatusEffect
  repeat' (first | (simp; done) | split | simp)

@[simp] theorem fixed_retireLane (n : Nat) (s : State) : (retireLane n s).fixed = s.fixed := by
  unfold retireLane
  repeat' (first | (simp; done) | split | simp)

@[simp] theorem fixed_swapEngine (e : Nat) (crit : Nat) (b : Nat) (s : State) : (swapEngine e crit b s).fixed = s.fixed := by
  unfold swapEngine
  repeat' (first | (simp; done) | split | simp)

@[simp] theorem fixed_retireEngine (e : Nat) (crit : Nat) (s : State) : (retireEngine e crit s).fixed = s.fixed := by
  unfold retireEngine
  dsimp only
  rw [fixed_checkLimit, fixed_foldl _ (by intros; split <;> simp), fixed_foldl _ (by intros; simp)]

@[simp] theorem fixed_firstSample (s : State) : (firstSample s).fixed = s.fixed := by
  unfold firstSample
  repeat' (first | (simp; done) | split | simp)

@[simp] theorem fixed_retireEncoder (w : Nat) (s : State) : (retireEncoder w s).fixed = s.fixed := by
  unfold retireEncoder
  repeat' (first | (simp; done) | split | simp)

@[simp] theorem fixed_retireCamera (k : Nat) (s : State) : (retireCamera k s).fixed = s.fixed := by
  unfold retireCamera
  repeat' (first | (simp; done) | split | simp)

@[simp] theorem fixed_retireHead (c : Nat) (s : State) : (retireHead c s).fixed = s.fixed := by
  unfold retireHead
  repeat' (first | (simp; done) | split | simp)

@[simp] theorem fixed_retireEth (p : Nat) (s : State) : (retireEth p s).fixed = s.fixed := by
  unfold retireEth
  repeat' (first | (simp; done) | split | simp)

@[simp] theorem fixed_retireAction (u : Nat) (crit : Nat) (s : State) : (retireAction u crit s).fixed = s.fixed := by
  unfold retireAction
  repeat' (first | (simp; done) | split | simp)

@[simp] theorem fixed_retireAnswers (u : Nat) (s : State) : (retireAnswers u s).fixed = s.fixed := by
  unfold retireAnswers
  repeat' (first | (simp; done) | split | simp)

@[simp] theorem fixed_retireUnit (u : Nat) (s : State) : (retireUnit u s).fixed = s.fixed := by
  unfold retireUnit
  repeat' (first | (simp; done) | split | simp)

@[simp] theorem fixed_losePll (domain : Nat) (count : Bool) (s : State) : (losePll domain count s).fixed = s.fixed := by
  unfold losePll
  repeat' (first | (simp; done) | split | simp)

@[simp] theorem fixed_testFailed (u : Nat) (s : State) : (testFailed u s).fixed = s.fixed := by
  unfold testFailed
  repeat' (first | (simp; done) | split | simp)

@[simp] theorem fixed_diagSelfTestEffect (q : Cmd) (s : State) : (diagSelfTestEffect q s).state.fixed = s.fixed := by
  unfold diagSelfTestEffect
  repeat' (first | (simp; done) | split | simp)

@[simp] theorem fixed_restoreUnit (u : Nat) (s : State) : (restoreUnit u s).fixed = s.fixed := by
  unfold restoreUnit
  repeat' (first | (simp; done) | split | simp)

@[simp] theorem fixed_diagUnitRestoreEffect (q : Cmd) (s : State) : (diagUnitRestoreEffect q s).state.fixed = s.fixed := by
  unfold diagUnitRestoreEffect
  repeat' (first | (simp; done) | split | simp)

@[simp] theorem fixed_diagUnitRetireEffect (q : Cmd) (s : State) : (diagUnitRetireEffect q s).state.fixed = s.fixed := by
  unfold diagUnitRetireEffect
  repeat' (first | (simp; done) | split | simp)

@[simp] theorem fixed_diagMemTestEffect (q : Cmd) (s : State) : (diagMemTestEffect q s).state.fixed = s.fixed := by
  unfold diagMemTestEffect
  repeat' (first | (simp; done) | split | simp)

@[simp] theorem fixed_diagRegReadEffect (q : Cmd) (s : State) : (diagRegReadEffect q s).state.fixed = s.fixed := by
  rfl

@[simp] theorem fixed_injectUncorrectable (u : Nat) (s : State) : (injectUncorrectable u s).fixed = s.fixed := by
  unfold injectUncorrectable
  repeat' (first | (simp; done) | split | simp)

@[simp] theorem fixed_injectFault (u : Nat) (kind : Nat) (count : Bool) (s : State) : (injectFault u kind count s).fixed = s.fixed := by
  unfold injectFault
  repeat' (first | (simp; done) | split | simp)

@[simp] theorem fixed_diagInjectEffect (q : Cmd) (s : State) : (diagInjectEffect q s).state.fixed = s.fixed := by
  unfold diagInjectEffect
  repeat' (first | (simp; done) | split | simp)

@[simp] theorem fixed_diagTraceEffect (q : Cmd) (s : State) : (diagTraceEffect q s).state.fixed = s.fixed := by
  unfold diagTraceEffect
  repeat' (first | (simp; done) | split | simp)

@[simp] theorem fixed_heardPair (s : State) : (heardPair s).fixed = s.fixed := by
  unfold heardPair
  repeat' (first | (simp; done) | split | simp)

@[simp] theorem fixed_rejoined (s : State) : (rejoined s).fixed = s.fixed := by
  unfold rejoined
  repeat' (first | (simp; done) | split | simp)

@[simp] theorem fixed_standAlone (s : State) : (standAlone s).fixed = s.fixed := by
  unfold standAlone
  repeat' (first | (simp; done) | split | simp)

@[simp] theorem fixed_startRows (b : Nat) (rows : List (Nat × Nat × Option Nat)) (s : State) : (startRows b rows s).fixed = s.fixed := by
  unfold startRows
  repeat' (first | (simp; done) | split | simp)

@[simp] theorem fixed_beginCourse (l : Nat) (s : State) : (beginCourse l s).fixed = s.fixed := by
  unfold beginCourse
  repeat' (first | (simp; done) | split | simp)

@[simp] theorem fixed_takeCourse (l : Nat) (w : ClaimWait) (rows : List (Nat × Nat × Option Nat)) (s : State) : (takeCourse l w rows s).fixed = s.fixed := by
  unfold takeCourse
  repeat' (first | (simp; done) | split | simp)

@[simp] theorem fixed_takeClaimAck (l : Nat) (b : List Byte) (s : State) : (takeClaimAck l b s).fixed = s.fixed := by
  unfold takeClaimAck
  repeat' (first | (simp; done) | split | simp)

@[simp] theorem fixed_claimAll (s : State) : (claimAll s).fixed = s.fixed := by
  unfold claimAll
  repeat' (first | (simp; done) | split | simp)

@[simp] theorem fixed_restartWindows (s : State) : (restartWindows s).fixed = s.fixed := by
  unfold restartWindows
  repeat' (first | (simp; done) | split | simp)

@[simp] theorem fixed_continueRun (r : Run) (s : State) : (continueRun r s).fixed = s.fixed := by
  unfold continueRun
  repeat' (first | (simp; done) | split | simp)

@[simp] theorem fixed_takeover (cause : Nat) (s : State) : (takeover cause s).fixed = s.fixed := by
  unfold takeover
  repeat' (first | (simp; done) | split | simp)

@[simp] theorem fixed_learnPeer (st : PairState) (s : State) : (learnPeer st s).fixed = s.fixed := by
  unfold learnPeer
  repeat' (first | (simp; done) | split | simp)

@[simp] theorem fixed_linkDown (why : Nat) (s : State) : (linkDown why s).fixed = s.fixed := by
  unfold linkDown
  repeat' (first | (simp; done) | split | simp)

@[simp] theorem fixed_takePtime (t1 : Int) (delay : Int) (valid : Bool) (syncId : Nat) (adj : Int) (s : State) : (takePtime t1 delay valid syncId adj s).fixed = s.fixed := by
  unfold takePtime
  repeat' (first | (simp; done) | split | simp)

@[simp] theorem fixed_pairHandoverEffect (q : Cmd) (s : State) : (pairHandoverEffect q s).state.fixed = s.fixed := by
  unfold pairHandoverEffect
  repeat' (first | (simp; done) | split | simp)

@[simp] theorem fixed_backToP2 (s : State) : (backToP2 s).fixed = s.fixed := by
  unfold backToP2
  repeat' (first | (simp; done) | split | simp)

@[simp] theorem fixed_settleReady (s : State) : (settleReady s).fixed = s.fixed := by
  unfold settleReady
  repeat' (first | (simp; done) | split | simp)

@[simp] theorem fixed_handoverEnds (h : Handover) (s : State) : (handoverEnds h s).fixed = s.fixed := by
  unfold handoverEnds
  repeat' (first | (simp; done) | split | simp)

@[simp] theorem fixed_keepHealth (h : Health) (s : State) : (keepHealth h s).fixed = s.fixed := by
  unfold keepHealth
  repeat' (first | (simp; done) | split | simp)

@[simp] theorem fixed_leadPair (joined : Bool) (s : State) : (leadPair joined s).fixed = s.fixed := by
  unfold leadPair
  repeat' (first | (simp; done) | split | simp)

@[simp] theorem fixed_sendBaseline (s : State) : (sendBaseline s).fixed = s.fixed := by
  unfold sendBaseline
  repeat' (first | (simp; done) | split | simp)

@[simp] theorem fixed_joinPair (s : State) : (joinPair s).fixed = s.fixed := by
  unfold joinPair
  repeat' (first | (simp; done) | split | simp)

@[simp] theorem fixed_judgeHello (p : Peer) (authentic : Bool) (s : State) : (judgeHello p authentic s).fixed = s.fixed := by
  unfold judgeHello
  repeat' (first | (simp; done) | split | simp)

@[simp] theorem fixed_checkJoin (s : State) : (checkJoin s).fixed = s.fixed := by
  unfold checkJoin
  repeat' (first | (simp; done) | split | simp)

@[simp] theorem fixed_sendCheckpoint (s : State) : (sendCheckpoint s).fixed = s.fixed := by
  unfold sendCheckpoint
  dsimp only
  rw [fixed_onPair, fixed_foldl _ (by intros; exact fixed_pairSend _ _ _ _)]

@[simp] theorem fixed_alignWeb (k : Checkpoint) (s : State) : (alignWeb k s).fixed = s.fixed := by
  unfold alignWeb
  repeat' (first | (simp; done) | split | simp)

@[simp] theorem fixed_adoptRun (k : Checkpoint) (s : State) : (adoptRun k s).fixed = s.fixed := by
  unfold adoptRun
  repeat' (first | (simp; done) | split | simp)

@[simp] theorem fixed_adoptRest (k : Checkpoint) (s : State) : (adoptRest k s).fixed = s.fixed := by
  unfold adoptRest
  repeat' (first | (simp; done) | split | simp)

@[simp] theorem fixed_keepCkpt (k : Checkpoint) (s : State) : (keepCkpt k s).fixed = s.fixed := by
  unfold keepCkpt
  repeat' (first | (simp; done) | split | simp)

@[simp] theorem fixed_noteFrame (n : FrameNote) (s : State) : (noteFrame n s).fixed = s.fixed := by
  unfold noteFrame
  split
  · rfl
  · dsimp only
    rw [fixed_onCps, fixed_foldl _ (by intros; repeat' (first | rfl | split | simp))]
    simp

@[simp] theorem fixed_takeFrame (n : FrameNote) (s : State) : (takeFrame n s).fixed = s.fixed := by
  unfold takeFrame
  repeat' (first | (simp; done) | split | simp)

@[simp] theorem fixed_takeRecordAck (seq : Nat) (s : State) : (takeRecordAck seq s).fixed = s.fixed := by
  unfold takeRecordAck
  repeat' (first | (simp; done) | split | simp)

@[simp] theorem fixed_trainPair (s : State) : (trainPair s).fixed = s.fixed := by
  unfold trainPair
  repeat' (first | (simp; done) | split | simp)

@[simp] theorem fixed_pairConfigEffect (q : Cmd) (s : State) : (pairConfigEffect q s).state.fixed = s.fixed := by
  unfold pairConfigEffect
  repeat' (first | (simp; done) | split | simp)

@[simp] theorem fixed_pairHealthEffect (q : Cmd) (s : State) : (pairHealthEffect q s).state.fixed = s.fixed := by
  unfold pairHealthEffect
  repeat' (first | (simp; done) | split | simp)

@[simp] theorem fixed_pairStatusEffect (q : Cmd) (s : State) : (pairStatusEffect q s).state.fixed = s.fixed := by
  unfold pairStatusEffect
  repeat' (first | (simp; done) | split | simp)

@[simp] theorem fixed_pairMirrorEffect (q : Cmd) (s : State) : (pairMirrorEffect q s).state.fixed = s.fixed := by
  unfold pairMirrorEffect
  repeat' (first | (simp; done) | split | simp)

@[simp] theorem fixed_pairRejoinEffect (q : Cmd) (s : State) : (pairRejoinEffect q s).state.fixed = s.fixed := by
  unfold pairRejoinEffect
  repeat' (first | (simp; done) | split | simp)

@[simp] theorem fixed_abortRejoin (s : State) : (abortRejoin s).fixed = s.fixed := by
  unfold abortRejoin
  repeat' (first | (simp; done) | split | simp)

end Sys2Proof.Machine
end

