-- ==== Sys2Proof/Laws/FixedG.lean ====
section
/-!
SUPPORT. What leaves the queue, SCRATCH, the lifecycle state and the fuses as they were: the operations of Machine/Abort, Boot, Therm, Trigger, Commands, Records.
-/
namespace Sys2Proof.Machine

@[simp] theorem fixed_dropScale (id : CmdId) (s : State) : (dropScale id s).fixed = s.fixed := by
  unfold dropScale
  repeat' (first | (simp; done) | split | simp)

@[simp] theorem fixed_dropCalib (id : CmdId) (s : State) : (dropCalib id s).fixed = s.fixed := by
  unfold dropCalib
  repeat' (first | (simp; done) | split | simp)

@[simp] theorem fixed_dropJobLoad (id : CmdId) (s : State) : (dropJobLoad id s).fixed = s.fixed := by
  unfold dropJobLoad
  repeat' (first | (simp; done) | split | simp)

@[simp] theorem fixed_dropFwWrite (id : CmdId) (s : State) : (dropFwWrite id s).fixed = s.fixed := by
  unfold dropFwWrite
  repeat' (first | (simp; done) | split | simp)

@[simp] theorem fixed_dropCamCal (id : CmdId) (s : State) : (dropCamCal id s).fixed = s.fixed := by
  unfold dropCamCal
  repeat' (first | (simp; done) | split | simp)

@[simp] theorem fixed_cancelStarted (e : InFlight) (s : State) : (cancelStarted e s).fixed = s.fixed := by
  unfold cancelStarted
  repeat' (first | (simp; done) | split | simp)

@[simp] theorem fixed_cancelFlying (e : InFlight) (s : State) : (cancelFlying e s).2.fixed = s.fixed := by
  unfold cancelFlying
  repeat' (first | (simp; done) | split | simp)

@[simp] theorem fixed_sysAbortEffect (q : Cmd) (s : State) : (sysAbortEffect q s).state.fixed = s.fixed := by
  unfold sysAbortEffect
  repeat' (first | (simp; done) | split | simp)

@[simp] theorem fixed_jobCancelEffect (q : Cmd) (s : State) : (jobCancelEffect q s).state.fixed = s.fixed := by
  unfold jobCancelEffect
  repeat' (first | (simp; done) | split | simp)

@[simp] theorem fixed_judgeFlying (t : ProtTable) (self : CmdId) (s : State) : (judgeFlying t self s).2.fixed = s.fixed := by
  unfold judgeFlying
  exact fixed_foldl_snd _ (by intros; simp) _ _

@[simp] theorem fixed_secProtectWriteEffect (q : Cmd) (s : State) : (secProtectWriteEffect q s).state.fixed = s.fixed := by
  unfold secProtectWriteEffect
  repeat' (first | (simp; done) | split | simp)

@[simp] theorem fixed_bindRoles (s : State) : (bindRoles s).fixed = s.fixed := by
  unfold bindRoles
  repeat' (first | (simp; done) | split | simp)

@[simp] theorem fixed_protectWritten (id : CmdId) (s : State) : (protectWritten id s).fixed = s.fixed := by
  unfold protectWritten
  repeat' (first | (simp; done) | split | simp)

@[simp] theorem fixed_imageWritten (id : CmdId) (bytes : List Byte) (s : State) : (imageWritten id bytes s).fixed = s.fixed := by
  unfold imageWritten
  repeat' (first | (simp; done) | split | simp)

@[simp] theorem fixed_configWritten (id : CmdId) (s : State) : (configWritten id s).fixed = s.fixed := by
  unfold configWritten
  repeat' (first | (simp; done) | split | simp)

@[simp] theorem fixed_scanFault (s : State) : (scanFault s).fixed = s.fixed := by
  unfold scanFault
  repeat' (first | (simp; done) | split | simp)

@[simp] theorem fixed_loadTap (code : Nat) (s : State) : (loadTap code s).fixed = s.fixed := by
  unfold loadTap
  repeat' (first | (simp; done) | split | simp)

@[simp] theorem fixed_releasePorst (gpio : Nat) (s : State) : (releasePorst gpio s).fixed = s.fixed := by
  unfold releasePorst
  repeat' (first | (simp; done) | split | simp)

@[simp] theorem fixed_loadSecurity (s : State) : (loadSecurity s).fixed = s.fixed := by
  unfold loadSecurity
  repeat' (first | (simp; done) | split | simp)

@[simp] theorem fixed_loadTrims (s : State) : (loadTrims s).fixed = s.fixed := by
  unfold loadTrims
  repeat' (first | (simp; done) | split | simp)

@[simp] theorem fixed_loadBoard (s : State) : (loadBoard s).fixed = s.fixed := by
  unfold loadBoard
  repeat' (first | (simp; done) | split | simp)

@[simp] theorem fixed_loadRetired (s : State) (x : Nat × Nat) : (loadRetired s x).fixed = s.fixed := by
  unfold loadRetired
  repeat' (first | (simp; done) | split | simp)

@[simp] theorem fixed_loadJournal (s : State) : (loadJournal s).fixed = s.fixed := by
  unfold loadJournal
  repeat' (first | (simp; done) | split | simp)

@[simp] theorem fixed_trainCourses (s : State) : (trainCourses s).fixed = s.fixed := by
  unfold trainCourses
  repeat' (first | (simp; done) | split | simp)

@[simp] theorem fixed_tellFallback (s : State) : (tellFallback s).fixed = s.fixed := by
  unfold tellFallback
  repeat' (first | (simp; done) | split | simp)

@[simp] theorem fixed_takeSamples (raws : List (Option Int)) (s : State) : (takeSamples raws s).fixed = s.fixed := by
  unfold takeSamples
  repeat' (first | (simp; done) | split | simp)

@[simp] theorem fixed_setLevel (l : Nat) (s : State) : (setLevel l s).fixed = s.fixed := by
  unfold setLevel
  repeat' (first | (simp; done) | split | simp)

@[simp] theorem fixed_checkWarning (hot : Int) (s : State) : (checkWarning hot s).fixed = s.fixed := by
  unfold checkWarning
  repeat' (first | (simp; done) | split | simp)

@[simp] theorem fixed_noteSubst (s : State) : (noteSubst s).fixed = s.fixed := by
  unfold noteSubst
  repeat' (first | (simp; done) | split | simp)

@[simp] theorem fixed_enterShutdown (hot : Int) (sensor : Nat) (s : State) : (enterShutdown hot sensor s).fixed = s.fixed := by
  unfold enterShutdown
  repeat' (first | (simp; done) | split | simp)

@[simp] theorem fixed_actOnHottest (s : State) : (actOnHottest s).fixed = s.fixed := by
  unfold actOnHottest
  repeat' (first | (simp; done) | split | simp)

@[simp] theorem fixed_tooManyFailed (s : State) : (tooManyFailed s).fixed = s.fixed := by
  unfold tooManyFailed
  repeat' (first | (simp; done) | split | simp)

@[simp] theorem fixed_thermalSample (raws : List (Option Int)) (s : State) : (thermalSample raws s).fixed = s.fixed := by
  unfold thermalSample
  repeat' (first | (simp; done) | split | simp)

@[simp] theorem fixed_endHold (s : State) : (endHold s).fixed = s.fixed := by
  unfold endHold
  repeat' (first | (simp; done) | split | simp)

@[simp] theorem fixed_thermLevelsEffect (q : Cmd) (s : State) : (thermLevelsEffect q s).state.fixed = s.fixed := by
  unfold thermLevelsEffect
  repeat' (first | (simp; done) | split | simp)

@[simp] theorem fixed_thermReadEffect (q : Cmd) (s : State) : (thermReadEffect q s).state.fixed = s.fixed := by
  unfold thermReadEffect
  repeat' (first | (simp; done) | split | simp)

@[simp] theorem fixed_thermSensorTrimEffect (q : Cmd) (s : State) : (thermSensorTrimEffect q s).state.fixed = s.fixed := by
  unfold thermSensorTrimEffect
  repeat' (first | (simp; done) | split | simp)

@[simp] theorem fixed_pmbusUpset (s : State) : (pmbusUpset s).fixed = s.fixed := by
  unfold pmbusUpset
  repeat' (first | (simp; done) | split | simp)

@[simp] theorem fixed_State_onRail (i : Nat) (f : Rail → Rail) (s : State) : (State.onRail i f s).fixed = s.fixed := by
  unfold State.onRail
  repeat' (first | (simp; done) | split | simp)

@[simp] theorem fixed_railLost (i : Nat) (s : State) : (railLost i s).fixed = s.fixed := by
  unfold railLost
  repeat' (first | (simp; done) | split | simp)

@[simp] theorem fixed_railAnswer (i : Nat) (a : RailAnswer) (s : State) : (railAnswer i a s).fixed = s.fixed := by
  unfold railAnswer
  repeat' (first | (simp; done) | split | simp)

@[simp] theorem fixed_thermPmbusEffect (q : Cmd) (s : State) : (thermPmbusEffect q s).state.fixed = s.fixed := by
  unfold thermPmbusEffect
  repeat' (first | (simp; done) | split | simp)

@[simp] theorem fixed_pmbusDone (acked : Bool) (bytes : List Byte) (s : State) : (pmbusDone acked bytes s).fixed = s.fixed := by
  unfold pmbusDone
  repeat' (first | (simp; done) | split | simp)

@[simp] theorem fixed_thermBudgetEffect (q : Cmd) (s : State) : (thermBudgetEffect q s).state.fixed = s.fixed := by
  unfold thermBudgetEffect
  repeat' (first | (simp; done) | split | simp)

@[simp] theorem fixed_i2cDone (bus : Nat) (acked : Bool) (bytes : List Byte) (s : State) : (i2cDone bus acked bytes s).fixed = s.fixed := by
  unfold i2cDone
  repeat' (first | (simp; done) | split | simp)

@[simp] theorem fixed_fireTrigger (u : Nat) (s : State) : (fireTrigger u s).fixed = s.fixed := by
  unfold fireTrigger
  repeat' (first | (simp; done) | split | simp)

@[simp] theorem fixed_timeTriggerEffect (q : Cmd) (s : State) : (timeTriggerEffect q s).state.fixed = s.fixed := by
  unfold timeTriggerEffect
  repeat' (first | (simp; done) | split | simp)

@[simp] theorem fixed_profileWritten (cmd : CmdId) (s : State) : (profileWritten cmd s).fixed = s.fixed := by
  unfold profileWritten
  repeat' (first | (simp; done) | split | simp)

@[simp] theorem fixed_trainFollowing (s : State) : (trainFollowing s).fixed = s.fixed := by
  unfold trainFollowing
  repeat' (first | (simp; done) | split | simp)

@[simp] theorem fixed_takeColour (cfg : LoopCfg) (bands : Option Nat) (profile : Option Profile) (st : LoopState) (strip : Option Strip) (s : State) : (takeColour cfg bands profile st strip s).fixed = s.fixed := by
  unfold takeColour
  repeat' (first | (simp; done) | split | simp)

@[simp] theorem fixed_takePart (part : BaselinePart) (s : State) : (takePart part s).fixed = s.fixed := by
  unfold takePart
  repeat' (first | (simp; done) | split | simp)

@[simp] theorem fixed_settleRecords (s : State) : (settleRecords s).fixed = s.fixed := by
  unfold settleRecords
  repeat' (first | (simp; done) | split | simp)

@[simp] theorem fixed_endCopied (seq : Nat) (s : State) : (endCopied seq s).fixed = s.fixed := by
  unfold endCopied
  repeat' (first | (simp; done) | split | simp)

@[simp] theorem fixed_applyState (body : RecordBody) (s : State) : (applyState body s).fixed = s.fixed := by
  unfold applyState
  repeat' (first | (simp; done) | split | simp)

end Sys2Proof.Machine
end

