-- ==== Sys2Proof/Laws/Memory.lean ====
section
/-!
SUPPORT. SCRATCH: every operation keeps its canonical form, a write reads back, and leaves every other byte.
-/
namespace Sys2Proof.Machine

/-- The canonical form of a list with a first entry: its byte is not zero, and every later entry is above it. -/
theorem scratchWf_cons (a : Nat) (v : Byte) (m : List Host.Cell) :
    scratchWf ((a, v) :: m) = true ↔ v ≠ 0 ∧ (∀ c ∈ m, a < c.1) ∧ scratchWf m = true := by
  induction m generalizing a v with
  | nil => simp [scratchWf]
  | cons c m ih =>
    obtain ⟨b, w⟩ := c
    simp only [scratchWf, Bool.and_eq_true, decide_eq_true_eq, bne_iff_ne, ne_eq, List.mem_cons, forall_eq_or_imp, ih]
    constructor
    · rintro ⟨⟨hv, hab⟩, hw, hm, hs⟩
      exact ⟨hv, ⟨hab, fun c hc => Nat.lt_trans hab (hm c hc)⟩, hw, hm, hs⟩
    · rintro ⟨hv, ⟨hab, _⟩, hw, hm, hs⟩
      exact ⟨⟨hv, hab⟩, hw, hm, hs⟩

/-- Every address after a write of one byte was there before, or is the written one. -/
theorem mem_scratchPut {a : Nat} {v : Byte} {m : List Host.Cell} {c : Host.Cell} (h : c ∈ scratchPut a v m) : c.1 = a ∨ c ∈ m := by
  induction m with
  | nil => simp only [scratchPut] at h; split at h <;> simp_all
  | cons d m ih =>
    obtain ⟨b, w⟩ := d
    simp only [scratchPut] at h
    split at h
    · split at h
      · exact .inr h
      · rcases List.mem_cons.1 h with h | h
        · exact .inl (by rw [h])
        · exact .inr h
    · split at h
      · split at h
        · exact .inr (List.mem_cons_of_mem _ h)
        · rcases List.mem_cons.1 h with h | h
          · exact .inl (by rw [h])
          · exact .inr (List.mem_cons_of_mem _ h)
      · rcases List.mem_cons.1 h with h | h
        · exact .inr (by rw [h]; exact List.mem_cons_self)
        · rcases ih h with h | h
          · exact .inl h
          · exact .inr (List.mem_cons_of_mem _ h)

/-- A write of one byte keeps the canonical form. -/
theorem scratchPut_wf (a : Nat) (v : Byte) (m : List Host.Cell) (h : scratchWf m = true) : scratchWf (scratchPut a v m) = true := by
  induction m with
  | nil => simp only [scratchPut]; split <;> simp_all [scratchWf]
  | cons d m ih =>
    obtain ⟨b, w⟩ := d
    have hc := (scratchWf_cons b w m).1 h
    simp only [scratchPut]
    split
    · rename_i hab
      split
      · exact h
      · rename_i hv
        exact (scratchWf_cons ..).2 ⟨hv, fun c hcm => by
          rcases List.mem_cons.1 hcm with e | e
          · rw [e]; exact hab
          · exact Nat.lt_trans hab (hc.2.1 c e), h⟩
    · split
      · rename_i hab
        split
        · exact hc.2.2
        · rename_i hv
          exact (scratchWf_cons ..).2 ⟨hv, fun c e => by rw [hab]; exact hc.2.1 c e, hc.2.2⟩
      · rename_i h1 h2
        refine (scratchWf_cons ..).2 ⟨hc.1, fun c e => ?_, ih hc.2.2⟩
        rcases mem_scratchPut e with e | e
        · omega
        · exact hc.2.1 c e

/-- A write keeps the canonical form. -/
theorem scratchWrite_wf (a : Nat) (vs : List Byte) (m : List Host.Cell) (h : scratchWf m = true) : scratchWf (scratchWrite a vs m) = true := by
  induction vs generalizing a m with
  | nil => exact h
  | cons v vs ih => exact ih _ _ (scratchPut_wf a v m h)

/-- No entry of a canonical list with a higher first address is at a lower one. -/
theorem scratchByte_above (a : Nat) (m : List Host.Cell) (h : ∀ c ∈ m, a < c.1) : scratchByte m a = 0 := by
  have : m.find? (fun c => c.1 == a) = none := List.find?_eq_none.2 fun c hc => by
    have := h c hc
    simp; omega
  simp [scratchByte, this]

theorem scratchByte_cons (b : Nat) (w : Byte) (m : List Host.Cell) (a : Nat) :
    scratchByte ((b, w) :: m) a = if b = a then w else scratchByte m a := by
  simp only [scratchByte, List.find?_cons]
  by_cases h : b = a
  · simp [h]
  · have : (b == a) = false := by simp [h]
    simp [h, this]

/-- After a write of one byte, that byte reads as written and every other as before. -/
theorem scratchByte_put (a : Nat) (v : Byte) (m : List Host.Cell) (x : Nat) (h : scratchWf m = true) :
    scratchByte (scratchPut a v m) x = if x = a then v else scratchByte m x := by
  induction m with
  | nil =>
    simp only [scratchPut]
    split
    · rename_i hv; simp [scratchByte, hv]
    · rw [scratchByte_cons]; simp only [eq_comm]
  | cons d m ih =>
    obtain ⟨b, w⟩ := d
    have hc := (scratchWf_cons b w m).1 h
    simp only [scratchPut]
    split
    · rename_i hab
      split
      · rename_i hv
        by_cases hx : x = a
        · subst hx
          rw [scratchByte_above x _ (fun c hcm => by
            rcases List.mem_cons.1 hcm with e | e
            · rw [e]; exact hab
            · exact Nat.lt_trans hab (hc.2.1 c e))]
          simp [hv]
        · simp [hx]
      · rw [scratchByte_cons]; simp only [eq_comm]
    · split
      · rename_i hab
        subst hab
        split
        · rename_i hv
          by_cases hx : x = a
          · subst hx; rw [scratchByte_above x _ hc.2.1]; simp [hv]
          · rw [scratchByte_cons]; simp [hx, Ne.symm hx]
        · rw [scratchByte_cons, scratchByte_cons]
          by_cases hx : x = a
          · simp [hx]
          · simp [hx, Ne.symm hx]
      · rename_i h1 h2
        rw [scratchByte_cons, scratchByte_cons, ih hc.2.2]
        by_cases hx : x = a
        · subst hx; simp [Ne.symm h2]
        · simp [hx]

/-- After a write, the written bytes read as written and every other byte as before. -/
theorem scratchByte_write (a : Nat) (vs : List Byte) (m : List Host.Cell) (x : Nat) (h : scratchWf m = true) :
    scratchByte (scratchWrite a vs m) x = if a ≤ x ∧ x < a + vs.length then vs.getD (x - a) 0 else scratchByte m x := by
  induction vs generalizing a m with
  | nil =>
    rw [if_neg (by simp only [List.length_nil]; omega)]
    rfl
  | cons v vs ih =>
    simp only [scratchWrite]
    rw [ih (a + 1) _ (scratchPut_wf a v m h), scratchByte_put a v m x h]
    by_cases hx : x = a
    · subst hx
      rw [if_neg (by omega), if_pos rfl, if_pos (by simp only [List.length_cons]; omega)]
      simp
    · by_cases h1 : a + 1 ≤ x ∧ x < a + 1 + vs.length
      · have e : x - a = (x - (a + 1)) + 1 := by omega
        rw [if_pos h1, if_pos (by simp; omega), e]
        simp
      · rw [if_neg h1, if_neg hx, if_neg (by simp; omega)]

end Sys2Proof.Machine
end

