-- ==== Sys2Proof/Laws/Grows.lean ====
section
/-!
SUPPORT. What every operation but a write through the window keeps, clears or only lets grow: the queue of rows, SCRATCH, the lifecycle state and
the fuses
(spec/04_security_and_debug.md, R93, R96, R104).
-/
namespace Sys2Proof.Machine

/-- The queue is as before, SCRATCH is as before or cleared by a reset, the lifecycle state goes no way back and no fuse is cleared. -/
structure Grows (s t : State) : Prop where
  pending : t.pending = s.pending
  scratch : t.store.scratch = s.store.scratch ∨ t.store.scratch = []
  life : s.sec.lifecycle.code ≤ t.sec.lifecycle.code
  svn : s.sec.svnMin ≤ t.sec.svnMin
  revoked : ∀ k : Nat, s.sec.fwRevoked.getD k false = true → t.sec.fwRevoked.getD k false = true

theorem Grows.refl (s : State) : Grows s s := ⟨rfl, .inl rfl, Nat.le_refl _, Nat.le_refl _, fun _ => id⟩

theorem Grows.trans {s t u : State} (a : Grows s t) (b : Grows t u) : Grows s u :=
  ⟨b.pending.trans a.pending, by rcases b.scratch with h | h <;> rcases a.scratch with g | g <;> simp [h, g], Nat.le_trans a.life b.life, Nat.le_trans a.svn b.svn, fun k => b.revoked k ∘ a.revoked k⟩

/-- What keeps or clears SCRATCH keeps its canonical form. -/
theorem Grows.wf {s t : State} (h : Grows s t) (w : scratchWf s.store.scratch = true) : scratchWf t.store.scratch = true := by
  rcases h.scratch with e | e <;> simp [e, w, scratchWf]

theorem Grows.of_fixed {s t : State} (h : t.fixed = s.fixed) : Grows s t := by
  simp only [State.fixed, Prod.mk.injEq] at h
  obtain ⟨h1, h2, h3, h4, h5⟩ := h
  exact ⟨h1, .inl h2, h3 ▸ Nat.le_refl _, Nat.le_of_eq h4.symm, by rw [h5]; exact fun _ => id⟩

/-- Steps that leave the fixed part may stand before and after. -/
theorem Grows.around {s s' t t' : State} (h : Grows s' t') (a : s'.fixed = s.fixed) (b : t.fixed = t'.fixed) : Grows s t :=
  ((Grows.of_fixed a).trans h).trans (Grows.of_fixed b)

theorem Grows.before {s s' t : State} (h : Grows s' t) (a : s'.fixed = s.fixed) : Grows s t := h.around a rfl

theorem Grows.foldl {α : Type} (g : State → α → State) (h : ∀ s a, Grows s (g s a)) (l : List α) (s : State) : Grows s (l.foldl g s) := by
  induction l generalizing s with
  | nil => exact Grows.refl s
  | cons a l ih => exact (h s a).trans (ih _)

theorem Grows.deviceReset (hold : List Hold) (cause : Nat) (s : State) : Grows s (deviceReset hold cause s) := by
  have e : ∀ c : Bool, ∀ o : Output, ∀ s : State, Grows s (if c then s else s.emit o) := by
    intro c o s; split
    · exact Grows.refl s
    · exact Grows.of_fixed rfl
  have e' : ∀ c : Bool, ∀ o : Output, ∀ s : State, Grows s (if c then s.emit o else s) := by
    intro c o s; split
    · exact Grows.of_fixed rfl
    · exact Grows.refl s
  unfold Machine.deviceReset
  extract_lets nor s1 s2 s3 s0 slot image onTrial z
  have h : Grows s s3 := ((e _ _ s).trans (e' _ _ s1)).trans (e' _ _ s2)
  exact h.trans ⟨rfl, .inr rfl, Nat.le_refl _, Nat.le_refl _, fun _ => id⟩

theorem Grows.orderedReset (s : State) : Grows s (orderedReset s) := by
  unfold Machine.orderedReset
  split
  · exact Grows.deviceReset _ _ _
  · exact Grows.refl s

theorem Grows.hardwareTrip (s : State) : Grows s (hardwareTrip s) :=
  (Grows.deviceReset [.trip] 1 (cutPower s)).around (by simp) (fixed_onThm _ _)

theorem Grows.supplyFault (s : State) : Grows s (supplyFault s) := by
  unfold Machine.supplyFault
  split
  · exact Grows.refl s
  · exact (Grows.deviceReset _ _ s).trans (Grows.of_fixed (fixed_onThm _ _))

theorem Grows.assertSysRst (s : State) : Grows s (assertSysRst s) := by
  unfold Machine.assertSysRst
  split
  · exact Grows.refl s
  · split
    · exact Grows.of_fixed (by simp)
    · exact Grows.deviceReset _ _ s

/-- A lifecycle transition to a state that is not an earlier one. -/
theorem Grows.advanceLifecycle (l : Lifecycle) (s : State) (h : s.sec.lifecycle.code ≤ l.code) : Grows s (advanceLifecycle l s) := by
  unfold Machine.advanceLifecycle
  extract_lets old s1 s2 s3
  have h1 : Grows s s1 := ⟨rfl, .inl rfl, h, Nat.le_refl _, fun _ => id⟩
  have h2 : Grows s s2 := h1.around rfl (by simp [s2])
  split
  · exact h2.trans (Grows.of_fixed (by simp))
  · exact h2.trans (Grows.of_fixed (by simp [s3]))
  · exact h2

theorem Grows.changeKeys (op : Nat) (q : Cmd) (s : State) : Grows s (changeKeys op q s) := by
  unfold Machine.changeKeys
  split
  · exact Grows.of_fixed (by repeat' (first | (simp; done) | split | simp))
  · exact Grows.of_fixed (by repeat' (first | (simp; done) | split | simp))
  · extract_lets slot s1
    refine Grows.trans ?_ (Grows.of_fixed (fixed_post _ _ _ _ s1))
    unfold s1
    split
    · refine ⟨rfl, .inl rfl, Nat.le_refl _, Nat.le_refl _, fun k hk => ?_⟩
      simp only [State.onSec, upd, List.getD_eq_getElem?_getD, List.getElem?_modify] at hk ⊢
      cases h : s.sec.fwRevoked[k]? with
      | none => simp [h] at hk
      | some b =>
        rw [h] at hk
        by_cases e : slot - 16 = k <;> simp_all
    · exact Grows.of_fixed (by simp)

theorem Grows.keysWritten (id : CmdId) (copy : List Byte) (s : State) : Grows s (keysWritten id copy s) := by
  unfold Machine.keysWritten
  split
  · rename_i e _
    exact (Grows.changeKeys e.opcode e.cmd s).trans (Grows.of_fixed (by simp))
  · exact Grows.refl s

theorem Grows.norWritten (s : State) : Grows s (norWritten s) := by
  unfold Machine.norWritten
  split
  · exact Grows.refl s
  · extract_lets s1
    have h1 : s1.fixed = s.fixed := by simp [s1]
    split
    · exact Grows.of_fixed (by simp [h1])
    · exact (Grows.keysWritten _ _ s1).around h1 rfl
    · exact Grows.of_fixed (by simp [h1])
    · exact Grows.of_fixed (by simp [h1])
    · exact Grows.of_fixed (by simp [h1])

/-- Where a command's checks pass, its effect keeps or grows. -/
def EffectGrows (check : Cmd → State → Option Reply) (effect : Cmd → State → Ans) : Prop :=
  ∀ q s, check q s = none → Grows s (effect q s).state

theorem EffectGrows.of_fixed {check : Cmd → State → Option Reply} {effect : Cmd → State → Ans}
    (h : ∀ q s, (effect q s).state.fixed = s.fixed) : EffectGrows check effect := fun q s _ => Grows.of_fixed (h q s)

theorem firstFail_last {l : List (Bool × Reply)} {b : Bool} {r : Reply} (h : firstFail (l ++ [(b, r)]) = none) : b = false := by
  induction l with
  | nil => cases b <;> simp_all [firstFail]
  | cons x l ih =>
    obtain ⟨c, r'⟩ := x
    cases c
    · exact ih h
    · simp [firstFail] at h

theorem mayAdvance_le {l : Lifecycle} {s : State} (h : mayAdvance l s = true) : s.sec.lifecycle.code ≤ l.code := by
  unfold mayAdvance at h
  split at h <;> rename_i h1 <;> simp_all [Lifecycle.code]

theorem EffectGrows.secLifecycle : EffectGrows secLifecycleCheck secLifecycleEffect := by
  intro q s h
  refine Grows.advanceLifecycle _ s (mayAdvance_le ?_)
  unfold secLifecycleCheck at h
  have := firstFail_last (l := shape q 8 [(0, 1), (4, 4)] ++
    [ (decide (q.u8 0 = 0) || decide (3 < q.u8 0), Reply.bad 0), (q.u32 4 != 0x53454C43, Reply.bad 4) ])
    (b := !mayAdvance (Lifecycle.ofCode (q.u8 0)) s) (r := Reply.err .state) (by simpa using h)
  simpa using this

theorem EffectGrows.sysFwActivate : EffectGrows sysFwActivateCheck sysFwActivateEffect := by
  intro q s _
  unfold sysFwActivateEffect
  split
  · exact Grows.of_fixed (by simp)
  · exact Grows.of_fixed (by simp)
  · exact ⟨rfl, .inl rfl, Nat.le_refl _, Nat.le_max_left _ _, fun _ => id⟩

theorem Grows.carryOut {op : Nat} {check : Cmd → State → Option Reply} {effect : Cmd → State → Ans} (h : EffectGrows check effect)
    (q : Cmd) (s : State) : Grows s (carryOut op check effect q s) := by
  unfold Machine.carryOut
  extract_lets s1
  have h1 : s1.fixed = s.fixed := by simp [s1]
  split
  · exact Grows.of_fixed (by simp [h1])
  · rename_i hc
    split
    · exact Grows.of_fixed (by simp [h1])
    · split
      · exact Grows.of_fixed (by simp [h1])
      · have g := h q s1 (Option.or_eq_none_iff.1 hc).2
        split
        · rename_i r s2 e
          rw [e] at g
          exact ((g.before h1).trans (Grows.of_fixed (fixed_finish q.id r s2))).trans (Grows.orderedReset _)
        · rename_i s2 e
          rw [e] at g
          exact g.before h1

theorem Grows.launch {op : Nat} {check : Cmd → State → Option Reply} {effect : Cmd → State → Ans} (h : EffectGrows check effect)
    (q : Cmd) (s : State) : Grows s (launch op check effect q s) := by
  unfold Machine.launch
  extract_lets earlier s1
  have h1 : s1.fixed = s.fixed := by simp [s1]
  split
  · exact Grows.of_fixed (by simp [h1])
  · split
    · exact (Grows.carryOut h q s1).before h1
    · exact Grows.of_fixed h1

/-- Every entry of a table of commands keeps or grows. -/
def TableGrows (tab : OpTable) : Prop := ∀ op, EffectGrows (tab op).1 (tab op).2

theorem Grows.launchSlot {tab : OpTable} (h : TableGrows tab) (op : Nat) (pre : Option Reply) (q : Cmd) (s : State) :
    Grows s (launchSlot tab op pre q s) := by
  unfold Machine.launchSlot
  split
  · exact Grows.launch (h op) q s
  · exact Grows.of_fixed (by repeat' (first | (simp; done) | split | simp))

theorem Grows.proceed {op : Nat} {check : Cmd → State → Option Reply} {effect : Cmd → State → Ans} (h : EffectGrows check effect)
    (pre : Option Reply) (q : Cmd) (s : State) : Grows s (proceed op check effect pre q s) := by
  unfold Machine.proceed
  extract_lets s1
  have h1 : s1.fixed = s.fixed := by simp [s1]
  split
  · exact Grows.of_fixed (by simp [h1])
  · split
    · exact (Grows.carryOut h q s1).before h1
    · exact Grows.of_fixed h1

theorem Grows.afterAuth {tab : OpTable} (h : TableGrows tab) (op : Nat) (pre : Option Reply) (q : Cmd) (b : List Byte) (ring : Nat) (pblk : List Byte)
    (must : Bool) (s : State) (onErr onHeld : Reply → State → State) (h1 : ∀ r s, (onErr r s).fixed = s.fixed)
    (h2 : ∀ r s, (onHeld r s).fixed = s.fixed) :
    Grows s (match authenticate b ring pblk must s with
      | (.error r, s) => onErr r s
      | (.ok true, s) => onHeld .good s
      | (.ok false, s) => Machine.launchSlot tab op pre q s) := by
  have e := fixed_authenticate b ring pblk must s
  split
  · rename_i heq; rw [heq] at e; exact Grows.of_fixed ((h1 _ _).trans e)
  · rename_i heq; rw [heq] at e; exact Grows.of_fixed ((h2 _ _).trans e)
  · rename_i heq; rw [heq] at e; exact (Grows.launchSlot h _ _ _ _).before e

theorem Grows.admitSlot {tab : OpTable} (h : TableGrows tab) (b : List Byte) (ring : Nat) (pblk : List Byte) (q : Cmd) (must : Bool) (s : State) :
    Grows s (admitSlot tab b ring pblk q must s) := by
  unfold Machine.admitSlot
  exact Grows.afterAuth h _ _ q b ring pblk must s (fun r s => deliverTo (viewSlot b).opcode q r s)
    (fun _ s => park b ring q s) (by intros; simp) (by intros; simp)

theorem Grows.fetchSlot {tab : OpTable} (h : TableGrows tab) (ring : Nat) (slot pblk : List Byte) (descs : List Desc) (data : List Byte)
    (err : Bool) (s : State) : Grows s (fetchSlot tab ring slot pblk descs data err s) := by
  unfold Machine.fetchSlot
  extract_lets r v pblk' q s1 s2
  have h1 : s1.fixed = s.fixed := by simp [s1]
  have h2 : s2.fixed = s.fixed := by simp [s2, h1]
  split
  · exact Grows.refl s
  · split
    · exact Grows.of_fixed (by simp)
    · split
      · exact Grows.of_fixed (by simp [h1])
      · split
        · exact Grows.of_fixed (by simp [h2])
        · exact (Grows.admitSlot h _ _ _ _ _ s2).before h2

theorem Grows.takeDatagram {tab : OpTable} (h : TableGrows tab) (port : Nat) (from_ : EthFrom) (bytes : List Byte) (s : State) :
    Grows s (takeDatagram tab port from_ bytes s) := by
  unfold Machine.takeDatagram
  extract_lets ring slot pblk v q r
  split
  · exact Grows.of_fixed (by simp)
  · split
    · split
      · exact Grows.of_fixed (by simp)
      · exact Grows.refl s
    · split
      · exact Grows.refl s
      · split
        · exact Grows.of_fixed (by simp)
        · split
          · exact Grows.of_fixed (by simp)
          · exact Grows.afterAuth h _ _ q slot ring pblk true s (fun e s => failAnswer port v.opcode q e s)
              (fun _ s => park slot ring q s) (by intros; simp) (by intros; simp)

theorem Grows.replayOne {tab : OpTable} (h : TableGrows tab) (c : SavedCmd) (s : State) : Grows s (replayOne tab c s) := by
  unfold Machine.replayOne
  extract_lets s1
  have h1 : s1.fixed = s.fixed := by simp [s1]
  split
  · exact Grows.of_fixed (by simp [h1])
  · exact (Grows.launch (h c.opcode) _ s1).before h1

theorem Grows.replayAll {tab : OpTable} (h : TableGrows tab) (cs : List SavedCmd) (i : Nat) (s t : State) (e : replayAll tab cs i s = .ok t) :
    Grows s t := by
  induction cs generalizing i s with
  | nil => simp only [Machine.replayAll, Except.ok.injEq] at e; exact e ▸ Grows.refl s
  | cons c cs ih =>
    simp only [Machine.replayAll] at e
    split at e
    · simp at e
    · exact (Grows.replayOne h c s).trans (ih _ _ e)

theorem EffectGrows.sysConfigLoad {tab : OpTable} (h : TableGrows tab) : EffectGrows sysConfigLoadCheck (sysConfigLoadEffect tab) := by
  intro q s _
  unfold sysConfigLoadEffect
  split
  · rename_i e; exact Grows.replayAll h _ _ _ _ e
  · exact Grows.refl s

theorem Grows.bootReplay {tab : OpTable} (h : TableGrows tab) (s : State) : Grows s (bootReplay tab s) := by
  unfold Machine.bootReplay
  split
  · exact Grows.refl s
  · split
    · rename_i e; exact Grows.replayAll h _ _ _ _ e
    · exact Grows.of_fixed (by simp)

theorem Grows.raiseReady {tab : OpTable} (h : TableGrows tab) (cause : Nat) (s : State) : Grows s (raiseReady tab cause s) := by
  unfold Machine.raiseReady
  extract_lets s1 s2 s3 s4 s5
  have h0 : (loadJournal (loadBoard (loadTrims (loadSecurity s)))).fixed = s.fixed := by simp
  have h1 : Grows s s1 := (Grows.bootReplay h _).before h0
  have h3 : s3.fixed = s1.fixed := by simp [s3, s2]
  have h4 : s4.fixed = s1.fixed := by simp [s4, h3]
  have h5 : s5.fixed = s1.fixed := by simp [s5, h4]
  exact h1.around rfl (by simp [h5])

theorem Grows.bootReady {tab : OpTable} (h : TableGrows tab) (s : State) : Grows s (bootReady tab s) := by
  unfold Machine.bootReady
  split
  · split
    · exact Grows.refl s
    · exact Grows.raiseReady h _ s
  · exact Grows.refl s

end Sys2Proof.Machine
end

