-- ==== Sys2Proof/Laws/GrowsAll.lean ====
section
/-!
SUPPORT. Every step keeps or grows: the commands by their table, the event rows one by one.
-/
namespace Sys2Proof.Machine

theorem growsGroup01 : ∀ e ∈ opGroup01, EffectGrows e.2.1 e.2.2 := by
  unfold opGroup01
  simp only [List.mem_cons, List.not_mem_nil, or_false, forall_eq_or_imp, forall_eq]
  exact ⟨.of_fixed fixed_sysIdentifyEffect,
    .of_fixed fixed_sysHelloEffect,
    .of_fixed fixed_sysHealthEffect,
    .of_fixed fixed_sysAbortEffect,
    .of_fixed fixed_sysNopEffect,
    .of_fixed fixed_sysResetEffect,
    .of_fixed fixed_sysConfigSaveEffect,
    .of_fixed fixed_sysFwWriteEffect,
    EffectGrows.sysFwActivate,
    .of_fixed fixed_sysGpioEffect⟩

theorem growsGroup02 : ∀ e ∈ opGroup02, EffectGrows e.2.1 e.2.2 := by
  unfold opGroup02
  simp only [List.mem_cons, List.not_mem_nil, or_false, forall_eq_or_imp, forall_eq]
  exact ⟨.of_fixed fixed_secStatusEffect,
    .of_fixed fixed_secProtectReadEffect,
    .of_fixed fixed_secProtectWriteEffect,
    .of_fixed fixed_secKeyLoadEffect,
    .of_fixed fixed_secKeyRotateEffect,
    .of_fixed fixed_secKeyRevokeEffect,
    EffectGrows.secLifecycle,
    .of_fixed fixed_secDebugEffect,
    .of_fixed fixed_secCounterReadEffect⟩

theorem growsGroup03 : ∀ e ∈ opGroup03, EffectGrows e.2.1 e.2.2 := by
  unfold opGroup03
  simp only [List.mem_cons, List.not_mem_nil, or_false, forall_eq_or_imp, forall_eq]
  exact ⟨.of_fixed fixed_jobLoadEffect,
    .of_fixed fixed_jobEncodeEffect,
    .of_fixed fixed_jobCancelEffect,
    .of_fixed fixed_jobDeleteEffect,
    .of_fixed fixed_jobListEffect,
    .of_fixed fixed_jobInfoEffect,
    .of_fixed fixed_jobStoreStatusEffect,
    .of_fixed fixed_jobReadEffect⟩

theorem growsGroup04 : ∀ e ∈ opGroup04, EffectGrows e.2.1 e.2.2 := by
  unfold opGroup04
  simp only [List.mem_cons, List.not_mem_nil, or_false, forall_eq_or_imp, forall_eq]
  exact ⟨.of_fixed fixed_layerConfigEffect,
    .of_fixed fixed_layerFlipEffect,
    .of_fixed fixed_layerFenceEffect,
    .of_fixed fixed_layerPaletteEffect,
    .of_fixed fixed_layerToneEffect,
    .of_fixed fixed_layerOrderEffect,
    .of_fixed fixed_layerGuardEffect,
    .of_fixed fixed_layerStatusEffect⟩

theorem growsGroup05 : ∀ e ∈ opGroup05, EffectGrows e.2.1 e.2.2 := by
  unfold opGroup05
  simp only [List.mem_cons, List.not_mem_nil, or_false, forall_eq_or_imp, forall_eq]
  exact ⟨.of_fixed fixed_colourInkLimitEffect,
    .of_fixed fixed_colourCurvesEffect,
    .of_fixed fixed_colourLoopConfigEffect,
    .of_fixed fixed_colourLoopEnableEffect,
    .of_fixed fixed_colourTrimReadEffect,
    .of_fixed fixed_colourTrimWriteEffect,
    .of_fixed fixed_colourProfileSaveEffect,
    .of_fixed fixed_colourStripEffect,
    .of_fixed fixed_colourLedgerReadEffect⟩

theorem growsGroup06 : ∀ e ∈ opGroup06, EffectGrows e.2.1 e.2.2 := by
  unfold opGroup06
  simp only [List.mem_cons, List.not_mem_nil, or_false, forall_eq_or_imp, forall_eq]
  exact ⟨.of_fixed fixed_barConfigEffect,
    .of_fixed fixed_barHeadMapEffect,
    .of_fixed fixed_barSegmentsEffect,
    .of_fixed fixed_barScreenEffect,
    .of_fixed fixed_barNozzleMapEffect,
    .of_fixed fixed_barDeriveEffect,
    .of_fixed fixed_barEnableEffect,
    .of_fixed fixed_barDisableEffect,
    .of_fixed fixed_barStatusEffect⟩

theorem growsGroup07 : ∀ e ∈ opGroup07, EffectGrows e.2.1 e.2.2 := by
  unfold opGroup07
  simp only [List.mem_cons, List.not_mem_nil, or_false, forall_eq_or_imp, forall_eq]
  exact ⟨.of_fixed fixed_printStartEffect,
    .of_fixed fixed_printStopEffect,
    .of_fixed fixed_printCapoEffect,
    .of_fixed fixed_printLeadEffect,
    .of_fixed fixed_printOffsetsEffect,
    .of_fixed fixed_printStatusEffect⟩

theorem growsGroup08 : ∀ e ∈ opGroup08, EffectGrows e.2.1 e.2.2 := by
  unfold opGroup08
  simp only [List.mem_cons, List.not_mem_nil, or_false, forall_eq_or_imp, forall_eq]
  exact ⟨.of_fixed fixed_posEncoderConfigEffect,
    .of_fixed fixed_posScaleEffect,
    .of_fixed fixed_posReadEffect,
    .of_fixed fixed_posCompareEffect,
    .of_fixed fixed_posBackupEffect,
    .of_fixed fixed_posCalibrateEffect⟩

theorem growsGroup09 : ∀ e ∈ opGroup09, EffectGrows e.2.1 e.2.2 := by
  unfold opGroup09
  simp only [List.mem_cons, List.not_mem_nil, or_false, forall_eq_or_imp, forall_eq]
  exact ⟨.of_fixed fixed_timeConfigEffect,
    .of_fixed fixed_timeReadEffect,
    .of_fixed fixed_timeStepEffect,
    .of_fixed fixed_timePtpConfigEffect,
    .of_fixed fixed_timeAsymmetryEffect,
    .of_fixed fixed_timeTriggerEffect,
    .of_fixed fixed_timeCaptureEffect,
    .of_fixed fixed_timeStatusEffect⟩

theorem growsGroup10 : ∀ e ∈ opGroup10, EffectGrows e.2.1 e.2.2 := by
  unfold opGroup10
  simp only [List.mem_cons, List.not_mem_nil, or_false, forall_eq_or_imp, forall_eq]
  exact ⟨.of_fixed fixed_camConfigEffect,
    .of_fixed fixed_camPipelineEffect,
    .of_fixed fixed_camEnableEffect,
    .of_fixed fixed_camCalibrateEffect,
    .of_fixed fixed_camFrameReadEffect,
    .of_fixed fixed_camArchiveEffect,
    .of_fixed fixed_camStatusEffect⟩

theorem growsGroup11 : ∀ e ∈ opGroup11, EffectGrows e.2.1 e.2.2 := by
  unfold opGroup11
  simp only [List.mem_cons, List.not_mem_nil, or_false, forall_eq_or_imp, forall_eq]
  exact ⟨.of_fixed fixed_linkCourseConfigEffect,
    .of_fixed fixed_linkTrainEffect,
    .of_fixed fixed_linkLaneSlipEffect,
    .of_fixed fixed_linkPrbsEffect,
    .of_fixed fixed_linkInjectEffect,
    .of_fixed fixed_linkQueueFlushEffect,
    .of_fixed fixed_linkStatusEffect,
    .of_fixed fixed_linkEthConfigEffect,
    .of_fixed fixed_linkMarksEffect⟩

theorem growsGroup12 : ∀ e ∈ opGroup12, EffectGrows e.2.1 e.2.2 := by
  unfold opGroup12
  simp only [List.mem_cons, List.not_mem_nil, or_false, forall_eq_or_imp, forall_eq]
  exact ⟨.of_fixed fixed_headDiscoverEffect,
    .of_fixed fixed_headMirReadEffect,
    .of_fixed fixed_headGateTestEffect,
    .of_fixed fixed_headEnableEffect,
    .of_fixed fixed_headDisableEffect,
    .of_fixed fixed_headStatusEffect,
    .of_fixed fixed_headBridgeMgmtEffect⟩

theorem growsGroup13 : ∀ e ∈ opGroup13, EffectGrows e.2.1 e.2.2 := by
  unfold opGroup13
  simp only [List.mem_cons, List.not_mem_nil, or_false, forall_eq_or_imp, forall_eq]
  exact ⟨.of_fixed fixed_thermLevelsEffect,
    .of_fixed fixed_thermReadEffect,
    .of_fixed fixed_thermSensorTrimEffect,
    .of_fixed fixed_thermPowerStateEffect,
    .of_fixed fixed_thermPmbusEffect,
    .of_fixed fixed_thermBudgetEffect⟩

theorem growsGroup14 : ∀ e ∈ opGroup14, EffectGrows e.2.1 e.2.2 := by
  unfold opGroup14
  simp only [List.mem_cons, List.not_mem_nil, or_false, forall_eq_or_imp, forall_eq]
  exact ⟨.of_fixed fixed_pairConfigEffect,
    .of_fixed fixed_pairHealthEffect,
    .of_fixed fixed_pairHandoverEffect,
    .of_fixed fixed_pairMirrorEffect,
    .of_fixed fixed_pairStatusEffect,
    .of_fixed fixed_pairRejoinEffect⟩

theorem growsGroup15 : ∀ e ∈ opGroup15, EffectGrows e.2.1 e.2.2 := by
  unfold opGroup15
  simp only [List.mem_cons, List.not_mem_nil, or_false, forall_eq_or_imp, forall_eq]
  exact ⟨.of_fixed fixed_statFrameRecordEffect,
    .of_fixed fixed_statCountersEffect,
    .of_fixed fixed_statClearEffect,
    .of_fixed fixed_statEventMaskEffect,
    .of_fixed fixed_statEventFetchEffect,
    .of_fixed fixed_statPeaksEffect⟩

theorem growsGroup16 : ∀ e ∈ opGroup16, EffectGrows e.2.1 e.2.2 := by
  unfold opGroup16
  simp only [List.mem_cons, List.not_mem_nil, or_false, forall_eq_or_imp, forall_eq]
  exact ⟨.of_fixed fixed_diagSelfTestEffect,
    .of_fixed fixed_diagUnitRestoreEffect,
    .of_fixed fixed_diagUnitRetireEffect,
    .of_fixed fixed_diagMemTestEffect,
    .of_fixed fixed_diagRegReadEffect,
    .of_fixed fixed_diagInjectEffect,
    .of_fixed fixed_diagTraceEffect⟩

theorem growsReplayTable : TableGrows replayTable := by
  intro op
  unfold replayTable getKey
  cases h : opList.find? (·.1 == op) with
  | none => exact fun q s hc => by simp [noOp] at hc
  | some e =>
    have hm := List.mem_of_find?_eq_some h
    simp only [opList, List.mem_append, or_assoc] at hm
    simp only [Option.map_some, Option.getD_some]
    rcases hm with h | h | h | h | h | h | h | h | h | h | h | h | h | h | h | h
    · exact growsGroup01 e h
    · exact growsGroup02 e h
    · exact growsGroup03 e h
    · exact growsGroup04 e h
    · exact growsGroup05 e h
    · exact growsGroup06 e h
    · exact growsGroup07 e h
    · exact growsGroup08 e h
    · exact growsGroup09 e h
    · exact growsGroup10 e h
    · exact growsGroup11 e h
    · exact growsGroup12 e h
    · exact growsGroup13 e h
    · exact growsGroup14 e h
    · exact growsGroup15 e h
    · exact growsGroup16 e h

theorem growsOpTable : TableGrows opTable := by
  intro op
  unfold opTable
  split
  · exact EffectGrows.sysConfigLoad growsReplayTable
  · exact growsReplayTable op

theorem Grows.counterWritten (ring role mark : Nat) (held : Bool) (s : State) : Grows s (counterWritten ring role mark held s) := by
  unfold Machine.counterWritten
  extract_lets s1
  have h1 : s1.fixed = s.fixed := by simp [s1]
  split
  · exact (Grows.proceed (growsOpTable _) _ _ _).before (by simp [h1])
  · exact Grows.of_fixed h1

theorem Grows.journalWritten (s : State) : Grows s (journalWritten s) := by
  unfold Machine.journalWritten
  split
  · exact Grows.refl s
  · extract_lets s1
    have h1 : s1.fixed = s.fixed := by simp [s1]
    split
    · exact (Grows.counterWritten _ _ _ _ s1).before h1
    · exact Grows.of_fixed (by simp [h1])
    · exact Grows.of_fixed h1

theorem Grows.applyCommand (seq cmdSeq opcode : Nat) (params pblk : List Byte) (runId : Nat) (capo : Int) (firstLine : Nat) (status : Status) (s : State) :
    Grows s (applyCommand seq cmdSeq opcode params pblk runId capo firstLine status s) := by
  unfold Machine.applyCommand
  split
  · exact Grows.of_fixed (by simp)
  · extract_lets q s1 s2 s3 b s4
    have h1 : s1.fixed = s.fixed := by unfold s1; split <;> simp
    have h2 : s2.fixed = s.fixed := by simp [s2, h1]
    have h3 : Grows s s3 := (Grows.carryOut (growsOpTable opcode) q s2).before h2
    have h4 : s4.fixed = s3.fixed := by unfold s4; split <;> simp
    exact h3.trans (Grows.of_fixed (by simp [h4]))

theorem Grows.applyRecord (seq ring tag cmdSeq : Nat) (body : RecordBody) (status : Status) (s : State) :
    Grows s (applyRecord seq ring tag cmdSeq body status s) := by
  unfold Machine.applyRecord
  extract_lets s1
  have h1 : s1.fixed = s.fixed := by simp [s1]
  split
  · exact (Grows.applyCommand _ _ _ _ _ _ _ _ _ s1).before h1
  · exact Grows.of_fixed (by simp [h1])

theorem Grows.applyEarly (s : State) (e : EarlyRecord) : Grows s (applyEarly s e) := by
  unfold Machine.applyEarly
  split
  · exact Grows.applyRecord _ _ _ _ _ _ s
  · exact Grows.of_fixed (by simp)

theorem Grows.endBaseline (recordSeq : Nat) (ok : Bool) (s : State) : Grows s (endBaseline recordSeq ok s) := by
  unfold Machine.endBaseline
  split
  · exact Grows.of_fixed (by simp)
  · extract_lets early s1
    have h1 : s1.fixed = s.fixed := by simp [s1]
    exact ((Grows.foldl Machine.applyEarly Grows.applyEarly early s1).before h1).trans (Grows.of_fixed (by simp))

theorem Grows.idle (s : State) : Grows s (idle s) := by
  unfold Machine.idle
  split
  · exact Grows.refl s
  · split
    · exact Grows.carryOut (growsOpTable _) _ s
    · exact Grows.refl s

/-- Every next state of an outcome keeps or grows. -/
def OutGrows (s : State) (o : Host.Outcome State Fault Refusal) : Prop := ∀ t, o = .next t → Grows s t

theorem OutGrows.next {s t : State} (h : Grows s t) : OutGrows s (.next t) := fun _ e => by cases e; exact h

theorem OutGrows.onUnit {c : Bool} {s t : State} (h : Grows s t) : OutGrows s (onUnit c t) := by
  intro u e
  unfold Machine.onUnit at e
  split at e
  · cases e; exact h
  · cases e

theorem OutGrows.runCmd {op : Nat} {check : Cmd → State → Option Reply} {effect : Cmd → State → Ans} (h : EffectGrows check effect)
    (q : Cmd) (s : State) : OutGrows s (runCmd op check effect q s) := by
  unfold Machine.runCmd
  extract_lets s1
  have h1 : s1.fixed = s.fixed := by simp [s1]
  intro t e
  split at e
  · cases e
  · split at e
    · cases e; exact Grows.of_fixed h1
    · split at e
      · cases e; exact Grows.of_fixed (by simp [h1])
      · cases e; exact (Grows.launch h q s1).before h1

theorem fixed_storeMirror {id crc : Nat} {bytes : List Byte} {s t : State} (h : storeMirror id crc bytes s = .ok t) : t.fixed = s.fixed := by
  unfold storeMirror at h
  repeat' split at h
  all_goals first | (simp only [reduceCtorEq] at h; done) | (simp only [Except.ok.injEq] at h; rw [← h]; simp)

theorem grows_execSysIdentify (q : Cmd) (s : State) : OutGrows s (execSysIdentify q s) :=
  OutGrows.runCmd (.of_fixed fixed_sysIdentifyEffect) q s

theorem grows_execSysHello (q : Cmd) (s : State) : OutGrows s (execSysHello q s) :=
  OutGrows.runCmd (.of_fixed fixed_sysHelloEffect) q s

theorem grows_execSysHealth (q : Cmd) (s : State) : OutGrows s (execSysHealth q s) :=
  OutGrows.runCmd (.of_fixed fixed_sysHealthEffect) q s

theorem grows_execSysAbort (q : Cmd) (s : State) : OutGrows s (execSysAbort q s) :=
  OutGrows.runCmd (.of_fixed fixed_sysAbortEffect) q s

theorem grows_execSysNop (q : Cmd) (s : State) : OutGrows s (execSysNop q s) :=
  OutGrows.runCmd (.of_fixed fixed_sysNopEffect) q s

theorem grows_execSysReset (q : Cmd) (s : State) : OutGrows s (execSysReset q s) :=
  OutGrows.runCmd (.of_fixed fixed_sysResetEffect) q s

theorem grows_execSysConfigSave (q : Cmd) (s : State) : OutGrows s (execSysConfigSave q s) :=
  OutGrows.runCmd (.of_fixed fixed_sysConfigSaveEffect) q s

theorem grows_execSysConfigLoad (q : Cmd) (s : State) : OutGrows s (execSysConfigLoad q s) :=
  OutGrows.runCmd (EffectGrows.sysConfigLoad growsReplayTable) q s

theorem grows_execSysFwWrite (q : Cmd) (s : State) : OutGrows s (execSysFwWrite q s) :=
  OutGrows.runCmd (.of_fixed fixed_sysFwWriteEffect) q s

theorem grows_execSysFwActivate (q : Cmd) (s : State) : OutGrows s (execSysFwActivate q s) :=
  OutGrows.runCmd EffectGrows.sysFwActivate q s

theorem grows_execSysGpio (q : Cmd) (s : State) : OutGrows s (execSysGpio q s) :=
  OutGrows.runCmd (.of_fixed fixed_sysGpioEffect) q s

theorem grows_execSecStatus (q : Cmd) (s : State) : OutGrows s (execSecStatus q s) :=
  OutGrows.runCmd (.of_fixed fixed_secStatusEffect) q s

theorem grows_execSecProtectRead (q : Cmd) (s : State) : OutGrows s (execSecProtectRead q s) :=
  OutGrows.runCmd (.of_fixed fixed_secProtectReadEffect) q s

theorem grows_execSecProtectWrite (q : Cmd) (s : State) : OutGrows s (execSecProtectWrite q s) :=
  OutGrows.runCmd (.of_fixed fixed_secProtectWriteEffect) q s

theorem grows_execSecKeyLoad (q : Cmd) (s : State) : OutGrows s (execSecKeyLoad q s) :=
  OutGrows.runCmd (.of_fixed fixed_secKeyLoadEffect) q s

theorem grows_execSecKeyRotate (q : Cmd) (s : State) : OutGrows s (execSecKeyRotate q s) :=
  OutGrows.runCmd (.of_fixed fixed_secKeyRotateEffect) q s

theorem grows_execSecKeyRevoke (q : Cmd) (s : State) : OutGrows s (execSecKeyRevoke q s) :=
  OutGrows.runCmd (.of_fixed fixed_secKeyRevokeEffect) q s

theorem grows_execSecLifecycle (q : Cmd) (s : State) : OutGrows s (execSecLifecycle q s) :=
  OutGrows.runCmd EffectGrows.secLifecycle q s

theorem grows_execSecDebug (q : Cmd) (s : State) : OutGrows s (execSecDebug q s) :=
  OutGrows.runCmd (.of_fixed fixed_secDebugEffect) q s

theorem grows_execSecCounterRead (q : Cmd) (s : State) : OutGrows s (execSecCounterRead q s) :=
  OutGrows.runCmd (.of_fixed fixed_secCounterReadEffect) q s

theorem grows_execJobLoad (q : Cmd) (s : State) : OutGrows s (execJobLoad q s) :=
  OutGrows.runCmd (.of_fixed fixed_jobLoadEffect) q s

theorem grows_execJobEncode (q : Cmd) (s : State) : OutGrows s (execJobEncode q s) :=
  OutGrows.runCmd (.of_fixed fixed_jobEncodeEffect) q s

theorem grows_execJobCancel (q : Cmd) (s : State) : OutGrows s (execJobCancel q s) :=
  OutGrows.runCmd (.of_fixed fixed_jobCancelEffect) q s

theorem grows_execJobDelete (q : Cmd) (s : State) : OutGrows s (execJobDelete q s) :=
  OutGrows.runCmd (.of_fixed fixed_jobDeleteEffect) q s

theorem grows_execJobList (q : Cmd) (s : State) : OutGrows s (execJobList q s) :=
  OutGrows.runCmd (.of_fixed fixed_jobListEffect) q s

theorem grows_execJobInfo (q : Cmd) (s : State) : OutGrows s (execJobInfo q s) :=
  OutGrows.runCmd (.of_fixed fixed_jobInfoEffect) q s

theorem grows_execJobStoreStatus (q : Cmd) (s : State) : OutGrows s (execJobStoreStatus q s) :=
  OutGrows.runCmd (.of_fixed fixed_jobStoreStatusEffect) q s

theorem grows_execJobRead (q : Cmd) (s : State) : OutGrows s (execJobRead q s) :=
  OutGrows.runCmd (.of_fixed fixed_jobReadEffect) q s

theorem grows_execJobTransferDone (dt ring tag glitches : Nat) (mismatch : Option Nat) (lost : List Nat) (s : State) : OutGrows s (execJobTransferDone dt ring tag glitches mismatch lost s) := by
  unfold execJobTransferDone
  exact .next (Grows.of_fixed (by repeat' (first | (simp; done) | split | simp)))

theorem grows_execLayerConfig (q : Cmd) (s : State) : OutGrows s (execLayerConfig q s) :=
  OutGrows.runCmd (.of_fixed fixed_layerConfigEffect) q s

theorem grows_execLayerFlip (q : Cmd) (s : State) : OutGrows s (execLayerFlip q s) :=
  OutGrows.runCmd (.of_fixed fixed_layerFlipEffect) q s

theorem grows_execLayerFence (q : Cmd) (s : State) : OutGrows s (execLayerFence q s) :=
  OutGrows.runCmd (.of_fixed fixed_layerFenceEffect) q s

theorem grows_execLayerPalette (q : Cmd) (s : State) : OutGrows s (execLayerPalette q s) :=
  OutGrows.runCmd (.of_fixed fixed_layerPaletteEffect) q s

theorem grows_execLayerTone (q : Cmd) (s : State) : OutGrows s (execLayerTone q s) :=
  OutGrows.runCmd (.of_fixed fixed_layerToneEffect) q s

theorem grows_execLayerOrder (q : Cmd) (s : State) : OutGrows s (execLayerOrder q s) :=
  OutGrows.runCmd (.of_fixed fixed_layerOrderEffect) q s

theorem grows_execLayerGuard (q : Cmd) (s : State) : OutGrows s (execLayerGuard q s) :=
  OutGrows.runCmd (.of_fixed fixed_layerGuardEffect) q s

theorem grows_execLayerStatus (q : Cmd) (s : State) : OutGrows s (execLayerStatus q s) :=
  OutGrows.runCmd (.of_fixed fixed_layerStatusEffect) q s

theorem grows_execColourInkLimit (q : Cmd) (s : State) : OutGrows s (execColourInkLimit q s) :=
  OutGrows.runCmd (.of_fixed fixed_colourInkLimitEffect) q s

theorem grows_execColourCurves (q : Cmd) (s : State) : OutGrows s (execColourCurves q s) :=
  OutGrows.runCmd (.of_fixed fixed_colourCurvesEffect) q s

theorem grows_execColourLoopConfig (q : Cmd) (s : State) : OutGrows s (execColourLoopConfig q s) :=
  OutGrows.runCmd (.of_fixed fixed_colourLoopConfigEffect) q s

theorem grows_execColourLoopEnable (q : Cmd) (s : State) : OutGrows s (execColourLoopEnable q s) :=
  OutGrows.runCmd (.of_fixed fixed_colourLoopEnableEffect) q s

theorem grows_execColourTrimRead (q : Cmd) (s : State) : OutGrows s (execColourTrimRead q s) :=
  OutGrows.runCmd (.of_fixed fixed_colourTrimReadEffect) q s

theorem grows_execColourTrimWrite (q : Cmd) (s : State) : OutGrows s (execColourTrimWrite q s) :=
  OutGrows.runCmd (.of_fixed fixed_colourTrimWriteEffect) q s

theorem grows_execColourProfileSave (q : Cmd) (s : State) : OutGrows s (execColourProfileSave q s) :=
  OutGrows.runCmd (.of_fixed fixed_colourProfileSaveEffect) q s

theorem grows_execColourStrip (q : Cmd) (s : State) : OutGrows s (execColourStrip q s) :=
  OutGrows.runCmd (.of_fixed fixed_colourStripEffect) q s

theorem grows_execColourLedgerRead (q : Cmd) (s : State) : OutGrows s (execColourLedgerRead q s) :=
  OutGrows.runCmd (.of_fixed fixed_colourLedgerReadEffect) q s

theorem grows_execBarConfig (q : Cmd) (s : State) : OutGrows s (execBarConfig q s) :=
  OutGrows.runCmd (.of_fixed fixed_barConfigEffect) q s

theorem grows_execBarHeadMap (q : Cmd) (s : State) : OutGrows s (execBarHeadMap q s) :=
  OutGrows.runCmd (.of_fixed fixed_barHeadMapEffect) q s

theorem grows_execBarSegments (q : Cmd) (s : State) : OutGrows s (execBarSegments q s) :=
  OutGrows.runCmd (.of_fixed fixed_barSegmentsEffect) q s

theorem grows_execBarScreen (q : Cmd) (s : State) : OutGrows s (execBarScreen q s) :=
  OutGrows.runCmd (.of_fixed fixed_barScreenEffect) q s

theorem grows_execBarNozzleMap (q : Cmd) (s : State) : OutGrows s (execBarNozzleMap q s) :=
  OutGrows.runCmd (.of_fixed fixed_barNozzleMapEffect) q s

theorem grows_execBarDerive (q : Cmd) (s : State) : OutGrows s (execBarDerive q s) :=
  OutGrows.runCmd (.of_fixed fixed_barDeriveEffect) q s

theorem grows_execBarEnable (q : Cmd) (s : State) : OutGrows s (execBarEnable q s) :=
  OutGrows.runCmd (.of_fixed fixed_barEnableEffect) q s

theorem grows_execBarDisable (q : Cmd) (s : State) : OutGrows s (execBarDisable q s) :=
  OutGrows.runCmd (.of_fixed fixed_barDisableEffect) q s

theorem grows_execBarStatus (q : Cmd) (s : State) : OutGrows s (execBarStatus q s) :=
  OutGrows.runCmd (.of_fixed fixed_barStatusEffect) q s

theorem grows_execPrintStart (q : Cmd) (s : State) : OutGrows s (execPrintStart q s) :=
  OutGrows.runCmd (.of_fixed fixed_printStartEffect) q s

theorem grows_execPrintStop (q : Cmd) (s : State) : OutGrows s (execPrintStop q s) :=
  OutGrows.runCmd (.of_fixed fixed_printStopEffect) q s

theorem grows_execPrintCapo (q : Cmd) (s : State) : OutGrows s (execPrintCapo q s) :=
  OutGrows.runCmd (.of_fixed fixed_printCapoEffect) q s

theorem grows_execPrintLead (q : Cmd) (s : State) : OutGrows s (execPrintLead q s) :=
  OutGrows.runCmd (.of_fixed fixed_printLeadEffect) q s

theorem grows_execPrintOffsets (q : Cmd) (s : State) : OutGrows s (execPrintOffsets q s) :=
  OutGrows.runCmd (.of_fixed fixed_printOffsetsEffect) q s

theorem grows_execPrintStatus (q : Cmd) (s : State) : OutGrows s (execPrintStatus q s) :=
  OutGrows.runCmd (.of_fixed fixed_printStatusEffect) q s

theorem grows_execPosEncoderConfig (q : Cmd) (s : State) : OutGrows s (execPosEncoderConfig q s) :=
  OutGrows.runCmd (.of_fixed fixed_posEncoderConfigEffect) q s

theorem grows_execPosScale (q : Cmd) (s : State) : OutGrows s (execPosScale q s) :=
  OutGrows.runCmd (.of_fixed fixed_posScaleEffect) q s

theorem grows_execPosRead (q : Cmd) (s : State) : OutGrows s (execPosRead q s) :=
  OutGrows.runCmd (.of_fixed fixed_posReadEffect) q s

theorem grows_execPosCompare (q : Cmd) (s : State) : OutGrows s (execPosCompare q s) :=
  OutGrows.runCmd (.of_fixed fixed_posCompareEffect) q s

theorem grows_execPosBackup (q : Cmd) (s : State) : OutGrows s (execPosBackup q s) :=
  OutGrows.runCmd (.of_fixed fixed_posBackupEffect) q s

theorem grows_execPosCalibrate (q : Cmd) (s : State) : OutGrows s (execPosCalibrate q s) :=
  OutGrows.runCmd (.of_fixed fixed_posCalibrateEffect) q s

theorem grows_execTimeConfig (q : Cmd) (s : State) : OutGrows s (execTimeConfig q s) :=
  OutGrows.runCmd (.of_fixed fixed_timeConfigEffect) q s

theorem grows_execTimeRead (q : Cmd) (s : State) : OutGrows s (execTimeRead q s) :=
  OutGrows.runCmd (.of_fixed fixed_timeReadEffect) q s

theorem grows_execTimeStep (q : Cmd) (s : State) : OutGrows s (execTimeStep q s) :=
  OutGrows.runCmd (.of_fixed fixed_timeStepEffect) q s

theorem grows_execTimePtpConfig (q : Cmd) (s : State) : OutGrows s (execTimePtpConfig q s) :=
  OutGrows.runCmd (.of_fixed fixed_timePtpConfigEffect) q s

theorem grows_execTimeAsymmetry (q : Cmd) (s : State) : OutGrows s (execTimeAsymmetry q s) :=
  OutGrows.runCmd (.of_fixed fixed_timeAsymmetryEffect) q s

theorem grows_execTimeTrigger (q : Cmd) (s : State) : OutGrows s (execTimeTrigger q s) :=
  OutGrows.runCmd (.of_fixed fixed_timeTriggerEffect) q s

theorem grows_execTimeCapture (q : Cmd) (s : State) : OutGrows s (execTimeCapture q s) :=
  OutGrows.runCmd (.of_fixed fixed_timeCaptureEffect) q s

theorem grows_execTimeStatus (q : Cmd) (s : State) : OutGrows s (execTimeStatus q s) :=
  OutGrows.runCmd (.of_fixed fixed_timeStatusEffect) q s

theorem grows_execCamConfig (q : Cmd) (s : State) : OutGrows s (execCamConfig q s) :=
  OutGrows.runCmd (.of_fixed fixed_camConfigEffect) q s

theorem grows_execCamPipeline (q : Cmd) (s : State) : OutGrows s (execCamPipeline q s) :=
  OutGrows.runCmd (.of_fixed fixed_camPipelineEffect) q s

theorem grows_execCamEnable (q : Cmd) (s : State) : OutGrows s (execCamEnable q s) :=
  OutGrows.runCmd (.of_fixed fixed_camEnableEffect) q s

theorem grows_execCamCalibrate (q : Cmd) (s : State) : OutGrows s (execCamCalibrate q s) :=
  OutGrows.runCmd (.of_fixed fixed_camCalibrateEffect) q s

theorem grows_execCamFrameRead (q : Cmd) (s : State) : OutGrows s (execCamFrameRead q s) :=
  OutGrows.runCmd (.of_fixed fixed_camFrameReadEffect) q s

theorem grows_execCamArchive (q : Cmd) (s : State) : OutGrows s (execCamArchive q s) :=
  OutGrows.runCmd (.of_fixed fixed_camArchiveEffect) q s

theorem grows_execCamStatus (q : Cmd) (s : State) : OutGrows s (execCamStatus q s) :=
  OutGrows.runCmd (.of_fixed fixed_camStatusEffect) q s

theorem grows_execLinkCourseConfig (q : Cmd) (s : State) : OutGrows s (execLinkCourseConfig q s) :=
  OutGrows.runCmd (.of_fixed fixed_linkCourseConfigEffect) q s

theorem grows_execLinkTrain (q : Cmd) (s : State) : OutGrows s (execLinkTrain q s) :=
  OutGrows.runCmd (.of_fixed fixed_linkTrainEffect) q s

theorem grows_execLinkLaneSlip (q : Cmd) (s : State) : OutGrows s (execLinkLaneSlip q s) :=
  OutGrows.runCmd (.of_fixed fixed_linkLaneSlipEffect) q s

theorem grows_execLinkPrbs (q : Cmd) (s : State) : OutGrows s (execLinkPrbs q s) :=
  OutGrows.runCmd (.of_fixed fixed_linkPrbsEffect) q s

theorem grows_execLinkInject (q : Cmd) (s : State) : OutGrows s (execLinkInject q s) :=
  OutGrows.runCmd (.of_fixed fixed_linkInjectEffect) q s

theorem grows_execLinkQueueFlush (q : Cmd) (s : State) : OutGrows s (execLinkQueueFlush q s) :=
  OutGrows.runCmd (.of_fixed fixed_linkQueueFlushEffect) q s

theorem grows_execLinkStatus (q : Cmd) (s : State) : OutGrows s (execLinkStatus q s) :=
  OutGrows.runCmd (.of_fixed fixed_linkStatusEffect) q s

theorem grows_execLinkEthConfig (q : Cmd) (s : State) : OutGrows s (execLinkEthConfig q s) :=
  OutGrows.runCmd (.of_fixed fixed_linkEthConfigEffect) q s

theorem grows_execEthPortRetrained (dt port : Nat) (linkUp : Bool) (s : State) : OutGrows s (execEthPortRetrained dt port linkUp s) := by
  unfold execEthPortRetrained
  exact .onUnit (Grows.of_fixed (by repeat' (first | (simp; done) | split | simp)))

theorem grows_execLinkMarks (q : Cmd) (s : State) : OutGrows s (execLinkMarks q s) :=
  OutGrows.runCmd (.of_fixed fixed_linkMarksEffect) q s

theorem grows_execHeadDiscover (q : Cmd) (s : State) : OutGrows s (execHeadDiscover q s) :=
  OutGrows.runCmd (.of_fixed fixed_headDiscoverEffect) q s

theorem grows_execHeadMirRead (q : Cmd) (s : State) : OutGrows s (execHeadMirRead q s) :=
  OutGrows.runCmd (.of_fixed fixed_headMirReadEffect) q s

theorem grows_execHeadGateTest (q : Cmd) (s : State) : OutGrows s (execHeadGateTest q s) :=
  OutGrows.runCmd (.of_fixed fixed_headGateTestEffect) q s

theorem grows_execHeadEnable (q : Cmd) (s : State) : OutGrows s (execHeadEnable q s) :=
  OutGrows.runCmd (.of_fixed fixed_headEnableEffect) q s

theorem grows_execHeadDisable (q : Cmd) (s : State) : OutGrows s (execHeadDisable q s) :=
  OutGrows.runCmd (.of_fixed fixed_headDisableEffect) q s

theorem grows_execHeadStatus (q : Cmd) (s : State) : OutGrows s (execHeadStatus q s) :=
  OutGrows.runCmd (.of_fixed fixed_headStatusEffect) q s

theorem grows_execHeadBridgeMgmt (q : Cmd) (s : State) : OutGrows s (execHeadBridgeMgmt q s) :=
  OutGrows.runCmd (.of_fixed fixed_headBridgeMgmtEffect) q s

theorem grows_execThermLevels (q : Cmd) (s : State) : OutGrows s (execThermLevels q s) :=
  OutGrows.runCmd (.of_fixed fixed_thermLevelsEffect) q s

theorem grows_execThermRead (q : Cmd) (s : State) : OutGrows s (execThermRead q s) :=
  OutGrows.runCmd (.of_fixed fixed_thermReadEffect) q s

theorem grows_execThermSensorTrim (q : Cmd) (s : State) : OutGrows s (execThermSensorTrim q s) :=
  OutGrows.runCmd (.of_fixed fixed_thermSensorTrimEffect) q s

theorem grows_execThermPowerState (q : Cmd) (s : State) : OutGrows s (execThermPowerState q s) :=
  OutGrows.runCmd (.of_fixed fixed_thermPowerStateEffect) q s

theorem grows_execThermPmbus (q : Cmd) (s : State) : OutGrows s (execThermPmbus q s) :=
  OutGrows.runCmd (.of_fixed fixed_thermPmbusEffect) q s

theorem grows_execThermBudget (q : Cmd) (s : State) : OutGrows s (execThermBudget q s) :=
  OutGrows.runCmd (.of_fixed fixed_thermBudgetEffect) q s

theorem grows_execPairConfig (q : Cmd) (s : State) : OutGrows s (execPairConfig q s) :=
  OutGrows.runCmd (.of_fixed fixed_pairConfigEffect) q s

theorem grows_execPairHealth (q : Cmd) (s : State) : OutGrows s (execPairHealth q s) :=
  OutGrows.runCmd (.of_fixed fixed_pairHealthEffect) q s

theorem grows_execPairHandover (q : Cmd) (s : State) : OutGrows s (execPairHandover q s) :=
  OutGrows.runCmd (.of_fixed fixed_pairHandoverEffect) q s

theorem grows_execPairMirror (q : Cmd) (s : State) : OutGrows s (execPairMirror q s) :=
  OutGrows.runCmd (.of_fixed fixed_pairMirrorEffect) q s

theorem grows_execPairStatus (q : Cmd) (s : State) : OutGrows s (execPairStatus q s) :=
  OutGrows.runCmd (.of_fixed fixed_pairStatusEffect) q s

theorem grows_execPairRejoin (q : Cmd) (s : State) : OutGrows s (execPairRejoin q s) :=
  OutGrows.runCmd (.of_fixed fixed_pairRejoinEffect) q s

theorem grows_execStatFrameRecord (q : Cmd) (s : State) : OutGrows s (execStatFrameRecord q s) :=
  OutGrows.runCmd (.of_fixed fixed_statFrameRecordEffect) q s

theorem grows_execStatCounters (q : Cmd) (s : State) : OutGrows s (execStatCounters q s) :=
  OutGrows.runCmd (.of_fixed fixed_statCountersEffect) q s

theorem grows_execStatClear (q : Cmd) (s : State) : OutGrows s (execStatClear q s) :=
  OutGrows.runCmd (.of_fixed fixed_statClearEffect) q s

theorem grows_execStatEventMask (q : Cmd) (s : State) : OutGrows s (execStatEventMask q s) :=
  OutGrows.runCmd (.of_fixed fixed_statEventMaskEffect) q s

theorem grows_execStatEventFetch (q : Cmd) (s : State) : OutGrows s (execStatEventFetch q s) :=
  OutGrows.runCmd (.of_fixed fixed_statEventFetchEffect) q s

theorem grows_execStatPeaks (q : Cmd) (s : State) : OutGrows s (execStatPeaks q s) :=
  OutGrows.runCmd (.of_fixed fixed_statPeaksEffect) q s

theorem grows_execDiagSelfTest (q : Cmd) (s : State) : OutGrows s (execDiagSelfTest q s) :=
  OutGrows.runCmd (.of_fixed fixed_diagSelfTestEffect) q s

theorem grows_execDiagUnitRestore (q : Cmd) (s : State) : OutGrows s (execDiagUnitRestore q s) :=
  OutGrows.runCmd (.of_fixed fixed_diagUnitRestoreEffect) q s

theorem grows_execDiagUnitRetire (q : Cmd) (s : State) : OutGrows s (execDiagUnitRetire q s) :=
  OutGrows.runCmd (.of_fixed fixed_diagUnitRetireEffect) q s

theorem grows_execDiagMemTest (q : Cmd) (s : State) : OutGrows s (execDiagMemTest q s) :=
  OutGrows.runCmd (.of_fixed fixed_diagMemTestEffect) q s

theorem grows_execDiagRegRead (q : Cmd) (s : State) : OutGrows s (execDiagRegRead q s) :=
  OutGrows.runCmd (.of_fixed fixed_diagRegReadEffect) q s

theorem grows_execDiagInject (q : Cmd) (s : State) : OutGrows s (execDiagInject q s) :=
  OutGrows.runCmd (.of_fixed fixed_diagInjectEffect) q s

theorem grows_execDiagTrace (q : Cmd) (s : State) : OutGrows s (execDiagTrace q s) :=
  OutGrows.runCmd (.of_fixed fixed_diagTraceEffect) q s

theorem grows_execSqDb (dt ring value : Nat) (s : State) : OutGrows s (execSqDb dt ring value s) := by
  unfold execSqDb
  exact .onUnit (Grows.of_fixed (by repeat' (first | (simp; done) | split | simp)))

theorem grows_execCqDb (dt ring value : Nat) (s : State) : OutGrows s (execCqDb dt ring value s) := by
  unfold execCqDb
  exact .onUnit (Grows.of_fixed (by repeat' (first | (simp; done) | split | simp)))

theorem grows_execEvqDb (dt value : Nat) (s : State) : OutGrows s (execEvqDb dt value s) := by
  unfold execEvqDb
  exact .next (Grows.of_fixed (by repeat' (first | (simp; done) | split | simp)))

theorem grows_execRingEnableSet (dt ring : Nat) (s : State) : OutGrows s (execRingEnableSet dt ring s) := by
  unfold execRingEnableSet
  exact .onUnit (Grows.of_fixed (by repeat' (first | (simp; done) | split | simp)))

theorem grows_execRingEnableClear (dt ring : Nat) (s : State) : OutGrows s (execRingEnableClear dt ring s) := by
  unfold execRingEnableClear
  exact .onUnit (Grows.of_fixed (by repeat' (first | (simp; done) | split | simp)))

theorem grows_execRingReset (dt ring : Nat) (s : State) : OutGrows s (execRingReset dt ring s) := by
  unfold execRingReset
  exact .onUnit (Grows.of_fixed (by repeat' (first | (simp; done) | split | simp)))

theorem grows_execEvqEnableSet (dt : Nat) (s : State) : OutGrows s (execEvqEnableSet dt s) := by
  unfold execEvqEnableSet
  exact .next (Grows.of_fixed (by repeat' (first | (simp; done) | split | simp)))

theorem grows_execEvqEnableClear (dt : Nat) (s : State) : OutGrows s (execEvqEnableClear dt s) := by
  unfold execEvqEnableClear
  exact .next (Grows.of_fixed (by repeat' (first | (simp; done) | split | simp)))

theorem grows_execBar2WindowRead (dt offset len : Nat) (uncorrectable : Bool) (s : State) : OutGrows s (execBar2WindowRead dt offset len uncorrectable s) := by
  unfold execBar2WindowRead
  exact .onUnit (Grows.of_fixed (by repeat' (first | (simp; done) | split | simp)))

/-- A write through the window changes no more than SCRATCH, where the window takes it; else nothing that Grows names. -/
theorem grows_execBar2WindowWrite (dt offset : Nat) (bytes : List Byte) (s t : State) (h : execBar2WindowWrite dt offset bytes s = .next t) :
    t.pending = s.pending ∧ t.sec.lifecycle = s.sec.lifecycle ∧ t.sec.svnMin = s.sec.svnMin ∧ t.sec.fwRevoked = s.sec.fwRevoked
      ∧ (scratchWf s.store.scratch = true → scratchWf t.store.scratch = true) := by
  have e : (advance dt s).fixed = s.fixed := by simp
  have e' : (denyWindow (advance dt s)).fixed = s.fixed := by simp
  simp only [State.fixed, Prod.mk.injEq] at e e'
  unfold execBar2WindowWrite onUnit at h
  dsimp only at h
  split at h
  · simp only [Host.Outcome.next.injEq] at h
    split at h
    · rw [← h]
      refine ⟨e.1, e.2.2.1, e.2.2.2.1, e.2.2.2.2, fun w => scratchWrite_wf _ _ _ ?_⟩
      rw [e.2.1]; exact w
    · rw [← h]
      exact ⟨e'.1, e'.2.2.1, e'.2.2.2.1, e'.2.2.2.2, by rw [e'.2.1]; exact id⟩
  · cases h

theorem grows_execRegisterWrite (dt offset size value : Nat) (s : State) : OutGrows s (execRegisterWrite dt offset size value s) := by
  unfold execRegisterWrite
  exact .onUnit (Grows.of_fixed (by repeat' (first | (simp; done) | split | simp)))

theorem grows_execSlotFetch (dt ring : Nat) (slot pblk : List Byte) (descs : List Desc) (data : List Byte) (pcieError : Bool) (s : State) : OutGrows s (execSlotFetch dt ring slot pblk descs data pcieError s) :=
  .onUnit ((Grows.fetchSlot growsOpTable _ _ _ _ _ _ _).before (by simp))

theorem grows_execJournalWriteDone (dt : Nat) (s : State) : OutGrows s (execJournalWriteDone dt s) :=
  .next ((Grows.journalWritten _).before (by simp))

theorem grows_execCompletionCoalesceTimeout (dt ring : Nat) (s : State) : OutGrows s (execCompletionCoalesceTimeout dt ring s) := by
  unfold execCompletionCoalesceTimeout
  exact .onUnit (Grows.of_fixed (by repeat' (first | (simp; done) | split | simp)))

theorem grows_execEventCoalesceTimeout (dt vector : Nat) (s : State) : OutGrows s (execEventCoalesceTimeout dt vector s) := by
  unfold execEventCoalesceTimeout
  exact .onUnit (Grows.of_fixed (by repeat' (first | (simp; done) | split | simp)))

theorem grows_execCommandDatagram (dt port : Nat) (from_ : EthFrom) (vlan : Option Nat) (address udpPort : Nat) (bytes : List Byte) (s : State) : OutGrows s (execCommandDatagram dt port from_ vlan address udpPort bytes s) := by
  unfold execCommandDatagram
  refine .onUnit (Grows.before (s' := advance dt s) ?_ (by simp))
  repeat' split
  · exact Grows.refl _
  · exact Grows.takeDatagram growsOpTable _ _ _ _
  · exact Grows.of_fixed (by simp)

theorem grows_execArpRequest (dt port : Nat) (vlan : Option Nat) (mac ip target : Nat) (s : State) : OutGrows s (execArpRequest dt port vlan mac ip target s) := by
  unfold execArpRequest
  exact .onUnit (Grows.of_fixed (by repeat' (first | (simp; done) | split | simp)))

theorem grows_execIcmpEchoRequest (dt port : Nat) (vlan : Option Nat) (ip target protocol type : Nat) (bytes : List Byte) (s : State) : OutGrows s (execIcmpEchoRequest dt port vlan ip target protocol type bytes s) := by
  unfold execIcmpEchoRequest
  exact .onUnit (Grows.of_fixed (by repeat' (first | (simp; done) | split | simp)))

theorem grows_execPtpMessage (dt port : Nat) (via : PtpVia) (domainNumber : Nat) (msg : PtpMsg) (s : State) : OutGrows s (execPtpMessage dt port via domainNumber msg s) := by
  unfold execPtpMessage
  exact .onUnit (Grows.of_fixed (by repeat' (first | (simp; done) | split | simp)))

theorem grows_execPathHoldExpiry (dt port : Nat) (s : State) : OutGrows s (execPathHoldExpiry dt port s) := by
  unfold execPathHoldExpiry
  exact .onUnit (Grows.of_fixed (by repeat' (first | (simp; done) | split | simp)))

theorem grows_execAnnounceTimeout (dt port : Nat) (s : State) : OutGrows s (execAnnounceTimeout dt port s) := by
  unfold execAnnounceTimeout
  exact .onUnit (Grows.of_fixed (by repeat' (first | (simp; done) | split | simp)))

theorem grows_execHoldoverWarn (dt domain : Nat) (s : State) : OutGrows s (execHoldoverWarn dt domain s) := by
  unfold execHoldoverWarn
  exact .onUnit (Grows.of_fixed (by repeat' (first | (simp; done) | split | simp)))

theorem grows_execPtpMasterSend (dt port : Nat) (announce : Bool) (s : State) : OutGrows s (execPtpMasterSend dt port announce s) := by
  unfold execPtpMasterSend
  exact .onUnit (Grows.of_fixed (by repeat' (first | (simp; done) | split | simp)))

theorem grows_execPtpDelayRequest (dt port : Nat) (s : State) : OutGrows s (execPtpDelayRequest dt port s) := by
  unfold execPtpDelayRequest
  exact .onUnit (Grows.of_fixed (by repeat' (first | (simp; done) | split | simp)))

theorem grows_execTb3RateStep (dt : Nat) (s : State) : OutGrows s (execTb3RateStep dt s) := by
  unfold execTb3RateStep
  exact .next (Grows.of_fixed (by repeat' (first | (simp; done) | split | simp)))

theorem grows_execTbfReload (dt domain : Nat) (s : State) : OutGrows s (execTbfReload dt domain s) := by
  unfold execTbfReload
  exact .onUnit (Grows.of_fixed (by repeat' (first | (simp; done) | split | simp)))

theorem grows_execTriggerFire (dt unit : Nat) (s : State) : OutGrows s (execTriggerFire dt unit s) := by
  unfold execTriggerFire
  exact .onUnit (Grows.of_fixed (by repeat' (first | (simp; done) | split | simp)))

theorem grows_execConversionComplete (dt ch sinRaw cosRaw : Nat) (s : State) : OutGrows s (execConversionComplete dt ch sinRaw cosRaw s) := by
  unfold execConversionComplete
  exact .onUnit (Grows.of_fixed (by repeat' (first | (simp; done) | split | simp)))

theorem grows_execCaptureInputEdge (dt gpio : Nat) (rising : Bool) (s : State) : OutGrows s (execCaptureInputEdge dt gpio rising s) := by
  unfold execCaptureInputEdge
  exact .onUnit (Grows.of_fixed (by repeat' (first | (simp; done) | split | simp)))

theorem grows_execEncoderEdge (dt ch : Nat) (a b z : Bool) (held : Nat) (s : State) : OutGrows s (execEncoderEdge dt ch a b z held s) := by
  unfold execEncoderEdge
  exact .onUnit (Grows.of_fixed (by repeat' (first | (simp; done) | split | simp)))

theorem grows_execCompareCatchUpFire (dt unit : Nat) (s : State) : OutGrows s (execCompareCatchUpFire dt unit s) := by
  unfold execCompareCatchUpFire
  exact .onUnit (Grows.of_fixed (by repeat' (first | (simp; done) | split | simp)))

theorem grows_execEncoderStall (dt ch : Nat) (s : State) : OutGrows s (execEncoderStall dt ch s) := by
  unfold execEncoderStall
  exact .onUnit (Grows.of_fixed (by repeat' (first | (simp; done) | split | simp)))

theorem grows_execBackupOffsetRefresh (dt : Nat) (s : State) : OutGrows s (execBackupOffsetRefresh dt s) := by
  unfold execBackupOffsetRefresh
  exact .next (Grows.of_fixed (by repeat' (first | (simp; done) | split | simp)))

theorem grows_execWebEstimateUpdate (dt : Nat) (s : State) : OutGrows s (execWebEstimateUpdate dt s) := by
  unfold execWebEstimateUpdate
  exact .next (Grows.of_fixed (by repeat' (first | (simp; done) | split | simp)))

theorem grows_execLineTick (dt : Nat) (s : State) : OutGrows s (execLineTick dt s) := by
  unfold execLineTick
  exact .next (Grows.of_fixed (by repeat' (first | (simp; done) | split | simp)))

theorem grows_execReadinessPoint (dt : Nat) (s : State) : OutGrows s (execReadinessPoint dt s) := by
  unfold execReadinessPoint
  exact .next (Grows.of_fixed (by repeat' (first | (simp; done) | split | simp)))

theorem grows_execSendDeadline (dt bar head : Nat) (s : State) : OutGrows s (execSendDeadline dt bar head s) := by
  unfold execSendDeadline
  exact .onUnit (Grows.of_fixed (by repeat' (first | (simp; done) | split | simp)))

theorem grows_execStampFormation (dt bar head row : Nat) (s : State) : OutGrows s (execStampFormation dt bar head row s) := by
  unfold execStampFormation
  exact .onUnit (Grows.of_fixed (by repeat' (first | (simp; done) | split | simp)))

theorem grows_execRunEnd (dt : Nat) (s : State) : OutGrows s (execRunEnd dt s) := by
  unfold execRunEnd
  exact .next (Grows.of_fixed (by repeat' (first | (simp; done) | split | simp)))

theorem grows_execPrintInhibitAssert (dt : Nat) (s : State) : OutGrows s (execPrintInhibitAssert dt s) := by
  unfold execPrintInhibitAssert
  exact .next (Grows.of_fixed (by repeat' (first | (simp; done) | split | simp)))

theorem grows_execPrintInhibitRelease (dt : Nat) (s : State) : OutGrows s (execPrintInhibitRelease dt s) := by
  unfold execPrintInhibitRelease
  exact .next (Grows.of_fixed (by repeat' (first | (simp; done) | split | simp)))

theorem grows_execRenderHeadLine (dt bar clocks : Nat) (s : State) : OutGrows s (execRenderHeadLine dt bar clocks s) := by
  unfold execRenderHeadLine
  exact .onUnit (Grows.of_fixed (by repeat' (first | (simp; done) | split | simp)))

theorem grows_execComposeContoneLine (dt : Nat) (s : State) : OutGrows s (execComposeContoneLine dt s) := by
  unfold execComposeContoneLine
  exact .next (Grows.of_fixed (by repeat' (first | (simp; done) | split | simp)))

theorem grows_execBlockDecode (dt pipe job obj block : Nat) (poisoned glitch : Bool) (s : State) : OutGrows s (execBlockDecode dt pipe job obj block poisoned glitch s) := by
  unfold execBlockDecode
  exact .onUnit (Grows.of_fixed (by repeat' (first | (simp; done) | split | simp)))

theorem grows_execMemoryReadComplete (dt line : Nat) (owner : Owner) (ecc : EccResult) (s : State) : OutGrows s (execMemoryReadComplete dt line owner ecc s) := by
  unfold execMemoryReadComplete
  exact .onUnit (Grows.of_fixed (by repeat' (first | (simp; done) | split | simp)))

theorem grows_execPatrolScrubRead (dt : Nat) (owner : Owner) (ecc : EccResult) (s : State) : OutGrows s (execPatrolScrubRead dt owner ecc s) := by
  unfold execPatrolScrubRead
  exact .next (Grows.of_fixed (by repeat' (first | (simp; done) | split | simp)))

theorem grows_execUnitRetirement (dt unit : Nat) (s : State) : OutGrows s (execUnitRetirement dt unit s) := by
  unfold execUnitRetirement
  exact .onUnit (Grows.of_fixed (by repeat' (first | (simp; done) | split | simp)))

theorem grows_execPageMigrationDone (dt page : Nat) (s : State) : OutGrows s (execPageMigrationDone dt page s) := by
  unfold execPageMigrationDone
  exact .next (Grows.of_fixed (by repeat' (first | (simp; done) | split | simp)))

theorem grows_execPacketReceive (dt lane : Nat) (start bytes : List Byte) (crc : Nat) (whole : Bool) (s : State) : OutGrows s (execPacketReceive dt lane start bytes crc whole s) := by
  unfold execPacketReceive
  exact .onUnit (Grows.of_fixed (by repeat' (first | (simp; done) | split | simp)))

theorem grows_execAckReceive (dt lane : Nat) (cls : Cls) (seq crc : Nat) (s : State) : OutGrows s (execAckReceive dt lane cls seq crc s) := by
  unfold execAckReceive
  exact .onUnit (Grows.of_fixed (by repeat' (first | (simp; done) | split | simp)))

theorem grows_execNakReceive (dt lane : Nat) (cls : Cls) (seq crc : Nat) (s : State) : OutGrows s (execNakReceive dt lane cls seq crc s) := by
  unfold execNakReceive
  exact .onUnit (Grows.of_fixed (by repeat' (first | (simp; done) | split | simp)))

theorem grows_execCreditReceive (dt lane : Nat) (cls : Cls) (limit crc : Nat) (s : State) : OutGrows s (execCreditReceive dt lane cls limit crc s) := by
  unfold execCreditReceive
  exact .onUnit (Grows.of_fixed (by repeat' (first | (simp; done) | split | simp)))

theorem grows_execAlignReceive (dt lane hdr : Nat) (bytes : List Byte) (bip : Nat) (s : State) : OutGrows s (execAlignReceive dt lane hdr bytes bip s) := by
  unfold execAlignReceive
  exact .onUnit (Grows.of_fixed (by repeat' (first | (simp; done) | split | simp)))

theorem grows_execAlignSend (dt lane : Nat) (s : State) : OutGrows s (execAlignSend dt lane s) := by
  unfold execAlignSend
  exact .onUnit (Grows.of_fixed (by repeat' (first | (simp; done) | split | simp)))

theorem grows_execAckTimeout (dt link : Nat) (cls : Cls) (s : State) : OutGrows s (execAckTimeout dt link cls s) := by
  unfold execAckTimeout
  exact .onUnit (Grows.of_fixed (by repeat' (first | (simp; done) | split | simp)))

theorem grows_execNakRepeat (dt link : Nat) (cls : Cls) (s : State) : OutGrows s (execNakRepeat dt link cls s) := by
  unfold execNakRepeat
  exact .onUnit (Grows.of_fixed (by repeat' (first | (simp; done) | split | simp)))

theorem grows_execCreditSend (dt link : Nat) (cls : Cls) (s : State) : OutGrows s (execCreditSend dt link cls s) := by
  unfold execCreditSend
  exact .onUnit (Grows.of_fixed (by repeat' (first | (simp; done) | split | simp)))

theorem grows_execLinePacketSend (dt course clocks : Nat) (s : State) : OutGrows s (execLinePacketSend dt course clocks s) := by
  unfold execLinePacketSend
  exact .onUnit (Grows.of_fixed (by repeat' (first | (simp; done) | split | simp)))

theorem grows_execStampPacketSend (dt course : Nat) (s : State) : OutGrows s (execStampPacketSend dt course s) := by
  unfold execStampPacketSend
  exact .onUnit (Grows.of_fixed (by repeat' (first | (simp; done) | split | simp)))

theorem grows_execBlockLockLost (dt lane : Nat) (s : State) : OutGrows s (execBlockLockLost dt lane s) := by
  unfold execBlockLockLost
  exact .onUnit (Grows.of_fixed (by repeat' (first | (simp; done) | split | simp)))

theorem grows_execBlockLockGained (dt lane : Nat) (s : State) : OutGrows s (execBlockLockGained dt lane s) := by
  unfold execBlockLockGained
  exact .onUnit (Grows.of_fixed (by repeat' (first | (simp; done) | split | simp)))

theorem grows_execHuntSlip (dt lane : Nat) (s : State) : OutGrows s (execHuntSlip dt lane s) := by
  unfold execHuntSlip
  exact .onUnit (Grows.of_fixed (by repeat' (first | (simp; done) | split | simp)))

theorem grows_execLaneDown (dt lane : Nat) (s : State) : OutGrows s (execLaneDown dt lane s) := by
  unfold execLaneDown
  exact .onUnit (Grows.of_fixed (by repeat' (first | (simp; done) | split | simp)))

theorem grows_execCourseRetrain (dt course : Nat) (s : State) : OutGrows s (execCourseRetrain dt course s) := by
  unfold execCourseRetrain
  exact .onUnit (Grows.of_fixed (by repeat' (first | (simp; done) | split | simp)))

theorem grows_execTimeSyncSend (dt course : Nat) (s : State) : OutGrows s (execTimeSyncSend dt course s) := by
  unfold execTimeSyncSend
  exact .onUnit (Grows.of_fixed (by repeat' (first | (simp; done) | split | simp)))

theorem grows_execTimeEcho (dt course syncId turn : Nat) (offset : Int) (s : State) : OutGrows s (execTimeEcho dt course syncId turn offset s) := by
  unfold execTimeEcho
  exact .onUnit (Grows.of_fixed (by repeat' (first | (simp; done) | split | simp)))

theorem grows_execBridgeHello (dt course : Nat) (bytes : List Byte) (s : State) : OutGrows s (execBridgeHello dt course bytes s) := by
  unfold execBridgeHello
  exact .onUnit (Grows.of_fixed (by repeat' (first | (simp; done) | split | simp)))

theorem grows_execClaimAck (dt course : Nat) (bytes : List Byte) (s : State) : OutGrows s (execClaimAck dt course bytes s) := by
  unfold execClaimAck
  exact .onUnit (Grows.of_fixed (by repeat' (first | (simp; done) | split | simp)))

theorem grows_execClaimAckTimeout (dt course : Nat) (s : State) : OutGrows s (execClaimAckTimeout dt course s) := by
  unfold execClaimAckTimeout
  exact .onUnit (Grows.of_fixed (by repeat' (first | (simp; done) | split | simp)))

theorem grows_execOwnerChanged (dt course epoch owner : Nat) (s : State) : OutGrows s (execOwnerChanged dt course epoch owner s) := by
  unfold execOwnerChanged
  exact .onUnit (Grows.of_fixed (by repeat' (first | (simp; done) | split | simp)))

theorem grows_execBridgeStatus (dt course : Nat) (bytes : List Byte) (s : State) : OutGrows s (execBridgeStatus dt course bytes s) := by
  unfold execBridgeStatus
  exact .onUnit (Grows.of_fixed (by repeat' (first | (simp; done) | split | simp)))

theorem grows_execMgmtReply (dt course : Nat) (bytes : List Byte) (s : State) : OutGrows s (execMgmtReply dt course bytes s) := by
  unfold execMgmtReply
  exact .onUnit (Grows.of_fixed (by repeat' (first | (simp; done) | split | simp)))

theorem grows_execHeadTempStale (dt course : Nat) (s : State) : OutGrows s (execHeadTempStale dt course s) := by
  unfold execHeadTempStale
  refine .onUnit (Grows.of_fixed ?_)
  split
  · simp only [fixed_post, fixed_State_onCourse]
    rw [fixed_foldl _ (by intros; split <;> simp)]
    simp
  · simp

theorem grows_execBarSilenceHalt (dt bar : Nat) (s : State) : OutGrows s (execBarSilenceHalt dt bar s) := by
  unfold execBarSilenceHalt
  exact .onUnit (Grows.of_fixed (by repeat' (first | (simp; done) | split | simp)))

theorem grows_execCsiFrameStart (dt port vc : Nat) (ecc : EccResult) (s : State) : OutGrows s (execCsiFrameStart dt port vc ecc s) := by
  unfold execCsiFrameStart
  exact .onUnit (Grows.of_fixed (by repeat' (first | (simp; done) | split | simp)))

theorem grows_execCsiLinePacket (dt port vc dataType wordCount : Nat) (px : List Nat) (ecc : EccResult) (crcOk : Bool) (s : State) : OutGrows s (execCsiLinePacket dt port vc dataType wordCount px ecc crcOk s) := by
  unfold execCsiLinePacket
  have h := fixed_takeHeader port vc ecc (advance dt s)
  refine .onUnit (Grows.of_fixed ?_)
  replace h : (takeHeader port vc ecc (advance dt s)).1.fixed = s.fixed := h.trans (by simp)
  dsimp only
  repeat' (first | (simp; done) | exact h | (simp [h]; done) | split)

theorem grows_execCsiFrameEnd (dt port vc : Nat) (ecc : EccResult) (s : State) : OutGrows s (execCsiFrameEnd dt port vc ecc s) := by
  unfold execCsiFrameEnd
  exact .onUnit (Grows.of_fixed (by repeat' (first | (simp; done) | split | simp)))

theorem grows_execPipelineLineTurn (dt : Nat) (s : State) : OutGrows s (execPipelineLineTurn dt s) := by
  unfold execPipelineLineTurn
  exact .next (Grows.of_fixed (by repeat' (first | (simp; done) | split | simp)))

theorem grows_execExposureMid (dt port vc : Nat) (s : State) : OutGrows s (execExposureMid dt port vc s) := by
  unfold execExposureMid
  exact .onUnit (Grows.of_fixed (by repeat' (first | (simp; done) | split | simp)))

theorem grows_execExposureRecordTimeout (dt port vc : Nat) (s : State) : OutGrows s (execExposureRecordTimeout dt port vc s) := by
  unfold execExposureRecordTimeout
  exact .onUnit (Grows.of_fixed (by repeat' (first | (simp; done) | split | simp)))

theorem grows_execCamCalibrateHoldEnd (dt port : Nat) (s : State) : OutGrows s (execCamCalibrateHoldEnd dt port s) := by
  unfold execCamCalibrateHoldEnd
  exact .onUnit (Grows.of_fixed (by repeat' (first | (simp; done) | split | simp)))

theorem grows_execGatePulse (dt gate : Nat) (s : State) : OutGrows s (execGatePulse dt gate s) := by
  unfold execGatePulse
  exact .onUnit (Grows.of_fixed (by repeat' (first | (simp; done) | split | simp)))

theorem grows_execThermalSample (dt : Nat) (raws : List (Option Int)) (s : State) : OutGrows s (execThermalSample dt raws s) := by
  unfold execThermalSample
  exact .onUnit (Grows.of_fixed (by repeat' (first | (simp; done) | split | simp)))

theorem grows_execSubstitutionFloor (dt : Nat) (s : State) : OutGrows s (execSubstitutionFloor dt s) := by
  unfold execSubstitutionFloor
  exact .next (Grows.of_fixed (by repeat' (first | (simp; done) | split | simp)))

theorem grows_execShutdownHoldEnd (dt : Nat) (s : State) : OutGrows s (execShutdownHoldEnd dt s) := by
  unfold execShutdownHoldEnd
  exact .next (Grows.of_fixed (by repeat' (first | (simp; done) | split | simp)))

theorem grows_execHardwareTrip (dt : Nat) (temps : List Int) (unserviced : Bool) (s : State) : OutGrows s (execHardwareTrip dt temps unserviced s) := by
  unfold execHardwareTrip
  refine .onUnit (Grows.before (s' := advance dt s) ?_ (by simp))
  split
  · exact Grows.hardwareTrip _
  · exact Grows.refl _

theorem grows_execAvsAdjust (dt target : Nat) (reached : Bool) (s : State) : OutGrows s (execAvsAdjust dt target reached s) := by
  unfold execAvsAdjust
  exact .next (Grows.of_fixed (by repeat' (first | (simp; done) | split | simp)))

theorem grows_execPmbusPoll (dt index : Nat) (answer : Option RailAnswer) (s : State) : OutGrows s (execPmbusPoll dt index answer s) := by
  unfold execPmbusPoll
  exact .onUnit (Grows.of_fixed (by repeat' (first | (simp; done) | split | simp)))

theorem grows_execPowerSupervisorFault (dt : Nat) (s : State) : OutGrows s (execPowerSupervisorFault dt s) :=
  .next ((Grows.supplyFault _).before (by simp))

theorem grows_execWake (dt : Nat) (gpio : Option Nat) (s : State) : OutGrows s (execWake dt gpio s) := by
  unfold execWake
  exact .onUnit (Grows.of_fixed (by repeat' (first | (simp; done) | split | simp)))

theorem grows_execPorstNRelease (dt gpio : Nat) (s : State) : OutGrows s (execPorstNRelease dt gpio s) := by
  unfold execPorstNRelease
  exact .next (Grows.of_fixed (by repeat' (first | (simp; done) | split | simp)))

theorem grows_execSysRstNAssert (dt : Nat) (s : State) : OutGrows s (execSysRstNAssert dt s) :=
  .next ((Grows.assertSysRst _).before (by simp))

theorem grows_execWatchdogExpiry (dt : Nat) (s : State) : OutGrows s (execWatchdogExpiry dt s) := by
  unfold execWatchdogExpiry
  refine .next (Grows.before (s' := advance dt s) ?_ (by simp))
  split
  · exact Grows.refl _
  · exact Grows.deviceReset _ _ _

theorem grows_execPciePerstNAssert (dt : Nat) (s : State) : OutGrows s (execPciePerstNAssert dt s) := by
  unfold execPciePerstNAssert
  exact .next (Grows.of_fixed (by repeat' (first | (simp; done) | split | simp)))

theorem grows_execTrialBootTimeout (dt : Nat) (s : State) : OutGrows s (execTrialBootTimeout dt s) := by
  unfold execTrialBootTimeout
  refine .next (Grows.before (s' := advance dt s) ?_ (by simp))
  repeat' split
  · exact Grows.deviceReset _ _ _
  · exact Grows.refl _
  · exact Grows.refl _

theorem grows_execIdleRecordClose (dt : Nat) (s : State) : OutGrows s (execIdleRecordClose dt s) := by
  unfold execIdleRecordClose
  exact .next (Grows.of_fixed (by repeat' (first | (simp; done) | split | simp)))

theorem grows_execHeartbeatSend (dt : Nat) (s : State) : OutGrows s (execHeartbeatSend dt s) := by
  unfold execHeartbeatSend
  exact .next (Grows.of_fixed (by repeat' (first | (simp; done) | split | simp)))

theorem grows_execHeartbeatReceive (dt lane beat st flags : Nat) (s : State) : OutGrows s (execHeartbeatReceive dt lane beat st flags s) := by
  unfold execHeartbeatReceive
  exact .onUnit (Grows.of_fixed (by repeat' (first | (simp; done) | split | simp)))

theorem grows_execHeartbeatLoss (dt : Nat) (s : State) : OutGrows s (execHeartbeatLoss dt s) := by
  unfold execHeartbeatLoss
  exact .next (Grows.of_fixed (by repeat' (first | (simp; done) | split | simp)))

theorem grows_execPeerAliveFall (dt : Nat) (s : State) : OutGrows s (execPeerAliveFall dt s) := by
  unfold execPeerAliveFall
  exact .next (Grows.of_fixed (by repeat' (first | (simp; done) | split | simp)))

theorem grows_execPairYieldNLow (dt : Nat) (s : State) : OutGrows s (execPairYieldNLow dt s) := by
  unfold execPairYieldNLow
  exact .next (Grows.of_fixed (by repeat' (first | (simp; done) | split | simp)))

theorem grows_execPairHello (dt : Nat) (peer : Peer) (authentic : Bool) (s : State) : OutGrows s (execPairHello dt peer authentic s) := by
  unfold execPairHello
  exact .next (Grows.of_fixed (by repeat' (first | (simp; done) | split | simp)))

theorem grows_execPtimeSync (dt : Nat) (t1 delay : Int) (valid : Bool) (syncId : Nat) (adj : Int) (s : State) : OutGrows s (execPtimeSync dt t1 delay valid syncId adj s) := by
  unfold execPtimeSync
  exact .next (Grows.of_fixed (by repeat' (first | (simp; done) | split | simp)))

theorem grows_execPtimeEcho (dt syncId turn : Nat) (offset : Int) (s : State) : OutGrows s (execPtimeEcho dt syncId turn offset s) := by
  unfold execPtimeEcho
  exact .next (Grows.of_fixed (by repeat' (first | (simp; done) | split | simp)))

theorem grows_execBaselineReceive (dt : Nat) (part : BaselinePart) (s : State) : OutGrows s (execBaselineReceive dt part s) := by
  unfold execBaselineReceive
  refine .next (Grows.before (s' := advance dt s) ?_ (by simp))
  split
  · exact Grows.refl _
  · split
    · exact Grows.endBaseline _ _ _
    · exact Grows.of_fixed (by simp)

theorem grows_execRecordReceive (dt seq ring tag cmdSeq : Nat) (body : RecordBody) (status : Status) (s : State) : OutGrows s (execRecordReceive dt seq ring tag cmdSeq body status s) := by
  unfold execRecordReceive
  refine .next (Grows.before (s' := heardPair (advance dt s)) ?_ (by simp))
  repeat' split
  · exact Grows.refl _
  · exact Grows.of_fixed (by simp)
  · exact Grows.applyRecord _ _ _ _ _ _ _

theorem grows_execRecordAck (dt seq : Nat) (status : Status) (s : State) : OutGrows s (execRecordAck dt seq status s) := by
  unfold execRecordAck
  exact .next (Grows.of_fixed (by repeat' (first | (simp; done) | split | simp)))

theorem grows_execRecordAckTimeout (dt : Nat) (s : State) : OutGrows s (execRecordAckTimeout dt s) := by
  unfold execRecordAckTimeout
  exact .next (Grows.of_fixed (by repeat' (first | (simp; done) | split | simp)))

theorem grows_execFramePacketReceive (dt : Nat) (note : FrameNote) (s : State) : OutGrows s (execFramePacketReceive dt note s) := by
  unfold execFramePacketReceive
  exact .next (Grows.of_fixed (by repeat' (first | (simp; done) | split | simp)))

theorem grows_execCheckpointSend (dt : Nat) (s : State) : OutGrows s (execCheckpointSend dt s) := by
  unfold execCheckpointSend
  exact .next (Grows.of_fixed (by repeat' (first | (simp; done) | split | simp)))

theorem grows_execCheckpointReceive (dt : Nat) (ckpt : Checkpoint) (s : State) : OutGrows s (execCheckpointReceive dt ckpt s) := by
  unfold execCheckpointReceive
  exact .next (Grows.of_fixed (by repeat' (first | (simp; done) | split | simp)))

theorem grows_execMirrorReceive (dt job : Nat) (bytes : List Byte) (last : Option Nat) (s : State) : OutGrows s (execMirrorReceive dt job bytes last s) := by
  unfold execMirrorReceive
  have h0 : (advance dt s).fixed = s.fixed := by simp
  refine .next (Grows.of_fixed ?_)
  dsimp only
  split
  · exact h0
  · split
    · simp
    · split
      · rename_i e
        rw [fixed_checkJoin, fixed_storeMirror e]
        simp
      · simp

theorem grows_execStandbySelfTest (dt : Nat) (pass : Bool) (s : State) : OutGrows s (execStandbySelfTest dt pass s) := by
  unfold execStandbySelfTest
  exact .next (Grows.of_fixed (by repeat' (first | (simp; done) | split | simp)))

theorem grows_execPairHealthEvaluate (dt : Nat) (s : State) : OutGrows s (execPairHealthEvaluate dt s) := by
  unfold execPairHealthEvaluate
  exact .next (Grows.of_fixed (by repeat' (first | (simp; done) | split | simp)))

theorem grows_execHealthReceive (dt : Nat) (health : Health) (s : State) : OutGrows s (execHealthReceive dt health s) := by
  unfold execHealthReceive
  exact .next (Grows.of_fixed (by repeat' (first | (simp; done) | split | simp)))

theorem grows_execYieldReceive (dt code : Nat) (s : State) : OutGrows s (execYieldReceive dt code s) := by
  unfold execYieldReceive
  exact .next (Grows.of_fixed (by repeat' (first | (simp; done) | split | simp)))

theorem grows_execHandoverReq (dt : Nat) (s : State) : OutGrows s (execHandoverReq dt s) := by
  unfold execHandoverReq
  exact .next (Grows.of_fixed (by repeat' (first | (simp; done) | split | simp)))

theorem grows_execHandoverReady (dt : Nat) (s : State) : OutGrows s (execHandoverReady dt s) := by
  unfold execHandoverReady
  exact .next (Grows.of_fixed (by repeat' (first | (simp; done) | split | simp)))

theorem grows_execHandoverGo (dt h : Nat) (s : State) : OutGrows s (execHandoverGo dt h s) := by
  unfold execHandoverGo
  exact .next (Grows.of_fixed (by repeat' (first | (simp; done) | split | simp)))

theorem grows_execHandoverDone (dt : Nat) (s : State) : OutGrows s (execHandoverDone dt s) := by
  unfold execHandoverDone
  exact .next (Grows.of_fixed (by repeat' (first | (simp; done) | split | simp)))

theorem grows_execHandoverTimeout (dt : Nat) (s : State) : OutGrows s (execHandoverTimeout dt s) := by
  unfold execHandoverTimeout
  exact .next (Grows.of_fixed (by repeat' (first | (simp; done) | split | simp)))

theorem grows_execJobDeleteDone (dt job : Nat) (s : State) : OutGrows s (execJobDeleteDone dt job s) := by
  unfold execJobDeleteDone
  exact .next (Grows.of_fixed (by repeat' (first | (simp; done) | split | simp)))

theorem grows_execNorWriteDone (dt : Nat) (s : State) : OutGrows s (execNorWriteDone dt s) :=
  .next ((Grows.norWritten _).before (by simp))

theorem grows_execProfileSaveHoldExpiry (dt : Nat) (s : State) : OutGrows s (execProfileSaveHoldExpiry dt s) := by
  unfold execProfileSaveHoldExpiry
  exact .next (Grows.of_fixed (by repeat' (first | (simp; done) | split | simp)))

theorem grows_execPorstNAssert (dt : Nat) (s : State) : OutGrows s (execPorstNAssert dt s) :=
  .next ((Grows.deviceReset _ _ _).before (by simp))

theorem grows_execSysRstNRelease (dt : Nat) (s : State) : OutGrows s (execSysRstNRelease dt s) := by
  unfold execSysRstNRelease
  exact .next (Grows.of_fixed (by repeat' (first | (simp; done) | split | simp)))

theorem grows_execBootReady (dt : Nat) (s : State) : OutGrows s (execBootReady dt s) :=
  .next ((Grows.bootReady growsReplayTable _).before (by simp))

theorem grows_execPciePerstNRelease (dt : Nat) (s : State) : OutGrows s (execPciePerstNRelease dt s) := by
  unfold execPciePerstNRelease
  exact .next (Grows.of_fixed (by repeat' (first | (simp; done) | split | simp)))

theorem grows_execPeerAliveRise (dt : Nat) (s : State) : OutGrows s (execPeerAliveRise dt s) := by
  unfold execPeerAliveRise
  exact .next (Grows.of_fixed (by repeat' (first | (simp; done) | split | simp)))

theorem grows_execPairYieldNRelease (dt : Nat) (s : State) : OutGrows s (execPairYieldNRelease dt s) := by
  unfold execPairYieldNRelease
  exact .next (Grows.of_fixed (by repeat' (first | (simp; done) | split | simp)))

theorem grows_execTapInstruction (dt instr : Nat) (s : State) : OutGrows s (execTapInstruction dt instr s) := by
  unfold execTapInstruction
  exact .next (Grows.of_fixed (by repeat' (first | (simp; done) | split | simp)))

theorem grows_execPrbsCheckerInput (dt lane : Nat) (bits : List Bool) (s : State) : OutGrows s (execPrbsCheckerInput dt lane bits s) := by
  unfold execPrbsCheckerInput
  exact .onUnit (Grows.of_fixed (by repeat' (first | (simp; done) | split | simp)))

theorem grows_execHsSyncLost (dt port lane : Nat) (s : State) : OutGrows s (execHsSyncLost dt port lane s) := by
  unfold execHsSyncLost
  exact .onUnit (Grows.of_fixed (by repeat' (first | (simp; done) | split | simp)))

theorem grows_execHsSyncRegained (dt port lane : Nat) (s : State) : OutGrows s (execHsSyncRegained dt port lane s) := by
  unfold execHsSyncRegained
  exact .onUnit (Grows.of_fixed (by repeat' (first | (simp; done) | split | simp)))

theorem grows_execI2cTransferDone (dt bus : Nat) (acked : Bool) (bytes : List Byte) (s : State) : OutGrows s (execI2cTransferDone dt bus acked bytes s) := by
  unfold execI2cTransferDone
  exact .onUnit (Grows.of_fixed (by repeat' (first | (simp; done) | split | simp)))

theorem grows_execGateTestShot (dt bar : Nat) (s : State) : OutGrows s (execGateTestShot dt bar s) := by
  unfold execGateTestShot
  exact .onUnit (Grows.of_fixed (by repeat' (first | (simp; done) | split | simp)))

theorem grows_execGateTestEnd (dt bar : Nat) (s : State) : OutGrows s (execGateTestEnd dt bar s) := by
  unfold execGateTestEnd
  exact .onUnit (Grows.of_fixed (by repeat' (first | (simp; done) | split | simp)))

theorem grows_execPosCalibrateTimeout (dt ch : Nat) (s : State) : OutGrows s (execPosCalibrateTimeout dt ch s) := by
  unfold execPosCalibrateTimeout
  exact .onUnit (Grows.of_fixed (by repeat' (first | (simp; done) | split | simp)))

theorem grows_execMgmtReplyTimeout (dt course : Nat) (s : State) : OutGrows s (execMgmtReplyTimeout dt course s) := by
  unfold execMgmtReplyTimeout
  exact .onUnit (Grows.of_fixed (by repeat' (first | (simp; done) | split | simp)))

theorem grows_execLinkTrainTimeout (dt course : Nat) (s : State) : OutGrows s (execLinkTrainTimeout dt course s) := by
  unfold execLinkTrainTimeout
  exact .onUnit (Grows.of_fixed (by repeat' (first | (simp; done) | split | simp)))

theorem grows_execPairRejoinTimeout (dt : Nat) (s : State) : OutGrows s (execPairRejoinTimeout dt s) := by
  unfold execPairRejoinTimeout
  exact .next (Grows.of_fixed (by repeat' (first | (simp; done) | split | simp)))

theorem grows_execYieldCriterionTimer (dt peerUp : Nat) (peerMoves : Bool) (s : State) : OutGrows s (execYieldCriterionTimer dt peerUp peerMoves s) := by
  unfold execYieldCriterionTimer
  extract_lets s1 still s2 down
  have h1 : s1.fixed = s.fixed := by simp [s1]
  have h2 : s2.fixed = s.fixed := by simp [s2, h1]
  split
  · exact .next (Grows.of_fixed h1)
  · exact .next (Grows.of_fixed (by repeat' (first | exact h2 | (simp [h2]; done) | split)))

theorem grows_execPowerSupervisorClear (dt : Nat) (porst : Bool) (s : State) : OutGrows s (execPowerSupervisorClear dt porst s) := by
  unfold execPowerSupervisorClear
  exact .next (Grows.of_fixed (by repeat' (first | (simp; done) | split | simp)))

theorem grows_execPllLockLost (dt domain : Nat) (s : State) : OutGrows s (execPllLockLost dt domain s) := by
  unfold execPllLockLost
  exact .onUnit (Grows.of_fixed (by repeat' (first | (simp; done) | split | simp)))

theorem grows_execPllRelocked (dt domain : Nat) (s : State) : OutGrows s (execPllRelocked dt domain s) := by
  unfold execPllRelocked
  exact .onUnit (Grows.of_fixed (by repeat' (first | (simp; done) | split | simp)))

theorem grows_execLockstepMismatch (dt pair : Nat) (s : State) : OutGrows s (execLockstepMismatch dt pair s) := by
  unfold execLockstepMismatch
  exact .onUnit (Grows.of_fixed (by repeat' (first | (simp; done) | split | simp)))

end Sys2Proof.Machine
end

