-- ==== Sys2Proof/Laws/PerInstr.lean ====
section
/-!
SUPPORT. Statements made per constructor of Instr: none in this package (LAWS.json names no family).
-/
end

