-- ==== Sys2Proof/Laws/Rest.lean ====
section
/-!
SUPPORT. What posting an event, writing a completion and finishing a command leave unchanged: everything outside the host interface,
the statistics and what has been put out.
-/
namespace Sys2Proof.Machine

@[simp] theorem rest_ite (c : Prop) [Decidable c] (a b : State) : (if c then a else b).rest = if c then a.rest else b.rest := by
  split <;> rfl

@[simp] theorem rest_onHif (f : Hif → Hif) (s : State) : (s.onHif f).rest = s.rest := (rfl)
@[simp] theorem rest_onStat (f : Stat → Stat) (s : State) : (s.onStat f).rest = s.rest := (rfl)
@[simp] theorem rest_emit (o : Output) (s : State) : (s.emit o).rest = s.rest := (rfl)
@[simp] theorem rest_onRing (n : Nat) (f : Ring → Ring) (s : State) : (s.onRing n f).rest = s.rest := (rfl)
@[simp] theorem rest_onVec (v : Nat) (f : EvVec → EvVec) (s : State) : (s.onVec v f).rest = s.rest := (rfl)
@[simp] theorem rest_onFlying (id : CmdId) (f : InFlight → InFlight) (s : State) : (s.onFlying id f).rest = s.rest := (rfl)

@[simp] theorem rest_onRec (f : Record → Record) (s : State) : (s.onRec f).rest = s.rest := by unfold State.onRec; split <;> rfl
@[simp] theorem rest_bump (k : Nat) (n : Int) (s : State) : (bump k n s).rest = s.rest := by unfold bump; split <;> simp
@[simp] theorem rest_sendVector (v : Nat) (s : State) : (sendVector v s).rest = s.rest := by unfold sendVector; repeat (split <;> try simp)
@[simp] theorem rest_flushEvVec (v : Nat) (s : State) : (flushEvVec v s).rest = s.rest := by simp [flushEvVec]
@[simp] theorem rest_raiseEvVec (v : Nat) (c : Bool) (s : State) : (raiseEvVec v c s).rest = s.rest := by unfold raiseEvVec; simp
@[simp] theorem rest_writeEntry (e : Event) (s : State) : (writeEntry e s).rest = s.rest := by unfold writeEntry; simp
@[simp] theorem rest_loseEntry (e : Event) (s : State) : (loseEntry e s).rest = s.rest := by simp [loseEntry]
@[simp] theorem rest_toHistory (e : Event) (s : State) : (toHistory e s).rest = s.rest := by simp [toHistory]
@[simp] theorem rest_reportLost (s : State) : (reportLost s).rest = s.rest := by unfold reportLost; simp
@[simp] theorem rest_postEntry (e : Event) (s : State) : (postEntry e s).rest = s.rest := by unfold postEntry; simp
@[simp] theorem rest_post (code source p1 p2 : Nat) (s : State) : (post code source p1 p2 s).rest = s.rest := by simp [post]

@[simp] theorem rest_raiseRing (n : Nat) (s : State) : (raiseRing n s).rest = s.rest := by unfold raiseRing; simp
@[simp] theorem rest_writeCompletion (n op : Nat) (q : Cmd) (r : Reply) (s : State) : (writeCompletion n op q r s).rest = s.rest := by
  simp [writeCompletion]
@[simp] theorem rest_sendDatagram (d : EthFrom) (b : List Byte) (s : State) : (sendDatagram d b s).rest = s.rest := by
  unfold sendDatagram; simp
@[simp] theorem rest_deliverTo (op : Nat) (q : Cmd) (r : Reply) (s : State) : (deliverTo op q r s).rest = s.rest := by
  unfold deliverTo; split <;> simp
@[simp] theorem rest_keepReply (op : Nat) (q : Cmd) (r : Reply) (s : State) : (keepReply op q r s).rest = s.rest := by
  unfold keepReply; simp
@[simp] theorem rest_settleFloor (s : State) : (settleFloor s).rest = s.rest := by unfold settleFloor; simp
@[simp] theorem rest_haltRing (n reason : Nat) (s : State) : (haltRing n reason s).rest = s.rest := by simp [haltRing]
@[simp] theorem rest_tagInFlight (op : Nat) (q : Cmd) (s : State) : (tagInFlight op q s).rest = s.rest := by simp [tagInFlight]

/-- A completion on a host's ring that is not ST_OK, or of an opcode that is not saved, changes nothing of the rest. -/
theorem rest_deliver (id : CmdId) (r : Reply) (s : State) (h : id.1 < 8)
    (hs : r.status ≠ .ok ∨ ∀ e, s.flying id = some e → savedKey e.opcode e.cmd.params = none) : (deliver id r s).rest = s.rest := by
  unfold deliver
  split
  · rfl
  · rename_i e he
    have h1 : id.1 ≠ ringRecord := by simp [ringRecord]; omega
    have h2 : id.1 ≠ ringReplay := by simp [ringReplay]; omega
    extract_lets s1 s2 s3 s4
    have h2' : s2.rest = s.rest := by unfold s2; split <;> rfl
    have h3 : s3.rest = s.rest := by
      unfold s3
      rcases hs with hs | hs
      · rw [if_neg hs]; exact h2'
      · split
        · unfold remember; rw [hs e he]; exact h2'
        · exact h2'
    rw [if_neg h1, if_neg h2]
    split
    · simp [h3]
    · simp [h3]

/-- A failed command on a host's ring changes nothing of the rest (R70). -/
theorem rest_finish_failed (id : CmdId) (r : Reply) (s : State) (h : id.1 < 8) (hr : r.status ≠ .ok) : (finish id r s).rest = s.rest := by
  have hb : (r.status == Status.ok) = false := by simpa using hr
  unfold finish
  split
  · rfl
  · simp only [hb, Bool.and_false, Bool.false_and, Bool.false_eq_true, if_false]
    exact rest_deliver id r s h (.inl hr)

/-- Time changes the time bases alone. -/
theorem advance_onTim (n : Nat) (s : State) : ∃ t, advance n s = { s with tim := t } := by
  unfold advance
  split
  · exact ⟨s.tim, rfl⟩
  · split
    · exact ⟨_, rfl⟩
    · exact ⟨_, rfl⟩

end Sys2Proof.Machine
end

