-- ==== Sys2Proof/Laws/State.lean ====
section
/-!
SUPPORT. What each modifier of a part of the state leaves: one lemma for every field and every update.
-/
namespace Sys2Proof.Machine

@[simp] theorem State.onHif_hif (f : Hif → Hif) (s : State) : (s.onHif f).hif = f s.hif := rfl
@[simp] theorem State.onHif_sec (f : Hif → Hif) (s : State) : (s.onHif f).sec = s.sec := rfl
@[simp] theorem State.onHif_nor (f : Hif → Hif) (s : State) : (s.onHif f).nor = s.nor := rfl
@[simp] theorem State.onHif_pos (f : Hif → Hif) (s : State) : (s.onHif f).pos = s.pos := rfl
@[simp] theorem State.onHif_tim (f : Hif → Hif) (s : State) : (s.onHif f).tim = s.tim := rfl
@[simp] theorem State.onHif_store (f : Hif → Hif) (s : State) : (s.onHif f).store = s.store := rfl
@[simp] theorem State.onHif_cps (f : Hif → Hif) (s : State) : (s.onHif f).cps = s.cps := rfl
@[simp] theorem State.onHif_bars (f : Hif → Hif) (s : State) : (s.onHif f).bars = s.bars := rfl
@[simp] theorem State.onHif_fire (f : Hif → Hif) (s : State) : (s.onHif f).fire = s.fire := rfl
@[simp] theorem State.onHif_links (f : Hif → Hif) (s : State) : (s.onHif f).links = s.links := rfl
@[simp] theorem State.onHif_cam (f : Hif → Hif) (s : State) : (s.onHif f).cam = s.cam := rfl
@[simp] theorem State.onHif_clr (f : Hif → Hif) (s : State) : (s.onHif f).clr = s.clr := rfl
@[simp] theorem State.onHif_thm (f : Hif → Hif) (s : State) : (s.onHif f).thm = s.thm := rfl
@[simp] theorem State.onHif_pair (f : Hif → Hif) (s : State) : (s.onHif f).pair = s.pair := rfl
@[simp] theorem State.onHif_stat (f : Hif → Hif) (s : State) : (s.onHif f).stat = s.stat := rfl
@[simp] theorem State.onHif_board (f : Hif → Hif) (s : State) : (s.onHif f).board = s.board := rfl
@[simp] theorem State.onHif_free (f : Hif → Hif) (s : State) : (s.onHif f).free = s.free := rfl
@[simp] theorem State.onHif_out (f : Hif → Hif) (s : State) : (s.onHif f).out = s.out := rfl
@[simp] theorem State.onHif_pending (f : Hif → Hif) (s : State) : (s.onHif f).pending = s.pending := rfl

@[simp] theorem State.onSec_hif (f : Sec → Sec) (s : State) : (s.onSec f).hif = s.hif := rfl
@[simp] theorem State.onSec_sec (f : Sec → Sec) (s : State) : (s.onSec f).sec = f s.sec := rfl
@[simp] theorem State.onSec_nor (f : Sec → Sec) (s : State) : (s.onSec f).nor = s.nor := rfl
@[simp] theorem State.onSec_pos (f : Sec → Sec) (s : State) : (s.onSec f).pos = s.pos := rfl
@[simp] theorem State.onSec_tim (f : Sec → Sec) (s : State) : (s.onSec f).tim = s.tim := rfl
@[simp] theorem State.onSec_store (f : Sec → Sec) (s : State) : (s.onSec f).store = s.store := rfl
@[simp] theorem State.onSec_cps (f : Sec → Sec) (s : State) : (s.onSec f).cps = s.cps := rfl
@[simp] theorem State.onSec_bars (f : Sec → Sec) (s : State) : (s.onSec f).bars = s.bars := rfl
@[simp] theorem State.onSec_fire (f : Sec → Sec) (s : State) : (s.onSec f).fire = s.fire := rfl
@[simp] theorem State.onSec_links (f : Sec → Sec) (s : State) : (s.onSec f).links = s.links := rfl
@[simp] theorem State.onSec_cam (f : Sec → Sec) (s : State) : (s.onSec f).cam = s.cam := rfl
@[simp] theorem State.onSec_clr (f : Sec → Sec) (s : State) : (s.onSec f).clr = s.clr := rfl
@[simp] theorem State.onSec_thm (f : Sec → Sec) (s : State) : (s.onSec f).thm = s.thm := rfl
@[simp] theorem State.onSec_pair (f : Sec → Sec) (s : State) : (s.onSec f).pair = s.pair := rfl
@[simp] theorem State.onSec_stat (f : Sec → Sec) (s : State) : (s.onSec f).stat = s.stat := rfl
@[simp] theorem State.onSec_board (f : Sec → Sec) (s : State) : (s.onSec f).board = s.board := rfl
@[simp] theorem State.onSec_free (f : Sec → Sec) (s : State) : (s.onSec f).free = s.free := rfl
@[simp] theorem State.onSec_out (f : Sec → Sec) (s : State) : (s.onSec f).out = s.out := rfl
@[simp] theorem State.onSec_pending (f : Sec → Sec) (s : State) : (s.onSec f).pending = s.pending := rfl

@[simp] theorem State.onNor_hif (f : Nor → Nor) (s : State) : (s.onNor f).hif = s.hif := rfl
@[simp] theorem State.onNor_sec (f : Nor → Nor) (s : State) : (s.onNor f).sec = s.sec := rfl
@[simp] theorem State.onNor_nor (f : Nor → Nor) (s : State) : (s.onNor f).nor = f s.nor := rfl
@[simp] theorem State.onNor_pos (f : Nor → Nor) (s : State) : (s.onNor f).pos = s.pos := rfl
@[simp] theorem State.onNor_tim (f : Nor → Nor) (s : State) : (s.onNor f).tim = s.tim := rfl
@[simp] theorem State.onNor_store (f : Nor → Nor) (s : State) : (s.onNor f).store = s.store := rfl
@[simp] theorem State.onNor_cps (f : Nor → Nor) (s : State) : (s.onNor f).cps = s.cps := rfl
@[simp] theorem State.onNor_bars (f : Nor → Nor) (s : State) : (s.onNor f).bars = s.bars := rfl
@[simp] theorem State.onNor_fire (f : Nor → Nor) (s : State) : (s.onNor f).fire = s.fire := rfl
@[simp] theorem State.onNor_links (f : Nor → Nor) (s : State) : (s.onNor f).links = s.links := rfl
@[simp] theorem State.onNor_cam (f : Nor → Nor) (s : State) : (s.onNor f).cam = s.cam := rfl
@[simp] theorem State.onNor_clr (f : Nor → Nor) (s : State) : (s.onNor f).clr = s.clr := rfl
@[simp] theorem State.onNor_thm (f : Nor → Nor) (s : State) : (s.onNor f).thm = s.thm := rfl
@[simp] theorem State.onNor_pair (f : Nor → Nor) (s : State) : (s.onNor f).pair = s.pair := rfl
@[simp] theorem State.onNor_stat (f : Nor → Nor) (s : State) : (s.onNor f).stat = s.stat := rfl
@[simp] theorem State.onNor_board (f : Nor → Nor) (s : State) : (s.onNor f).board = s.board := rfl
@[simp] theorem State.onNor_free (f : Nor → Nor) (s : State) : (s.onNor f).free = s.free := rfl
@[simp] theorem State.onNor_out (f : Nor → Nor) (s : State) : (s.onNor f).out = s.out := rfl
@[simp] theorem State.onNor_pending (f : Nor → Nor) (s : State) : (s.onNor f).pending = s.pending := rfl

@[simp] theorem State.onPos_hif (f : Pos → Pos) (s : State) : (s.onPos f).hif = s.hif := rfl
@[simp] theorem State.onPos_sec (f : Pos → Pos) (s : State) : (s.onPos f).sec = s.sec := rfl
@[simp] theorem State.onPos_nor (f : Pos → Pos) (s : State) : (s.onPos f).nor = s.nor := rfl
@[simp] theorem State.onPos_pos (f : Pos → Pos) (s : State) : (s.onPos f).pos = f s.pos := rfl
@[simp] theorem State.onPos_tim (f : Pos → Pos) (s : State) : (s.onPos f).tim = s.tim := rfl
@[simp] theorem State.onPos_store (f : Pos → Pos) (s : State) : (s.onPos f).store = s.store := rfl
@[simp] theorem State.onPos_cps (f : Pos → Pos) (s : State) : (s.onPos f).cps = s.cps := rfl
@[simp] theorem State.onPos_bars (f : Pos → Pos) (s : State) : (s.onPos f).bars = s.bars := rfl
@[simp] theorem State.onPos_fire (f : Pos → Pos) (s : State) : (s.onPos f).fire = s.fire := rfl
@[simp] theorem State.onPos_links (f : Pos → Pos) (s : State) : (s.onPos f).links = s.links := rfl
@[simp] theorem State.onPos_cam (f : Pos → Pos) (s : State) : (s.onPos f).cam = s.cam := rfl
@[simp] theorem State.onPos_clr (f : Pos → Pos) (s : State) : (s.onPos f).clr = s.clr := rfl
@[simp] theorem State.onPos_thm (f : Pos → Pos) (s : State) : (s.onPos f).thm = s.thm := rfl
@[simp] theorem State.onPos_pair (f : Pos → Pos) (s : State) : (s.onPos f).pair = s.pair := rfl
@[simp] theorem State.onPos_stat (f : Pos → Pos) (s : State) : (s.onPos f).stat = s.stat := rfl
@[simp] theorem State.onPos_board (f : Pos → Pos) (s : State) : (s.onPos f).board = s.board := rfl
@[simp] theorem State.onPos_free (f : Pos → Pos) (s : State) : (s.onPos f).free = s.free := rfl
@[simp] theorem State.onPos_out (f : Pos → Pos) (s : State) : (s.onPos f).out = s.out := rfl
@[simp] theorem State.onPos_pending (f : Pos → Pos) (s : State) : (s.onPos f).pending = s.pending := rfl

@[simp] theorem State.onTim_hif (f : Tim → Tim) (s : State) : (s.onTim f).hif = s.hif := rfl
@[simp] theorem State.onTim_sec (f : Tim → Tim) (s : State) : (s.onTim f).sec = s.sec := rfl
@[simp] theorem State.onTim_nor (f : Tim → Tim) (s : State) : (s.onTim f).nor = s.nor := rfl
@[simp] theorem State.onTim_pos (f : Tim → Tim) (s : State) : (s.onTim f).pos = s.pos := rfl
@[simp] theorem State.onTim_tim (f : Tim → Tim) (s : State) : (s.onTim f).tim = f s.tim := rfl
@[simp] theorem State.onTim_store (f : Tim → Tim) (s : State) : (s.onTim f).store = s.store := rfl
@[simp] theorem State.onTim_cps (f : Tim → Tim) (s : State) : (s.onTim f).cps = s.cps := rfl
@[simp] theorem State.onTim_bars (f : Tim → Tim) (s : State) : (s.onTim f).bars = s.bars := rfl
@[simp] theorem State.onTim_fire (f : Tim → Tim) (s : State) : (s.onTim f).fire = s.fire := rfl
@[simp] theorem State.onTim_links (f : Tim → Tim) (s : State) : (s.onTim f).links = s.links := rfl
@[simp] theorem State.onTim_cam (f : Tim → Tim) (s : State) : (s.onTim f).cam = s.cam := rfl
@[simp] theorem State.onTim_clr (f : Tim → Tim) (s : State) : (s.onTim f).clr = s.clr := rfl
@[simp] theorem State.onTim_thm (f : Tim → Tim) (s : State) : (s.onTim f).thm = s.thm := rfl
@[simp] theorem State.onTim_pair (f : Tim → Tim) (s : State) : (s.onTim f).pair = s.pair := rfl
@[simp] theorem State.onTim_stat (f : Tim → Tim) (s : State) : (s.onTim f).stat = s.stat := rfl
@[simp] theorem State.onTim_board (f : Tim → Tim) (s : State) : (s.onTim f).board = s.board := rfl
@[simp] theorem State.onTim_free (f : Tim → Tim) (s : State) : (s.onTim f).free = s.free := rfl
@[simp] theorem State.onTim_out (f : Tim → Tim) (s : State) : (s.onTim f).out = s.out := rfl
@[simp] theorem State.onTim_pending (f : Tim → Tim) (s : State) : (s.onTim f).pending = s.pending := rfl

@[simp] theorem State.onStore_hif (f : Store → Store) (s : State) : (s.onStore f).hif = s.hif := rfl
@[simp] theorem State.onStore_sec (f : Store → Store) (s : State) : (s.onStore f).sec = s.sec := rfl
@[simp] theorem State.onStore_nor (f : Store → Store) (s : State) : (s.onStore f).nor = s.nor := rfl
@[simp] theorem State.onStore_pos (f : Store → Store) (s : State) : (s.onStore f).pos = s.pos := rfl
@[simp] theorem State.onStore_tim (f : Store → Store) (s : State) : (s.onStore f).tim = s.tim := rfl
@[simp] theorem State.onStore_store (f : Store → Store) (s : State) : (s.onStore f).store = f s.store := rfl
@[simp] theorem State.onStore_cps (f : Store → Store) (s : State) : (s.onStore f).cps = s.cps := rfl
@[simp] theorem State.onStore_bars (f : Store → Store) (s : State) : (s.onStore f).bars = s.bars := rfl
@[simp] theorem State.onStore_fire (f : Store → Store) (s : State) : (s.onStore f).fire = s.fire := rfl
@[simp] theorem State.onStore_links (f : Store → Store) (s : State) : (s.onStore f).links = s.links := rfl
@[simp] theorem State.onStore_cam (f : Store → Store) (s : State) : (s.onStore f).cam = s.cam := rfl
@[simp] theorem State.onStore_clr (f : Store → Store) (s : State) : (s.onStore f).clr = s.clr := rfl
@[simp] theorem State.onStore_thm (f : Store → Store) (s : State) : (s.onStore f).thm = s.thm := rfl
@[simp] theorem State.onStore_pair (f : Store → Store) (s : State) : (s.onStore f).pair = s.pair := rfl
@[simp] theorem State.onStore_stat (f : Store → Store) (s : State) : (s.onStore f).stat = s.stat := rfl
@[simp] theorem State.onStore_board (f : Store → Store) (s : State) : (s.onStore f).board = s.board := rfl
@[simp] theorem State.onStore_free (f : Store → Store) (s : State) : (s.onStore f).free = s.free := rfl
@[simp] theorem State.onStore_out (f : Store → Store) (s : State) : (s.onStore f).out = s.out := rfl
@[simp] theorem State.onStore_pending (f : Store → Store) (s : State) : (s.onStore f).pending = s.pending := rfl

@[simp] theorem State.onCps_hif (f : Compose → Compose) (s : State) : (s.onCps f).hif = s.hif := rfl
@[simp] theorem State.onCps_sec (f : Compose → Compose) (s : State) : (s.onCps f).sec = s.sec := rfl
@[simp] theorem State.onCps_nor (f : Compose → Compose) (s : State) : (s.onCps f).nor = s.nor := rfl
@[simp] theorem State.onCps_pos (f : Compose → Compose) (s : State) : (s.onCps f).pos = s.pos := rfl
@[simp] theorem State.onCps_tim (f : Compose → Compose) (s : State) : (s.onCps f).tim = s.tim := rfl
@[simp] theorem State.onCps_store (f : Compose → Compose) (s : State) : (s.onCps f).store = s.store := rfl
@[simp] theorem State.onCps_cps (f : Compose → Compose) (s : State) : (s.onCps f).cps = f s.cps := rfl
@[simp] theorem State.onCps_bars (f : Compose → Compose) (s : State) : (s.onCps f).bars = s.bars := rfl
@[simp] theorem State.onCps_fire (f : Compose → Compose) (s : State) : (s.onCps f).fire = s.fire := rfl
@[simp] theorem State.onCps_links (f : Compose → Compose) (s : State) : (s.onCps f).links = s.links := rfl
@[simp] theorem State.onCps_cam (f : Compose → Compose) (s : State) : (s.onCps f).cam = s.cam := rfl
@[simp] theorem State.onCps_clr (f : Compose → Compose) (s : State) : (s.onCps f).clr = s.clr := rfl
@[simp] theorem State.onCps_thm (f : Compose → Compose) (s : State) : (s.onCps f).thm = s.thm := rfl
@[simp] theorem State.onCps_pair (f : Compose → Compose) (s : State) : (s.onCps f).pair = s.pair := rfl
@[simp] theorem State.onCps_stat (f : Compose → Compose) (s : State) : (s.onCps f).stat = s.stat := rfl
@[simp] theorem State.onCps_board (f : Compose → Compose) (s : State) : (s.onCps f).board = s.board := rfl
@[simp] theorem State.onCps_free (f : Compose → Compose) (s : State) : (s.onCps f).free = s.free := rfl
@[simp] theorem State.onCps_out (f : Compose → Compose) (s : State) : (s.onCps f).out = s.out := rfl
@[simp] theorem State.onCps_pending (f : Compose → Compose) (s : State) : (s.onCps f).pending = s.pending := rfl

@[simp] theorem State.onBars_hif (f : Bars → Bars) (s : State) : (s.onBars f).hif = s.hif := rfl
@[simp] theorem State.onBars_sec (f : Bars → Bars) (s : State) : (s.onBars f).sec = s.sec := rfl
@[simp] theorem State.onBars_nor (f : Bars → Bars) (s : State) : (s.onBars f).nor = s.nor := rfl
@[simp] theorem State.onBars_pos (f : Bars → Bars) (s : State) : (s.onBars f).pos = s.pos := rfl
@[simp] theorem State.onBars_tim (f : Bars → Bars) (s : State) : (s.onBars f).tim = s.tim := rfl
@[simp] theorem State.onBars_store (f : Bars → Bars) (s : State) : (s.onBars f).store = s.store := rfl
@[simp] theorem State.onBars_cps (f : Bars → Bars) (s : State) : (s.onBars f).cps = s.cps := rfl
@[simp] theorem State.onBars_bars (f : Bars → Bars) (s : State) : (s.onBars f).bars = f s.bars := rfl
@[simp] theorem State.onBars_fire (f : Bars → Bars) (s : State) : (s.onBars f).fire = s.fire := rfl
@[simp] theorem State.onBars_links (f : Bars → Bars) (s : State) : (s.onBars f).links = s.links := rfl
@[simp] theorem State.onBars_cam (f : Bars → Bars) (s : State) : (s.onBars f).cam = s.cam := rfl
@[simp] theorem State.onBars_clr (f : Bars → Bars) (s : State) : (s.onBars f).clr = s.clr := rfl
@[simp] theorem State.onBars_thm (f : Bars → Bars) (s : State) : (s.onBars f).thm = s.thm := rfl
@[simp] theorem State.onBars_pair (f : Bars → Bars) (s : State) : (s.onBars f).pair = s.pair := rfl
@[simp] theorem State.onBars_stat (f : Bars → Bars) (s : State) : (s.onBars f).stat = s.stat := rfl
@[simp] theorem State.onBars_board (f : Bars → Bars) (s : State) : (s.onBars f).board = s.board := rfl
@[simp] theorem State.onBars_free (f : Bars → Bars) (s : State) : (s.onBars f).free = s.free := rfl
@[simp] theorem State.onBars_out (f : Bars → Bars) (s : State) : (s.onBars f).out = s.out := rfl
@[simp] theorem State.onBars_pending (f : Bars → Bars) (s : State) : (s.onBars f).pending = s.pending := rfl

@[simp] theorem State.onFire_hif (f : Fire → Fire) (s : State) : (s.onFire f).hif = s.hif := rfl
@[simp] theorem State.onFire_sec (f : Fire → Fire) (s : State) : (s.onFire f).sec = s.sec := rfl
@[simp] theorem State.onFire_nor (f : Fire → Fire) (s : State) : (s.onFire f).nor = s.nor := rfl
@[simp] theorem State.onFire_pos (f : Fire → Fire) (s : State) : (s.onFire f).pos = s.pos := rfl
@[simp] theorem State.onFire_tim (f : Fire → Fire) (s : State) : (s.onFire f).tim = s.tim := rfl
@[simp] theorem State.onFire_store (f : Fire → Fire) (s : State) : (s.onFire f).store = s.store := rfl
@[simp] theorem State.onFire_cps (f : Fire → Fire) (s : State) : (s.onFire f).cps = s.cps := rfl
@[simp] theorem State.onFire_bars (f : Fire → Fire) (s : State) : (s.onFire f).bars = s.bars := rfl
@[simp] theorem State.onFire_fire (f : Fire → Fire) (s : State) : (s.onFire f).fire = f s.fire := rfl
@[simp] theorem State.onFire_links (f : Fire → Fire) (s : State) : (s.onFire f).links = s.links := rfl
@[simp] theorem State.onFire_cam (f : Fire → Fire) (s : State) : (s.onFire f).cam = s.cam := rfl
@[simp] theorem State.onFire_clr (f : Fire → Fire) (s : State) : (s.onFire f).clr = s.clr := rfl
@[simp] theorem State.onFire_thm (f : Fire → Fire) (s : State) : (s.onFire f).thm = s.thm := rfl
@[simp] theorem State.onFire_pair (f : Fire → Fire) (s : State) : (s.onFire f).pair = s.pair := rfl
@[simp] theorem State.onFire_stat (f : Fire → Fire) (s : State) : (s.onFire f).stat = s.stat := rfl
@[simp] theorem State.onFire_board (f : Fire → Fire) (s : State) : (s.onFire f).board = s.board := rfl
@[simp] theorem State.onFire_free (f : Fire → Fire) (s : State) : (s.onFire f).free = s.free := rfl
@[simp] theorem State.onFire_out (f : Fire → Fire) (s : State) : (s.onFire f).out = s.out := rfl
@[simp] theorem State.onFire_pending (f : Fire → Fire) (s : State) : (s.onFire f).pending = s.pending := rfl

@[simp] theorem State.onLinks_hif (f : Links → Links) (s : State) : (s.onLinks f).hif = s.hif := rfl
@[simp] theorem State.onLinks_sec (f : Links → Links) (s : State) : (s.onLinks f).sec = s.sec := rfl
@[simp] theorem State.onLinks_nor (f : Links → Links) (s : State) : (s.onLinks f).nor = s.nor := rfl
@[simp] theorem State.onLinks_pos (f : Links → Links) (s : State) : (s.onLinks f).pos = s.pos := rfl
@[simp] theorem State.onLinks_tim (f : Links → Links) (s : State) : (s.onLinks f).tim = s.tim := rfl
@[simp] theorem State.onLinks_store (f : Links → Links) (s : State) : (s.onLinks f).store = s.store := rfl
@[simp] theorem State.onLinks_cps (f : Links → Links) (s : State) : (s.onLinks f).cps = s.cps := rfl
@[simp] theorem State.onLinks_bars (f : Links → Links) (s : State) : (s.onLinks f).bars = s.bars := rfl
@[simp] theorem State.onLinks_fire (f : Links → Links) (s : State) : (s.onLinks f).fire = s.fire := rfl
@[simp] theorem State.onLinks_links (f : Links → Links) (s : State) : (s.onLinks f).links = f s.links := rfl
@[simp] theorem State.onLinks_cam (f : Links → Links) (s : State) : (s.onLinks f).cam = s.cam := rfl
@[simp] theorem State.onLinks_clr (f : Links → Links) (s : State) : (s.onLinks f).clr = s.clr := rfl
@[simp] theorem State.onLinks_thm (f : Links → Links) (s : State) : (s.onLinks f).thm = s.thm := rfl
@[simp] theorem State.onLinks_pair (f : Links → Links) (s : State) : (s.onLinks f).pair = s.pair := rfl
@[simp] theorem State.onLinks_stat (f : Links → Links) (s : State) : (s.onLinks f).stat = s.stat := rfl
@[simp] theorem State.onLinks_board (f : Links → Links) (s : State) : (s.onLinks f).board = s.board := rfl
@[simp] theorem State.onLinks_free (f : Links → Links) (s : State) : (s.onLinks f).free = s.free := rfl
@[simp] theorem State.onLinks_out (f : Links → Links) (s : State) : (s.onLinks f).out = s.out := rfl
@[simp] theorem State.onLinks_pending (f : Links → Links) (s : State) : (s.onLinks f).pending = s.pending := rfl

@[simp] theorem State.onCam_hif (f : Cam → Cam) (s : State) : (s.onCam f).hif = s.hif := rfl
@[simp] theorem State.onCam_sec (f : Cam → Cam) (s : State) : (s.onCam f).sec = s.sec := rfl
@[simp] theorem State.onCam_nor (f : Cam → Cam) (s : State) : (s.onCam f).nor = s.nor := rfl
@[simp] theorem State.onCam_pos (f : Cam → Cam) (s : State) : (s.onCam f).pos = s.pos := rfl
@[simp] theorem State.onCam_tim (f : Cam → Cam) (s : State) : (s.onCam f).tim = s.tim := rfl
@[simp] theorem State.onCam_store (f : Cam → Cam) (s : State) : (s.onCam f).store = s.store := rfl
@[simp] theorem State.onCam_cps (f : Cam → Cam) (s : State) : (s.onCam f).cps = s.cps := rfl
@[simp] theorem State.onCam_bars (f : Cam → Cam) (s : State) : (s.onCam f).bars = s.bars := rfl
@[simp] theorem State.onCam_fire (f : Cam → Cam) (s : State) : (s.onCam f).fire = s.fire := rfl
@[simp] theorem State.onCam_links (f : Cam → Cam) (s : State) : (s.onCam f).links = s.links := rfl
@[simp] theorem State.onCam_cam (f : Cam → Cam) (s : State) : (s.onCam f).cam = f s.cam := rfl
@[simp] theorem State.onCam_clr (f : Cam → Cam) (s : State) : (s.onCam f).clr = s.clr := rfl
@[simp] theorem State.onCam_thm (f : Cam → Cam) (s : State) : (s.onCam f).thm = s.thm := rfl
@[simp] theorem State.onCam_pair (f : Cam → Cam) (s : State) : (s.onCam f).pair = s.pair := rfl
@[simp] theorem State.onCam_stat (f : Cam → Cam) (s : State) : (s.onCam f).stat = s.stat := rfl
@[simp] theorem State.onCam_board (f : Cam → Cam) (s : State) : (s.onCam f).board = s.board := rfl
@[simp] theorem State.onCam_free (f : Cam → Cam) (s : State) : (s.onCam f).free = s.free := rfl
@[simp] theorem State.onCam_out (f : Cam → Cam) (s : State) : (s.onCam f).out = s.out := rfl
@[simp] theorem State.onCam_pending (f : Cam → Cam) (s : State) : (s.onCam f).pending = s.pending := rfl

@[simp] theorem State.onClr_hif (f : Colour → Colour) (s : State) : (s.onClr f).hif = s.hif := rfl
@[simp] theorem State.onClr_sec (f : Colour → Colour) (s : State) : (s.onClr f).sec = s.sec := rfl
@[simp] theorem State.onClr_nor (f : Colour → Colour) (s : State) : (s.onClr f).nor = s.nor := rfl
@[simp] theorem State.onClr_pos (f : Colour → Colour) (s : State) : (s.onClr f).pos = s.pos := rfl
@[simp] theorem State.onClr_tim (f : Colour → Colour) (s : State) : (s.onClr f).tim = s.tim := rfl
@[simp] theorem State.onClr_store (f : Colour → Colour) (s : State) : (s.onClr f).store = s.store := rfl
@[simp] theorem State.onClr_cps (f : Colour → Colour) (s : State) : (s.onClr f).cps = s.cps := rfl
@[simp] theorem State.onClr_bars (f : Colour → Colour) (s : State) : (s.onClr f).bars = s.bars := rfl
@[simp] theorem State.onClr_fire (f : Colour → Colour) (s : State) : (s.onClr f).fire = s.fire := rfl
@[simp] theorem State.onClr_links (f : Colour → Colour) (s : State) : (s.onClr f).links = s.links := rfl
@[simp] theorem State.onClr_cam (f : Colour → Colour) (s : State) : (s.onClr f).cam = s.cam := rfl
@[simp] theorem State.onClr_clr (f : Colour → Colour) (s : State) : (s.onClr f).clr = f s.clr := rfl
@[simp] theorem State.onClr_thm (f : Colour → Colour) (s : State) : (s.onClr f).thm = s.thm := rfl
@[simp] theorem State.onClr_pair (f : Colour → Colour) (s : State) : (s.onClr f).pair = s.pair := rfl
@[simp] theorem State.onClr_stat (f : Colour → Colour) (s : State) : (s.onClr f).stat = s.stat := rfl
@[simp] theorem State.onClr_board (f : Colour → Colour) (s : State) : (s.onClr f).board = s.board := rfl
@[simp] theorem State.onClr_free (f : Colour → Colour) (s : State) : (s.onClr f).free = s.free := rfl
@[simp] theorem State.onClr_out (f : Colour → Colour) (s : State) : (s.onClr f).out = s.out := rfl
@[simp] theorem State.onClr_pending (f : Colour → Colour) (s : State) : (s.onClr f).pending = s.pending := rfl

@[simp] theorem State.onThm_hif (f : Thermal → Thermal) (s : State) : (s.onThm f).hif = s.hif := rfl
@[simp] theorem State.onThm_sec (f : Thermal → Thermal) (s : State) : (s.onThm f).sec = s.sec := rfl
@[simp] theorem State.onThm_nor (f : Thermal → Thermal) (s : State) : (s.onThm f).nor = s.nor := rfl
@[simp] theorem State.onThm_pos (f : Thermal → Thermal) (s : State) : (s.onThm f).pos = s.pos := rfl
@[simp] theorem State.onThm_tim (f : Thermal → Thermal) (s : State) : (s.onThm f).tim = s.tim := rfl
@[simp] theorem State.onThm_store (f : Thermal → Thermal) (s : State) : (s.onThm f).store = s.store := rfl
@[simp] theorem State.onThm_cps (f : Thermal → Thermal) (s : State) : (s.onThm f).cps = s.cps := rfl
@[simp] theorem State.onThm_bars (f : Thermal → Thermal) (s : State) : (s.onThm f).bars = s.bars := rfl
@[simp] theorem State.onThm_fire (f : Thermal → Thermal) (s : State) : (s.onThm f).fire = s.fire := rfl
@[simp] theorem State.onThm_links (f : Thermal → Thermal) (s : State) : (s.onThm f).links = s.links := rfl
@[simp] theorem State.onThm_cam (f : Thermal → Thermal) (s : State) : (s.onThm f).cam = s.cam := rfl
@[simp] theorem State.onThm_clr (f : Thermal → Thermal) (s : State) : (s.onThm f).clr = s.clr := rfl
@[simp] theorem State.onThm_thm (f : Thermal → Thermal) (s : State) : (s.onThm f).thm = f s.thm := rfl
@[simp] theorem State.onThm_pair (f : Thermal → Thermal) (s : State) : (s.onThm f).pair = s.pair := rfl
@[simp] theorem State.onThm_stat (f : Thermal → Thermal) (s : State) : (s.onThm f).stat = s.stat := rfl
@[simp] theorem State.onThm_board (f : Thermal → Thermal) (s : State) : (s.onThm f).board = s.board := rfl
@[simp] theorem State.onThm_free (f : Thermal → Thermal) (s : State) : (s.onThm f).free = s.free := rfl
@[simp] theorem State.onThm_out (f : Thermal → Thermal) (s : State) : (s.onThm f).out = s.out := rfl
@[simp] theorem State.onThm_pending (f : Thermal → Thermal) (s : State) : (s.onThm f).pending = s.pending := rfl

@[simp] theorem State.onPair_hif (f : PairUnit → PairUnit) (s : State) : (s.onPair f).hif = s.hif := rfl
@[simp] theorem State.onPair_sec (f : PairUnit → PairUnit) (s : State) : (s.onPair f).sec = s.sec := rfl
@[simp] theorem State.onPair_nor (f : PairUnit → PairUnit) (s : State) : (s.onPair f).nor = s.nor := rfl
@[simp] theorem State.onPair_pos (f : PairUnit → PairUnit) (s : State) : (s.onPair f).pos = s.pos := rfl
@[simp] theorem State.onPair_tim (f : PairUnit → PairUnit) (s : State) : (s.onPair f).tim = s.tim := rfl
@[simp] theorem State.onPair_store (f : PairUnit → PairUnit) (s : State) : (s.onPair f).store = s.store := rfl
@[simp] theorem State.onPair_cps (f : PairUnit → PairUnit) (s : State) : (s.onPair f).cps = s.cps := rfl
@[simp] theorem State.onPair_bars (f : PairUnit → PairUnit) (s : State) : (s.onPair f).bars = s.bars := rfl
@[simp] theorem State.onPair_fire (f : PairUnit → PairUnit) (s : State) : (s.onPair f).fire = s.fire := rfl
@[simp] theorem State.onPair_links (f : PairUnit → PairUnit) (s : State) : (s.onPair f).links = s.links := rfl
@[simp] theorem State.onPair_cam (f : PairUnit → PairUnit) (s : State) : (s.onPair f).cam = s.cam := rfl
@[simp] theorem State.onPair_clr (f : PairUnit → PairUnit) (s : State) : (s.onPair f).clr = s.clr := rfl
@[simp] theorem State.onPair_thm (f : PairUnit → PairUnit) (s : State) : (s.onPair f).thm = s.thm := rfl
@[simp] theorem State.onPair_pair (f : PairUnit → PairUnit) (s : State) : (s.onPair f).pair = f s.pair := rfl
@[simp] theorem State.onPair_stat (f : PairUnit → PairUnit) (s : State) : (s.onPair f).stat = s.stat := rfl
@[simp] theorem State.onPair_board (f : PairUnit → PairUnit) (s : State) : (s.onPair f).board = s.board := rfl
@[simp] theorem State.onPair_free (f : PairUnit → PairUnit) (s : State) : (s.onPair f).free = s.free := rfl
@[simp] theorem State.onPair_out (f : PairUnit → PairUnit) (s : State) : (s.onPair f).out = s.out := rfl
@[simp] theorem State.onPair_pending (f : PairUnit → PairUnit) (s : State) : (s.onPair f).pending = s.pending := rfl

@[simp] theorem State.onStat_hif (f : Stat → Stat) (s : State) : (s.onStat f).hif = s.hif := rfl
@[simp] theorem State.onStat_sec (f : Stat → Stat) (s : State) : (s.onStat f).sec = s.sec := rfl
@[simp] theorem State.onStat_nor (f : Stat → Stat) (s : State) : (s.onStat f).nor = s.nor := rfl
@[simp] theorem State.onStat_pos (f : Stat → Stat) (s : State) : (s.onStat f).pos = s.pos := rfl
@[simp] theorem State.onStat_tim (f : Stat → Stat) (s : State) : (s.onStat f).tim = s.tim := rfl
@[simp] theorem State.onStat_store (f : Stat → Stat) (s : State) : (s.onStat f).store = s.store := rfl
@[simp] theorem State.onStat_cps (f : Stat → Stat) (s : State) : (s.onStat f).cps = s.cps := rfl
@[simp] theorem State.onStat_bars (f : Stat → Stat) (s : State) : (s.onStat f).bars = s.bars := rfl
@[simp] theorem State.onStat_fire (f : Stat → Stat) (s : State) : (s.onStat f).fire = s.fire := rfl
@[simp] theorem State.onStat_links (f : Stat → Stat) (s : State) : (s.onStat f).links = s.links := rfl
@[simp] theorem State.onStat_cam (f : Stat → Stat) (s : State) : (s.onStat f).cam = s.cam := rfl
@[simp] theorem State.onStat_clr (f : Stat → Stat) (s : State) : (s.onStat f).clr = s.clr := rfl
@[simp] theorem State.onStat_thm (f : Stat → Stat) (s : State) : (s.onStat f).thm = s.thm := rfl
@[simp] theorem State.onStat_pair (f : Stat → Stat) (s : State) : (s.onStat f).pair = s.pair := rfl
@[simp] theorem State.onStat_stat (f : Stat → Stat) (s : State) : (s.onStat f).stat = f s.stat := rfl
@[simp] theorem State.onStat_board (f : Stat → Stat) (s : State) : (s.onStat f).board = s.board := rfl
@[simp] theorem State.onStat_free (f : Stat → Stat) (s : State) : (s.onStat f).free = s.free := rfl
@[simp] theorem State.onStat_out (f : Stat → Stat) (s : State) : (s.onStat f).out = s.out := rfl
@[simp] theorem State.onStat_pending (f : Stat → Stat) (s : State) : (s.onStat f).pending = s.pending := rfl

@[simp] theorem State.onBoard_hif (f : Board → Board) (s : State) : (s.onBoard f).hif = s.hif := rfl
@[simp] theorem State.onBoard_sec (f : Board → Board) (s : State) : (s.onBoard f).sec = s.sec := rfl
@[simp] theorem State.onBoard_nor (f : Board → Board) (s : State) : (s.onBoard f).nor = s.nor := rfl
@[simp] theorem State.onBoard_pos (f : Board → Board) (s : State) : (s.onBoard f).pos = s.pos := rfl
@[simp] theorem State.onBoard_tim (f : Board → Board) (s : State) : (s.onBoard f).tim = s.tim := rfl
@[simp] theorem State.onBoard_store (f : Board → Board) (s : State) : (s.onBoard f).store = s.store := rfl
@[simp] theorem State.onBoard_cps (f : Board → Board) (s : State) : (s.onBoard f).cps = s.cps := rfl
@[simp] theorem State.onBoard_bars (f : Board → Board) (s : State) : (s.onBoard f).bars = s.bars := rfl
@[simp] theorem State.onBoard_fire (f : Board → Board) (s : State) : (s.onBoard f).fire = s.fire := rfl
@[simp] theorem State.onBoard_links (f : Board → Board) (s : State) : (s.onBoard f).links = s.links := rfl
@[simp] theorem State.onBoard_cam (f : Board → Board) (s : State) : (s.onBoard f).cam = s.cam := rfl
@[simp] theorem State.onBoard_clr (f : Board → Board) (s : State) : (s.onBoard f).clr = s.clr := rfl
@[simp] theorem State.onBoard_thm (f : Board → Board) (s : State) : (s.onBoard f).thm = s.thm := rfl
@[simp] theorem State.onBoard_pair (f : Board → Board) (s : State) : (s.onBoard f).pair = s.pair := rfl
@[simp] theorem State.onBoard_stat (f : Board → Board) (s : State) : (s.onBoard f).stat = s.stat := rfl
@[simp] theorem State.onBoard_board (f : Board → Board) (s : State) : (s.onBoard f).board = f s.board := rfl
@[simp] theorem State.onBoard_free (f : Board → Board) (s : State) : (s.onBoard f).free = s.free := rfl
@[simp] theorem State.onBoard_out (f : Board → Board) (s : State) : (s.onBoard f).out = s.out := rfl
@[simp] theorem State.onBoard_pending (f : Board → Board) (s : State) : (s.onBoard f).pending = s.pending := rfl

@[simp] theorem State.emit_hif (o : Output) (s : State) : (s.emit o).hif = s.hif := rfl
@[simp] theorem State.emit_sec (o : Output) (s : State) : (s.emit o).sec = s.sec := rfl
@[simp] theorem State.emit_nor (o : Output) (s : State) : (s.emit o).nor = s.nor := rfl
@[simp] theorem State.emit_pos (o : Output) (s : State) : (s.emit o).pos = s.pos := rfl
@[simp] theorem State.emit_tim (o : Output) (s : State) : (s.emit o).tim = s.tim := rfl
@[simp] theorem State.emit_store (o : Output) (s : State) : (s.emit o).store = s.store := rfl
@[simp] theorem State.emit_cps (o : Output) (s : State) : (s.emit o).cps = s.cps := rfl
@[simp] theorem State.emit_bars (o : Output) (s : State) : (s.emit o).bars = s.bars := rfl
@[simp] theorem State.emit_fire (o : Output) (s : State) : (s.emit o).fire = s.fire := rfl
@[simp] theorem State.emit_links (o : Output) (s : State) : (s.emit o).links = s.links := rfl
@[simp] theorem State.emit_cam (o : Output) (s : State) : (s.emit o).cam = s.cam := rfl
@[simp] theorem State.emit_clr (o : Output) (s : State) : (s.emit o).clr = s.clr := rfl
@[simp] theorem State.emit_thm (o : Output) (s : State) : (s.emit o).thm = s.thm := rfl
@[simp] theorem State.emit_pair (o : Output) (s : State) : (s.emit o).pair = s.pair := rfl
@[simp] theorem State.emit_stat (o : Output) (s : State) : (s.emit o).stat = s.stat := rfl
@[simp] theorem State.emit_board (o : Output) (s : State) : (s.emit o).board = s.board := rfl
@[simp] theorem State.emit_free (o : Output) (s : State) : (s.emit o).free = s.free := rfl
@[simp] theorem State.emit_out (o : Output) (s : State) : (s.emit o).out = o :: s.out := rfl
@[simp] theorem State.emit_pending (o : Output) (s : State) : (s.emit o).pending = s.pending := rfl

@[simp] theorem State.emits_hif (os : List Output) (s : State) : (s.emits os).hif = s.hif := rfl
@[simp] theorem State.emits_sec (os : List Output) (s : State) : (s.emits os).sec = s.sec := rfl
@[simp] theorem State.emits_nor (os : List Output) (s : State) : (s.emits os).nor = s.nor := rfl
@[simp] theorem State.emits_pos (os : List Output) (s : State) : (s.emits os).pos = s.pos := rfl
@[simp] theorem State.emits_tim (os : List Output) (s : State) : (s.emits os).tim = s.tim := rfl
@[simp] theorem State.emits_store (os : List Output) (s : State) : (s.emits os).store = s.store := rfl
@[simp] theorem State.emits_cps (os : List Output) (s : State) : (s.emits os).cps = s.cps := rfl
@[simp] theorem State.emits_bars (os : List Output) (s : State) : (s.emits os).bars = s.bars := rfl
@[simp] theorem State.emits_fire (os : List Output) (s : State) : (s.emits os).fire = s.fire := rfl
@[simp] theorem State.emits_links (os : List Output) (s : State) : (s.emits os).links = s.links := rfl
@[simp] theorem State.emits_cam (os : List Output) (s : State) : (s.emits os).cam = s.cam := rfl
@[simp] theorem State.emits_clr (os : List Output) (s : State) : (s.emits os).clr = s.clr := rfl
@[simp] theorem State.emits_thm (os : List Output) (s : State) : (s.emits os).thm = s.thm := rfl
@[simp] theorem State.emits_pair (os : List Output) (s : State) : (s.emits os).pair = s.pair := rfl
@[simp] theorem State.emits_stat (os : List Output) (s : State) : (s.emits os).stat = s.stat := rfl
@[simp] theorem State.emits_board (os : List Output) (s : State) : (s.emits os).board = s.board := rfl
@[simp] theorem State.emits_free (os : List Output) (s : State) : (s.emits os).free = s.free := rfl
@[simp] theorem State.emits_out (os : List Output) (s : State) : (s.emits os).out = os.reverse ++ s.out := rfl
@[simp] theorem State.emits_pending (os : List Output) (s : State) : (s.emits os).pending = s.pending := rfl

@[simp] theorem State.useFree_hif (s : State) : (s.useFree).hif = s.hif := rfl
@[simp] theorem State.useFree_sec (s : State) : (s.useFree).sec = s.sec := rfl
@[simp] theorem State.useFree_nor (s : State) : (s.useFree).nor = s.nor := rfl
@[simp] theorem State.useFree_pos (s : State) : (s.useFree).pos = s.pos := rfl
@[simp] theorem State.useFree_tim (s : State) : (s.useFree).tim = s.tim := rfl
@[simp] theorem State.useFree_store (s : State) : (s.useFree).store = s.store := rfl
@[simp] theorem State.useFree_cps (s : State) : (s.useFree).cps = s.cps := rfl
@[simp] theorem State.useFree_bars (s : State) : (s.useFree).bars = s.bars := rfl
@[simp] theorem State.useFree_fire (s : State) : (s.useFree).fire = s.fire := rfl
@[simp] theorem State.useFree_links (s : State) : (s.useFree).links = s.links := rfl
@[simp] theorem State.useFree_cam (s : State) : (s.useFree).cam = s.cam := rfl
@[simp] theorem State.useFree_clr (s : State) : (s.useFree).clr = s.clr := rfl
@[simp] theorem State.useFree_thm (s : State) : (s.useFree).thm = s.thm := rfl
@[simp] theorem State.useFree_pair (s : State) : (s.useFree).pair = s.pair := rfl
@[simp] theorem State.useFree_stat (s : State) : (s.useFree).stat = s.stat := rfl
@[simp] theorem State.useFree_board (s : State) : (s.useFree).board = s.board := rfl
@[simp] theorem State.useFree_free (s : State) : (s.useFree).free = s.free + 1 := rfl
@[simp] theorem State.useFree_out (s : State) : (s.useFree).out = s.out := rfl
@[simp] theorem State.useFree_pending (s : State) : (s.useFree).pending = s.pending := rfl

end Sys2Proof.Machine
end

