-- ==== Sys2Proof/Tests/Slice0.lean ====
section
/-!
SUPPORT. Tests: for every statement with hypotheses a concrete state and operands that meet them, clause by clause; ill-formed rows;
worked examples of the spec.
-/
namespace Sys2Proof.Tests
open Sys2Proof Sys2Proof.Machine

set_option maxRecDepth 100000
set_option Elab.async false
set_option linter.unusedVariables false

/-- A parameter block of n bytes holding the given fields (offset, width, value). -/
def pb (n : Nat) (fs : List (Nat × Nat × Nat)) : List Byte :=
  fs.foldl (fun l f => l.take f.1 ++ toLe f.2.1 f.2.2 ++ l.drop (f.1 + f.2.1)) (List.replicate n 0)
/-- A command on ring 0 with TAG 1. -/
def cmdN (n : Nat) (fs : List (Nat × Nat × Nat)) : Cmd := { ring := 0, tag := 1, params := pb n fs }
def cmd0 : Cmd := { ring := 0, tag := 1 }
/-- A device that is up, in P1, with its rings enabled. -/
def on : State :=
  let r := State.reset
  { r with
    hif := { r.hif with ready := true, pcieUp := true, rings := r.hif.rings.map fun x => { x with enable := true, sqLog2 := 4, cqLog2 := 4, role := 0 } }
    thm := { r.thm with power := .p1 }
    sec := { r.sec with prot := defaultTable }
    board := { r.board with holds := [], booting := none } }
theorem toLe_length (n v : Nat) : (toLe n v).length = n := by
  induction n generalizing v with
  | zero => rfl
  | succ n ih => simp [toLe, ih]
theorem leNat_zeros (n : Nat) : leNat (List.replicate n 0) = 0 := by
  induction n with
  | zero => rfl
  | succ n ih => rw [List.replicate_succ, leNat, ih]; rfl
theorem rd_zeros (a : List Byte) (n off k : Nat) (h : a.length ≤ off) : rd (a ++ List.replicate n 0) off k = 0 := by
  unfold rd
  rw [List.drop_append, List.drop_eq_nil_of_le h, List.nil_append, List.drop_replicate, List.take_replicate]
  exact leNat_zeros _
/-- A CURVES object, a CUBE object and a PROFILE object that the device accepts (08 R200, R205, 13 R345). -/
def curvesObj : List Byte := toLe 4 0x5652434C ++ toLe 2 1 ++ toLe 2 8 ++ List.replicate 4120 0
theorem curvesObj_length : curvesObj.length = 4128 := by simp only [curvesObj, List.length_append, toLe_length, List.length_replicate]
theorem curvesObj_ok : (curvesOf curvesObj).isSome = true := by
  unfold curvesOf colourHeader
  simp only [curvesObj_length]
  decide +kernel
def toneObj : List Byte := toLe 4 0x4E4F544C ++ toLe 2 1 ++ toLe 2 3 ++ List.replicate 1592 0
def cubeObj : List Byte := toLe 4 0x4255434C ++ toLe 2 1 ++ toLe 2 33 ++ List.replicate 575000 0
theorem cubeObj_length : cubeObj.length = 575008 := by simp only [cubeObj, List.length_append, toLe_length, List.length_replicate]
theorem cubeObj_ok : (cubeOf cubeObj).isSome = true := by
  unfold cubeOf colourHeader
  simp only [cubeObj_length]
  decide +kernel
def toneCmd : Cmd := { cmdN 16 [] with pblk := toneObj ++ cubeObj }
theorem toneCmd_runs : Runs 0x0405 layerToneCheck toneCmd on = true := by
  have h (s : State) : (cubeObject toneCmd s).isNone = false := by
    have e : cubeObject toneCmd s = cubeOf cubeObj := by
      show cubeOf ((toneObj ++ cubeObj).drop 0x640) = _
      rw [List.drop_left' (by simp only [toneObj, List.length_append, toLe_length, List.length_replicate])]
    rw [e]
    have := cubeObj_ok
    cases hc : cubeOf cubeObj with
    | none => rw [hc] at this; cases this
    | some c => rfl
  unfold Runs layerToneCheck
  simp only [h]
  decide +kernel
def profileHead : List Byte :=
  toLe 4 0x4652504C ++ toLe 2 1 ++ toLe 2 10 ++ List.replicate 8 0 ++ List.replicate 816 1 ++ List.replicate 16 0
    ++ (List.range 8).flatMap fun _ => (List.range 17).flatMap fun i => toLe 2 (2048 * i)
def profileObj : List Byte := profileHead ++ List.replicate 43520 0
theorem profileHead_length : profileHead.length = 1120 := by decide +kernel
theorem profileObj_length : profileObj.length = 44640 := by
  simp only [profileObj, List.length_append, profileHead_length, List.length_replicate]
theorem profileObj_trims : (List.range 10).all (fun b => (profileTrims profileObj b).all fun z => z.2.all (decide <| · < 32768)) = true := by
  simp only [List.all_eq_true, profileTrims, List.mem_map, nums, decide_eq_true_eq, forall_exists_index, and_imp]
  rintro b - _ z - rfl v hv
  obtain ⟨i, -, rfl⟩ := List.mem_map.1 hv
  have e : rd profileObj (0x460 + 34 * (128 * b + z) + 2 * i) 2 = 0 := rd_zeros _ _ _ _ (by rw [profileHead_length]; omega)
  show rd profileObj _ 2 < 32768
  rw [e]; omega
theorem profileObj_ok : (profileOf profileObj).isSome = true := by
  unfold profileOf colourHeader
  simp only [profileObj_length, profileObj_trims]
  decide +kernel
def loopCmd : Cmd := { cmdN 32 [(20, 1, 2)] with pblk := profileObj }
theorem loopCmd_runs : Runs 0x0503 colourLoopConfigCheck loopCmd on = true := by
  have h (s : State) : ((loopObject loopCmd s).bind profileOf).isNone = false := by
    have e : loopObject loopCmd s = some profileObj := by
      unfold loopObject
      rw [show loopCmd.u8 20 = 2 by decide +kernel]
      rfl
    rw [e, Option.bind_some]
    have := profileObj_ok
    cases hc : profileOf profileObj with
    | none => rw [hc] at this; cases this
    | some c => rfl
  unfold Runs colourLoopConfigCheck
  simp only [h]
  decide +kernel
theorem curves_some : curvesOf curvesObj = some ((curvesOf curvesObj).getD default) := by
  cases h : curvesOf curvesObj with
  | none => have := curvesObj_ok; rw [h] at this; cases this
  | some k => rfl
def curvesCmd : Cmd := { cmdN 16 [] with pblk := curvesObj }
theorem curves_given (s : State) : curvesObject curvesCmd s = some ((curvesOf curvesObj).getD default) := by
  unfold curvesObject
  rw [show curvesCmd.u8 0 = 0 by decide +kernel]
  exact curves_some
theorem curvesCmd_runs : Runs 0x0502 colourCurvesCheck curvesCmd on = true ∧ Runs 0x0502 colourCurvesCheck curvesCmd { on with fire := { on.fire with run := some {} } } = true := by
  constructor
  all_goals
    unfold Runs colourCurvesCheck
    simp only [curves_given]
    decide +kernel
def screenObj : List Byte := toLe 4 0x5243534C ++ toLe 2 1 ++ toLe 2 3 ++ List.replicate 196616 0
theorem screenObj_length : screenObj.length = 196624 := by simp only [screenObj, List.length_append, toLe_length, List.length_replicate]
theorem screenObj_ok : (screenOf screenObj).isSome = true := by
  unfold screenOf colourHeader
  simp only [screenObj_length]
  decide +kernel
def screenCmd : Cmd := { cmdN 16 [] with pblk := screenObj }
theorem screenCmd_runs : Runs 0x0604 barScreenCheck screenCmd on = true := by
  have h (s : State) : (screenObject screenCmd s).isNone = false := by
    have e : screenObject screenCmd s = screenOf screenObj := by
      unfold screenObject
      rw [show screenCmd.u8 1 = 0 by decide +kernel]
      rfl
    rw [e]
    have := screenObj_ok
    cases hc : screenOf screenObj with
    | none => rw [hc] at this; cases this
    | some c => rfl
  unfold Runs barScreenCheck
  simp only [h]
  decide +kernel

/-! Where the rows of each group complete. -/

theorem test_witness_SysCommandsComplete :
    (∃ (q : Cmd) (s₀ : State), Runs 0x0101 noParams q s₀ = true ∧ let s := s₀.begun 0x0101 q; True) ∧
    (∃ (q : Cmd) (s₀ : State) (v : Nat), Runs 0x0102 sysHelloCheck q s₀ = true ∧ let s := s₀.begun 0x0102 q; (agree (q.u8 1) (q.u8 0) = some v)) ∧
    (∃ (q : Cmd) (s₀ : State), Runs 0x0103 sysHealthCheck q s₀ = true ∧ let s := s₀.begun 0x0103 q; True) ∧
    (∃ (q : Cmd) (s₀ : State) (e : InFlight), Runs 0x0104 sysAbortCheck q s₀ = true ∧ let s := s₀.begun 0x0104 q; (s.flying (q.u8 0, q.u16 2) = some e) ∧ (e.started = false) ∧ (e.cmd.id = (q.u8 0, q.u16 2))) ∧
    (∃ (q : Cmd) (s₀ : State) (e : InFlight), Runs 0x0104 sysAbortCheck q s₀ = true ∧ let s := s₀.begun 0x0104 q; (s.flying (q.u8 0, q.u16 2) = some e) ∧ (e.started = true) ∧ (e.abortable = true)) ∧
    (∃ (q : Cmd) (s₀ : State), Runs 0x0105 noParams q s₀ = true ∧ let s := s₀.begun 0x0105 q; True) ∧
    (∃ (q : Cmd) (s₀ : State), Runs 0x0106 sysResetCheck q s₀ = true ∧ let s := s₀.begun 0x0106 q; True) ∧
    (∃ (q : Cmd) (s₀ : State), Runs 0x0107 sysConfigSaveCheck q s₀ = true ∧ let s := s₀.begun 0x0107 q; (q.u8 0 = 2)) ∧
    (∃ (q : Cmd) (s₀ : State), Runs 0x0107 sysConfigSaveCheck q s₀ = true ∧ let s := s₀.begun 0x0107 q; (q.u8 0 ≠ 2)) ∧
    (∃ (q : Cmd) (s₀ : State) (t : State), Runs 0x0108 sysConfigLoadCheck q s₀ = true ∧ let s := s₀.begun 0x0108 q; (replayAll replayTable ((s.nor.configs.getD (q.u8 0) none).getD []) 0 s = .ok t)) ∧
    (∃ (q : Cmd) (s₀ : State), Runs 0x0109 sysFwWriteCheck q s₀ = true ∧ let s := s₀.begun 0x0109 q; True) ∧
    (∃ (q : Cmd) (s₀ : State), Runs 0x010A sysFwActivateCheck q s₀ = true ∧ let s := s₀.begun 0x010A q; (q.u8 0 = 0)) ∧
    (∃ (q : Cmd) (s₀ : State), Runs 0x010A sysFwActivateCheck q s₀ = true ∧ let s := s₀.begun 0x010A q; (q.u8 0 = 1)) ∧
    (∃ (q : Cmd) (s₀ : State), Runs 0x010A sysFwActivateCheck q s₀ = true ∧ let s := s₀.begun 0x010A q; (2 ≤ q.u8 0)) ∧
    (∃ (q : Cmd) (s₀ : State), Runs 0x010B sysGpioCheck q s₀ = true ∧ let s := s₀.begun 0x010B q;
    let s := s.onBoard fun b => { b with
      gpioDir := mergeBits (q.u16 0) (q.u16 2) b.gpioDir, gpioOd := mergeBits (q.u16 0) (q.u16 4) b.gpioOd
      gpioOut := mergeBits (q.u16 0) (q.u16 6) b.gpioOut }
    let s := s.emits (((List.range 16).filter fun i => bit (q.u16 0) i && bit (q.u16 2) i).map fun i => .pin (.gpio i) (bit (q.u16 6) i))
    True) :=
  ⟨⟨cmd0, on, by decide +kernel⟩,
   ⟨{ cmdN 16 [(0, 1, 2), (1, 1, 1)] with flags := 2 }, on, 2, by decide +kernel⟩,
   ⟨cmdN 16 [], on, by decide +kernel⟩,
   ⟨cmdN 8 [(2, 2, 2)], { on with hif := { on.hif with inflight := [{ cmd := { ring := 0, tag := 2 }, opcode := 0x0105, started := false, abortable := false }] } }, { cmd := { ring := 0, tag := 2 }, opcode := 0x0105, started := false, abortable := false }, by decide +kernel⟩,
   ⟨cmdN 8 [(2, 2, 2)], { on with hif := { on.hif with inflight := [{ cmd := { ring := 0, tag := 2 }, opcode := 0x0905, started := true, abortable := true }] } }, { cmd := { ring := 0, tag := 2 }, opcode := 0x0905, started := true, abortable := true }, by decide +kernel⟩,
   ⟨cmd0, on, by decide +kernel⟩,
   ⟨cmdN 8 [(4, 4, 0x54535252)], on, by decide +kernel⟩,
   ⟨{ cmdN 8 [(0, 1, 2)] with pblk := [1] }, on, by decide +kernel⟩,
   ⟨cmdN 8 [], on, by decide +kernel⟩,
   ⟨cmdN 8 [], { on with nor := { on.nor with configs := [some [], none] } }, State.begun ({ on with nor := { on.nor with configs := [some [], none] } }) 0x0108 (cmdN 8 []), ⟨by decide +kernel, by rfl⟩⟩,
   ⟨{ cmdN 24 [(0, 1, 1), (4, 4, 4), (16, 4, 1)] with descs := [{ addr := 64, len := 4, ctrl := 1 }], data := [1, 2, 3, 4] }, on, by decide +kernel⟩,
   ⟨cmdN 8 [], on, by decide +kernel⟩,
   ⟨cmdN 8 [(0, 1, 1)], on, by decide +kernel⟩,
   ⟨cmdN 8 [(0, 1, 2)], on, by decide +kernel⟩,
   ⟨cmdN 16 [], on, by decide +kernel⟩⟩

theorem test_witness_SecCommandsComplete :
    (∃ (q : Cmd) (s₀ : State), Runs 0x0201 noParams q s₀ = true ∧ let s := s₀.begun 0x0201 q; True) ∧
    (∃ (q : Cmd) (s₀ : State), Runs 0x0202 secProtectReadCheck q s₀ = true ∧ let s := s₀.begun 0x0202 q; True) ∧
    (∃ (q : Cmd) (s₀ : State) (t : ProtTable), Runs 0x0203 secProtectWriteCheck q s₀ = true ∧ let s := s₀.begun 0x0203 q; let x := judgeFlying t q.id ((hold q [.device] false s).onHif fun h => { h with stops := .protect :: h.stops }); (ProtTable.decode q.pblk = some t)) ∧
    (∃ (q : Cmd) (s₀ : State), Runs 0x0204 secKeyLoadCheck q s₀ = true ∧ let s := s₀.begun 0x0204 q; let t := (changeKeys 0x0204 q s).sec; True) ∧
    (∃ (q : Cmd) (s₀ : State), Runs 0x0205 secKeyRotateCheck q s₀ = true ∧ let s := s₀.begun 0x0205 q; let w := s.onHif fun h => { h with stops := .role (q.u8 0) :: h.stops }; let t := (changeKeys 0x0205 q w).sec; True) ∧
    (∃ (q : Cmd) (s₀ : State), Runs 0x0206 secKeyRevokeCheck q s₀ = true ∧ let s := s₀.begun 0x0206 q; let t := (changeKeys 0x0206 q s).sec; True) ∧
    (∃ (q : Cmd) (s₀ : State), Runs 0x0207 secLifecycleCheck q s₀ = true ∧ let s := s₀.begun 0x0207 q; True) ∧
    (∃ (q : Cmd) (s₀ : State), Runs 0x0208 secDebugCheck q s₀ = true ∧ let s := s₀.begun 0x0208 q; (s.sec.debug = .full) ∧ (Debug.ofCode (q.u8 0) ≠ .full)) ∧
    (∃ (q : Cmd) (s₀ : State), Runs 0x0208 secDebugCheck q s₀ = true ∧ let s := s₀.begun 0x0208 q; (s.sec.debug ≠ .full ∨ Debug.ofCode (q.u8 0) = .full)) ∧
    (∃ (q : Cmd) (s₀ : State), Runs 0x0209 secCounterReadCheck q s₀ = true ∧ let s := s₀.begun 0x0209 q; (q.u8 1 ≠ 0xFF)) ∧
    (∃ (q : Cmd) (s₀ : State), Runs 0x0209 secCounterReadCheck q s₀ = true ∧ let s := s₀.begun 0x0209 q; (q.u8 1 = 0xFF)) :=
  ⟨⟨cmd0, on, by decide +kernel⟩,
   ⟨cmdN 16 [(8, 4, 192)], on, by decide +kernel⟩,
   ⟨{ cmd0 with pblk := { defaultTable with generation := 1 }.encode }, on, { defaultTable with generation := 1, crc := { defaultTable with generation := 1 }.crcOf }, by decide +kernel⟩,
   ⟨cmdN 32 [], on, by decide +kernel⟩,
   ⟨cmdN 8 [], { on with sec := { on.sec with keys := [some 1, some 2, some 3] ++ List.replicate 6 none, current := [some 0, none, none, none] } }, by decide +kernel⟩,
   ⟨cmdN 8 [], on, by decide +kernel⟩,
   ⟨cmdN 8 [(0, 1, 3), (4, 4, 0x53454C43)], { on with sec := { on.sec with lifecycle := .provisioned, debug := .off } }, by decide +kernel⟩,
   ⟨cmdN 8 [], on, by decide +kernel⟩,
   ⟨cmdN 8 [(0, 1, 2)], on, by decide +kernel⟩,
   ⟨cmdN 8 [], on, by decide +kernel⟩,
   ⟨cmdN 8 [(1, 1, 255)], on, by decide +kernel⟩⟩

theorem test_witness_JobCommandsComplete :
    (∃ (q : Cmd) (s₀ : State), Runs 0x0301 jobLoadCheck q s₀ = true ∧ let s := s₀.begun 0x0301 q; True) ∧
    (∃ (q : Cmd) (s₀ : State), Runs 0x0302 jobEncodeCheck q s₀ = true ∧ let s := s₀.begun 0x0302 q; True) ∧
    (∃ (q : Cmd) (s₀ : State) (e : InFlight), Runs 0x0303 jobCancelCheck q s₀ = true ∧ let s := s₀.begun 0x0303 q; (s.jobFlying (q.u32 0) = some e) ∧ (e.started = false)) ∧
    (∃ (q : Cmd) (s₀ : State) (e : InFlight), Runs 0x0303 jobCancelCheck q s₀ = true ∧ let s := s₀.begun 0x0303 q; (s.jobFlying (q.u32 0) = some e) ∧ (e.started = true) ∧ (e.abortable = true)) ∧
    (∃ (q : Cmd) (s₀ : State), Runs 0x0304 jobDeleteCheck q s₀ = true ∧ let s := s₀.begun 0x0304 q; True) ∧
    (∃ (q : Cmd) (s₀ : State), Runs 0x0305 jobListCheck q s₀ = true ∧ let s := s₀.begun 0x0305 q; let got := (s.store.jobs.drop (q.u32 0)).take (q.u16 4); True) ∧
    (∃ (q : Cmd) (s₀ : State) (j : Job), Runs 0x0306 jobInfoCheck q s₀ = true ∧ let s := s₀.begun 0x0306 q; let got := ((indexed (directory j.bytes)).drop (q.u16 4)).take (q.u16 6); (s.job (q.u32 0) = some j) ∧ (j.usable = true)) ∧
    (∃ (q : Cmd) (s₀ : State) (j : Job), Runs 0x0306 jobInfoCheck q s₀ = true ∧ let s := s₀.begun 0x0306 q; (s.job (q.u32 0) = some j) ∧ (j.usable = false)) ∧
    (∃ (q : Cmd) (s₀ : State), Runs 0x0307 jobStoreStatusCheck q s₀ = true ∧ let s := s₀.begun 0x0307 q; (bit (q.u8 0) 0 = false)) ∧
    (∃ (q : Cmd) (s₀ : State), Runs 0x0307 jobStoreStatusCheck q s₀ = true ∧ let s := s₀.begun 0x0307 q; let s := checkLow (s.onStore fun t => { t with lowMark := q.u32 4, lowArmed := true }); (bit (q.u8 0) 0 = true)) ∧
    (∃ (q : Cmd) (s₀ : State), Runs 0x0308 jobReadCheck q s₀ = true ∧ let s := s₀.begun 0x0308 q; True) :=
  ⟨⟨{ cmdN 32 [(0, 4, 5), (16, 4, 1), (24, 8, 4)] with descs := [{ addr := 64, len := 4, ctrl := 1 }], data := [1, 2, 3, 4] }, on, by decide +kernel⟩,
   ⟨{ ({ cmdN 40 [(0, 4, 5), (4, 2, 1), (16, 4, 1), (24, 8, 4)] with descs := [{ addr := 64, len := 4, ctrl := 1 }], data := [1, 2, 3, 4] }) with pblk := pb 64 [(32, 4, 1), (36, 1, 2), (52, 4, 4)] }, on, by decide +kernel⟩,
   ⟨cmdN 8 [(0, 4, 5)], { on with hif := { on.hif with inflight := [{ cmd := { ring := 0, tag := 2, params := pb 32 [(0, 4, 5)] }, opcode := 0x0301, started := false, abortable := false }] } }, { cmd := { ring := 0, tag := 2, params := pb 32 [(0, 4, 5)] }, opcode := 0x0301, started := false, abortable := false }, by decide +kernel⟩,
   ⟨cmdN 8 [(0, 4, 5)], { on with hif := { on.hif with inflight := [{ cmd := { ring := 0, tag := 2, params := pb 32 [(0, 4, 5)] }, opcode := 0x0301, started := true, abortable := true }] } }, { cmd := { ring := 0, tag := 2, params := pb 32 [(0, 4, 5)] }, opcode := 0x0301, started := true, abortable := true }, by decide +kernel⟩,
   ⟨cmdN 8 [(0, 4, 5)], { on with store := { on.store with jobs := [{ id := 5, st := .ready }] } }, by decide +kernel⟩,
   ⟨cmdN 16 [(4, 2, 1)], on, by decide +kernel⟩,
   ⟨cmdN 24 [(0, 4, 5)], { on with store := { on.store with jobs := [{ id := 5, st := .ready }] } }, { id := 5, st := .ready }, by decide +kernel⟩,
   ⟨cmdN 24 [(0, 4, 5)], { on with store := { on.store with jobs := [{ id := 5, st := .loading }] } }, { id := 5, st := .loading }, by decide +kernel⟩,
   ⟨cmdN 16 [], on, by decide +kernel⟩,
   ⟨cmdN 16 [(0, 1, 1)], on, by decide +kernel⟩,
   ⟨{ cmdN 40 [(0, 4, 5), (16, 8, 4), (32, 4, 1)] with descs := [{ addr := 64, len := 4, ctrl := 1 }], data := [1, 2, 3, 4] }, { on with store := { on.store with jobs := [{ id := 5, st := .ready, bytes := [1, 2, 3, 4, 5] }] } }, by decide +kernel⟩⟩

theorem test_witness_LayerCommandsComplete :
    (∃ (q : Cmd) (s₀ : State), Runs 0x0401 layerConfigCheck q s₀ = true ∧ let s := s₀.begun 0x0401 q; (s.fire.run = none)) ∧
    (∃ (q : Cmd) (s₀ : State) (r : Run), Runs 0x0401 layerConfigCheck q s₀ = true ∧ let s := s₀.begun 0x0401 q; (s.fire.run = some r)) ∧
    (∃ (q : Cmd) (s₀ : State), Runs 0x0402 layerFlipCheck q s₀ = true ∧ let s := s₀.begun 0x0402 q; ((s.job (q.u32 4)).any (·.usable) = true) ∧ (flipFault (q.u8 0) (q.u32 4) (q.u32 8) s = none)) ∧
    (∃ (q : Cmd) (s₀ : State), Runs 0x0403 layerFenceCheck q s₀ = true ∧ let s := s₀.begun 0x0403 q; (bit (q.u8 1) 0 = true)) ∧
    (∃ (q : Cmd) (s₀ : State), Runs 0x0403 layerFenceCheck q s₀ = true ∧ let s := s₀.begun 0x0403 q; (bit (q.u8 1) 0 = false)) ∧
    (∃ (q : Cmd) (s₀ : State) (p : Palette), Runs 0x0404 layerPaletteCheck q s₀ = true ∧ let s := s₀.begun 0x0404 q; (palObject q s = some p)) ∧
    (∃ (q : Cmd) (s₀ : State), Runs 0x0405 layerToneCheck q s₀ = true ∧ let s := s₀.begun 0x0405 q; True) ∧
    (∃ (q : Cmd) (s₀ : State), Runs 0x0406 layerOrderCheck q s₀ = true ∧ let s := s₀.begun 0x0406 q; (s.fire.run = none)) ∧
    (∃ (q : Cmd) (s₀ : State) (r : Run), Runs 0x0406 layerOrderCheck q s₀ = true ∧ let s := s₀.begun 0x0406 q; (s.fire.run = some r)) ∧
    (∃ (q : Cmd) (s₀ : State), Runs 0x0407 layerGuardCheck q s₀ = true ∧ let s := s₀.begun 0x0407 q; True) ∧
    (∃ (q : Cmd) (s₀ : State), Runs 0x0408 layerStatusCheck q s₀ = true ∧ let s := s₀.begun 0x0408 q; True) :=
  ⟨⟨cmdN 64 [(20, 2, 1), (24, 4, 0x10000), (28, 4, 0x10000)], on, by decide +kernel⟩,
   ⟨cmdN 64 [(20, 2, 1), (24, 4, 0x10000), (28, 4, 0x10000)], { on with fire := { on.fire with run := some {} } }, default, by decide +kernel⟩,
   ⟨cmdN 32 [(4, 4, 5), (8, 4, 1)], { on with store := { on.store with jobs := [{ id := 5, st := .ready, bytes := pb 160 [(6, 2, 1), (64, 4, 1), (68, 1, 1), (72, 8, 96), (80, 8, 64), (102, 1, 1), (103, 1, 8), (106, 1, 1), (108, 4, 1), (112, 4, 1)] }] }, cps := { on.cps with layers := upd 0 (fun l => { l with act := { source := 1, format := 1, depth := 8 } }) on.cps.layers } }, by decide +kernel⟩,
   ⟨cmdN 8 [(1, 1, 1)], on, by decide +kernel⟩,
   ⟨cmdN 8 [], on, by decide +kernel⟩,
   ⟨{ cmdN 16 [] with pblk := pb 32 [(0, 4, 0x4C41504C), (4, 2, 1), (6, 2, 1), (8, 2, 0xFFFF)] }, on, { entries := [List.replicate 8 0], transparent := none }, by decide +kernel⟩,
   ⟨toneCmd, on, toneCmd_runs, trivial⟩,
   ⟨cmdN 16 [], on, by decide +kernel⟩,
   ⟨cmdN 16 [], { on with fire := { on.fire with run := some {} } }, default, by decide +kernel⟩,
   ⟨cmdN 64 [(20, 2, 1), (24, 4, 0x10000), (28, 4, 0x10000), (0, 1, 7), (3, 1, 2)], on, by decide +kernel⟩,
   ⟨cmdN 16 [], on, by decide +kernel⟩⟩

theorem test_witness_ColourCommandsComplete :
    (∃ (q : Cmd) (s₀ : State), Runs 0x0501 colourInkLimitCheck q s₀ = true ∧ let s := s₀.begun 0x0501 q; (s.fire.run = none)) ∧
    (∃ (q : Cmd) (s₀ : State) (r : Run), Runs 0x0501 colourInkLimitCheck q s₀ = true ∧ let s := s₀.begun 0x0501 q; (s.fire.run = some r)) ∧
    (∃ (q : Cmd) (s₀ : State) (k : Curves), Runs 0x0502 colourCurvesCheck q s₀ = true ∧ let s := s₀.begun 0x0502 q; (s.fire.run = none) ∧ (curvesObject q s = some k)) ∧
    (∃ (q : Cmd) (s₀ : State) (r : Run) (k : Curves), Runs 0x0502 colourCurvesCheck q s₀ = true ∧ let s := s₀.begun 0x0502 q; (s.fire.run = some r) ∧ (curvesObject q s = some k)) ∧
    (∃ (q : Cmd) (s₀ : State), Runs 0x0503 colourLoopConfigCheck q s₀ = true ∧ let s := s₀.begun 0x0503 q;
    let o := (loopObject q s).getD []
    let s := s.onClr fun k => { k with
      ledgerBands := some (ledgerBands q), ledger := [], profile := profileOf o
      cfg := { bands := ledgerBands q, bars := q.u16 4, gain := orDefault (q.u16 6) 128, maxStep := orDefault (q.u16 8) 512
               trimRange := orDefault (q.u16 10) 4096, windowBands := orDefault (q.u16 12) 64, minPx := orDefault (q.u16 14) 1000
               minCell := orDefault (q.u16 16) 16, dominance := orDefault (q.u8 18) 154, xMin := orDefault (q.u8 19) 8 } }
    let s := checkLow (s.onStore fun t => { t with ledger := ledgerPages (ledgerBands q) })
    True) ∧
    (∃ (q : Cmd) (s₀ : State), Runs 0x0504 colourLoopEnableCheck q s₀ = true ∧ let s := s₀.begun 0x0504 q; (q.u8 0 = 0)) ∧
    (∃ (q : Cmd) (s₀ : State), Runs 0x0504 colourLoopEnableCheck q s₀ = true ∧ let s := s₀.begun 0x0504 q; (q.u8 0 = 1)) ∧
    (∃ (q : Cmd) (s₀ : State), Runs 0x0504 colourLoopEnableCheck q s₀ = true ∧ let s := s₀.begun 0x0504 q; (2 ≤ q.u8 0) ∧ (s.clr.st ≠ .stopped)) ∧
    (∃ (q : Cmd) (s₀ : State), Runs 0x0505 colourTrimReadCheck q s₀ = true ∧ let s := s₀.begun 0x0505 q; True) ∧
    (∃ (q : Cmd) (s₀ : State), Runs 0x0506 colourTrimWriteCheck q s₀ = true ∧ let s := s₀.begun 0x0506 q; True) ∧
    (∃ (q : Cmd) (s₀ : State), Runs 0x0507 colourProfileSaveCheck q s₀ = true ∧ let s := s₀.begun 0x0507 q; (s.clr.saveHeld = []) ∧ ((s.clr.savedAt.any fun t => within s t 60 1) = false)) ∧
    (∃ (q : Cmd) (s₀ : State) (t : Int), Runs 0x0507 colourProfileSaveCheck q s₀ = true ∧ let s := s₀.begun 0x0507 q; (s.clr.savedAt = some t) ∧ (within s t 60 1 = true)) ∧
    (∃ (q : Cmd) (s₀ : State), Runs 0x0508 colourStripCheck q s₀ = true ∧ let s := s₀.begun 0x0508 q; (q.u8 0 = 0)) ∧
    (∃ (q : Cmd) (s₀ : State), Runs 0x0508 colourStripCheck q s₀ = true ∧ let s := s₀.begun 0x0508 q; (q.u8 0 = 1)) ∧
    (∃ (q : Cmd) (s₀ : State), Runs 0x0508 colourStripCheck q s₀ = true ∧ let s := s₀.begun 0x0508 q; let list := (s.clr.strikes.filter (·.suspect)).take (q.u32 24); (q.u8 0 = 2)) ∧
    (∃ (q : Cmd) (s₀ : State), Runs 0x0508 colourStripCheck q s₀ = true ∧ let s := s₀.begun 0x0508 q; (3 ≤ q.u8 0)) ∧
    (∃ (q : Cmd) (s₀ : State), Runs 0x0509 colourLedgerReadCheck q s₀ = true ∧ let s := s₀.begun 0x0509 q; (q.u64 16 ≠ 0)) ∧
    (∃ (q : Cmd) (s₀ : State), Runs 0x0509 colourLedgerReadCheck q s₀ = true ∧ let s := s₀.begun 0x0509 q; (q.u64 16 = 0)) :=
  ⟨⟨cmdN 8 [], on, by decide +kernel⟩,
   ⟨cmdN 8 [], { on with fire := { on.fire with run := some {} } }, default, by decide +kernel⟩,
   ⟨curvesCmd, on, (curvesOf curvesObj).getD default, curvesCmd_runs.1, by decide +kernel, curves_given _⟩,
   ⟨curvesCmd, { on with fire := { on.fire with run := some {} } }, default, (curvesOf curvesObj).getD default, curvesCmd_runs.2, by decide +kernel, curves_given _⟩,
   ⟨loopCmd, on, loopCmd_runs, trivial⟩,
   ⟨cmdN 8 [], on, by decide +kernel⟩,
   ⟨cmdN 8 [(0, 1, 1)], { on with clr := { on.clr with ledgerBands := some 24576, profile := some {} }, cam := { on.cam with ports := [{ enable := true, loop := true, params := { camD := 64 } }] } }, by decide +kernel⟩,
   ⟨cmdN 8 [(0, 1, 2)], { on with clr := { on.clr with st := .running } }, by decide +kernel⟩,
   ⟨cmdN 16 [(2, 1, 1)], on, by decide +kernel⟩,
   ⟨{ cmdN 8 [(2, 1, 1)] with pblk := List.replicate 34 0 }, on, by decide +kernel⟩,
   ⟨cmd0, { on with clr := { on.clr with profile := some {} } }, by decide +kernel⟩,
   ⟨cmd0, { on with clr := { on.clr with profile := some {}, savedAt := some 0 } }, 0, by decide +kernel⟩,
   ⟨cmdN 32 [], on, by decide +kernel⟩,
   ⟨cmdN 32 [(0, 1, 1)], on, by decide +kernel⟩,
   ⟨cmdN 32 [(0, 1, 2)], on, by decide +kernel⟩,
   ⟨cmdN 32 [(0, 1, 3)], on, by decide +kernel⟩,
   ⟨cmdN 24 [(8, 2, 1), (16, 8, 64)], on, by decide +kernel⟩,
   ⟨cmdN 24 [(8, 2, 1)], on, by decide +kernel⟩⟩

theorem test_witness_BarCommandsComplete :
    (∃ (q : Cmd) (s₀ : State), Runs 0x0601 barConfigCheck q s₀ = true ∧ let s := s₀.begun 0x0601 q; True) ∧
    (∃ (q : Cmd) (s₀ : State) (c : Nat), Runs 0x0602 barHeadMapCheck q s₀ = true ∧ let s := s₀.begun 0x0602 q; (q.u8 2 = 1) ∧ (((s.bar (q.u8 0)).place (q.u8 1)).ctx = some c)) ∧
    (∃ (q : Cmd) (s₀ : State) (c : Nat), Runs 0x0602 barHeadMapCheck q s₀ = true ∧ let s := s₀.begun 0x0602 q;
    let t := (s.onCtx c fun x => { retired := x.retired, owner := some (q.u8 0, q.u8 1), mir := s.headRecord (q.u8 0) (q.u8 8)
                                   complete := !(s.headRecord (q.u8 0) (q.u8 8)).isEmpty }).onBar (q.u8 0) fun b => { b with
      heads := upd (q.u8 1) (fun _ => { ctx := some c, rows := givenRows q, stitch := q.s32 4, slot := q.u8 8 }) b.heads
      committed := b.committed && !(b.segs.any fun g => g.valid && g.head == q.u8 1)
      act := b.act.dropNozzles fun n => n.head == q.u8 1
        && ((givenRows q).getD n.row {}).nozzles != (((s.bar (q.u8 0)).place (q.u8 1)).rows.getD n.row {}).nozzles }
    (q.u8 2 ≠ 1) ∧ (((s.bar (q.u8 0)).place (q.u8 1)).ctx = none) ∧ (s.freeCtx = some c)) ∧
    (∃ (q : Cmd) (s₀ : State), Runs 0x0603 barSegmentsCheck q s₀ = true ∧ let s := s₀.begun 0x0603 q; let b := s.bar (q.u8 0); let segs := newSegs q b; True) ∧
    (∃ (q : Cmd) (s₀ : State), Runs 0x0604 barScreenCheck q s₀ = true ∧ let s := s₀.begun 0x0604 q; True) ∧
    (∃ (q : Cmd) (s₀ : State) (l : List Nat), Runs 0x0605 barNozzleMapCheck q s₀ = true ∧ let s := s₀.begun 0x0605 q; (mapEntries q s = some l)) ∧
    (∃ (q : Cmd) (s₀ : State), Runs 0x0606 barDeriveCheck q s₀ = true ∧ let s := s₀.begun 0x0606 q; True) ∧
    (∃ (q : Cmd) (s₀ : State), Runs 0x0607 barEnableCheck q s₀ = true ∧ let s := s₀.begun 0x0607 q; ((s.bar (q.u8 0)).enabled = false)) ∧
    (∃ (q : Cmd) (s₀ : State), Runs 0x0607 barEnableCheck q s₀ = true ∧ let s := s₀.begun 0x0607 q; ((s.bar (q.u8 0)).enabled = true)) ∧
    (∃ (q : Cmd) (s₀ : State), Runs 0x0608 barDisableCheck q s₀ = true ∧ let s := s₀.begun 0x0608 q; ((s.bar (q.u8 0)).enabled = false)) ∧
    (∃ (q : Cmd) (s₀ : State), Runs 0x0608 barDisableCheck q s₀ = true ∧ let s := s₀.begun 0x0608 q; ((s.bar (q.u8 0)).enabled = true) ∧ (s.inPrint (q.u8 0) = false)) ∧
    (∃ (q : Cmd) (s₀ : State), Runs 0x0608 barDisableCheck q s₀ = true ∧ let s := s₀.begun 0x0608 q; ((s.bar (q.u8 0)).enabled = true) ∧ (s.inPrint (q.u8 0) = true) ∧ ((s.bar (q.u8 0)).disabling = none)) ∧
    (∃ (q : Cmd) (s₀ : State), Runs 0x0609 barStatusCheck q s₀ = true ∧ let s := s₀.begun 0x0609 q; True) :=
  ⟨⟨cmdN 24 [(3, 1, 1), (4, 1, 1)], on, by decide +kernel⟩,
   ⟨cmdN 80 [(2, 1, 1)], { on with bars := { on.bars with bars := upd 0 (fun b => { b with heads := upd 0 (fun h => { h with ctx := some 3, rows := [{ nozzles := 4 }] }) b.heads }) on.bars.bars } }, 3, by decide +kernel⟩,
   ⟨cmdN 80 [(3, 1, 1), (18, 2, 8)], on, 0, by decide +kernel⟩,
   ⟨cmdN 8 [], on, by decide +kernel⟩,
   ⟨screenCmd, on, screenCmd_runs, trivial⟩,
   ⟨{ cmdN 16 [(6, 2, 1)] with pblk := [1, 0] }, { on with bars := { on.bars with bars := upd 0 (fun b => { b with heads := upd 0 (fun h => { h with ctx := some 3, rows := [{ nozzles := 4 }] }) b.heads }) on.bars.bars } }, [1], by decide +kernel⟩,
   ⟨cmdN 16 [(0, 1, 8), (1, 1, 255)], on, by decide +kernel⟩,
   ⟨cmdN 8 [], { on with bars := { on.bars with bars := upd 0 (fun b => { b with cfg := some {}, committed := true, act := { planes := some [] } }) on.bars.bars } }, by decide +kernel⟩,
   ⟨cmdN 8 [], { on with bars := { on.bars with bars := upd 0 (fun b => { b with enabled := true }) on.bars.bars } }, by decide +kernel⟩,
   ⟨cmdN 8 [], on, by decide +kernel⟩,
   ⟨cmdN 8 [], { on with bars := { on.bars with bars := upd 0 (fun b => { b with enabled := true }) on.bars.bars } }, by decide +kernel⟩,
   ⟨cmdN 8 [], { on with bars := { on.bars with bars := upd 0 (fun b => { b with enabled := true }) on.bars.bars }, fire := { on.fire with run := some { bars := 1 } } }, by decide +kernel⟩,
   ⟨cmdN 16 [], on, by decide +kernel⟩⟩

theorem test_witness_PrintCommandsComplete :
    (∃ (q : Cmd) (s₀ : State), Runs 0x0701 printStartCheck q s₀ = true ∧ let s := s₀.begun 0x0701 q; True) ∧
    (∃ (q : Cmd) (s₀ : State) (r₀ : Run), Runs 0x0702 printStopCheck q s₀ = true ∧ let s := s₀.begun 0x0702 q; (s.fire.run = some r₀) ∧ (r₀.stop = none) ∧ (q.u8 0 < 3)) ∧
    (∃ (q : Cmd) (s₀ : State) (r₀ : Run), Runs 0x0702 printStopCheck q s₀ = true ∧ let s := s₀.begun 0x0702 q; (s.fire.run = some r₀) ∧ (r₀.stop = none) ∧ (q.u8 0 = 3)) ∧
    (∃ (q : Cmd) (s₀ : State) (r₀ : Run) (st : Stop), Runs 0x0702 printStopCheck q s₀ = true ∧ let s := s₀.begun 0x0702 q; (s.fire.run = some r₀) ∧ (r₀.stop = some st) ∧ (st.mode < q.u8 0) ∧ (q.u8 0 < 3)) ∧
    (∃ (q : Cmd) (s₀ : State) (r₀ : Run) (st : Stop), Runs 0x0702 printStopCheck q s₀ = true ∧ let s := s₀.begun 0x0702 q; (s.fire.run = some r₀) ∧ (r₀.stop = some st) ∧ (q.u8 0 ≤ st.mode) ∧ (st.mode < 3)) ∧
    (∃ (q : Cmd) (s₀ : State), Runs 0x0703 printCapoCheck q s₀ = true ∧ let s := s₀.begun 0x0703 q; (bit (q.u8 4) 0 = false)) ∧
    (∃ (q : Cmd) (s₀ : State), Runs 0x0703 printCapoCheck q s₀ = true ∧ let s := s₀.begun 0x0703 q; (bit (q.u8 4) 0 = true)) ∧
    (∃ (q : Cmd) (s₀ : State), Runs 0x0704 printLeadCheck q s₀ = true ∧ let s := s₀.begun 0x0704 q; (s.fire.run = none ∨ s.fire.lead = q.u8 0)) ∧
    (∃ (q : Cmd) (s₀ : State) (r : Run), Runs 0x0704 printLeadCheck q s₀ = true ∧ let s := s₀.begun 0x0704 q; (s.fire.run = some r) ∧ (s.fire.lead ≠ q.u8 0)) ∧
    (∃ (q : Cmd) (s₀ : State), Runs 0x0705 printOffsetsCheck q s₀ = true ∧ let s := s₀.begun 0x0705 q; (s.fire.run = none)) ∧
    (∃ (q : Cmd) (s₀ : State) (r : Run), Runs 0x0705 printOffsetsCheck q s₀ = true ∧ let s := s₀.begun 0x0705 q; (s.fire.run = some r) ∧ ((s.bar (q.u8 0)).alignF ≠ q.s32 4 ∨ (s.bar (q.u8 0)).alignR ≠ q.s32 8)) ∧
    (∃ (q : Cmd) (s₀ : State), Runs 0x0706 printStatusCheck q s₀ = true ∧ let s := s₀.begun 0x0706 q; True) :=
  ⟨⟨cmdN 32 [(4, 4, 16), (8, 8, 1000000), (16, 4, 1000)], { on with bars := { on.bars with bars := upd 0 (fun b => { b with enabled := true, cfg := some {} }) on.bars.bars }, pos := { on.pos with web := some 0, ch := [{ mode := 1, scale := some 4294967296, posSet := true }] } }, by decide +kernel⟩,
   ⟨cmdN 16 [], { on with fire := { on.fire with run := some {} } }, {}, by decide +kernel⟩,
   ⟨cmdN 16 [(0, 1, 3)], { on with fire := { on.fire with run := some {} } }, {}, by decide +kernel⟩,
   ⟨cmdN 16 [(0, 1, 2)], { on with fire := { on.fire with run := some { stop := some { mode := 1 } } } }, { stop := some { mode := 1 } }, { mode := 1 }, by decide +kernel⟩,
   ⟨cmdN 16 [], { on with fire := { on.fire with run := some { stop := some { mode := 1 } } } }, { stop := some { mode := 1 } }, { mode := 1 }, by decide +kernel⟩,
   ⟨cmdN 16 [(0, 4, 2), (8, 8, 300000)], { on with fire := { on.fire with run := some { starts := [{ frame := 1, capo := 200000 }] } } }, by decide +kernel⟩,
   ⟨cmdN 16 [(0, 4, 1), (4, 1, 1)], { on with fire := { on.fire with run := some {} } }, by decide +kernel⟩,
   ⟨cmdN 8 [(0, 1, 16)], on, by decide +kernel⟩,
   ⟨cmdN 8 [(0, 1, 16)], { on with fire := { on.fire with run := some {} } }, default, by decide +kernel⟩,
   ⟨cmdN 16 [], on, by decide +kernel⟩,
   ⟨cmdN 16 [(4, 4, 1)], { on with fire := { on.fire with run := some {} } }, default, by decide +kernel⟩,
   ⟨cmdN 16 [], on, by decide +kernel⟩⟩

theorem test_witness_PosCommandsComplete :
    (∃ (q : Cmd) (s₀ : State), Runs 0x0801 posEncoderConfigCheck q s₀ = true ∧ let s := s₀.begun 0x0801 q;
    let ch := q.u8 0
    let sc := q.u8 1 == 2
    let web := q.u8 2 == 1 && q.u8 1 != 0
    let t := (s.onChan ch fun c =>
      { k := c.k, k0 := c.k0, q0 := c.q0, scale := c.scale, a := c.a, b := c.b, z := c.z
        illegal := c.illegal, signal := c.signal, indexErr := c.indexErr, diverged := c.diverged
        unreferenced := c.unreferenced, furthest := c.k, tally := c.k, moves := [(c.k, s.tb1)]
        mode := q.u8 1, invert := bit (q.u8 3) 0, zLow := bit (q.u8 3) 1, offsetBinary := sc && bit (q.u8 3) 2
        filter := q.u8 4, trigger := if sc then q.u8 5 else 0, aperture := if sc then q.u16 6 else 0
        indexPeriod := q.u32 8, convNs := if sc then q.u16 12 else 0, sckDiv := if sc then q.u8 14 else 5
        sinOff := if sc then q.s16 16 else 0, cosOff := if sc then q.s16 18 else 0
        sinGain := if sc then q.u16 20 else 0, cosGain := if sc then q.u16 22 else 0
        ampMin := if sc then q.u16 24 else 0, ampMax := if sc then q.u16 26 else 0
        window := orDefault (q.u32 0x1C) 20000, stallMs := orDefault (q.u32 0x20) 100, revHyst := orDefault (q.u16 0x24) 4 }).onPos fun p => { p with
      web := if web then some ch else if p.web == some ch then none else p.web
      backup := if (web || q.u8 1 == 0) && (p.backup.map (·.ch)) == some ch then none else p.backup }
    ((s.chan ch).pend = none)) ∧
    (∃ (q : Cmd) (s₀ : State) (ch : Nat), Runs 0x0802 posScaleCheck q s₀ = true ∧ let s := s₀.begun 0x0802 q; (s.chanOf (q.u8 0) = some ch) ∧ (bit (q.u8 1) 0 = true) ∧ (bit (q.u8 1) 1 = true)) ∧
    (∃ (q : Cmd) (s₀ : State) (ch : Nat), Runs 0x0802 posScaleCheck q s₀ = true ∧ let s := s₀.begun 0x0802 q; (s.chanOf (q.u8 0) = some ch) ∧ (bit (q.u8 1) 0 = false) ∧ (bit (q.u8 1) 1 = false)) ∧
    (∃ (q : Cmd) (s₀ : State) (ch : Nat), Runs 0x0803 posReadCheck q s₀ = true ∧ let s := s₀.begun 0x0803 q; (s.chanOf (q.u8 0) = some ch)) ∧
    (∃ (q : Cmd) (s₀ : State), Runs 0x0804 posCompareCheck q s₀ = true ∧ let s := s₀.begun 0x0804 q; (q.u8 2 = 2)) ∧
    (∃ (q : Cmd) (s₀ : State), Runs 0x0804 posCompareCheck q s₀ = true ∧ let s := s₀.begun 0x0804 q;
    let c : Compare :=
      { armed := true, ch := optUnit (q.u8 1), reverse := q.u8 2 == 1, post := bit (q.u8 3) 1, trigger := optUnit (q.u8 4)
        capture := optUnit (q.u8 5), gpio := optUnit (q.u8 6), pulseUs := q.u8 7, value := q.s64 8, period := q.u64 16
        count := q.u32 24 }
    (q.u8 2 ≠ 2) ∧ ((((s.onCmp (q.u8 0) fun _ => c).cmpChan c).bind fun n => ((s.onCmp (q.u8 0) fun _ => c).chan n).posQ) = none)) ∧
    (∃ (q : Cmd) (s₀ : State), Runs 0x0805 posBackupCheck q s₀ = true ∧ let s := s₀.begun 0x0805 q; (q.u8 0 = 0xFF)) ∧
    (∃ (q : Cmd) (s₀ : State), Runs 0x0805 posBackupCheck q s₀ = true ∧ let s := s₀.begun 0x0805 q; (q.u8 0 ≠ 0xFF)) ∧
    (∃ (q : Cmd) (s₀ : State) (ch : Nat), Runs 0x0806 posCalibrateCheck q s₀ = true ∧ let s := s₀.begun 0x0806 q; let t := hold q [.channel ch, .capture (q.u8 1)] true s; (s.chanOf (q.u8 0) = some ch)) :=
  ⟨⟨cmdN 40 [], on, by decide +kernel⟩,
   ⟨cmdN 24 [(1, 1, 3)], on, 0, by decide +kernel⟩,
   ⟨cmdN 24 [(8, 8, 4294967296)], on, 0, by decide +kernel⟩,
   ⟨cmdN 16 [], on, 0, by decide +kernel⟩,
   ⟨cmdN 32 [(2, 1, 2), (7, 1, 1)], on, by decide +kernel⟩,
   ⟨cmdN 32 [(7, 1, 1)], { on with pos := { on.pos with web := some 1 } }, by decide +kernel⟩,
   ⟨cmdN 16 [(0, 1, 255)], { on with pos := { on.pos with web := some 0, ch := [{ mode := 1, scale := some 4294967296, posSet := true }] } }, by decide +kernel⟩,
   ⟨cmdN 16 [(0, 1, 1)], { on with pos := { on.pos with web := some 0, ch := [{ mode := 1, scale := some 4294967296 }, { mode := 1, scale := some 4294967296 }] } }, by decide +kernel⟩,
   ⟨cmdN 32 [(2, 1, 2), (4, 2, 1), (8, 8, 1000000), (16, 4, 100)], { on with pos := { on.pos with web := some 0, ch := [{ mode := 1, scale := some 4294967296, posSet := true }] } }, 0, by decide +kernel⟩⟩

theorem test_witness_TimeCommandsComplete :
    (∃ (q : Cmd) (s₀ : State), Runs 0x0901 timeConfigCheck q s₀ = true ∧ let s := s₀.begun 0x0901 q;
    let t := s.onDom (q.u8 0) fun d => { d with
      test := bit (q.u8 1) 0, lockNs := orDefault (q.u16 2) 100, unlockNs := orDefault (q.u16 4) 1000
      joinPpm := orDefault (q.u16 6) 100, kp := q.u32 8, ki := q.u32 12, stepNs := orDefault (q.u32 16) 1000
      warnS := orDefault (q.u16 20) 600 }
    True) ∧
    (∃ (q : Cmd) (s₀ : State), Runs 0x0902 timeReadCheck q s₀ = true ∧ let s := s₀.begun 0x0902 q; (q.u8 0 ≠ 0x0F)) ∧
    (∃ (q : Cmd) (s₀ : State), Runs 0x0902 timeReadCheck q s₀ = true ∧ let s := s₀.begun 0x0902 q; (q.u8 0 = 0x0F)) ∧
    (∃ (q : Cmd) (s₀ : State), Runs 0x0903 timeStepCheck q s₀ = true ∧ let s := s₀.begun 0x0903 q; (q.u8 1 = 1)) ∧
    (∃ (q : Cmd) (s₀ : State), Runs 0x0903 timeStepCheck q s₀ = true ∧ let s := s₀.begun 0x0903 q; let total := (s.tb (q.u8 0)).frac + rd q.params 4 4 * 2 ^ 32; (q.u8 1 ≠ 1)) ∧
    (∃ (q : Cmd) (s₀ : State), Runs 0x0904 timePtpConfigCheck q s₀ = true ∧ let s := s₀.begun 0x0904 q;
    let w := if (s.ptp (q.u8 0)).p2p = bit (q.u8 3) 0 then s else s.onPtp (q.u8 0) fun x => { x with exchange := none, reqSent := none, presp := none }
    ((s.ptp (q.u8 0)).role = q.u8 1)) ∧
    (∃ (q : Cmd) (s₀ : State), Runs 0x0904 timePtpConfigCheck q s₀ = true ∧ let s := s₀.begun 0x0904 q;
    let o := s.onPtp (q.u8 0) PtpPort.fresh
    let w := if (o.ptp (q.u8 0)).p2p = bit (q.u8 3) 0 then o else o.onPtp (q.u8 0) fun x => { x with exchange := none, reqSent := none, presp := none }
    let t := w.onPtp (q.u8 0) (PtpPort.configured q)
    ((s.ptp (q.u8 0)).role ≠ q.u8 1)) ∧
    (∃ (q : Cmd) (s₀ : State), Runs 0x0905 timeAsymmetryCheck q s₀ = true ∧ let s := s₀.begun 0x0905 q; True) ∧
    (∃ (q : Cmd) (s₀ : State), Runs 0x0906 timeTriggerCheck q s₀ = true ∧ let s := s₀.begun 0x0906 q; (q.u8 1 = 0) ∧ ((s.tim.triggers.getD (q.u8 0) {}).mode = 0)) ∧
    (∃ (q : Cmd) (s₀ : State), Runs 0x0906 timeTriggerCheck q s₀ = true ∧ let s := s₀.begun 0x0906 q; (q.u8 1 ≠ 0) ∧ ((s.tim.triggers.getD (q.u8 0) {}).mode = 0) ∧ (q.u8 1 ≠ 1 ∨ (s.tb (q.u8 2)).t48 ≤ rdT q.params 16 * 2 ^ 16)) ∧
    (∃ (q : Cmd) (s₀ : State), Runs 0x0907 timeCaptureCheck q s₀ = true ∧ let s := s₀.begun 0x0907 q; let lost := (s.tim.captures.getD (q.u8 0) {}).dropRun; (q.u8 1 = 0) ∧ (q.u8 0 < s.tim.captures.length)) ∧
    (∃ (q : Cmd) (s₀ : State), Runs 0x0907 timeCaptureCheck q s₀ = true ∧ let s := s₀.begun 0x0907 q;
    let got := (s.tim.captures.getD (q.u8 0) {}).entries.take (q.u8 6)
    let t := s.onTim fun x => { x with captures := upd (q.u8 0) (fun c => { c with entries := c.entries.drop (q.u8 6) }) x.captures }
    (q.u8 1 = 1)) ∧
    (∃ (q : Cmd) (s₀ : State), Runs 0x0907 timeCaptureCheck q s₀ = true ∧ let s := s₀.begun 0x0907 q;
    let t := s.onTim fun x => { x with captures := upd (q.u8 0) (fun c => { c with enable := false }) x.captures }
    (q.u8 1 = 2)) ∧
    (∃ (q : Cmd) (s₀ : State), Runs 0x0907 timeCaptureCheck q s₀ = true ∧ let s := s₀.begun 0x0907 q; let t := latchCapture (q.u8 0) s; (3 ≤ q.u8 1)) ∧
    (∃ (q : Cmd) (s₀ : State), Runs 0x0908 timeStatusCheck q s₀ = true ∧ let s := s₀.begun 0x0908 q; let x := s.dom (q.u8 0); True) :=
  ⟨⟨cmdN 24 [], on, by decide +kernel⟩,
   ⟨cmdN 16 [], on, by decide +kernel⟩,
   ⟨cmdN 16 [(0, 1, 15)], on, by decide +kernel⟩,
   ⟨cmdN 24 [(1, 1, 1)], on, by decide +kernel⟩,
   ⟨cmdN 24 [], on, by decide +kernel⟩,
   ⟨cmdN 32 [], { on with hif := { on.hif with eth := on.hif.eth.map fun e => { e with enable := true } } }, by decide +kernel⟩,
   ⟨cmdN 32 [(1, 1, 1)], { on with hif := { on.hif with eth := on.hif.eth.map fun e => { e with enable := true } } }, by decide +kernel⟩,
   ⟨cmdN 8 [], on, by decide +kernel⟩,
   ⟨cmdN 40 [], on, by decide +kernel⟩,
   ⟨cmdN 40 [(1, 1, 1)], on, by decide +kernel⟩,
   ⟨cmdN 16 [], on, by decide +kernel⟩,
   ⟨cmdN 16 [(1, 1, 1), (6, 1, 1)], on, by decide +kernel⟩,
   ⟨cmdN 16 [(1, 1, 2)], on, by decide +kernel⟩,
   ⟨cmdN 16 [(1, 1, 3)], { on with tim := { on.tim with captures := [{ enable := true }] } }, by decide +kernel⟩,
   ⟨cmdN 16 [], on, by decide +kernel⟩⟩

theorem test_witness_CamCommandsComplete :
    (∃ (q : Cmd) (s₀ : State), Runs 0x0A01 camConfigCheck q s₀ = true ∧ let s := s₀.begun 0x0A01 q; True) ∧
    (∃ (q : Cmd) (s₀ : State), Runs 0x0A02 camPipelineCheck q s₀ = true ∧ let s := s₀.begun 0x0A02 q; let secs := (sectionsOf q.pblk (q.u16 2)).1; (secs.find? (fun x => x.1 == 9) = none)) ∧
    (∃ (q : Cmd) (s₀ : State), Runs 0x0A03 camEnableCheck q s₀ = true ∧ let s := s₀.begun 0x0A03 q; (q.u8 1 = 0) ∧ ((s.port (q.u8 0)).enable = false)) ∧
    (∃ (q : Cmd) (s₀ : State), Runs 0x0A03 camEnableCheck q s₀ = true ∧ let s := s₀.begun 0x0A03 q; let t := s.onPort (q.u8 0) fun p => { p with enabling := p.enabling.map fun e => { e with after := false } }; (q.u8 1 = 0) ∧ ((s.port (q.u8 0)).enable = true) ∧ ((s.port (q.u8 0)).frames = [])) ∧
    (∃ (q : Cmd) (s₀ : State), Runs 0x0A03 camEnableCheck q s₀ = true ∧ let s := s₀.begun 0x0A03 q; (q.u8 1 = 0) ∧ ((s.port (q.u8 0)).enable = true) ∧ ((s.port (q.u8 0)).frames ≠ []) ∧ ((s.port (q.u8 0)).disabling = none)) ∧
    (∃ (q : Cmd) (s₀ : State), Runs 0x0A03 camEnableCheck q s₀ = true ∧ let s := s₀.begun 0x0A03 q; (q.u8 1 ≠ 0) ∧ ((s.port (q.u8 0)).enable = true) ∧ ((s.port (q.u8 0)).frames ≠ [])) ∧
    (∃ (q : Cmd) (s₀ : State), Runs 0x0A03 camEnableCheck q s₀ = true ∧ let s := s₀.begun 0x0A03 q;
    let k := q.u8 0
    let t := s.onTim fun t => { t with triggers := t.triggers.map fun x => if x.reserved = some k then { x with reserved := none, mode := 0, running := false } else x }
    let t := if q.u8 2 = 0 then t.onTrigger (s.port k).conf.trigger fun t => { t with reserved := some k, mode := 0, running := false } else t
    (q.u8 1 ≠ 0) ∧ ((s.port (q.u8 0)).enable = false ∨ (s.port (q.u8 0)).frames = [])) ∧
    (∃ (q : Cmd) (s₀ : State), Runs 0x0A04 camCalibrateCheck q s₀ = true ∧ let s := s₀.begun 0x0A04 q; True) ∧
    (∃ (q : Cmd) (s₀ : State), Runs 0x0A05 camFrameReadCheck q s₀ = true ∧ let s := s₀.begun 0x0A05 q; let rs := wantedReports (s.port (q.u8 0)) (q.u32 4) (q.u8 1); (packReports rs = [])) ∧
    (∃ (q : Cmd) (s₀ : State), Runs 0x0A05 camFrameReadCheck q s₀ = true ∧ let s := s₀.begun 0x0A05 q; let rs := wantedReports (s.port (q.u8 0)) (q.u32 4) (q.u8 1); (packReports rs ≠ [])) ∧
    (∃ (q : Cmd) (s₀ : State), Runs 0x0A06 camArchiveCheck q s₀ = true ∧ let s := s₀.begun 0x0A06 q;
    let t := checkLow ((s.onCam fun c => { c with
        archive := some { pages := q.u32 8, stage := q.u8 1, keepMarked := bit (q.u8 2) 0, portMask := q.u8 3, keepEvery := q.u16 4
                          rate := if q.u16 6 = 0 then 400 else q.u16 6, budgetAt := s.tb1 } }).onStore fun t => { t with archive := q.u32 8 })
    (q.u8 0 = 0)) ∧
    (∃ (q : Cmd) (s₀ : State), Runs 0x0A06 camArchiveCheck q s₀ = true ∧ let s := s₀.begun 0x0A06 q; let t := s; let bytes := ((s.archived.filter fun e => decide (q.u32 12 ≤ e.entry)).take (q.u16 16)).flatMap (·.header); (q.u8 0 = 1) ∧ (bytes = [])) ∧
    (∃ (q : Cmd) (s₀ : State), Runs 0x0A06 camArchiveCheck q s₀ = true ∧ let s := s₀.begun 0x0A06 q; let bytes := ((s.archived.filter fun e => decide (q.u32 12 ≤ e.entry)).take (q.u16 16)).flatMap (·.header); (q.u8 0 = 1) ∧ (bytes ≠ [])) ∧
    (∃ (q : Cmd) (s₀ : State) (e : ArchEntry), Runs 0x0A06 camArchiveCheck q s₀ = true ∧ let s := s₀.begun 0x0A06 q; (q.u8 0 = 2) ∧ (s.archived.find? (fun e => e.entry == q.u32 12) = some e) ∧ (e.header ++ e.image ≠ [])) ∧
    (∃ (q : Cmd) (s₀ : State), Runs 0x0A06 camArchiveCheck q s₀ = true ∧ let s := s₀.begun 0x0A06 q; let t := s.onCam fun c => { c with archive := c.archive.map fun a => { a with entries := [] } }; (3 ≤ q.u8 0)) ∧
    (∃ (q : Cmd) (s₀ : State), Runs 0x0A07 camStatusCheck q s₀ = true ∧ let s := s₀.begun 0x0A07 q; let p := s.port (q.u8 0); True) :=
  ⟨⟨cmdN 32 [(1, 1, 1), (2, 1, 0x2B), (5, 1, 1), (8, 2, 64), (10, 2, 64), (12, 2, 80)], on, by decide +kernel⟩,
   ⟨cmdN 8 [], on, by decide +kernel⟩,
   ⟨cmdN 32 [], on, by decide +kernel⟩,
   ⟨cmdN 32 [], { on with cam := { on.cam with ports := upd 0 (fun p => { p with enable := true }) on.cam.ports } }, by decide +kernel⟩,
   ⟨cmdN 32 [], { on with cam := { on.cam with ports := upd 0 (fun p => { p with enable := true, frames := [{}] }) on.cam.ports } }, by decide +kernel⟩,
   ⟨cmdN 32 [(1, 1, 1), (2, 1, 2)], { on with cam := { on.cam with ports := upd 0 (fun p => { p with enable := true, frames := [{}], cfg := some {} }) on.cam.ports } }, by decide +kernel⟩,
   ⟨cmdN 32 [(1, 1, 1), (2, 1, 2)], { on with cam := { on.cam with ports := upd 0 (fun p => { p with cfg := some {} }) on.cam.ports } }, by decide +kernel⟩,
   ⟨{ cmdN 16 [(2, 1, 12)] with pblk := List.replicate 192 0 }, { on with cam := { on.cam with ports := upd 0 (fun p => { p with enable := true, cfg := some { width := 64, height := 64 } }) on.cam.ports } }, by decide +kernel⟩,
   ⟨{ cmdN 24 [(1, 1, 1), (4, 4, 0xFFFFFFFF), (16, 4, 1)] with descs := [{ addr := 64, len := 4, ctrl := 1 }] }, on, by decide +kernel⟩,
   ⟨{ cmdN 24 [(1, 1, 1), (4, 4, 0xFFFFFFFF), (16, 4, 1)] with descs := [{ addr := 64, len := 4, ctrl := 1 }] }, { on with cam := { on.cam with ports := upd 0 (fun p => { p with reports := [{ lines := 1 }] }) on.cam.ports } }, by decide +kernel⟩,
   ⟨cmdN 40 [], on, by decide +kernel⟩,
   ⟨{ cmdN 40 [(0, 1, 1), (32, 4, 1)] with descs := [{ addr := 64, len := 4, ctrl := 1 }] }, { on with cam := { on.cam with archive := some { entries := [{}] } } }, by decide +kernel⟩,
   ⟨{ cmdN 40 [(0, 1, 1), (16, 2, 1), (32, 4, 1)] with descs := [{ addr := 64, len := 4, ctrl := 1 }] }, { on with cam := { on.cam with archive := some { entries := [{ header := [1] }] } } }, by decide +kernel⟩,
   ⟨{ cmdN 40 [(0, 1, 2), (32, 4, 1)] with descs := [{ addr := 64, len := 4, ctrl := 1 }] }, { on with cam := { on.cam with archive := some { entries := [{ header := [1] }] } } }, { header := [1] }, by decide +kernel⟩,
   ⟨cmdN 40 [(0, 1, 3)], { on with cam := { on.cam with archive := some { entries := [{}] } } }, by decide +kernel⟩,
   ⟨cmdN 8 [], on, by decide +kernel⟩⟩

theorem test_witness_LinkCommandsComplete :
    (∃ (q : Cmd) (s₀ : State), Runs 0x0B01 linkCourseConfigCheck q s₀ = true ∧ let s := s₀.begun 0x0B01 q; True) ∧
    (∃ (q : Cmd) (s₀ : State), Runs 0x0B02 linkTrainCheck q s₀ = true ∧ let s := s₀.begun 0x0B02 q; True) ∧
    (∃ (q : Cmd) (s₀ : State), Runs 0x0B03 linkLaneSlipCheck q s₀ = true ∧ let s := s₀.begun 0x0B03 q;
    let lock := s.freeVal Config.siteSlip % 2 == 1
    let errs := s.freeVal Config.siteSlip / 2 % 2 ^ 32
    (20 ≤ q.u8 0)) ∧
    (∃ (q : Cmd) (s₀ : State), Runs 0x0B03 linkLaneSlipCheck q s₀ = true ∧ let s := s₀.begun 0x0B03 q;
    let lock := s.freeVal Config.siteSlip % 2 == 1
    let errs := s.freeVal Config.siteSlip / 2 % 2 ^ 32
    (q.u8 0 < 20)) ∧
    (∃ (q : Cmd) (s₀ : State), Runs 0x0B04 linkPrbsCheck q s₀ = true ∧ let s := s₀.begun 0x0B04 q; (q.u8 1 = 0)) ∧
    (∃ (q : Cmd) (s₀ : State), Runs 0x0B04 linkPrbsCheck q s₀ = true ∧ let s := s₀.begun 0x0B04 q; (q.u8 1 = 4)) ∧
    (∃ (q : Cmd) (s₀ : State), Runs 0x0B04 linkPrbsCheck q s₀ = true ∧ let s := s₀.begun 0x0B04 q; (q.u8 1 = 5)) ∧
    (∃ (q : Cmd) (s₀ : State), Runs 0x0B04 linkPrbsCheck q s₀ = true ∧ let s := s₀.begun 0x0B04 q;
    let told (w : State) : State := if (s.course (linkOf (q.u8 0))).up && linkOf (q.u8 0) < 10 then post evCourseDown (unitCourse (linkOf (q.u8 0))) (linkOf (q.u8 0)) 0 w else w
    let p : Prbs := { gen := bit (q.u8 1) 0, chk := bit (q.u8 1) 1, p31 := q.u8 2 == 1, invert := bit (q.u8 3) 0
                      genReg := 1 + s.freeVal Config.sitePrbs % ((if q.u8 2 == 1 then 2 ^ 31 else 2 ^ 9) - 1) }
    (q.u8 1 ≠ 0) ∧ (q.u8 1 < 4)) ∧
    (∃ (q : Cmd) (s₀ : State), Runs 0x0B05 linkInjectCheck q s₀ = true ∧ let s := s₀.begun 0x0B05 q; (q.u8 1 ≤ 3)) ∧
    (∃ (q : Cmd) (s₀ : State), Runs 0x0B05 linkInjectCheck q s₀ = true ∧ let s := s₀.begun 0x0B05 q; (3 < q.u8 1)) ∧
    (∃ (q : Cmd) (s₀ : State) (t : State) (n f : Nat), Runs 0x0B06 linkQueueFlushCheck q s₀ = true ∧ let s := s₀.begun 0x0B06 q; (flushQueue (q.u8 0) [q.id] s = (t, some (n, f)))) ∧
    (∃ (q : Cmd) (s₀ : State) (t : State), Runs 0x0B06 linkQueueFlushCheck q s₀ = true ∧ let s := s₀.begun 0x0B06 q; (flushQueue (q.u8 0) [q.id] s = (t, none))) ∧
    (∃ (q : Cmd) (s₀ : State), Runs 0x0B07 linkStatusCheck q s₀ = true ∧ let s := s₀.begun 0x0B07 q;
    let c := s.course (q.u8 0)
    let res := toLe 1 c.stateCode ++ toLe 1 c.run.version ++ toLe 1 (if c.owned then 1 else if c.owner = 0 then 0 else 2)
      ++ toLe 1 (b2n (c.marks.getD 0 {}).sticky + 2 * b2n (c.marks.getD 1 {}).sticky) ++ toLe 4 c.depth ++ toLe 4 c.peak ++ toLeS 4 c.delay
    (bit (q.u8 1) 0 = false)) ∧
    (∃ (q : Cmd) (s₀ : State), Runs 0x0B07 linkStatusCheck q s₀ = true ∧ let s := s₀.begun 0x0B07 q;
    let c := s.course (q.u8 0)
    let res := toLe 1 c.stateCode ++ toLe 1 c.run.version ++ toLe 1 (if c.owned then 1 else if c.owner = 0 then 0 else 2)
      ++ toLe 1 (b2n (c.marks.getD 0 {}).sticky + 2 * b2n (c.marks.getD 1 {}).sticky) ++ toLe 4 c.depth ++ toLe 4 c.peak ++ toLeS 4 c.delay
    (bit (q.u8 1) 0 = true)) ∧
    (∃ (q : Cmd) (s₀ : State), Runs 0x0B08 linkEthConfigCheck q s₀ = true ∧ let s := s₀.begun 0x0B08 q; ((s.hif.eth.getD (q.u8 0) {}).enable = bit (q.u8 1) 0) ∧ ((s.hif.eth.getD (q.u8 0) {}).is25 = bit (q.u8 1) 1) ∧ ((s.hif.eth.getD (q.u8 0) {}).fec = bit (q.u8 1) 2)) ∧
    (∃ (q : Cmd) (s₀ : State), Runs 0x0B08 linkEthConfigCheck q s₀ = true ∧ let s := s₀.begun 0x0B08 q; ((s.hif.eth.getD (q.u8 0) {}).enable = false) ∧ (bit (q.u8 1) 0 = true)) ∧
    (∃ (q : Cmd) (s₀ : State), Runs 0x0B08 linkEthConfigCheck q s₀ = true ∧ let s := s₀.begun 0x0B08 q; ((s.hif.eth.getD (q.u8 0) {}).enable = true) ∧ (bit (q.u8 1) 0 = false)) ∧
    (∃ (q : Cmd) (s₀ : State), Runs 0x0B09 linkMarksCheck q s₀ = true ∧ let s := s₀.begun 0x0B09 q; True) :=
  ⟨⟨cmdN 40 [(1, 1, 1)], on, by decide +kernel⟩,
   ⟨cmdN 8 [], { on with links := { on.links with courses := upd 0 (fun c => { c with cfg := { enable := true } }) on.links.courses } }, by decide +kernel⟩,
   ⟨cmdN 8 [(0, 1, 20), (1, 1, 1)], on, by decide +kernel⟩,
   ⟨cmdN 8 [(1, 1, 1)], on, by decide +kernel⟩,
   ⟨cmdN 8 [], on, by decide +kernel⟩,
   ⟨cmdN 8 [(1, 1, 4)], on, by decide +kernel⟩,
   ⟨cmdN 8 [(1, 1, 5)], on, by decide +kernel⟩,
   ⟨cmdN 8 [(1, 1, 1)], on, by decide +kernel⟩,
   ⟨cmdN 8 [(1, 1, 2), (4, 2, 1)], on, by decide +kernel⟩,
   ⟨cmdN 8 [(0, 1, 128), (1, 1, 4), (4, 2, 1)], on, by decide +kernel⟩,
   ⟨cmdN 8 [], on, (flushQueue 0 [(0, 1)] (State.begun on 0x0B06 (cmdN 8 []))).1, 0, 0, by decide +kernel, by rfl⟩,
   ⟨cmdN 8 [], { on with links := { on.links with courses := upd 0 (fun c => { c with writing := [{ pushed := 1 }] }) on.links.courses } }, (flushQueue 0 [(0, 1)] (State.begun ({ on with links := { on.links with courses := upd 0 (fun c => { c with writing := [{ pushed := 1 }] }) on.links.courses } }) 0x0B06 (cmdN 8 []))).1, by decide +kernel, by rfl⟩,
   ⟨cmdN 16 [], on, by decide +kernel⟩,
   ⟨cmdN 16 [(1, 1, 1)], on, by decide +kernel⟩,
   ⟨cmdN 24 [], on, by decide +kernel⟩,
   ⟨cmdN 24 [(1, 1, 1)], on, by decide +kernel⟩,
   ⟨cmdN 24 [], { on with hif := { on.hif with eth := on.hif.eth.map fun e => { e with enable := true } } }, by decide +kernel⟩,
   ⟨cmdN 16 [], on, by decide +kernel⟩⟩

theorem test_witness_HeadCommandsComplete :
    (∃ (q : Cmd) (s₀ : State), Runs 0x0C01 headDiscoverCheck q s₀ = true ∧ let s := s₀.begun 0x0C01 q;
    let t := hold q ((chosenPaths q).map pathResource) true s
    let live := (chosenPaths q).filter fun p => decide (p < 5) || (t.course (p - 0x80)).up
    True) ∧
    (∃ (q : Cmd) (s₀ : State) (m : Mir), Runs 0x0C02 headMirReadCheck q s₀ = true ∧ let s := s₀.begun 0x0C02 q; (heldMir (q.u8 0) (q.u8 1) s = some m)) ∧
    (∃ (q : Cmd) (s₀ : State), Runs 0x0C03 headGateTestCheck q s₀ = true ∧ let s := s₀.begun 0x0C03 q;
    let w := hold q [.bar (q.u8 0), .course (q.u8 0), .gate (q.u8 0)] true s
    let t : GateTest :=
      { cmd := q.id, bar := q.u8 0, apply := bit (q.u8 1) 0, takeOut := bit (q.u8 1) 1, repeats := orDefault (q.u8 2) 3, drop := orDefault (q.u8 3) 2
        shotNs := q.u32 8, flightNs := orDefault (q.u32 12) (w.gateFlight (q.u8 0)), windowNs := orDefault (q.u16 16) 5000
        weakNs := orDefault (q.u16 18) 1000, failLimit := orDefault (q.u16 20) 50, heads := q.u32 4, addr := q.u64 24, room := q.u32 32
        runId := 2 ^ 31 + (w.clr.testRuns + 1) % 2 ^ 31, again := (w.bar (q.u8 0)).enabled, began := w.tb1 }
    ((s.bar (q.u8 0)).enabled = false) ∧ ((w.bar (q.u8 0)).enabled = false) ∧ (((w.onClr fun k => { k with tests := k.tests ++ [t], testRuns := (k.testRuns + 1) % 2 ^ 31 }).bar (q.u8 0)).enabled = false)) ∧
    (∃ (q : Cmd) (s₀ : State) (b h : Nat), Runs 0x0C04 headEnableCheck q s₀ = true ∧ let s := s₀.begun 0x0C04 q; ((s.ctx (q.u8 0)).owner = some (b, h)) ∧ (s.inPrint b = false)) ∧
    (∃ (q : Cmd) (s₀ : State) (b h : Nat), Runs 0x0C04 headEnableCheck q s₀ = true ∧ let s := s₀.begun 0x0C04 q; ((s.ctx (q.u8 0)).owner = some (b, h)) ∧ (s.inPrint b = true)) ∧
    (∃ (q : Cmd) (s₀ : State) (b h : Nat), Runs 0x0C05 headDisableCheck q s₀ = true ∧ let s := s₀.begun 0x0C05 q; ((s.ctx (q.u8 0)).owner = some (b, h)) ∧ (s.inPrint b = false)) ∧
    (∃ (q : Cmd) (s₀ : State) (b h : Nat), Runs 0x0C05 headDisableCheck q s₀ = true ∧ let s := s₀.begun 0x0C05 q; ((s.ctx (q.u8 0)).owner = some (b, h)) ∧ (s.inPrint b = true)) ∧
    (∃ (q : Cmd) (s₀ : State), Runs 0x0C06 headStatusCheck q s₀ = true ∧ let s := s₀.begun 0x0C06 q; let c := s.ctx (q.u8 0); True) ∧
    (∃ (q : Cmd) (s₀ : State), Runs 0x0C07 headBridgeMgmtCheck q s₀ = true ∧ let s := s₀.begun 0x0C07 q; True) :=
  ⟨⟨cmdN 16 [], on, by decide +kernel⟩,
   ⟨cmdN 24 [(1, 1, 0x50)], { on with board := { on.board with mirs := [{ slot := 0x50 }] } }, { slot := 0x50 }, by decide +kernel⟩,
   ⟨cmdN 40 [(8, 4, 20000), (12, 4, 1000)], { on with links := { on.links with courses := upd 0 (fun c => { c with up := true, owned := true, run := { version := 2 } }) on.links.courses } }, by decide +kernel⟩,
   ⟨cmdN 8 [], { on with bars := { on.bars with ctxs := upd 0 (fun c => { c with owner := some (0, 0), complete := true }) on.bars.ctxs } }, 0, 0, by decide +kernel⟩,
   ⟨cmdN 8 [], { on with bars := { on.bars with ctxs := upd 0 (fun c => { c with owner := some (0, 0), complete := true }) on.bars.ctxs, bars := upd 0 (fun b => { b with enabled := true }) on.bars.bars }, fire := { on.fire with run := some { bars := 1 } } }, 0, 0, by decide +kernel⟩,
   ⟨cmdN 8 [], { on with bars := { on.bars with ctxs := upd 0 (fun c => { c with owner := some (0, 0), complete := true }) on.bars.ctxs } }, 0, 0, by decide +kernel⟩,
   ⟨cmdN 8 [], { on with bars := { on.bars with ctxs := upd 0 (fun c => { c with owner := some (0, 0), complete := true }) on.bars.ctxs, bars := upd 0 (fun b => { b with enabled := true }) on.bars.bars }, fire := { on.fire with run := some { bars := 1 } } }, 0, 0, by decide +kernel⟩,
   ⟨cmdN 8 [], on, by decide +kernel⟩,
   ⟨{ cmdN 16 [] with pblk := List.replicate 16 0 }, on, by decide +kernel⟩⟩

theorem test_witness_ThermCommandsComplete :
    (∃ (q : Cmd) (s₀ : State), Runs 0x0D01 thermLevelsCheck q s₀ = true ∧ let s := s₀.begun 0x0D01 q; True) ∧
    (∃ (q : Cmd) (s₀ : State), Runs 0x0D02 thermAddrCheck q s₀ = true ∧ let s := s₀.begun 0x0D02 q; True) ∧
    (∃ (q : Cmd) (s₀ : State), Runs 0x0D03 thermSensorTrimCheck q s₀ = true ∧ let s := s₀.begun 0x0D03 q; (bit (q.u8 1) 0 = false)) ∧
    (∃ (q : Cmd) (s₀ : State), Runs 0x0D03 thermSensorTrimCheck q s₀ = true ∧ let s := s₀.begun 0x0D03 q; (bit (q.u8 1) 0 = true)) ∧
    (∃ (q : Cmd) (s₀ : State), Runs 0x0D04 thermPowerStateCheck q s₀ = true ∧ let s := s₀.begun 0x0D04 q; (s.thm.power = Power.ofCode (q.u8 0))) ∧
    (∃ (q : Cmd) (s₀ : State), Runs 0x0D04 thermPowerStateCheck q s₀ = true ∧ let s := s₀.begun 0x0D04 q; (s.thm.power ≠ .p1) ∧ (Power.ofCode (q.u8 0) = .p1)) ∧
    (∃ (q : Cmd) (s₀ : State), Runs 0x0D04 thermPowerStateCheck q s₀ = true ∧ let s := s₀.begun 0x0D04 q; (s.thm.power ≠ Power.ofCode (q.u8 0)) ∧ (Power.ofCode (q.u8 0) ≠ .p1)) ∧
    (∃ (q : Cmd) (s₀ : State), Runs 0x0D05 thermPmbusCheck q s₀ = true ∧ let s := s₀.begun 0x0D05 q; (q.u8 0 = 2)) ∧
    (∃ (q : Cmd) (s₀ : State) (r : Rail), Runs 0x0D05 thermPmbusCheck q s₀ = true ∧ let s := s₀.begun 0x0D05 q; (q.u8 0 ≠ 2) ∧ (s.rail (q.u8 1) = some r)) ∧
    (∃ (q : Cmd) (s₀ : State), Runs 0x0D06 thermAddrCheck q s₀ = true ∧ let s := s₀.begun 0x0D06 q; True) :=
  ⟨⟨cmdN 16 [], on, by decide +kernel⟩,
   ⟨cmdN 16 [], on, by decide +kernel⟩,
   ⟨cmdN 8 [], on, by decide +kernel⟩,
   ⟨cmdN 8 [(1, 1, 1)], on, by decide +kernel⟩,
   ⟨cmdN 16 [(0, 1, 1)], on, by decide +kernel⟩,
   ⟨cmdN 16 [(0, 1, 1)], { on with thm := { on.thm with power := .p2 } }, by decide +kernel⟩,
   ⟨cmdN 16 [(0, 1, 3)], on, by decide +kernel⟩,
   ⟨cmdN 16 [(0, 1, 2)], on, by decide +kernel⟩,
   ⟨cmdN 16 [], { on with thm := { on.thm with rails := upd 0 (fun _ => some {}) on.thm.rails } }, {}, by decide +kernel⟩,
   ⟨cmdN 16 [], on, by decide +kernel⟩⟩

theorem test_witness_PairCommandsComplete :
    (∃ (q : Cmd) (s₀ : State), Runs 0x0E01 pairConfigCheck q s₀ = true ∧ let s := s₀.begun 0x0E01 q;
    let s := s.onPair fun p => { p with
      enable := true, prefer := bit (q.u8 0) 1, autoJoin := bit (q.u8 0) 2, refSpeed := q.u32 4, peerUid := q.u64 8 }
    let s := s.onCourse 10 fun c => { c with cfg := { c.cfg with enable := true, rate := q.u8 1, lanes := 3, version := 2 } }
    (bit (q.u8 0) 0 = true) ∧ (s.pair.st ≠ .off)) ∧
    (∃ (q : Cmd) (s₀ : State), Runs 0x0E01 pairConfigCheck q s₀ = true ∧ let s := s₀.begun 0x0E01 q;
    let s := s.onPair fun p => { p with
      enable := true, prefer := bit (q.u8 0) 1, autoJoin := bit (q.u8 0) 2, refSpeed := q.u32 4, peerUid := q.u64 8 }
    let s := s.onCourse 10 fun c => { c with cfg := { c.cfg with enable := true, rate := q.u8 1, lanes := 3, version := 2 } }
    (bit (q.u8 0) 0 = true) ∧ (s.pair.st = .off) ∧ (q.ring ≠ ringReplay)) ∧
    (∃ (q : Cmd) (s₀ : State), Runs 0x0E01 pairConfigCheck q s₀ = true ∧ let s := s₀.begun 0x0E01 q;
    let s := s.onPair fun p => { p with
      enable := false, prefer := bit (q.u8 0) 1, autoJoin := bit (q.u8 0) 2, refSpeed := q.u32 4, peerUid := q.u64 8 }
    let s := s.onCourse 10 fun c => { c with cfg := { c.cfg with enable := false, rate := q.u8 1, lanes := 3, version := 2 } }
    let s := s.onCourse 10 fun c => { c with up := false, wanted := false, train := none }
    let s := setPair .off (s.onPair fun p => { p with peer := none, peerState := .off, beatSeen := none, beatLost := false })
    (bit (q.u8 0) 0 = false)) ∧
    (∃ (q : Cmd) (s₀ : State), Runs 0x0E02 pairReadCheck q s₀ = true ∧ let s := s₀.begun 0x0E02 q; True) ∧
    (∃ (q : Cmd) (s₀ : State), Runs 0x0E03 pairHandoverCheck q s₀ = true ∧ let s := s₀.begun 0x0E03 q; let t := hold q [.device] true s; True) ∧
    (∃ (q : Cmd) (s₀ : State), Runs 0x0E04 pairMirrorCheck q s₀ = true ∧ let s := s₀.begun 0x0E04 q; let t := s.onPair fun p => { p with auto := bit (q.u8 1) 0, mirrorRate := orDefault (q.u16 2) 4000 }; (q.u8 0 = 0)) ∧
    (∃ (q : Cmd) (s₀ : State), Runs 0x0E04 pairMirrorCheck q s₀ = true ∧ let s := s₀.begun 0x0E04 q; (q.u8 0 = 1)) ∧
    (∃ (q : Cmd) (s₀ : State), Runs 0x0E04 pairMirrorCheck q s₀ = true ∧ let s := s₀.begun 0x0E04 q; (2 ≤ q.u8 0)) ∧
    (∃ (q : Cmd) (s₀ : State), Runs 0x0E05 pairReadCheck q s₀ = true ∧ let s := s₀.begun 0x0E05 q; True) ∧
    (∃ (q : Cmd) (s₀ : State), Runs 0x0E06 pairRejoinCheck q s₀ = true ∧ let s := s₀.begun 0x0E06 q;
    let t := setAbortable q.id true (drivePairYield false s)
    let t := setPair .linking (t.onPair fun p => { p with rejoin := some (q.id, t.tb1 + secT (orDefault (q.u32 0) 600)) })
    ((t.course 10).up = true)) ∧
    (∃ (q : Cmd) (s₀ : State), Runs 0x0E06 pairRejoinCheck q s₀ = true ∧ let s := s₀.begun 0x0E06 q;
    let t := setAbortable q.id true (drivePairYield false s)
    let t := setPair .linking (t.onPair fun p => { p with rejoin := some (q.id, t.tb1 + secT (orDefault (q.u32 0) 600)) })
    ((t.course 10).up = false) ∧ ((t.course 10).train = none)) :=
  ⟨⟨cmdN 24 [(0, 1, 1)], { on with pair := { on.pair with st := .detached } }, by decide +kernel⟩,
   ⟨cmdN 24 [(0, 1, 1)], on, by decide +kernel⟩,
   ⟨cmdN 24 [], on, by decide +kernel⟩,
   ⟨cmdN 16 [], on, by decide +kernel⟩,
   ⟨cmdN 8 [], { on with pair := { on.pair with st := .active, peerFlags := 4 } }, by decide +kernel⟩,
   ⟨cmdN 16 [], on, by decide +kernel⟩,
   ⟨cmdN 16 [(0, 1, 1), (4, 4, 5)], { on with store := { on.store with jobs := [{ id := 5, st := .ready }] } }, by decide +kernel⟩,
   ⟨cmdN 16 [(0, 1, 2)], on, by decide +kernel⟩,
   ⟨cmdN 16 [], on, by decide +kernel⟩,
   ⟨cmdN 8 [], { on with links := { on.links with courses := upd 10 (fun c => { c with up := true }) on.links.courses }, pair := { on.pair with st := .detached } }, by decide +kernel⟩,
   ⟨cmdN 8 [], { on with pair := { on.pair with st := .detached } }, by decide +kernel⟩⟩

theorem test_witness_StatCommandsComplete :
    (∃ (q : Cmd) (s₀ : State) (r o : Record) (rs : List Record), Runs 0x0F01 statFrameRecordCheck q s₀ = true ∧ let s := s₀.begun 0x0F01 q;
    let sp := readSpan (q.u32 0) (q.u16 4) o.seq r.seq
    let got := (s.stat.records.filter fun x => decide (sp.1 ≤ x.seq) && decide (x.seq < sp.1 + sp.2)).reverse
    (s.stat.records = r :: rs) ∧ (s.stat.records.getLast? = some o)) ∧
    (∃ (q : Cmd) (s₀ : State), Runs 0x0F01 statFrameRecordCheck q s₀ = true ∧ let s := s₀.begun 0x0F01 q; (s.stat.records = [])) ∧
    (∃ (q : Cmd) (s₀ : State), Runs 0x0F02 statCountersCheck q s₀ = true ∧ let s := s₀.begun 0x0F02 q; (bit (q.u8 0) 0 = true)) ∧
    (∃ (q : Cmd) (s₀ : State), Runs 0x0F02 statCountersCheck q s₀ = true ∧ let s := s₀.begun 0x0F02 q; (bit (q.u8 0) 0 = false)) ∧
    (∃ (q : Cmd) (s₀ : State), Runs 0x0F03 statClearCheck q s₀ = true ∧ let s := s₀.begun 0x0F03 q; True) ∧
    (∃ (q : Cmd) (s₀ : State), Runs 0x0F04 statEventMaskCheck q s₀ = true ∧ let s := s₀.begun 0x0F04 q; True) ∧
    (∃ (q : Cmd) (s₀ : State), Runs 0x0F05 statEventFetchCheck q s₀ = true ∧ let s := s₀.begun 0x0F05 q; (s.stat.history = [])) ∧
    (∃ (q : Cmd) (s₀ : State), Runs 0x0F05 statEventFetchCheck q s₀ = true ∧ let s := s₀.begun 0x0F05 q; let sp := readSpan (q.u32 0) (q.u16 4) s.oldestHseq (s.stat.hseq - 1); (s.stat.history ≠ [])) ∧
    (∃ (q : Cmd) (s₀ : State), Runs 0x0F06 statPeaksCheck q s₀ = true ∧ let s := s₀.begun 0x0F06 q; let got := ((stickyEntries s).filter fun e => q.u16 0 == 0xFFFF || e.1 == q.u16 0).take (q.u8 3); True) :=
  ⟨⟨cmdN 24 [(0, 4, 0xFFFFFFFF), (4, 2, 1)], { on with stat := { on.stat with records := [{ seq := 2 }, { seq := 1 }] } }, { seq := 2 }, { seq := 1 }, [{ seq := 1 }], by decide +kernel⟩,
   ⟨cmdN 24 [(4, 2, 1)], on, by decide +kernel⟩,
   ⟨cmdN 16 [(0, 1, 1)], on, by decide +kernel⟩,
   ⟨cmdN 16 [], on, by decide +kernel⟩,
   ⟨cmdN 8 [], on, by decide +kernel⟩,
   ⟨cmdN 8 [(0, 1, 1), (3, 1, 8)], on, by decide +kernel⟩,
   ⟨cmdN 16 [(4, 2, 1)], on, by decide +kernel⟩,
   ⟨cmdN 16 [(0, 4, 0xFFFFFFFF), (4, 2, 1)], { on with stat := { on.stat with history := [{}], hseq := 1 } }, by decide +kernel⟩,
   ⟨cmdN 16 [(0, 2, 0xFFFF), (3, 1, 1)], on, by decide +kernel⟩⟩

theorem test_witness_DiagCommandsComplete :
    (∃ (q : Cmd) (s₀ : State), Runs 0x1001 diagSelfTestCheck q s₀ = true ∧ let s := s₀.begun 0x1001 q; True) ∧
    (∃ (q : Cmd) (s₀ : State), Runs 0x1002 diagUnitRestoreCheck q s₀ = true ∧ let s := s₀.begun 0x1002 q; (s.isRetired (q.u16 0) = false)) ∧
    (∃ (q : Cmd) (s₀ : State), Runs 0x1002 diagUnitRestoreCheck q s₀ = true ∧ let s := s₀.begun 0x1002 q; (s.isRetired (q.u16 0) = true)) ∧
    (∃ (q : Cmd) (s₀ : State), Runs 0x1003 diagUnitRetireCheck q s₀ = true ∧ let s := s₀.begun 0x1003 q; True) ∧
    (∃ (q : Cmd) (s₀ : State), Runs 0x1004 diagMemTestCheck q s₀ = true ∧ let s := s₀.begun 0x1004 q; True) ∧
    (∃ (q : Cmd) (s₀ : State), Runs 0x1005 (fun q _ => firstFail (shape q 16 [(0, 6)] ++ [(q.u32 0 % 4 != 0, Reply.bad 0), (q.u16 4 == 0 || decide (4 < q.u16 4), Reply.bad 4)])) q s₀ = true ∧ let s := s₀.begun 0x1005 q; let sec := (List.range (q.u16 4)).any fun i => Config.secAddress (q.u32 0 + 4 * i); True) ∧
    (∃ (q : Cmd) (s₀ : State), Runs 0x1006 diagInjectCheck q s₀ = true ∧ let s := s₀.begun 0x1006 q; True) ∧
    (∃ (q : Cmd) (s₀ : State), Runs 0x1007 diagTraceCheck q s₀ = true ∧ let s := s₀.begun 0x1007 q; let n := q.listBytes (q.u32 16); (0 < n)) :=
  ⟨⟨cmdN 8 [(0, 2, 0x0500)], on, by decide +kernel⟩,
   ⟨cmdN 8 [(0, 2, 0x0500)], on, by decide +kernel⟩,
   ⟨cmdN 8 [(0, 2, 0x0F00)], { on with stat := { on.stat with retired := [{ unit := 0x0F00 }] } }, by decide +kernel⟩,
   ⟨cmdN 8 [(0, 2, 0x0F00)], on, by decide +kernel⟩,
   ⟨cmdN 16 [], on, by decide +kernel⟩,
   ⟨cmdN 16 [(4, 2, 1)], on, by decide +kernel⟩,
   ⟨cmdN 8 [(0, 2, 0x0F00), (2, 1, 1)], on, by decide +kernel⟩,
   ⟨{ cmdN 24 [(0, 2, 0x0F00), (4, 4, 1), (16, 4, 1)] with descs := [{ addr := 64, len := 4, ctrl := 1 }] }, on, by decide +kernel⟩⟩

theorem test_witness_HostRegisterRowsComplete :
    (∃ (dt : Nat) (ring value : Nat) (s₀ : State), let s := advance dt s₀; (ring < 8) ∧ (s.bar0 = true) ∧ ((s.ring ring).ethernet = false) ∧ ((s.ring ring).enable = true) ∧ (value ≠ (s.ring ring).sqTail) ∧ (value < 2 ^ (s.ring ring).sqLog2)) ∧
    (∃ (dt : Nat) (ring value : Nat) (s₀ : State), let s := advance dt s₀; (ring < 8) ∧ (s.bar0 = true) ∧ ((s.ring ring).ethernet = false) ∧ ((s.ring ring).enable = true) ∧ (value ≠ (s.ring ring).sqTail) ∧ (2 ^ (s.ring ring).sqLog2 ≤ value)) ∧
    (∃ (dt : Nat) (ring value : Nat) (s₀ : State), let s := advance dt s₀; (ring < 8) ∧ (s.bar0 = true) ∧ ((s.ring ring).ethernet = false) ∧ ((s.ring ring).enable = true) ∧ (value ≠ (s.ring ring).cqHead) ∧ (value < 2 ^ (s.ring ring).cqLog2)) ∧
    (∃ (dt : Nat) (value : Nat) (s₀ : State), let s := advance dt s₀; (s.bar0 = true) ∧ (s.hif.evqEnable = true) ∧ (value < s.hif.evqN)) ∧
    (∃ (dt : Nat) (ring : Nat) (s₀ : State), let s := advance dt s₀; (ring < 8) ∧ (s.bar0 = true) ∧ ((s.ring ring).enable = false) ∧ (4 ≤ (s.ring ring).sqLog2) ∧ ((s.ring ring).sqLog2 ≤ 12) ∧ (4 ≤ (s.ring ring).cqLog2) ∧ ((s.ring ring).cqLog2 ≤ 12) ∧ ((s.ring ring).halted = false) ∧ ((s.ring ring).ethernet = false ∨ (s.sec.prot.rings.getD ring {}).ethAllowed = true)) ∧
    (∃ (dt : Nat) (ring : Nat) (s₀ : State), let s := advance dt s₀; (ring < 8) ∧ (s.bar0 = true) ∧ ((s.ring ring).enable = false) ∧ ((s.ring ring).halted = true)) ∧
    (∃ (dt : Nat) (ring : Nat) (s₀ : State), let s := advance dt s₀; (ring < 8) ∧ (s.bar0 = true)) ∧
    (∃ (dt : Nat) (ring : Nat) (s₀ : State), let s := advance dt s₀; (ring < 8) ∧ (s.bar0 = true) ∧ ((s.ring ring).enable = false) ∧ (s.ringFlying ring = 0)) ∧
    (∃ (dt : Nat) (s₀ : State), let s := advance dt s₀; (s.bar0 = true) ∧ (s.hif.evqEnable = false) ∧ (6 ≤ s.hif.evqSize) ∧ (s.hif.evqSize ≤ 14)) ∧
    (∃ (dt : Nat) (s₀ : State), let s := advance dt s₀; (s.bar0 = true)) ∧
    (∃ (dt : Nat) (offset size value : Nat) (s₀ : State), let s := advance dt s₀; (offset < 0x4000) ∧ (size ≠ 4)) ∧
    (∃ (dt : Nat) (offset size value : Nat) (s₀ : State), let s := advance dt s₀; (s.thm.power ≠ .p3) ∧ (s.thm.power ≠ .p4) ∧ (offset = 0x10) ∧ (size = 4)) ∧
    (∃ (dt : Nat) (offset size value : Nat) (s₀ : State), let s := advance dt s₀; (s.thm.power ≠ .p3) ∧ (s.thm.power ≠ .p4) ∧ (offset = 0x18) ∧ (size = 4)) ∧
    (∃ (dt : Nat) (offset size value : Nat) (s₀ : State), let s := advance dt s₀; (s.thm.power ≠ .p3) ∧ (s.thm.power ≠ .p4) ∧ (offset % 4 = 0) ∧ (0x1000 ≤ offset) ∧ (offset < 0x1400) ∧ (s.hif.ready = true) ∧ (size = 4)) ∧
    (∃ (dt : Nat) (ring : Nat) (s₀ : State), let s := advance dt s₀; (ring < 8) ∧ (0 < (s.ring ring).irqPending) ∧ (0 < (s.ring ring).coalTime) ∧ (passed s (s.ring ring).irqSince (s.ring ring).coalTime 1000000 = true)) ∧
    (∃ (dt : Nat) (vector : Nat) (s₀ : State), let s := advance dt s₀; (8 ≤ vector) ∧ (vector < 64) ∧ (0 < (s.stat.vecs.getD vector {}).pending) ∧ (0 < (s.stat.vecs.getD vector {}).time) ∧ (passed s (s.stat.vecs.getD vector {}).since (s.stat.vecs.getD vector {}).time 1000000 = true)) :=
  ⟨⟨0, 0, 1, on, by decide +kernel⟩,
   ⟨0, 0, 16, on, by decide +kernel⟩,
   ⟨0, 0, 1, on, by decide +kernel⟩,
   ⟨0, 0, { on with hif := { on.hif with evqEnable := true, evqSize := 6 } }, by decide +kernel⟩,
   ⟨0, 0, { on with hif := { on.hif with rings := on.hif.rings.map fun r => { r with enable := false } } }, by decide +kernel⟩,
   ⟨0, 0, { on with hif := { on.hif with rings := on.hif.rings.map fun r => { r with enable := false, halted := true } } }, by decide +kernel⟩,
   ⟨0, 0, on, by decide +kernel⟩,
   ⟨0, 0, { on with hif := { on.hif with rings := on.hif.rings.map fun r => { r with enable := false } } }, by decide +kernel⟩,
   ⟨0, { on with hif := { on.hif with evqSize := 6 } }, by decide +kernel⟩,
   ⟨0, on, by decide +kernel⟩,
   ⟨0, 0, 0, 0, on, by decide +kernel⟩,
   ⟨0, 0x10, 4, 0, on, by decide +kernel⟩,
   ⟨0, 0x18, 4, 0, on, by decide +kernel⟩,
   ⟨0, 0x1000, 4, 0, on, by decide +kernel⟩,
   ⟨0, 0, { on with hif := { on.hif with rings := on.hif.rings.map fun r => { r with irqPending := 1, coalTime := 1, irqSince := -(2 ^ 60) } } }, by decide +kernel⟩,
   ⟨0, 8, { on with stat := { on.stat with vecs := List.replicate 64 { pending := 1, time := 1, since := -(2 ^ 60) } } }, by decide +kernel⟩⟩

theorem test_witness_WindowRowsComplete :
    (∃ (dt : Nat) (offset len : Nat) (uncorrectable : Bool) (s₀ : State), let s := advance dt s₀; (offset + len ≤ 0x4000000) ∧ (s.hif.winEnable = true) ∧ (s.hif.winBase + offset + len ≤ s.usable)) ∧
    (∃ (dt : Nat) (offset len : Nat) (uncorrectable : Bool) (s₀ : State), let s := advance dt s₀; (offset + len ≤ 0x4000000) ∧ (s.hif.winEnable = false)) ∧
    (∃ (dt : Nat) (offset : Nat) (bytes : List Byte) (s₀ : State), let s := advance dt s₀; (offset + bytes.length ≤ 0x4000000) ∧ (s.hif.winEnable = true) ∧ (s.hif.winWrite = true) ∧ (scratchBase ≤ s.hif.winBase + offset) ∧ (s.hif.winBase + offset + bytes.length ≤ scratchEnd)) ∧
    (∃ (dt : Nat) (offset : Nat) (bytes : List Byte) (s₀ : State), let s := advance dt s₀; (offset + bytes.length ≤ 0x4000000) ∧ (s.hif.winEnable = false ∨ s.hif.winWrite = false ∨ s.hif.winBase + offset < scratchBase ∨ scratchEnd < s.hif.winBase + offset + bytes.length)) :=
  ⟨⟨0, 0, 4, false, { on with hif := { on.hif with winEnable := true } }, by decide +kernel⟩,
   ⟨0, 0, 4, false, on, by decide +kernel⟩,
   ⟨0, 0, [1, 2], { on with hif := { on.hif with winEnable := true, winWrite := true, winBase := 0x20000000 } }, by decide +kernel⟩,
   ⟨0, 0, [1, 2], on, by decide +kernel⟩⟩

theorem test_witness_SlotRowsComplete :
    (∃ (dt : Nat) (ring : Nat) (slot pblk : List Byte) (descs : List Desc) (data : List Byte) (pcieError : Bool) (s₀ : State), let s := advance dt s₀; let t := (s.onRing ring fun r => { r with sqHead := (r.sqHead + 1) % 2 ^ r.sqLog2 }).onRing ring fun r => { r with expSeq := (r.expSeq + 1) % 2 ^ 32 }; (ring < 8) ∧ (slot.length = 128) ∧ (s.mayFetch ring = true) ∧ ((s.ring ring).ethernet = false) ∧ ((s.ring ring).sqHead ≠ (s.ring ring).sqTail) ∧ (pcieError = false) ∧ ((viewSlot slot).seq = ((s.onRing ring fun r => { r with sqHead := (r.sqHead + 1) % 2 ^ r.sqLog2 }).ring ring).expSeq ∧ (viewSlot slot).seq = (s.ring ring).expSeq) ∧ (slotChecks slot ring (padTo (viewSlot slot).pblkLen pblk) false t = none)) ∧
    (∃ (dt : Nat) (ring : Nat) (slot pblk : List Byte) (descs : List Desc) (data : List Byte) (pcieError : Bool) (s₀ : State), let s := advance dt s₀; (ring < 8) ∧ (slot.length = 128) ∧ (s.mayFetch ring = true) ∧ ((s.ring ring).ethernet = false) ∧ ((s.ring ring).sqHead ≠ (s.ring ring).sqTail) ∧ (pcieError = true)) ∧
    (∃ (dt : Nat) (s₀ : State) (ring role mark : Nat) (held : Bool) (rest : List JournalItem), let s := advance dt s₀; (s.nor.queue = .counter ring role mark held :: rest)) ∧
    (∃ (dt : Nat) (s₀ : State) (p : List Byte) (cmd : CmdId) (rest : List JournalItem), let s := advance dt s₀; (s.nor.queue = .profile p cmd :: rest)) ∧
    (∃ (dt : Nat) (port : Nat) (from_ : EthFrom) (vlan : Option Nat) (address udpPort : Nat) (bytes : List Byte) (s₀ : State), let s := advance dt s₀; (port < 2) ∧ (ethAccepts port vlan s = true) ∧ (address = (s.hif.eth.getD port {}).ip) ∧ (udpPort = (s.hif.eth.getD port {}).udp)) ∧
    (∃ (dt : Nat) (port : Nat) (from_ : EthFrom) (vlan : Option Nat) (address udpPort : Nat) (bytes : List Byte) (s₀ : State), let s := advance dt s₀; (port < 2) ∧ (ethAccepts port vlan s = true) ∧ (address ≠ (s.hif.eth.getD port {}).ip ∨ udpPort ≠ (s.hif.eth.getD port {}).udp)) ∧
    (∃ (dt : Nat) (port : Nat) (from_ : EthFrom) (vlan : Option Nat) (address udpPort : Nat) (bytes : List Byte) (s₀ : State), let s := advance dt s₀; (port < 2) ∧ (ethAccepts port vlan s = false)) ∧
    (∃ (dt : Nat) (port : Nat) (vlan : Option Nat) (mac ip target : Nat) (s₀ : State), let s := advance dt s₀; (port < 2) ∧ (ethAccepts port vlan s = true) ∧ (target = (s.hif.eth.getD port {}).ip)) ∧
    (∃ (dt : Nat) (port : Nat) (vlan : Option Nat) (ip target protocol type : Nat) (bytes : List Byte) (s₀ : State), let s := advance dt s₀; (port < 2) ∧ (ethAccepts port vlan s = true) ∧ (protocol = 1) ∧ (type = 8) ∧ (target = (s.hif.eth.getD port {}).ip)) ∧
    (∃ (dt : Nat) (port : Nat) (linkUp : Bool) (s₀ : State) (id : CmdId) (e : InFlight), let s := advance dt s₀;
    let t := (s.hif.eth.getD port {}).waiting.foldl (fun s w => s.emit (.datagram port w.1 w.2))
      (reportGroups port (s.onHif fun h => { h with eth := upd port (fun p => { p with linkUp := true, retrain := none, waiting := [] }) h.eth }))
    (port < 2) ∧ (linkUp = true) ∧ ((s.hif.eth.getD port {}).enable = true) ∧ ((s.hif.eth.getD port {}).retrain = some id) ∧ (t.flying id = some e)) ∧
    (∃ (dt : Nat) (s₀ : State) (bytes : List Byte) (id : CmdId) (rest : List (Nat × List Byte × CmdId)), let s := advance dt s₀; (s.sec.norWrites = (0, bytes, id) :: rest)) ∧
    (∃ (dt : Nat) (s₀ : State) (bytes : List Byte) (id : CmdId) (rest : List (Nat × List Byte × CmdId)), let s := advance dt s₀; (s.sec.norWrites = (1, bytes, id) :: rest)) ∧
    (∃ (dt : Nat) (s₀ : State) (bytes : List Byte) (id : CmdId) (rest : List (Nat × List Byte × CmdId)), let s := advance dt s₀; (s.sec.norWrites = (2, bytes, id) :: rest)) :=
  ⟨⟨0, 0, pb 128 [(0, 1, 2), (2, 2, 0x0105), (4, 2, 7)], [], [], [], false, { on with hif := { on.hif with rings := on.hif.rings.map fun r => { r with sqTail := 1, agreed := 2 } } }, by decide +kernel⟩,
   ⟨0, 0, pb 128 [(0, 1, 2), (2, 2, 0x0105), (4, 2, 7)], [], [], [], true, { on with hif := { on.hif with rings := on.hif.rings.map fun r => { r with sqTail := 1, agreed := 2 } } }, by decide +kernel⟩,
   ⟨0, { on with nor := { on.nor with queue := [.counter 0 0 5 false] } }, 0, 0, 5, false, default, by decide +kernel⟩,
   ⟨0, { on with nor := { on.nor with queue := [.profile [1] (0, 1)] } }, [1], (0, 1), default, by decide +kernel⟩,
   ⟨0, 0, default, default, (on.hif.eth.getD 0 {}).ip, (on.hif.eth.getD 0 {}).udp, [], { on with hif := { on.hif with eth := on.hif.eth.map fun e => { e with enable := true, linkUp := true } } }, by decide +kernel⟩,
   ⟨0, 0, default, default, (on.hif.eth.getD 0 {}).ip, ((on.hif.eth.getD 0 {}).udp + 1), [], { on with hif := { on.hif with eth := on.hif.eth.map fun e => { e with enable := true, linkUp := true } } }, by decide +kernel⟩,
   ⟨0, 0, default, default, 0, 0, [], on, by decide +kernel⟩,
   ⟨0, 0, default, 0, 0, 0, { on with hif := { on.hif with eth := on.hif.eth.map fun e => { e with enable := true, linkUp := true } } }, by decide +kernel⟩,
   ⟨0, 0, default, 0, 0, 1, 8, [], { on with hif := { on.hif with eth := on.hif.eth.map fun e => { e with enable := true, linkUp := true } } }, by decide +kernel⟩,
   ⟨0, 0, true, { on with hif := { on.hif with inflight := [{ cmd := { ring := 0, tag := 2 }, opcode := 0x0B08 }], eth := on.hif.eth.map fun e => { e with enable := true, retrain := some (0, 2) } } }, (0, 2), { cmd := { ring := 0, tag := 2 }, opcode := 0x0B08 }, by decide +kernel⟩,
   ⟨0, { on with sec := { on.sec with norWrites := [(0, [], (0, 1))] } }, default, (0, 1), default, by decide +kernel⟩,
   ⟨0, { on with sec := { on.sec with norWrites := [(1, [], (0, 1))] } }, default, (0, 1), default, by decide +kernel⟩,
   ⟨0, { on with sec := { on.sec with norWrites := [(2, [], (0, 1))] } }, default, (0, 1), default, by decide +kernel⟩⟩

theorem test_witness_TimeRowsComplete :
    (∃ (dt : Nat) (port : Nat) (via : PtpVia) (domainNumber : Nat) (msg : PtpMsg) (s₀ : State), let s := advance dt s₀; (port < 2) ∧ (s.ptpOn port = true) ∧ (s.ptpArrives port via msg = true) ∧ ((s.ptp port).domainNumber = domainNumber)) ∧
    (∃ (dt : Nat) (port : Nat) (s₀ : State) (h : PathHold), let s := advance dt s₀; (port < 2) ∧ ((s.ptp port).hold = some h) ∧ (passed s h.since 8 1 = true)) ∧
    (∃ (dt : Nat) (port : Nat) (s₀ : State) (at_ : Int), let s := advance dt s₀; (port < 2) ∧ ((s.ptp port).lastAnnounce = some at_) ∧ ((s.ptp port).role ≠ 0) ∧ ((s.ptp port).isMaster = false) ∧ (passedLog s at_ (s.ptp port).announceTimeout (s.ptp port).logAnnounce = true)) ∧
    (∃ (dt : Nat) (domain : Nat) (s₀ : State) (at_ : Int), let s := advance dt s₀; (domain < 2) ∧ ((s.dom domain).holdoverAt = some at_) ∧ ((s.dom domain).st = .holdover) ∧ ((s.dom domain).longPosted = false) ∧ (passed s at_ (s.dom domain).warnS 1 = true)) ∧
    (∃ (dt : Nat) (port : Nat) (announce : Bool) (s₀ : State), let s := advance dt s₀; (port < 2) ∧ (s.ptpOn port = true) ∧ ((s.ptp port).isMaster = true) ∧ (announce = true) ∧ (intervalDone s (s.ptp port).annAt (s.ptp port).logAnnounce = true)) ∧
    (∃ (dt : Nat) (port : Nat) (announce : Bool) (s₀ : State), let s := advance dt s₀; (port < 2) ∧ (s.ptpOn port = true) ∧ ((s.ptp port).isMaster = true) ∧ (announce = false) ∧ (intervalDone s (s.ptp port).syncAt (s.ptp port).logSync = true)) ∧
    (∃ (dt : Nat) (port : Nat) (s₀ : State), let s := advance dt s₀; let time := s.servoClock ((s.ptp port).role - 1) - (s.ptp port).egress; let kind := if (s.ptp port).p2p then 3 else 2; (port < 2) ∧ (s.ptpOn port = true) ∧ ((s.ptp port).p2p = true ∨ ((s.ptp port).isMaster = false ∧ (s.ptp port).master.isSome = true)) ∧ (intervalDone s (s.ptp port).reqAt (s.ptp port).logDelay = true)) ∧
    (∃ (dt : Nat) (s₀ : State), let s := advance dt s₀;
    let lim : Int := (s.tim.tb3Step : Int) * 2 ^ 40 / 1000000000
    let t := (noteAdj s).onTim fun x => { x with lastRateStep := s.tb1 }
    (s.tim.pairServo = false) ∧ (passed s s.tim.lastRateStep 1 1000 = true)) ∧
    (∃ (dt : Nat) (domain : Nat) (s₀ : State), let s := advance dt s₀; (domain < 2) ∧ ((s.dom domain).st = .locked) ∧ ((s.dom domain).lastReload ≠ some (s.tb (domTb domain)).sec)) ∧
    (∃ (dt : Nat) (unit : Nat) (s₀ : State), let s := advance dt s₀; (unit < 16) ∧ (s.posRuns = true) ∧ ((s.tim.triggers.getD unit {}).mode = 1) ∧ ((s.tim.triggers.getD unit {}).t ≤ (s.tb (s.tim.triggers.getD unit {}).tb).t48)) ∧
    (∃ (dt : Nat) (unit : Nat) (s₀ : State), let s := advance dt s₀; (unit < 16) ∧ (s.posRuns = true) ∧ ((s.tim.triggers.getD unit {}).mode ≠ 0) ∧ ((s.tim.triggers.getD unit {}).running = true) ∧ ((s.tim.triggers.getD unit {}).t ≤ (s.tb (s.tim.triggers.getD unit {}).tb).t48)) ∧
    (∃ (dt : Nat) (gpio : Nat) (rising : Bool) (s₀ : State), let s := advance dt s₀; (gpio < 16) ∧ (bit s.board.gpioIn gpio ≠ rising) ∧ (bit s.board.gpioDir gpio = false)) :=
  ⟨⟨0, 0, .ethernet, 0, default, { on with hif := { on.hif with eth := on.hif.eth.map fun e => { e with enable := true, linkUp := true } }, tim := { on.tim with ports := on.tim.ports.map fun p => { p with role := 1, domainNumber := 0, l2 := true } } }, by decide +kernel⟩,
   ⟨0, 0, { on with hif := { on.hif with eth := on.hif.eth.map fun e => { e with enable := true, linkUp := true } }, tim := { on.tim with ports := on.tim.ports.map fun p => { p with role := 1, hold := some { since := -(2 ^ 60) } } } }, { since := -(2 ^ 60) }, by decide +kernel⟩,
   ⟨0, 0, { on with hif := { on.hif with eth := on.hif.eth.map fun e => { e with enable := true, linkUp := true } }, tim := { on.tim with ports := on.tim.ports.map fun p => { p with role := 1, lastAnnounce := some (-(2 ^ 60)) } } }, (-(2 ^ 60)), by decide +kernel⟩,
   ⟨0, 0, { on with tim := { on.tim with domains := on.tim.domains.map fun d => { d with holdoverAt := some (-(2 ^ 60)), st := .holdover } } }, (-(2 ^ 60)), by decide +kernel⟩,
   ⟨0, 0, true, { on with hif := { on.hif with eth := on.hif.eth.map fun e => { e with enable := true, linkUp := true } }, tim := { on.tim with ports := on.tim.ports.map fun p => { p with role := 1, isMaster := true } } }, by decide +kernel⟩,
   ⟨0, 0, false, { on with hif := { on.hif with eth := on.hif.eth.map fun e => { e with enable := true, linkUp := true } }, tim := { on.tim with ports := on.tim.ports.map fun p => { p with role := 1, isMaster := true } } }, by decide +kernel⟩,
   ⟨0, 0, { on with hif := { on.hif with eth := on.hif.eth.map fun e => { e with enable := true, linkUp := true } }, tim := { on.tim with ports := on.tim.ports.map fun p => { p with role := 1, p2p := true } } }, by decide +kernel⟩,
   ⟨0, { on with tim := { on.tim with lastRateStep := -(2 ^ 60) } }, by decide +kernel⟩,
   ⟨0, 0, { on with tim := { on.tim with domains := on.tim.domains.map fun d => { d with st := .locked } } }, by decide +kernel⟩,
   ⟨0, 0, { on with tim := { on.tim with triggers := [{ mode := 1 }] } }, by decide +kernel⟩,
   ⟨0, 0, { on with tim := { on.tim with triggers := [{ mode := 2, running := true }] } }, by decide +kernel⟩,
   ⟨0, 0, true, on, by decide +kernel⟩⟩

theorem test_witness_PositionRowsComplete :
    (∃ (dt : Nat) (ch sinRaw cosRaw : Nat) (s₀ : State) (t0 : Int), let s := advance dt s₀; (ch < 4) ∧ ((s.chan ch).conv = some t0) ∧ (s.posRuns = true) ∧ ((s.chan ch).mode = 2) ∧ ((s.chan ch).retired = false) ∧ (t0 + nsT ((s.chan ch).convNs + 32 * (s.chan ch).sckDiv : Nat) ≤ s.tb3)) ∧
    (∃ (dt : Nat) (ch : Nat) (a b z : Bool) (held : Nat) (s₀ : State), let s := advance dt s₀; (ch < 4) ∧ (s.posRuns = true) ∧ ((s.chan ch).filter < held)) ∧
    (∃ (dt : Nat) (ch : Nat) (a b z : Bool) (held : Nat) (s₀ : State), let s := advance dt s₀; (ch < 4) ∧ (held ≤ (s.chan ch).filter)) ∧
    (∃ (dt : Nat) (unit : Nat) (s₀ : State) (n : Nat) (k : Nat) (p : Pair) (ps : List Pair), let s := advance dt s₀; (unit < 16) ∧ (s.cmpChan (s.pos.cmp.getD unit {}) = some n) ∧ ((s.chan n).scale = some k) ∧ ((s.chan n).pairs = p :: ps) ∧ ((s.pos.cmp.getD unit {}).armed = true) ∧ ((s.pos.cmp.getD unit {}).behind = false) ∧ (4 ≤ (s.pos.cmp.getD unit {}).sgn * (p.pos.fdiv (2 ^ 32) - (s.pos.cmp.getD unit {}).value))) ∧
    (∃ (dt : Nat) (ch : Nat) (s₀ : State), let s := advance dt s₀; let moves := (s.chan ch).window121 s.tb1; (ch < 4) ∧ (s.posRuns = true) ∧ ((s.chan ch).mode ≠ 0) ∧ ((s.chan ch).retired = false) ∧ ((s.chan ch).stalled = false) ∧ (moves.any (fun m => passed s m.2 (s.chan ch).stallMs 1000) = true) ∧ ((s.chan ch).still moves = true)) ∧
    (∃ (dt : Nat) (s₀ : State) (b : Backup), let s := advance dt s₀; (s.pos.backup = some b) ∧ (s.posRuns = true) ∧ (s.fire.run = none) ∧ (passed s b.since 1 1 = true)) ∧
    (∃ (dt : Nat) (ch : Nat) (s₀ : State) (k : Calib), let s := advance dt s₀; (ch < 4) ∧ ((s.chan ch).calib = some k) ∧ (k.deadline ≤ s.tb1)) :=
  ⟨⟨0, 0, 0, 0, { on with pos := { on.pos with ch := upd 0 (fun c => { c with conv := some (-(2 ^ 60)), mode := 2 }) on.pos.ch } }, (-(2 ^ 60)), by decide +kernel⟩,
   ⟨0, 0, false, false, false, 1000, on, by decide +kernel⟩,
   ⟨0, 0, false, false, false, 0, on, by decide +kernel⟩,
   ⟨0, 0, { on with pos := { on.pos with ch := upd 0 (fun c => { c with scale := some 4294967296, pairs := [{ pos := 2 ^ 40 }] }) on.pos.ch, web := some 0, cmp := [{ armed := true }] } }, 0, 4294967296, { pos := 2 ^ 40 }, [], by decide +kernel⟩,
   ⟨0, 0, { on with pos := { on.pos with ch := upd 0 (fun c => { c with mode := 1, moves := [(0, -(2 ^ 60))] }) on.pos.ch } }, by decide +kernel⟩,
   ⟨0, { on with pos := { on.pos with backup := some { since := -(2 ^ 60) } } }, { since := -(2 ^ 60) }, by decide +kernel⟩,
   ⟨0, 0, { on with pos := { on.pos with ch := upd 0 (fun c => { c with calib := some {} }) on.pos.ch } }, {}, by decide +kernel⟩⟩

theorem test_witness_FiringRowsComplete :
    (∃ (dt : Nat) (s₀ : State),   let s := advanceProgress (advance dt s₀); True) ∧
    (∃ (dt : Nat) (s₀ : State) (r : Run),   let s := advanceProgress (advance dt s₀); (s.fire.run = some r) ∧ (s.tickDue r = true) ∧ (s.copies = false)) ∧
    (∃ (dt : Nat) (s₀ : State) (r : Run),   let s := advanceProgress (advance dt s₀); (s.fire.run = some r) ∧ (r.wants (s.startOf r s.cps.nextFrame).line = true) ∧ (r.dueOver = false) ∧ (r.stop = none) ∧ (s.pair.st ≠ .standby) ∧ (s.pair.st ≠ .joining) ∧ (s.readyNow r (s.startOf r s.cps.nextFrame) = true)) ∧
    (∃ (dt : Nat) (bar head : Nat) (s₀ : State) (r : Run) (h : HeadRun) (d : DueLine), let s := advance dt s₀; (bar < 10) ∧ (head < 32) ∧ (s.fire.run = some r) ∧ (r.headRun bar head = some h) ∧ (h.due.find? (fun d => d.open (s.course bar).up) = some d) ∧ (s.mayPrint = true) ∧ (s.pastDeadline r bar head d.line = true)) ∧
    (∃ (dt : Nat) (bar head row : Nat) (s₀ : State) (r : Run) (h : HeadRun) (w : RowRun) (x : Nat × Bool × Bool),   let s := pump bar (advanceProgress (advance dt s₀)); (bar < 10) ∧ (head < 32) ∧ (row < 8) ∧ (s.fire.run = some r) ∧ (r.headRun bar head = some h) ∧ (h.rows.find? (·.row == row) = some w) ∧ (nextStamp (s.bar bar) h w = some x) ∧ (s.mayPrint = true) ∧ (s.isV1 bar = false) ∧ ((s.course bar).prio.length < prioCap)) ∧
    (∃ (dt : Nat) (s₀ : State) (r : Run),   let s := advanceProgress (advance dt s₀); (s.fire.run = some r) ∧ (s.runDone r = true) ∧ (s.copies = false)) ∧
    (∃ (dt : Nat) (s₀ : State), let s := advance dt s₀; (s.posRuns = true) ∧ (s.fire.inhibit = false)) ∧
    (∃ (dt : Nat) (s₀ : State), let s := advance dt s₀; (s.posRuns = true) ∧ (s.fire.inhibit = true)) ∧
    (∃ (dt : Nat) (bar clocks : Nat) (s₀ : State) (r : Run) (h : HeadRun) (d : DueLine), let s := advance dt s₀; (bar < 10) ∧ (s.fire.run = some r) ∧ (s.nextRender bar = some (h, d)) ∧ (s.mayPrint = true) ∧ (bit s.board.pllLost 1 = false) ∧ (s.swapBusy bar = false) ∧ (s.isRetired (unitBre (s.bar bar).engine) = false) ∧ (s.isDoomed (unitBre (s.bar bar).engine) = false) ∧ ((s.course bar).written = false) ∧ (s.pastDeadline r bar h.head d.line = false) ∧ (d.early = false) ∧ ((s.lineEnv r bar d.line d.tick).ready h.head = true)) ∧
    (∃ (dt : Nat) (bar clocks : Nat) (s₀ : State) (r : Run) (h : HeadRun) (d : DueLine), let s := advance dt s₀; (bar < 10) ∧ (s.fire.run = some r) ∧ (s.nextRender bar = some (h, d)) ∧ (s.mayPrint = true) ∧ (bit s.board.pllLost 1 = false) ∧ (s.swapBusy bar = false) ∧ (s.isRetired (unitBre (s.bar bar).engine) = false) ∧ (s.isDoomed (unitBre (s.bar bar).engine) = false) ∧ ((s.course bar).written = false) ∧ (s.pastDeadline r bar h.head d.line = true)) ∧
    (∃ (dt : Nat) (bar clocks : Nat) (s₀ : State) (r : Run) (h : HeadRun) (d : DueLine), let s := advance dt s₀; (bar < 10) ∧ (s.fire.run = some r) ∧ (s.nextRender bar = some (h, d)) ∧ (s.mayPrint = true) ∧ (bit s.board.pllLost 1 = false) ∧ (s.swapBusy bar = false) ∧ (s.isRetired (unitBre (s.bar bar).engine) = false) ∧ (s.isDoomed (unitBre (s.bar bar).engine) = false) ∧ ((s.course bar).written = true)) ∧
    (∃ (dt : Nat) (s₀ : State) (r : Run) (f : Frame), let s := advance dt s₀; let t := reserveFronts r s; (s.fire.run = some r) ∧ (s.thm.power = .p0) ∧ (bit s.board.pllLost 1 = false) ∧ (s.pipes ≠ 0) ∧ (t.frontTurn r = none) ∧ (t.clFrame t.cps.nextCl = some f) ∧ (t.asked r t.cps.nextCl = true) ∧ (r.composes t.cps.nextCl = true) ∧ (t.pair.waits.any (fun w => w.frame == some f.number) = false) ∧ (t.cps.nextCl < t.ringOldest r + r.ringLines)) ∧
    (∃ (dt : Nat) (s₀ : State) (r : Run) (b : Nat) (f : Front), let s := advance dt s₀; let t := reserveFronts r s; (s.fire.run = some r) ∧ (s.thm.power = .p0) ∧ (bit s.board.pllLost 1 = false) ∧ (s.pipes ≠ 0) ∧ (t.frontTurn r = some (b, f))) :=
  ⟨⟨0, on, by decide +kernel⟩,
   ⟨0, { on with fire := { on.fire with run := some { progress := 2 ^ 70 } } }, { progress := 2 ^ 70 }, by decide +kernel⟩,
   ⟨0, { on with fire := { on.fire with run := some { progress := 2 ^ 70 } } }, { progress := 2 ^ 70 }, by decide +kernel⟩,
   ⟨0, 0, 0, { on with fire := { on.fire with run := some { heads := [{ due := [{}] }], progress := 2 ^ 70 } }, thm := { on.thm with power := .p0 } }, { heads := [{ due := [{}] }], progress := 2 ^ 70 }, { due := [{}] }, {}, by decide +kernel⟩,
   ⟨0, 0, 0, 0, { on with fire := { on.fire with run := some { heads := [{ due := [{}], rows := [{}] }], progress := 2 ^ 70 } }, thm := { on.thm with power := .p0 }, bars := { on.bars with bars := upd 0 (fun b => { b with heads := upd 0 (fun h => { h with ctx := some 3, rows := [{ nozzles := 4 }] }) b.heads, committed := true, segs := [{ valid := true, nozzles := 4 }] }) on.bars.bars } }, { heads := [{ due := [{}], rows := [{}] }], progress := 2 ^ 70 }, { due := [{}], rows := [{}] }, {}, (0, false, false), by decide +kernel⟩,
   ⟨0, { on with fire := { on.fire with run := some { dueOver := true } } }, { dueOver := true }, by decide +kernel⟩,
   ⟨0, { on with fire := { on.fire with inhibit := false } }, by decide +kernel⟩,
   ⟨0, { on with fire := { on.fire with inhibit := true } }, by decide +kernel⟩,
   ⟨0, 0, 5, { on with fire := { on.fire with run := some { heads := [{ due := [{}] }], starts := [{ capo := 100000 }] } }, cps := { on.cps with ring := [{ cl := 0 }] }, thm := { on.thm with power := .p0 } }, { heads := [{ due := [{}] }], starts := [{ capo := 100000 }] }, { due := [{}] }, {}, by decide +kernel⟩,
   ⟨0, 0, 0, { on with fire := { on.fire with run := some { heads := [{ due := [{}] }], progress := 2 ^ 70 } }, thm := { on.thm with power := .p0 } }, { heads := [{ due := [{}] }], progress := 2 ^ 70 }, { due := [{}] }, {}, by decide +kernel⟩,
   ⟨0, 0, 5, { on with fire := { on.fire with run := some { heads := [{ due := [{}] }], progress := 2 ^ 70 } }, links := { on.links with courses := upd 0 (fun c => { c with writing := [{ render := true }] }) on.links.courses }, thm := { on.thm with power := .p0 } }, { heads := [{ due := [{}] }], progress := 2 ^ 70 }, { due := [{}] }, {}, by decide +kernel⟩,
   ⟨0, { on with fire := { on.fire with run := some { ringLines := 16 } }, cps := { on.cps with frames := [{ lines := 16 }] }, thm := { on.thm with power := .p0 } }, { ringLines := 16 }, { lines := 16 }, by decide +kernel⟩,
   ⟨0, { on with fire := { on.fire with run := some { ringLines := 16 } }, bars := { on.bars with bars := upd 0 (fun b => { b with fronts := [{}] }) on.bars.bars }, thm := { on.thm with power := .p0 } }, { ringLines := 16 }, 0, {}, by decide +kernel⟩⟩

theorem test_witness_StoreRowsComplete :
    (∃ (dt : Nat) (pipe job obj block : Nat) (poisoned glitch : Bool) (s₀ : State) (o : List Byte), let s := advance dt s₀; (pipe < 5) ∧ (s.image job obj = some o) ∧ (block < (ImageHeader.of o).blocks) ∧ (s.isRetired (0x0500 + pipe) = false) ∧ ((s.job job).any (fun j => j.bad.contains { obj, block }) = false) ∧ (poisoned = false) ∧ (glitch = false) ∧ ((decodeBlock (ImageHeader.of o) block (objBlock o block)).isSome = true)) ∧
    (∃ (dt : Nat) (pipe job obj block : Nat) (poisoned glitch : Bool) (s₀ : State) (o : List Byte), let s := advance dt s₀; (pipe < 5) ∧ (s.image job obj = some o) ∧ (block < (ImageHeader.of o).blocks) ∧ (s.isRetired (0x0500 + pipe) = false) ∧ ((s.job job).any (fun j => j.bad.contains { obj, block }) = false) ∧ (poisoned = true)) ∧
    (∃ (dt : Nat) (line : Nat) (owner : Owner) (ecc : EccResult) (s₀ : State), let s := advance dt s₀; (line < s.store.lines)) ∧
    (∃ (dt : Nat) (owner : Owner) (ecc : EccResult) (s₀ : State), let s := advance dt s₀; let t := memoryRead s.store.scrub owner ecc s; (s.hif.ready = true) ∧ (s.thm.power ≠ .p3) ∧ (s.thm.power ≠ .p4) ∧ (s.thm.level < 2) ∧ (s.store.retired.contains (s.store.scrub / 32768) = false)) ∧
    (∃ (dt : Nat) (unit : Nat) (s₀ : State) (crit : Nat), let s := advance dt s₀; (unitExists unit = true) ∧ (s.stat.doomed.find? (·.1 == unit) = some (unit, crit)) ∧ (cannotRetire unit s = false) ∧ (atBoundary unit s = true) ∧ (s.toldBySwap unit = false)) ∧
    (∃ (dt : Nat) (unit : Nat) (s₀ : State) (crit : Nat), let s := advance dt s₀; (unitExists unit = true) ∧ (s.stat.doomed.find? (·.1 == unit) = some (unit, crit)) ∧ (cannotRetire unit s = false) ∧ (atBoundary unit s = true) ∧ (s.toldBySwap unit = true)) ∧
    (∃ (dt : Nat) (unit : Nat) (s₀ : State) (crit : Nat), let s := advance dt s₀; (unitExists unit = true) ∧ (s.stat.doomed.find? (·.1 == unit) = some (unit, crit)) ∧ (cannotRetire unit s = true)) ∧
    (∃ (dt : Nat) (page : Nat) (s₀ : State) (m : Migration), let s := advance dt s₀;
    let t := s.onStore fun t => { t with
      migrations := t.migrations.filter fun x => !(x.page == page), retired := t.retired ++ [page]
      remap := if m.owner.remapped then t.remapPage page (288 + s.freeVal Config.sitePage % max 1 t.poolPages) else t.remap }
    let t := if m.owner.remapped then t.useFree else t
    let w := post evUnitRetired (unitMem (lineChannel m.line)) (unitMem (lineChannel m.line)) m.criterion
      (post evPageRetired unitCtl page 0 (notePage (t.onNor fun n => { n with queue := n.queue ++ [.page page] })))
    (s.store.migrations.find? (·.page == page) = some m)) ∧
    (∃ (dt : Nat) (ring tag : Nat) (glitches : Nat) (mismatch : Option Nat) (lost : List Nat) (s₀ : State) (e : InFlight) (out : List Desc × List Byte), let s := advance dt s₀; (s.flying (ring, tag) = some e) ∧ (e.started = true) ∧ (e.out = some out)) ∧
    (∃ (dt : Nat) (ring tag : Nat) (glitches : Nat) (mismatch : Option Nat) (lost : List Nat) (s₀ : State) (e : InFlight), let s := advance dt s₀; (s.flying (ring, tag) = some e) ∧ (e.started = true) ∧ (e.out = none) ∧ (s.thm.level < 2) ∧ (e.opcode = 0x0308)) ∧
    (∃ (dt : Nat) (ring tag : Nat) (glitches : Nat) (mismatch : Option Nat) (lost : List Nat) (s₀ : State) (e : InFlight) (j : Job) (l : LoadKind), let s := advance dt s₀; (s.flying (ring, tag) = some e) ∧ (e.started = true) ∧ (e.out = none) ∧ (s.thm.level < 2) ∧ (e.opcode ≠ 0x0308) ∧ (s.store.jobs.find? (fun j => j.load.any (·.cmd == (ring, tag))) = some j) ∧ (j.load = some l) ∧ (l.encode = false)) ∧
    (∃ (dt : Nat) (ring tag : Nat) (glitches : Nat) (mismatch : Option Nat) (lost : List Nat) (s₀ : State) (e : InFlight) (j : Job) (l : LoadKind), let s := advance dt s₀; (s.flying (ring, tag) = some e) ∧ (e.started = true) ∧ (e.out = none) ∧ (s.thm.level < 2) ∧ (e.opcode ≠ 0x0308) ∧ (s.store.jobs.find? (fun j => j.load.any (·.cmd == (ring, tag))) = some j) ∧ (j.load = some l) ∧ (l.encode = true)) ∧
    (∃ (dt : Nat) (job : Nat) (s₀ : State) (j : Job), let s := advance dt s₀; (s.job job = some j) ∧ (j.st = .deleting)) ∧
    (∃ (dt : Nat) (s₀ : State) (id : CmdId) (r : List CmdId) (t : Int), let s := advance dt s₀; (s.clr.saveHeld = id :: r) ∧ (s.clr.savedAt = some t) ∧ (passed s t 60 1 = true)) ∧
    (∃ (dt : Nat) (pair : Nat) (s₀ : State), let s := advance dt s₀; (pair < 2) ∧ (s.held = false) ∧ (s.thm.power ≠ .p3) ∧ (s.thm.power ≠ .p4)) ∧
    (∃ (dt : Nat) (domain : Nat) (s₀ : State), let s := advance dt s₀; (pllDomains.contains domain = true) ∧ (bit s.board.pllLost domain = false) ∧ (domain ≠ 9)) ∧
    (∃ (dt : Nat) (domain : Nat) (s₀ : State), let s := advance dt s₀; (pllDomains.contains domain = true) ∧ (bit s.board.pllLost domain = true) ∧ (domain ≠ 9)) :=
  ⟨⟨0, 0, 5, 1, 0, false, false, { on with store := { on.store with jobs := [{ id := 5, st := .ready, bytes := (pb 96 [(6, 2, 1), (64, 4, 1), (68, 1, 1), (72, 8, 96), (80, 8, 80)] ++ (pb 80 [(6, 1, 1), (7, 1, 8), (10, 1, 1), (12, 4, 1), (16, 4, 1), (20, 4, 1), (24, 4, 1), (70, 2, 1), (72, 4, crc32c [0])])) }] } }, (pb 80 [(6, 1, 1), (7, 1, 8), (10, 1, 1), (12, 4, 1), (16, 4, 1), (20, 4, 1), (24, 4, 1), (70, 2, 1), (72, 4, crc32c [0])]), by decide +kernel⟩,
   ⟨0, 0, 5, 1, 0, true, false, { on with store := { on.store with jobs := [{ id := 5, st := .ready, bytes := (pb 96 [(6, 2, 1), (64, 4, 1), (68, 1, 1), (72, 8, 96), (80, 8, 80)] ++ (pb 80 [(6, 1, 1), (7, 1, 8), (10, 1, 1), (12, 4, 1), (16, 4, 1), (20, 4, 1), (24, 4, 1), (70, 2, 1), (72, 4, crc32c [0])])) }] } }, (pb 80 [(6, 1, 1), (7, 1, 8), (10, 1, 1), (12, 4, 1), (16, 4, 1), (20, 4, 1), (24, 4, 1), (70, 2, 1), (72, 4, crc32c [0])]), by decide +kernel⟩,
   ⟨0, 0, default, default, on, by decide +kernel⟩,
   ⟨0, default, default, on, by decide +kernel⟩,
   ⟨0, 0x0F00, { on with stat := { on.stat with doomed := [(0x0F00, 5)] } }, 5, by decide +kernel⟩,
   ⟨0, 0x0800, { on with stat := { on.stat with doomed := [(0x0800, 5)] }, bars := { on.bars with bars := upd 0 (fun b => { b with enabled := true, engine := 0, cfg := some {} }) on.bars.bars }, fire := { on.fire with run := some { bars := 1 } } }, 5, by decide +kernel⟩,
   ⟨0, 0x0E00, { on with stat := { on.stat with doomed := [(0x0E00, 5)] }, pos := { on.pos with web := some 0 } }, 5, by decide +kernel⟩,
   ⟨0, 0, { on with store := { on.store with migrations := [{}] } }, {}, by decide +kernel⟩,
   ⟨0, 0, 2, 0, default, [], { on with hif := { on.hif with inflight := [{ cmd := { ring := 0, tag := 2 }, opcode := 0x0A05, started := true, out := some ([], [1]) }] } }, { cmd := { ring := 0, tag := 2 }, opcode := 0x0A05, started := true, out := some ([], [1]) }, ([], [1]), by decide +kernel⟩,
   ⟨0, 0, 2, 0, default, [], { on with hif := { on.hif with inflight := [{ cmd := { ring := 0, tag := 2 }, opcode := 0x0308, started := true }] } }, { cmd := { ring := 0, tag := 2 }, opcode := 0x0308, started := true }, by decide +kernel⟩,
   ⟨0, 0, 2, 0, default, [], { on with hif := { on.hif with inflight := [{ cmd := { ring := 0, tag := 2 }, opcode := 0x0301, started := true }] }, store := { on.store with jobs := [{ id := 5, load := some { cmd := (0, 2), encode := false } }] } }, { cmd := { ring := 0, tag := 2 }, opcode := 0x0301, started := true }, { id := 5, load := some { cmd := (0, 2), encode := false } }, { cmd := (0, 2), encode := false }, by decide +kernel⟩,
   ⟨0, 0, 2, 0, default, [], { on with hif := { on.hif with inflight := [{ cmd := { ring := 0, tag := 2 }, opcode := 0x0301, started := true }] }, store := { on.store with jobs := [{ id := 5, load := some { cmd := (0, 2), encode := true } }] } }, { cmd := { ring := 0, tag := 2 }, opcode := 0x0301, started := true }, { id := 5, load := some { cmd := (0, 2), encode := true } }, { cmd := (0, 2), encode := true }, by decide +kernel⟩,
   ⟨0, 5, { on with store := { on.store with jobs := [{ id := 5, st := .deleting }] } }, { id := 5, st := .deleting }, by decide +kernel⟩,
   ⟨0, { on with clr := { on.clr with saveHeld := [(0, 1)], savedAt := some (-(2 ^ 60)) } }, (0, 1), [], (-(2 ^ 60)), by decide +kernel⟩,
   ⟨0, 0, on, by decide +kernel⟩,
   ⟨0, 1, on, by decide +kernel⟩,
   ⟨0, 1, { on with board := { on.board with pllLost := 2 } }, by decide +kernel⟩⟩

theorem test_witness_LinkRowsComplete :
    (∃ (dt : Nat) (lane : Nat) (start bytes : List Byte) (crc : Nat) (whole : Bool) (s₀ : State) (k : Cls), let s := advance dt s₀; let l := linkOf lane; (lane < 22) ∧ (start.length = 8) ∧ (crc < 2 ^ 32) ∧ (classOfStart (rd start 0 1) = some k) ∧ ((s.course (linkOf lane)).open = true) ∧ (listens lane s = true) ∧ (whole = true) ∧ (bytes.length = 4 * rd start 3 2) ∧ (crc = crc32c (start ++ bytes)) ∧ ((s.course l).run.version = 2) ∧ (rd start 1 2 = ((s.course l).at k).rxSeq) ∧ ((s.course l).injects = [])) ∧
    (∃ (dt : Nat) (lane : Nat) (start bytes : List Byte) (crc : Nat) (whole : Bool) (s₀ : State) (k : Cls), let s := advance dt s₀;
    let l := linkOf lane
    let t := s.onCourse l fun c => { c with rxStomped := c.rxStomped + 1 }
    (lane < 22) ∧ (start.length = 8) ∧ (crc < 2 ^ 32) ∧ (classOfStart (rd start 0 1) = some k) ∧ ((s.course (linkOf lane)).open = true) ∧ (listens lane s = true) ∧ (whole = true) ∧ (bytes.length = 4 * rd start 3 2) ∧ (crc = 0xFFFFFFFF - crc32c (start ++ bytes)) ∧ ((t.course l).run.version = 2) ∧ (rd start 1 2 = ((t.course l).at k).rxSeq) ∧ ((t.course l).injects = [])) ∧
    (∃ (dt : Nat) (lane : Nat) (start bytes : List Byte) (crc : Nat) (whole : Bool) (s₀ : State) (k : Cls), let s := advance dt s₀; let l := linkOf lane; (lane < 22) ∧ (start.length = 8) ∧ (crc < 2 ^ 32) ∧ (classOfStart (rd start 0 1) = some k) ∧ ((s.course (linkOf lane)).open = true) ∧ (listens lane s = true) ∧ (whole = true) ∧ (bytes.length = 4 * rd start 3 2) ∧ (crc = crc32c (start ++ bytes)) ∧ ((s.course l).run.version = 2) ∧ (rd start 1 2 ≠ ((s.course l).at k).rxSeq) ∧ (((s.course l).at k).nakSince = none)) ∧
    (∃ (dt : Nat) (lane : Nat) (start bytes : List Byte) (crc : Nat) (whole : Bool) (s₀ : State) (k : Cls), let s := advance dt s₀; let l := linkOf lane; let t := upset (unitLane lane) s; (lane < 22) ∧ (start.length = 8) ∧ (crc < 2 ^ 32) ∧ (classOfStart (rd start 0 1) = some k) ∧ ((s.course (linkOf lane)).open = true) ∧ (listens lane s = true) ∧ (whole = true) ∧ (bytes.length = 4 * rd start 3 2) ∧ (crc ≠ crc32c (start ++ bytes)) ∧ (crc ≠ 0xFFFFFFFF - crc32c (start ++ bytes)) ∧ ((t.course l).run.version = 2) ∧ (((t.course l).at k).nakSince = none)) ∧
    (∃ (dt : Nat) (lane : Nat) (start bytes : List Byte) (crc : Nat) (whole : Bool) (s₀ : State) (k : Cls), let s := advance dt s₀; let l := linkOf lane; (lane < 22) ∧ (start.length = 8) ∧ (crc < 2 ^ 32) ∧ (classOfStart (rd start 0 1) = some k) ∧ ((s.course (linkOf lane)).open = true) ∧ (listens lane s = true) ∧ (whole = true) ∧ (bytes.length = 4 * rd start 3 2) ∧ (crc = crc32c (start ++ bytes)) ∧ ((s.course l).run.version = 1)) ∧
    (∃ (dt : Nat) (lane : Nat) (start bytes : List Byte) (crc : Nat) (whole : Bool) (s₀ : State), let s := advance dt s₀; (lane < 22) ∧ (start.length = 8) ∧ (crc < 2 ^ 32) ∧ (classOfStart (rd start 0 1) = none)) ∧
    (∃ (dt : Nat) (lane : Nat) (cls : Cls) (seq crc : Nat) (s₀ : State), let s := advance dt s₀; let l := linkOf lane; (lane < 22) ∧ (seq < 65536) ∧ (crc < 256) ∧ (listens lane s = true) ∧ (rd (linkBlock (0x01 + cls.num) seq) 7 1 = crc) ∧ (((s.course l).at cls).unacked.any (fun p => p.seq == seq) = true)) ∧
    (∃ (dt : Nat) (lane : Nat) (cls : Cls) (seq crc : Nat) (s₀ : State), let s := advance dt s₀; (lane < 22) ∧ (seq < 65536) ∧ (crc < 256) ∧ (listens lane s = true) ∧ (rd (linkBlock (0x01 + cls.num) seq) 7 1 ≠ crc)) ∧
    (∃ (dt : Nat) (lane : Nat) (cls : Cls) (seq crc : Nat) (s₀ : State), let s := advance dt s₀; let l := linkOf lane; (lane < 22) ∧ (seq < 65536) ∧ (crc < 256) ∧ (listens lane s = true) ∧ (rd (linkBlock (0x11 + cls.num) seq) 7 1 = crc) ∧ ((s.course l).run.version ≠ 1) ∧ (((s.course l).at cls).resend = none)) ∧
    (∃ (dt : Nat) (lane : Nat) (cls : Cls) (seq crc : Nat) (s₀ : State), let s := advance dt s₀; (lane < 22) ∧ (seq < 65536) ∧ (crc < 256) ∧ (listens lane s = true) ∧ (rd (linkBlock (0x11 + cls.num) seq) 7 1 ≠ crc)) ∧
    (∃ (dt : Nat) (lane : Nat) (cls : Cls) (limit crc : Nat) (s₀ : State), let s := advance dt s₀; let l := linkOf lane; (lane < 22) ∧ (limit < 2 ^ 32) ∧ (crc < 256) ∧ (listens lane s = true) ∧ (rd (linkBlock (0x21 + cls.num) limit) 7 1 = crc) ∧ ((s.course l).open = true) ∧ (0 < signed 32 (limit + 2 ^ 32 - ((s.course l).at cls).limit))) ∧
    (∃ (dt : Nat) (lane : Nat) (cls : Cls) (limit crc : Nat) (s₀ : State), let s := advance dt s₀; (lane < 22) ∧ (limit < 2 ^ 32) ∧ (crc < 256) ∧ (listens lane s = true) ∧ (rd (linkBlock (0x21 + cls.num) limit) 7 1 ≠ crc)) ∧
    (∃ (dt : Nat) (lane hdr : Nat) (bytes : List Byte) (bip : Nat) (s₀ : State), let s := advance dt s₀; let t := deskew lane (s.onLane lane fun q => { q with rxMseq := some (rd bytes 3 1), alignAt := s.tb1 }); (lane < 22) ∧ (hdr < 4) ∧ (bytes.length = 8) ∧ ((s.lane lane).prbs = none) ∧ (hdr = 2) ∧ (rd bytes 0 1 = 0x2D) ∧ (crc8 (bytes.take 7) = rd bytes 7 1) ∧ (rd bytes 4 1 = bip ∨ (s.lane lane).rxMseq = none)) ∧
    (∃ (dt : Nat) (lane hdr : Nat) (bytes : List Byte) (bip : Nat) (s₀ : State), let s := advance dt s₀; (lane < 22) ∧ (hdr < 4) ∧ (bytes.length = 8) ∧ ((s.lane lane).prbs = none) ∧ (hdr = 0 ∨ hdr = 3 ∨ (hdr = 2 ∧ blockTypes.contains (rd bytes 0 1) = false))) ∧
    (∃ (dt : Nat) (lane hdr : Nat) (bytes : List Byte) (bip : Nat) (s₀ : State), let s := advance dt s₀; (lane < 22) ∧ (hdr < 4) ∧ (bytes.length = 8) ∧ ((s.lane lane).prbs = none) ∧ (hdr = 2) ∧ (rd bytes 0 1 = 0x2D) ∧ (crc8 (bytes.take 7) ≠ rd bytes 7 1)) ∧
    (∃ (dt : Nat) (lane : Nat) (s₀ : State), let s := advance dt s₀;
    let l := linkOf lane
    let v := pump l s
    let m := (v.lane lane).mseq
    let t := if m = (v.lane (if lane % 2 = 0 then lane + 1 else lane - 1)).mseq then startInterval l v else v
    let c := t.course l
    let b := toLe 1 0x2D ++ toLe 1 (lane % 2)
      ++ toLe 1 (b2n (!c.duo && c.carry == lane % 2) + 2 * b2n (rxOkLane (2 * l) t) + 4 * b2n (rxOkLane (2 * l + 1) t))
      ++ toLe 1 m ++ toLe 1 (laneBip lane v) ++ toLe 1 l ++ toLe 1 0
    let w := sendBlock lane { hdr := 2, bytes := b ++ toLe 1 (crc8 b) } t
    (lane < 22) ∧ ((s.course (linkOf lane)).sending = true) ∧ ((s.lane lane).prbs = none) ∧ (s.thm.power ≠ .p3) ∧ (alignDue lane s = true)) ∧
    (∃ (dt : Nat) (link : Nat) (cls : Cls) (s₀ : State) (p : SentPacket) (ps : List SentPacket),   let s := pump link (advance dt s₀); (link ≤ 10) ∧ (((s.course link).at cls).unacked = p :: ps) ∧ ((s.course link).open = true) ∧ (((s.course link).hot ++ (s.course link).out).all (fun o => !(o.fresh cls && o.seq == p.seq)) = true) ∧ (passed s p.time (s.course link).run.ackTimeout 1000000 = true)) ∧
    (∃ (dt : Nat) (link : Nat) (cls : Cls) (s₀ : State) (t : Int), let s := advance dt s₀; (link ≤ 10) ∧ (((s.course link).at cls).nakSince = some t) ∧ ((s.course link).open = true) ∧ (passed s t 20 1000000 = true)) ∧
    (∃ (dt : Nat) (link : Nat) (cls : Cls) (s₀ : State), let s := advance dt s₀; let limit := (rxCap cls + ((s.course link).at cls).freed) % 2 ^ 32; (link ≤ 10) ∧ ((s.course link).open = true) ∧ (link = 10 ∨ cls = .ctrl) ∧ (64 ≤ (limit + 2 ^ 32 - ((s.course link).at cls).limitSent) % 2 ^ 32 ∨ passed s ((s.course link).at cls).creditSince 10 1000000 = true)) ∧
    (∃ (dt : Nat) (course clocks : Nat) (s₀ : State) (p : QueuePacket) (ps : List QueuePacket),   let s := pump course (advance dt s₀); (course < 10) ∧ (s.carries course = true) ∧ ((s.course course).queue = p :: ps) ∧ (p.popped = 0) ∧ (p.visible s.tb1 = true) ∧ (p.discard = false) ∧ ((s.course course).maySend .data p.bytes.length = true)) ∧
    (∃ (dt : Nat) (course clocks : Nat) (s₀ : State) (p : QueuePacket) (ps : List QueuePacket),   let s := pump course (advance dt s₀); (course < 10) ∧ (s.carries course = true) ∧ ((s.course course).queue = p :: ps) ∧ (p.popped = 0) ∧ (p.visible s.tb1 = true) ∧ (p.discard = false) ∧ ((s.course course).maySend .data p.bytes.length = false) ∧ ((s.course course).hasCredit .data p.bytes.length = false)) ∧
    (∃ (dt : Nat) (course clocks : Nat) (s₀ : State) (p : QueuePacket) (ps : List QueuePacket),   let s := pump course (advance dt s₀); (course < 10) ∧ ((s.course course).queue = p :: ps) ∧ (p.popped ≠ 0 ∨ (s.carries course = true ∧ p.visible s.tb1 = true ∧ p.discard = true))) ∧
    (∃ (dt : Nat) (course : Nat) (s₀ : State), let s := advance dt s₀;
    let t := settleWaited course s
    let es := takeStamps 32 (t.course course).prio
    let w := t.onCourse course fun c => { c with prio := c.prio.drop es.length, prioWait := false, stampSince := some t.tb1 }
    (course < 10) ∧ (s.carries course = true) ∧ ((s.course course).run.version = 2) ∧ ((s.course course).prio ≠ []) ∧ ((s.course course).stampSince = none) ∧ ((s.course course).run.rate = 1) ∧ ((s.course course).maySend .prio (16 + 8 * (takeStamps 32 (s.course course).prio).length) = true)) :=
  ⟨⟨0, 0, pb 8 [(0, 1, 0x33)], [], (crc32c (pb 8 [(0, 1, 0x33)])), true, { on with links := { on.links with courses := upd 0 (fun c => { c with up := true, run := { version := 2 } }) on.links.courses } }, .data, by decide +kernel⟩,
   ⟨0, 0, pb 8 [(0, 1, 0x33)], [], (0xFFFFFFFF - (crc32c (pb 8 [(0, 1, 0x33)]))), true, { on with links := { on.links with courses := upd 0 (fun c => { c with up := true, run := { version := 2 } }) on.links.courses } }, .data, by decide +kernel⟩,
   ⟨0, 0, pb 8 [(0, 1, 0x33), (1, 2, 5)], [], (crc32c (pb 8 [(0, 1, 0x33), (1, 2, 5)])), true, { on with links := { on.links with courses := upd 0 (fun c => { c with up := true, run := { version := 2 } }) on.links.courses } }, .data, by decide +kernel⟩,
   ⟨0, 0, pb 8 [(0, 1, 0x33)], [], 7, true, { on with links := { on.links with courses := upd 0 (fun c => { c with up := true, run := { version := 2 } }) on.links.courses } }, .data, by decide +kernel⟩,
   ⟨0, 0, pb 8 [(0, 1, 0x33)], [], (crc32c (pb 8 [(0, 1, 0x33)])), true, { on with links := { on.links with courses := upd 0 (fun c => { c with up := true, run := { version := 1 } }) on.links.courses } }, .data, by decide +kernel⟩,
   ⟨0, 0, pb 8 [], [], 0, true, on, by decide +kernel⟩,
   ⟨0, 0, .data, 0, (rd (linkBlock 1 0) 7 1), { on with links := { on.links with courses := upd 0 (fun c => { c with up := true, run := { version := 2 }, cls := List.replicate 3 { unacked := [{}] } }) on.links.courses } }, by decide +kernel⟩,
   ⟨0, 0, .data, 0, ((rd (linkBlock 1 0) 7 1) ^^^ 1), on, by decide +kernel⟩,
   ⟨0, 0, .data, 0, (rd (linkBlock 0x11 0) 7 1), { on with links := { on.links with courses := upd 0 (fun c => { c with up := true, run := { version := 2 } }) on.links.courses } }, by decide +kernel⟩,
   ⟨0, 0, .data, 0, ((rd (linkBlock 0x11 0) 7 1) ^^^ 1), on, by decide +kernel⟩,
   ⟨0, 0, .data, 64, (rd (linkBlock 0x21 64) 7 1), { on with links := { on.links with courses := upd 0 (fun c => { c with up := true, run := { version := 2 } }) on.links.courses } }, by decide +kernel⟩,
   ⟨0, 0, .data, 64, ((rd (linkBlock 0x21 64) 7 1) ^^^ 1), on, by decide +kernel⟩,
   ⟨0, 0, 2, (let b : List Byte := [0x2D, 0, 0, 0, 0, 0, 0]; b ++ toLe 1 (crc8 b)), 0, on, by decide +kernel⟩,
   ⟨0, 0, 0, (let b : List Byte := [0x2D, 0, 0, 0, 0, 0, 0]; b ++ toLe 1 (crc8 b)), 0, on, by decide +kernel⟩,
   ⟨0, 0, 2, [0x2D, 0, 0, 0, 0, 0, 0, 0xFF], 0, on, by decide +kernel⟩,
   ⟨0, 0, { on with links := { on.links with courses := upd 0 (fun c => { c with up := true, run := { version := 2 } }) on.links.courses } }, by decide +kernel⟩,
   ⟨0, 0, default, { on with links := { on.links with courses := upd 0 (fun c => { c with up := true, run := { version := 2 }, cls := List.replicate 3 { unacked := [{ time := -(2 ^ 60) }] } }) on.links.courses } }, { time := -(2 ^ 60) }, [], by decide +kernel⟩,
   ⟨0, 0, default, { on with links := { on.links with courses := upd 0 (fun c => { c with up := true, run := { version := 2 }, cls := List.replicate 3 { nakSince := some (-(2 ^ 60)) } }) on.links.courses } }, (-(2 ^ 60)), by decide +kernel⟩,
   ⟨0, 0, .ctrl, { on with links := { on.links with courses := upd 0 (fun c => { c with up := true, run := { version := 2 } }) on.links.courses } }, by decide +kernel⟩,
   ⟨0, 0, 0, { on with links := { on.links with courses := upd 0 (fun c => { c with up := true, run := { version := 2 }, owned := true, queue := [{ commitAt := -(2 ^ 60) }], cls := List.replicate 3 { limit := 1000 } }) on.links.courses } }, { commitAt := -(2 ^ 60) }, [], by decide +kernel⟩,
   ⟨0, 0, 0, { on with links := { on.links with courses := upd 0 (fun c => { c with up := true, run := { version := 2 }, owned := true, queue := [{ commitAt := -(2 ^ 60) }], cls := List.replicate 3 { limit := 0 } }) on.links.courses } }, { commitAt := -(2 ^ 60) }, [], by decide +kernel⟩,
   ⟨0, 0, 0, { on with links := { on.links with courses := upd 0 (fun c => { c with up := true, run := { version := 2 }, owned := true, queue := [{ popped := 1 }], cls := List.replicate 3 { limit := 0 } }) on.links.courses } }, { popped := 1 }, [], by decide +kernel⟩,
   ⟨0, 0, { on with links := { on.links with courses := upd 0 (fun c => { c with up := true, run := { version := 2, rate := 1 }, owned := true, prio := [{}], cls := List.replicate 3 { limit := 1000 } }) on.links.courses } }, by decide +kernel⟩⟩

theorem test_witness_CourseRowsComplete :
    (∃ (dt : Nat) (lane : Nat) (s₀ : State), let s := advance dt s₀; let t := s.onLane lane fun q => { q with lock := false, lostSince := some s.tb1, rxMseq := none, deskewed := false, slip := 0, slipSince := s.tb1 }; (lane < 24) ∧ ((s.lane lane).lock = true)) ∧
    (∃ (dt : Nat) (lane : Nat) (s₀ : State), let s := advance dt s₀; (lane < 24) ∧ ((s.lane lane).lock = false)) ∧
    (∃ (dt : Nat) (lane : Nat) (s₀ : State), let s := advance dt s₀; (lane < 24) ∧ ((s.lane lane).lock = false) ∧ (passed s (s.lane lane).slipSince 39 1000000 = true)) ∧
    (∃ (dt : Nat) (lane : Nat) (s₀ : State) (t : Int), let s := advance dt s₀; (lane < 22) ∧ ((s.lane lane).lostSince = some t) ∧ ((s.lane lane).lock = false) ∧ ((s.lane lane).down = false) ∧ (passed s t 10 1000 = true)) ∧
    (∃ (dt : Nat) (course : Nat) (s₀ : State), let s := advance dt s₀; (course ≤ 10) ∧ ((s.course course).wanted = true) ∧ ((s.course course).up = false) ∧ ((s.course course).train = none) ∧ ((s.course course).prbs = false) ∧ (passed s (s.course course).tried 100 1000 = true) ∧ (s.thm.power ≠ .p3)) ∧
    (∃ (dt : Nat) (course : Nat) (s₀ : State), let s := advance dt s₀; (course < 10) ∧ ((s.course course).run.version = 2) ∧ ((s.course course).up = true) ∧ (passed s (s.course course).syncSince (s.course course).cfg.timeInterval 1000000 = true)) ∧
    (∃ (dt : Nat) (course : Nat) (s₀ : State), let s := advance dt s₀; (course = 10) ∧ (s.mirrors = true) ∧ ((s.course course).up = true) ∧ (passed s (s.course course).syncSince (s.course course).cfg.timeInterval 1000000 = true)) ∧
    (∃ (dt : Nat) (course syncId turn : Nat) (offset : Int) (s₀ : State) (t : Int), let s := advance dt s₀; (course < 10) ∧ ((s.course course).t1 = some (t, syncId)) ∧ ((s.course course).open = true)) ∧
    (∃ (dt : Nat) (course : Nat) (bytes : List Byte) (s₀ : State), let s := advance dt s₀; (course < 10) ∧ ((s.course course).open = true)) ∧
    (∃ (dt : Nat) (course : Nat) (bytes : List Byte) (s₀ : State) (w : ClaimWait), let s := advance dt s₀; (course < 10) ∧ ((s.course course).claim = some w) ∧ (rd bytes 0 4 = w.epoch) ∧ (rd bytes 4 1 = 0)) ∧
    (∃ (dt : Nat) (course : Nat) (bytes : List Byte) (s₀ : State) (w : ClaimWait), let s := advance dt s₀; (course < 10) ∧ ((s.course course).claim = some w) ∧ (rd bytes 0 4 = w.epoch) ∧ (rd bytes 4 1 = 1) ∧ ((s.course course).train = none) ∧ (w.again = false) ∧ (w.planned = false)) ∧
    (∃ (dt : Nat) (course : Nat) (s₀ : State) (w : ClaimWait), let s := advance dt s₀; (course < 10) ∧ ((s.course course).claim = some w) ∧ ((s.course course).train = none) ∧ (passed s w.since 200 1000000 = true)) ∧
    (∃ (dt : Nat) (course epoch owner : Nat) (s₀ : State), let s := advance dt s₀; (course < 10) ∧ ((s.course course).open = true) ∧ (owner ≠ Config.uid)) ∧
    (∃ (dt : Nat) (course : Nat) (bytes : List Byte) (s₀ : State), let s := advance dt s₀; (course < 10) ∧ ((s.course course).open = true)) ∧
    (∃ (dt : Nat) (course : Nat) (bytes : List Byte) (s₀ : State) (w : MgmtWait), let s := advance dt s₀; (course < 10) ∧ ((s.course course).mgmt.find? (fun w => w.mid == rd bytes 2 2) = some w) ∧ (bit (rd bytes 0 1) 7 = true) ∧ (w.kind ≠ 0)) ∧
    (∃ (dt : Nat) (course : Nat) (s₀ : State) (w : MgmtWait) (ws : List MgmtWait), let s := advance dt s₀; (course < 10) ∧ ((s.course course).mgmt = w :: ws) ∧ (passed s w.since 1 1000 = true) ∧ (w.kind = 0)) ∧
    (∃ (dt : Nat) (course : Nat) (s₀ : State), let s := advance dt s₀; (course < 10) ∧ ((s.course course).up = true) ∧ ((s.course course).owned = true) ∧ ((s.course course).silent = 0) ∧ (passed s (s.course course).heardAt 5 1000 = true)) ∧
    (∃ (dt : Nat) (bar : Nat) (s₀ : State), let s := advance dt s₀; (bar < 10) ∧ ((s.course bar).up = true) ∧ ((s.course bar).owned = true) ∧ ((s.course bar).silent = 1) ∧ (s.inPrint bar = true) ∧ (passed s (s.course bar).heardAt 100 1000 = true)) ∧
    (∃ (dt : Nat) (course : Nat) (s₀ : State) (t : Train), let s := advance dt s₀; (course ≤ 10) ∧ ((s.course course).train = some t) ∧ (passed s t.stepAt (trainBound (s.course course) t.step) 1000000000 = true) ∧ (t.step ≠ 2)) ∧
    (∃ (dt : Nat) (lane : Nat) (bits : List Bool) (s₀ : State),   let s := sendPrbs lane bits.length (advance dt s₀); (lane < 22)) :=
  ⟨⟨0, 0, { on with links := { on.links with lanes := on.links.lanes.map fun q => { q with lock := true } } }, by decide +kernel⟩,
   ⟨0, 0, on, by decide +kernel⟩,
   ⟨0, 0, { on with links := { on.links with lanes := on.links.lanes.map fun q => { q with slipSince := -(2 ^ 60) } } }, by decide +kernel⟩,
   ⟨0, 0, { on with links := { on.links with lanes := on.links.lanes.map fun q => { q with lostSince := some (-(2 ^ 60)) } } }, (-(2 ^ 60)), by decide +kernel⟩,
   ⟨0, 0, { on with links := { on.links with courses := upd 0 (fun c => { c with wanted := true, tried := -(2 ^ 60) }) on.links.courses } }, by decide +kernel⟩,
   ⟨0, 0, { on with links := { on.links with courses := upd 0 (fun c => { c with up := true, run := { version := 2 }, syncSince := -(2 ^ 60) }) on.links.courses } }, by decide +kernel⟩,
   ⟨0, 10, { on with pair := { on.pair with st := .active, peerState := .standby }, links := { on.links with courses := upd 10 (fun c => { c with up := true, syncSince := -(2 ^ 60) }) on.links.courses } }, by decide +kernel⟩,
   ⟨0, 0, 0, 0, 0, { on with links := { on.links with courses := upd 0 (fun c => { c with up := true, t1 := some (0, 0) }) on.links.courses } }, 0, by decide +kernel⟩,
   ⟨0, 0, [], { on with links := { on.links with courses := upd 0 (fun c => { c with up := true }) on.links.courses } }, by decide +kernel⟩,
   ⟨0, 0, pb 8 [], { on with links := { on.links with courses := upd 0 (fun c => { c with claim := some {  } }) on.links.courses } }, {}, by decide +kernel⟩,
   ⟨0, 0, pb 8 [(4, 1, 1)], { on with links := { on.links with courses := upd 0 (fun c => { c with claim := some {  } }) on.links.courses } }, {}, by decide +kernel⟩,
   ⟨0, 0, { on with links := { on.links with courses := upd 0 (fun c => { c with claim := some { since := -(2 ^ 60) } }) on.links.courses } }, { since := -(2 ^ 60) }, by decide +kernel⟩,
   ⟨0, 0, 0, (Config.uid + 1), { on with links := { on.links with courses := upd 0 (fun c => { c with up := true }) on.links.courses } }, by decide +kernel, by decide +kernel, Nat.succ_ne_self _⟩,
   ⟨0, 0, [], { on with links := { on.links with courses := upd 0 (fun c => { c with up := true }) on.links.courses } }, by decide +kernel⟩,
   ⟨0, 0, pb 4 [(0, 1, 128)], { on with links := { on.links with courses := upd 0 (fun c => { c with mgmt := [{ kind := 1 }] }) on.links.courses } }, { kind := 1 }, by decide +kernel⟩,
   ⟨0, 0, { on with links := { on.links with courses := upd 0 (fun c => { c with mgmt := [{ since := -(2 ^ 60) }] }) on.links.courses } }, { since := -(2 ^ 60) }, [], by decide +kernel⟩,
   ⟨0, 0, { on with links := { on.links with courses := upd 0 (fun c => { c with up := true, owned := true, tried := -(2 ^ 60) }) on.links.courses } }, by decide +kernel⟩,
   ⟨0, 0, { on with links := { on.links with courses := upd 0 (fun c => { c with up := true, owned := true, silent := 1, tried := -(2 ^ 60) }) on.links.courses }, bars := { on.bars with bars := upd 0 (fun b => { b with enabled := true }) on.bars.bars }, fire := { on.fire with run := some { bars := 1 } } }, by decide +kernel⟩,
   ⟨0, 0, { on with links := { on.links with courses := upd 0 (fun c => { c with train := some { stepAt := -(2 ^ 60), step := 4 } }) on.links.courses } }, { stepAt := -(2 ^ 60), step := 4 }, by decide +kernel⟩,
   ⟨0, 0, [], on, by decide +kernel⟩⟩

theorem test_witness_CameraRowsComplete :
    (∃ (dt : Nat) (port vc : Nat) (ecc : EccResult) (s₀ : State) (t : State), let s := advance dt s₀; (port < 4) ∧ (s.portLive port = true) ∧ (takeHeader port vc ecc s = (t, true))) ∧
    (∃ (dt : Nat) (port vc : Nat) (ecc : EccResult) (s₀ : State) (t : State), let s := advance dt s₀; (port < 4) ∧ (s.portLive port = true) ∧ (takeHeader port vc ecc s = (t, false))) ∧
    (∃ (dt : Nat) (port vc dataType wordCount : Nat) (px : List Nat) (ecc : EccResult) (crcOk : Bool) (s₀ : State) (t : State) (f : CamFrame), let s := advance dt s₀; (port < 4) ∧ (s.portLive port = true) ∧ (takeHeader port vc ecc s = (t, true)) ∧ (dataType ≠ 0x12) ∧ (dataType = (t.port port).conf.dataType) ∧ ((t.port port).conf.expects vc = true) ∧ ((t.port port).openOn vc = some f)) ∧
    (∃ (dt : Nat) (port vc dataType wordCount : Nat) (px : List Nat) (ecc : EccResult) (crcOk : Bool) (s₀ : State) (t : State), let s := advance dt s₀; (port < 4) ∧ (s.portLive port = true) ∧ (takeHeader port vc ecc s = (t, false))) ∧
    (∃ (dt : Nat) (port vc : Nat) (ecc : EccResult) (s₀ : State) (t : State) (f : CamFrame), let s := advance dt s₀;
    let c := (t.port port).conf
    let short := if f.got.getD (c.slot vc) 0 < c.height then 1 else 0
    (port < 4) ∧ (s.portLive port = true) ∧ (takeHeader port vc ecc s = (t, true)) ∧ ((t.port port).openOn vc = some f)) ∧
    (∃ (dt : Nat) (port vc : Nat) (ecc : EccResult) (s₀ : State) (t : State), let s := advance dt s₀; (port < 4) ∧ (s.portLive port = true) ∧ (takeHeader port vc ecc s = (t, false))) ∧
    (∃ (dt : Nat) (s₀ : State) (k y : Nat) (f : CamFrame), let s := advance dt s₀; (s.held = false) ∧ (bit s.board.pllLost 1 = false) ∧ (s.thm.power = .p0 ∨ s.thm.power = .p1) ∧ (((List.range 4).map fun i => (s.cam.turn + i) % 4).findSome? (fun k => (s.port k).ready.map fun x => (k, x)) = some (k, f, y)) ∧ ((s.port k).conf.wide = false)) ∧
    (∃ (dt : Nat) (port vc : Nat) (s₀ : State) (f : CamFrame), let s := advance dt s₀; (port < 4) ∧ ((s.port port).frames.find? (fun f => (f.exposure.map (Exposure.due s vc)).getD false) = some f)) ∧
    (∃ (dt : Nat) (port vc : Nat) (s₀ : State) (e : Exposure), let s := advance dt s₀; (port < 4) ∧ ((s.port port).frames.find? (fun f => (f.exposure.map (Exposure.due s vc)).getD false) = none) ∧ ((s.port port).records.find? (Exposure.due s vc) = some e)) ∧
    (∃ (dt : Nat) (port vc : Nat) (s₀ : State) (e : Exposure), let s := advance dt s₀; (port < 4) ∧ ((s.port port).records.find? (fun e => e.vc == vc) = some e) ∧ (e.mid + msT (s.port port).conf.timeoutMs ≤ s.tb3)) ∧
    (∃ (dt : Nat) (port : Nat) (s₀ : State) (c : CamCal), let s := advance dt s₀; (port < 4) ∧ ((s.port port).cal = some c) ∧ (passed s c.since 2 1 = true) ∧ (c.taken.length < c.frames)) ∧
    (∃ (dt : Nat) (port : Nat) (s₀ : State) (c : CamCal), let s := advance dt s₀; (port < 4) ∧ ((s.port port).cal = some c) ∧ (passed s c.since 2 1 = true) ∧ (c.frames ≤ c.taken.length)) ∧
    (∃ (dt : Nat) (port lane : Nat) (s₀ : State), let s := advance dt s₀; (port < 4) ∧ (lane < 4)) ∧
    (∃ (dt : Nat) (port lane : Nat) (s₀ : State), let s := advance dt s₀; (port < 4) ∧ (lane < 4)) ∧
    (∃ (dt : Nat) (bus : Nat) (acked : Bool) (bytes : List Byte) (s₀ : State), let s := advance dt s₀; (bus < 6) ∧ (s.awake = true)) :=
  ⟨⟨0, 0, 0, default, { on with cam := { on.cam with ports := upd 0 (fun p => { p with enable := true, cfg := some {} }) on.cam.ports } }, (takeHeader 0 0 .clean (advance 0 ({ on with cam := { on.cam with ports := upd 0 (fun p => { p with enable := true, cfg := some {} }) on.cam.ports } }))).1, by decide +kernel, by decide +kernel, by rfl⟩,
   ⟨0, 0, 0, .uncorrectable, { on with cam := { on.cam with ports := upd 0 (fun p => { p with enable := true, cfg := some {} }) on.cam.ports } }, (takeHeader 0 0 .uncorrectable (advance 0 ({ on with cam := { on.cam with ports := upd 0 (fun p => { p with enable := true, cfg := some {} }) on.cam.ports } }))).1, by decide +kernel, by decide +kernel, by rfl⟩,
   ⟨0, 0, 0, 0x2B, 0, [], .clean, false, { on with cam := { on.cam with ports := upd 0 (fun p => { p with enable := true, cfg := some {}, frames := [{ begun := 1 }] }) on.cam.ports } }, (takeHeader 0 0 .clean (advance 0 ({ on with cam := { on.cam with ports := upd 0 (fun p => { p with enable := true, cfg := some {}, frames := [{ begun := 1 }] }) on.cam.ports } }))).1, { begun := 1 }, by decide +kernel, by decide +kernel, by rfl, by decide +kernel⟩,
   ⟨0, 0, 0, 0, 0, [], .uncorrectable, false, { on with cam := { on.cam with ports := upd 0 (fun p => { p with enable := true, cfg := some {}, frames := [{ begun := 1 }] }) on.cam.ports } }, (takeHeader 0 0 .uncorrectable (advance 0 ({ on with cam := { on.cam with ports := upd 0 (fun p => { p with enable := true, cfg := some {}, frames := [{ begun := 1 }] }) on.cam.ports } }))).1, by decide +kernel, by decide +kernel, by rfl⟩,
   ⟨0, 0, 0, default, { on with cam := { on.cam with ports := upd 0 (fun p => { p with enable := true, cfg := some {}, frames := [{ begun := 1 }] }) on.cam.ports } }, (takeHeader 0 0 .clean (advance 0 ({ on with cam := { on.cam with ports := upd 0 (fun p => { p with enable := true, cfg := some {}, frames := [{ begun := 1 }] }) on.cam.ports } }))).1, { begun := 1 }, by decide +kernel, by decide +kernel, by rfl, by decide +kernel⟩,
   ⟨0, 0, 0, .uncorrectable, { on with cam := { on.cam with ports := upd 0 (fun p => { p with enable := true, cfg := some {}, frames := [{ begun := 1 }] }) on.cam.ports } }, (takeHeader 0 0 .uncorrectable (advance 0 ({ on with cam := { on.cam with ports := upd 0 (fun p => { p with enable := true, cfg := some {}, frames := [{ begun := 1 }] }) on.cam.ports } }))).1, by decide +kernel, by decide +kernel, by rfl⟩,
   ⟨0, { on with cam := { on.cam with ports := upd 0 (fun p => { p with enable := true, cfg := some {}, frames := [{ buffered := [{}] }] }) on.cam.ports } }, 0, 0, { buffered := [{}] }, by decide +kernel⟩,
   ⟨0, 0, 0, { on with cam := { on.cam with ports := upd 0 (fun p => { p with frames := [{ exposure := some {} }] }) on.cam.ports } }, { exposure := some {} }, by decide +kernel⟩,
   ⟨0, 0, 0, { on with cam := { on.cam with ports := upd 0 (fun p => { p with records := [{}] }) on.cam.ports } }, {}, by decide +kernel⟩,
   ⟨0, 0, 0, { on with cam := { on.cam with ports := upd 0 (fun p => { p with records := [{ mid := -(2 ^ 60) }] }) on.cam.ports } }, { mid := -(2 ^ 60) }, by decide +kernel⟩,
   ⟨0, 0, { on with cam := { on.cam with ports := upd 0 (fun p => { p with cal := some { since := -(2 ^ 60) } }) on.cam.ports } }, { since := -(2 ^ 60) }, by decide +kernel⟩,
   ⟨0, 0, { on with cam := { on.cam with ports := upd 0 (fun p => { p with cal := some { since := -(2 ^ 60), frames := 0 } }) on.cam.ports } }, { since := -(2 ^ 60), frames := 0 }, by decide +kernel⟩,
   ⟨0, 0, 0, on, by decide +kernel⟩,
   ⟨0, 0, 0, on, by decide +kernel⟩,
   ⟨0, 0, false, [], on, by decide +kernel⟩⟩

theorem test_witness_GateRowsComplete :
    (∃ (dt : Nat) (bar : Nat) (s₀ : State) (t : GateTest), let s := advance dt s₀; (bar < 10) ∧ (s.clr.tests.find? (·.bar == bar) = some t) ∧ (t.t0 = none)) ∧
    (∃ (dt : Nat) (bar : Nat) (s₀ : State) (t : GateTest) (t0 : Int), let s := advance dt s₀; (bar < 10) ∧ (s.clr.tests.find? (·.bar == bar) = some t) ∧ (t.t0 = some t0)) ∧
    (∃ (dt : Nat) (gate : Nat) (s₀ : State), let s := advance dt s₀; (gate < 10)) ∧
    (∃ (dt : Nat) (bar : Nat) (s₀ : State) (t : GateTest), let s := advance dt s₀; (bar < 10) ∧ (s.clr.tests.find? (·.bar == bar) = some t) ∧ (t.t0.isSome = true) ∧ (t.sent = t.shots) ∧ (((t.shots * t.shotNs + t.windowNs + 1000000) * 2 ^ 32 : Nat) ≤ t.since s.tb3)) :=
  ⟨⟨0, 0, { on with clr := { on.clr with tests := [{  }] } }, {  }, by decide +kernel⟩,
   ⟨0, 0, { on with clr := { on.clr with tests := [{ t0 := some 0 }] } }, { t0 := some 0 }, 0, by decide +kernel⟩,
   ⟨0, 0, on, by decide +kernel⟩,
   ⟨0, 0, { on with clr := { on.clr with tests := [{ t0 := some (-(2 ^ 60)) }] } }, { t0 := some (-(2 ^ 60)) }, by decide +kernel⟩⟩

theorem test_witness_ThermalRowsComplete :
    (∃ (dt : Nat) (raws : List (Option Int)) (s₀ : State), let s := advance dt s₀; (raws.length = 16) ∧ (s.awake = true) ∧ (passed s s.thm.sampled 1000 1000000 = true) ∧ (s.thm.hottest < s.thm.levels.throttle - 96) ∧ (s.thm.hottest < s.thm.levels.shutdown - 96)) ∧
    (∃ (dt : Nat) (raws : List (Option Int)) (s₀ : State), let s := advance dt s₀; (raws.length = 16) ∧ (s.awake = true) ∧ (passed s s.thm.sampled 100 1000000 = true) ∧ (s.thm.levels.throttle - 96 ≤ s.thm.hottest ∨ s.thm.levels.shutdown - 96 ≤ s.thm.hottest)) ∧
    (∃ (dt : Nat) (s₀ : State) (t : Int), let s := advance dt s₀; (s.thm.substSince = some t) ∧ (s.awake = true) ∧ (s.thm.floor = 0) ∧ (passed s t 60 1 = true)) ∧
    (∃ (dt : Nat) (s₀ : State) (t : Int), let s := advance dt s₀; (s.thm.coolSince = some t) ∧ (s.awake = true) ∧ (s.thm.hold = true) ∧ (passed s t 10 1 = true)) ∧
    (∃ (dt : Nat) (temps : List Int) (unserviced : Bool) (s₀ : State), let s := advance dt s₀; (temps.length = 16) ∧ (s.thm.power ≠ .p4) ∧ (s.thm.tripped = false) ∧ (1920 ≤ (temps.max?).getD 0)) ∧
    (∃ (dt : Nat) (target : Nat) (reached : Bool) (s₀ : State) (i : Nat), let s := advance dt s₀; (s.awake = true) ∧ (s.hif.ready = true) ∧ (s.thm.avsOff = false) ∧ (passed s s.thm.avsAt 1 1000 = true) ∧ (s.thm.rails.findIdx? (fun r => r.any (·.rail == 0)) = some i) ∧ (reached = false)) ∧
    (∃ (dt : Nat) (target : Nat) (reached : Bool) (s₀ : State) (i : Nat) (r : Rail), let s := advance dt s₀;
    let v := min 8000 (max 7200 target)
    let new := if s.thm.vcore < v then min v (s.thm.vcore + 50) else max v (s.thm.vcore - 50)
    let t := (s.onThm fun t => { t with avsAt := s.tb1 }).onRail i fun r => { r with unreachable := false }
    (s.awake = true) ∧ (s.hif.ready = true) ∧ (s.thm.avsOff = false) ∧ (passed s s.thm.avsAt 1 1000 = true) ∧ (s.thm.rails.findIdx? (fun r => r.any (·.rail == 0)) = some i) ∧ (reached = true) ∧ (t.rail i = some r) ∧ (new ≠ s.thm.vcore)) ∧
    (∃ (dt : Nat) (index : Nat) (answer : Option RailAnswer) (s₀ : State) (r : Rail) (a : RailAnswer), let s := advance dt s₀; (index < 16) ∧ (s.rail index = some r) ∧ (s.awake = true) ∧ (s.hif.ready = true) ∧ (r.polled = none) ∧ (answer = some a)) ∧
    (∃ (dt : Nat) (index : Nat) (answer : Option RailAnswer) (s₀ : State) (r : Rail), let s := advance dt s₀; (index < 16) ∧ (s.rail index = some r) ∧ (s.awake = true) ∧ (s.hif.ready = true) ∧ (r.polled = none) ∧ (answer = none)) ∧
    (∃ (dt : Nat) (s₀ : State), let s := advance dt s₀; (s.thm.power ≠ .p4)) ∧
    (∃ (dt : Nat) (porst : Bool) (s₀ : State), let s := advance dt s₀; (s.board.holds.contains .supply = true)) ∧
    (∃ (dt : Nat) (gpio : Option Nat) (s₀ : State), let s := advance dt s₀; (gpio = none) ∧ (s.thm.power = .p3) ∧ (s.hif.pcieUp = true)) ∧
    (∃ (dt : Nat) (gpio : Option Nat) (s₀ : State) (n : Nat), let s := advance dt s₀; (gpio = some n) ∧ (n < 16) ∧ (s.thm.power = .p3) ∧ (bit s.thm.wakeMask n = true)) :=
  ⟨⟨0, List.replicate 16 none, { on with thm := { on.thm with sampled := -(2 ^ 60) } }, by decide +kernel⟩,
   ⟨0, List.replicate 16 none, { on with thm := { on.thm with sampled := -(2 ^ 60), hottest := 1700 } }, by decide +kernel⟩,
   ⟨0, { on with thm := { on.thm with substSince := some (-(2 ^ 60)) } }, (-(2 ^ 60)), by decide +kernel⟩,
   ⟨0, { on with thm := { on.thm with coolSince := some (-(2 ^ 60)), hold := true } }, (-(2 ^ 60)), by decide +kernel⟩,
   ⟨0, List.replicate 16 1920, false, on, by decide +kernel⟩,
   ⟨0, 0, false, { on with thm := { on.thm with avsAt := -(2 ^ 60), rails := [some { rail := 0 }] } }, 0, by decide +kernel⟩,
   ⟨0, 7500, true, { on with thm := { on.thm with avsAt := -(2 ^ 60), rails := [some { rail := 0 }] } }, 0, { rail := 0 }, by decide +kernel⟩,
   ⟨0, 0, (some {}), { on with thm := { on.thm with rails := [some {}] } }, {}, {}, by decide +kernel⟩,
   ⟨0, 0, none, { on with thm := { on.thm with rails := [some {}] } }, {}, by decide +kernel⟩,
   ⟨0, on, by decide +kernel⟩,
   ⟨0, false, { on with board := { on.board with holds := [.supply] } }, by decide +kernel⟩,
   ⟨0, none, { on with thm := { on.thm with power := .p3 } }, by decide +kernel⟩,
   ⟨0, (some 3), { on with thm := { on.thm with power := .p3, wakeMask := 8 } }, 3, by decide +kernel⟩⟩

theorem test_witness_ResetRowsComplete :
    (∃ (dt : Nat) (s₀ : State), let s := advance dt s₀; True) ∧
    (∃ (dt : Nat) (gpio : Nat) (s₀ : State), let s := advance dt s₀; let t := s.onBoard fun b => { b with holds := b.holds.filter (· != .porst), gpioIn := gpio % 65536 }; (s.board.holds.contains .porst = true) ∧ (s.board.holds.contains .supply = false) ∧ (t.board.holds.contains .supply = false)) ∧
    (∃ (dt : Nat) (s₀ : State), let s := advance dt s₀; (s.thm.power ≠ .p4) ∧ (s.board.holds.contains .sysRst = false) ∧ (s.held = false)) ∧
    (∃ (dt : Nat) (s₀ : State), let s := advance dt s₀; True) ∧
    (∃ (dt : Nat) (s₀ : State), let s := advance dt s₀; (s.held = false) ∧ (s.thm.power ≠ .p3) ∧ (s.thm.power ≠ .p4)) ∧
    (∃ (dt : Nat) (s₀ : State), let s := advance dt s₀; let z : Hif := {}; True) ∧
    (∃ (dt : Nat) (s₀ : State), let s := advance dt s₀; True) ∧
    (∃ (dt : Nat) (s₀ : State) (cause : Nat), let s := advance dt s₀; (s.board.booting = some cause) ∧ (s.sec.onTrial = true) ∧ (s.held = false) ∧ (passed s 0 10 1 = true)) ∧
    (∃ (dt : Nat) (s₀ : State) (cause : Nat), let s := advance dt s₀; (s.board.booting = some cause) ∧ (s.held = false) ∧ (s.board.bootHold = false) ∧ (s.board.fault = false)) ∧
    (∃ (dt : Nat) (s₀ : State), let s := advance dt s₀; (s.hif.ready = true) ∧ (s.fire.run = none) ∧ (s.stat.isOpen = true) ∧ (passed s s.stat.idleSince 1 1 = true)) ∧
    (∃ (dt : Nat) (instr : Nat) (s₀ : State), let s := advance dt s₀; let t := s.onBoard fun b => { b with tap := instr, tapDebug := Config.tapMeaning instr == 4 }; True) :=
  ⟨⟨0, on, by decide +kernel⟩,
   ⟨0, 0, { on with board := { on.board with holds := [.porst] } }, by decide +kernel⟩,
   ⟨0, on, by decide +kernel⟩,
   ⟨0, on, by decide +kernel⟩,
   ⟨0, on, by decide +kernel⟩,
   ⟨0, on, by decide +kernel⟩,
   ⟨0, on, by decide +kernel⟩,
   ⟨(2 ^ 50), { on with board := { on.board with booting := some 1 }, sec := { on.sec with onTrial := true } }, 1, by decide +kernel⟩,
   ⟨0, { on with board := { on.board with booting := some 1 } }, 1, by decide +kernel⟩,
   ⟨0, { on with stat := { on.stat with idleSince := -(2 ^ 60) } }, by decide +kernel⟩,
   ⟨0, 0, on, by decide +kernel⟩⟩

theorem test_witness_PairWireRowsComplete :
    (∃ (dt : Nat) (s₀ : State), let s := advance dt s₀;
    let arg := s.pair.beat + 65536 * s.pair.st.code + 16777216 * s.beatFlags
    let t := [20, 21].foldl (fun t n => if (t.lane n).lock && !(t.lane n).retired then sendBlock n { hdr := 2, bytes := linkBlock 0x31 arg } t else t) s
    (s.pair.enable = true) ∧ (s.hif.ready = true) ∧ (s.thm.power ≠ .p3) ∧ (s.thm.power ≠ .p4) ∧ (passed s s.pair.beatSent 10 1000000 = true)) ∧
    (∃ (dt : Nat) (lane beat st flags : Nat) (s₀ : State) (x : PairState), let s := advance dt s₀; let t := bump (ctr 13 0 4) (missedBeats s) s; (lane = 20 ∨ lane = 21) ∧ (beat < 65536) ∧ (s.pair.enable = true) ∧ (PairState.ofCode st = some x)) ∧
    (∃ (dt : Nat) (s₀ : State) (b : Int), let s := advance dt s₀; let t := s.onPair fun p => { p with beatLost := true }; (s.pair.beatSeen = some b) ∧ (s.pair.beatLost = false) ∧ (passed s b 52 1000000 = true) ∧ (t.pair.st = .standby) ∧ (t.pair.peerAlive = false)) ∧
    (∃ (dt : Nat) (s₀ : State) (b : Int), let s := advance dt s₀; let t := s.onPair fun p => { p with beatLost := true }; (s.pair.beatSeen = some b) ∧ (s.pair.beatLost = false) ∧ (passed s b 52 1000000 = true) ∧ (t.pair.st ≠ .standby)) ∧
    (∃ (dt : Nat) (s₀ : State), let s := advance dt s₀; let t := s.onPair fun p => { p with peerAlive := false }; (t.pair.st = .standby) ∧ (t.pair.beatLost = true)) ∧
    (∃ (dt : Nat) (s₀ : State), let s := advance dt s₀; let t := s.onPair fun p => { p with peerAlive := false }; (t.pair.st = .standby) ∧ (t.pair.beatLost = false)) ∧
    (∃ (dt : Nat) (s₀ : State), let s := advance dt s₀; True) ∧
    (∃ (dt : Nat) (s₀ : State), let s := advance dt s₀; let t := s.onPair fun p => { p with yieldIn := true }; (t.pair.st = .standby)) ∧
    (∃ (dt : Nat) (s₀ : State), let s := advance dt s₀; let t := drivePairYield false s; (s.pair.st = .standby ∨ s.pair.st = .detached ∨ s.pair.st = .off) ∧ (t.pair.yieldOut = false)) ∧
    (∃ (dt : Nat) (code : Nat) (s₀ : State), let s := advance dt s₀; let t := heardPair s; (t.pair.st = .standby) ∧ (code < 256)) ∧
    (∃ (dt peerUp : Nat) (peerMoves : Bool) (s₀ : State) (r : Run), let s := advance dt s₀; let t := s.onPair fun p => { p with webDead := some (p.webDead.getD s.tb1) }; (s.pair.st = .active) ∧ (bit s.pair.peerFlags 2 = true) ∧ (s.webStill = true) ∧ (peerMoves = true) ∧ (s.fire.run = some r) ∧ ((List.range 10).any (fun l => bit r.bars l && !(t.course l).up && bit peerUp l && passed t (t.course l).tried 1 1000) = false) ∧ (passed t (s.pair.webDead.getD s.tb1) 10 1000 = true)) ∧
    (∃ (dt : Nat) (peer : Peer) (authentic : Bool) (s₀ : State), let s := advance dt s₀; let t := heardPair s; (t.pair.st ≠ .off) ∧ ((t.course 10).up = true)) ∧
    (∃ (dt : Nat) (t1 delay : Int) (valid : Bool) (syncId : Nat) (adj : Int) (s₀ : State), let s := advance dt s₀; let t := heardPair s; (t.copies = true)) ∧
    (∃ (dt : Nat) (syncId turn : Nat) (offset : Int) (s₀ : State) (t1 : Int), let s := advance dt s₀; let t := heardPair s; let x := timeExchange ((t.tb3 - t1) - turn) (t.course 10).rtts; ((t.course 10).t1 = some (t1, syncId)) ∧ (t.pair.st.leads = true)) :=
  ⟨⟨0, { on with pair := { on.pair with enable := true, beatSent := -(2 ^ 60) } }, by decide +kernel⟩,
   ⟨0, 20, 0, 0, 0, { on with pair := { on.pair with enable := true } }, .off, by decide +kernel⟩,
   ⟨0, { on with pair := { on.pair with st := .standby, beatSeen := some (-(2 ^ 60)) } }, (-(2 ^ 60)), by decide +kernel⟩,
   ⟨0, { on with pair := { on.pair with st := .active, beatSeen := some (-(2 ^ 60)) } }, (-(2 ^ 60)), by decide +kernel⟩,
   ⟨0, { on with pair := { on.pair with st := .standby, beatLost := true } }, by decide +kernel⟩,
   ⟨0, { on with pair := { on.pair with st := .standby } }, by decide +kernel⟩,
   ⟨0, on, by decide +kernel⟩,
   ⟨0, { on with pair := { on.pair with st := .standby } }, by decide +kernel⟩,
   ⟨0, on, by decide +kernel⟩,
   ⟨0, 0, { on with pair := { on.pair with st := .standby } }, by decide +kernel⟩,
   ⟨0, 0, true, { on with pair := { on.pair with st := .active, peerFlags := 4, webDead := some (-(2 ^ 60)) }, fire := { on.fire with run := some {} } }, {}, by decide +kernel⟩,
   ⟨0, default, false, { on with pair := { on.pair with st := .linking }, links := { on.links with courses := upd 10 (fun c => { c with up := true, t1 := some (0, 0) }) on.links.courses } }, by decide +kernel⟩,
   ⟨0, 0, 0, false, 0, 0, { on with pair := { on.pair with st := .standby } }, by decide +kernel⟩,
   ⟨0, 0, 0, 0, { on with pair := { on.pair with st := .active }, links := { on.links with courses := upd 10 (fun c => { c with up := true, t1 := some (0, 0) }) on.links.courses } }, 0, by decide +kernel⟩⟩

theorem test_witness_PairCopyRowsComplete :
    (∃ (dt : Nat) (part : BaselinePart) (s₀ : State) (recordSeq : Nat) (crcOk : Bool), let s := advance dt s₀; (s.pair.st = .joining) ∧ (part = .last recordSeq crcOk)) ∧
    (∃ (dt : Nat) (part : BaselinePart) (s₀ : State), let s := advance dt s₀; (s.pair.st = .joining) ∧ (∀ n c, part ≠ .last n c)) ∧
    (∃ (dt : Nat) (seq ring tag cmdSeq : Nat) (body : RecordBody) (status : Status) (s₀ : State), let s := advance dt s₀; let t := heardPair s; (t.copies = true) ∧ (t.pair.st ≠ .joining ∨ 3 ≤ t.pair.joinStep)) ∧
    (∃ (dt : Nat) (seq ring tag cmdSeq : Nat) (body : RecordBody) (status : Status) (s₀ : State), let s := advance dt s₀; let t := heardPair s; (t.copies = true) ∧ (t.pair.st = .joining) ∧ (t.pair.joinStep < 3)) ∧
    (∃ (dt : Nat) (seq : Nat) (status : Status) (s₀ : State), let s := advance dt s₀; True) ∧
    (∃ (dt : Nat) (s₀ : State) (w : RecordWait) (ws : List RecordWait), let s := advance dt s₀; (s.pair.waits = w :: ws) ∧ (passed s w.since 1 1000 = true)) ∧
    (∃ (dt : Nat) (note : FrameNote) (s₀ : State), let s := advance dt s₀; let t := heardPair s; (t.copies = true) ∧ (t.pair.st ≠ .joining ∨ 3 ≤ t.pair.joinStep)) ∧
    (∃ (dt : Nat) (s₀ : State), let s := advance dt s₀; (s.mirrors = true) ∧ ((s.pair.ckptSent * 1000).fdiv (2 ^ 32) < (s.tb3 * 1000).fdiv (2 ^ 32)) ∧ ((s.tb3 * 10000).fdiv (2 ^ 32) - 10 * (s.tb3 * 1000).fdiv (2 ^ 32) < 1)) ∧
    (∃ (dt : Nat) (ckpt : Checkpoint) (s₀ : State), let s := advance dt s₀; let t := heardPair s; let w := keepCkpt ckpt (alignWeb ckpt (adoptRest ckpt t)); (t.copies = true) ∧ (t.pair.joinStep ≠ 1) ∧ (t.pair.joinStep ≠ 2)) ∧
    (∃ (dt : Nat) (job : Nat) (bytes : List Byte) (last : Option Nat) (s₀ : State), let s := advance dt s₀; (s.copies = true) ∧ (s.pair.mirror = none) ∧ (last = none)) ∧
    (∃ (dt : Nat) (job : Nat) (bytes : List Byte) (last : Option Nat) (s₀ : State) (crc : Nat), let s := advance dt s₀; let w := s.onPair fun p => { p with mirror := none }; (s.copies = true) ∧ (s.pair.mirror = none) ∧ (last = some crc)) ∧
    (∃ (dt : Nat) (pass : Bool) (s₀ : State), let s := advance dt s₀; (s.pair.st = .standby) ∧ (s.thm.power = .p2) ∧ (passed s s.pair.testAt 100 1000 = true) ∧ (pass = true) ∧ (s.isRetired (testUnits.getD s.pair.testTurn 0x0600) = false) ∧ (s.isDoomed (testUnits.getD s.pair.testTurn 0x0600) = false) ∧ (s.pair.testTurn + 1 < testUnits.length)) ∧
    (∃ (dt : Nat) (pass : Bool) (s₀ : State), let s := advance dt s₀; (s.pair.st = .standby) ∧ (s.thm.power = .p2) ∧ (passed s s.pair.testAt 100 1000 = true) ∧ (pass = false) ∧ (s.isRetired (testUnits.getD s.pair.testTurn 0x0600) = false) ∧ (s.isDoomed (testUnits.getD s.pair.testTurn 0x0600) = false) ∧ (s.pair.testTurn + 1 < testUnits.length)) ∧
    (∃ (dt : Nat) (s₀ : State), let s := advance dt s₀; let t := keepHealth (makeHealth s) (s.onPair fun p => { p with healthAt := s.tb1 }); (s.pair.st = .standby) ∧ (passed s s.pair.healthAt 10 1000 = true)) ∧
    (∃ (dt : Nat) (health : Health) (s₀ : State), let s := advance dt s₀; let t := heardPair s; (t.pair.st.leads = true)) ∧
    (∃ (dt : Nat) (s₀ : State) (id : CmdId) (t : Int), let s := advance dt s₀; (s.pair.rejoin = some (id, t)) ∧ (t ≤ s.tb1)) :=
  ⟨⟨0, (.last 0 true), { on with pair := { on.pair with st := .joining } }, 0, true, by decide +kernel⟩,
   ⟨0, (.print 1 1 none []), { on with pair := { on.pair with st := .joining } }, by decide +kernel, by intro n c h; cases h⟩,
   ⟨0, 0, 0, 0, 0, default, default, { on with pair := { on.pair with st := .standby } }, by decide +kernel⟩,
   ⟨0, 0, 0, 0, 0, default, default, { on with pair := { on.pair with st := .joining } }, by decide +kernel⟩,
   ⟨0, 0, default, on, by decide +kernel⟩,
   ⟨0, { on with pair := { on.pair with waits := [{ since := -(2 ^ 60) }] } }, { since := -(2 ^ 60) }, [], by decide +kernel⟩,
   ⟨0, default, { on with pair := { on.pair with st := .standby } }, by decide +kernel⟩,
   ⟨0, { on with pair := { on.pair with st := .active, peerState := .standby, ckptSent := -(2 ^ 60) } }, by decide +kernel⟩,
   ⟨0, default, { on with pair := { on.pair with st := .standby } }, by decide +kernel⟩,
   ⟨0, 0, [], none, { on with pair := { on.pair with st := .standby } }, by decide +kernel⟩,
   ⟨0, 0, [], (some 7), { on with pair := { on.pair with st := .standby } }, 7, by decide +kernel⟩,
   ⟨0, true, { on with pair := { on.pair with st := .standby, testAt := -(2 ^ 60), healthAt := -(2 ^ 60) }, thm := { on.thm with power := .p2 } }, by decide +kernel⟩,
   ⟨0, false, { on with pair := { on.pair with st := .standby, testAt := -(2 ^ 60), healthAt := -(2 ^ 60) }, thm := { on.thm with power := .p2 } }, by decide +kernel⟩,
   ⟨0, { on with pair := { on.pair with st := .standby, testAt := -(2 ^ 60), healthAt := -(2 ^ 60) }, thm := { on.thm with power := .p2 } }, by decide +kernel⟩,
   ⟨0, default, { on with pair := { on.pair with st := .active } }, by decide +kernel⟩,
   ⟨0, { on with pair := { on.pair with rejoin := some ((0, 1), 0) } }, (0, 1), 0, by decide +kernel⟩⟩

theorem test_witness_HandoverRowsComplete :
    (∃ (dt : Nat) (s₀ : State), let s := advance dt s₀; let t := heardPair s; (t.synced = true) ∧ ((setPower .p0 (t.onPair fun p => { p with handover := some { since := t.tb1, stepSince := t.tb1, step := 2 } })).fire.run = none)) ∧
    (∃ (dt : Nat) (s₀ : State) (h : Handover), let s := advance dt s₀; let t := heardPair s; let w := t.onRun fun r => { r with handover := some 0 }; (t.pair.handover = some h) ∧ (t.pair.st = .active) ∧ (h.step = 1) ∧ (t.fire.run = none) ∧ (h.cmd = none)) ∧
    (∃ (dt : Nat) (h : Nat) (s₀ : State) (w : Handover) (k : Ckpt), let s := advance dt s₀; let t := heardPair s; (t.pair.handover = some w) ∧ (t.pair.ckpt = some k) ∧ (t.pair.st = .standby) ∧ (w.step = 3)) ∧
    (∃ (dt : Nat) (s₀ : State) (h : Handover), let s := advance dt s₀; (s.pair.handover = some h) ∧ (s.pair.st = .active) ∧ (h.step = 3) ∧ (s.fire.run = none)) ∧
    (∃ (dt : Nat) (s₀ : State) (h : Handover), let s := advance dt s₀; (s.pair.handover = some h) ∧ (s.pair.st = .active) ∧ (h.step = 4)) ∧
    (∃ (dt : Nat) (s₀ : State) (h : Handover), let s := advance dt s₀; (s.pair.handover = some h) ∧ (passed s h.stepSince 5 1 = true) ∧ (s.pair.st = .active) ∧ (h.step = 1)) ∧
    (∃ (dt : Nat) (s₀ : State) (h : Handover), let s := advance dt s₀; (s.pair.handover = some h) ∧ (passed s h.stepSince 5 1 = true) ∧ (s.pair.st = .standby) ∧ (h.step = 2 ∨ h.step = 3)) :=
  ⟨⟨0, { on with pair := { on.pair with st := .standby, tb3Loaded := true, ckpt := some {} }, sec := { on.sec with lifecycle := .provisioned, debug := .off } }, by decide +kernel⟩,
   ⟨0, { on with pair := { on.pair with st := .active, handover := some { step := 1 } } }, { step := 1 }, by decide +kernel⟩,
   ⟨0, 0, { on with pair := { on.pair with st := .standby, handover := some { step := 3 }, ckpt := some {} } }, { step := 3 }, {}, by decide +kernel⟩,
   ⟨0, { on with pair := { on.pair with st := .active, handover := some { step := 3 } } }, { step := 3 }, by decide +kernel⟩,
   ⟨0, { on with pair := { on.pair with st := .active, handover := some { step := 4 } } }, { step := 4 }, by decide +kernel⟩,
   ⟨0, { on with pair := { on.pair with st := .active, handover := some { step := 1, stepSince := -(2 ^ 60) } } }, { step := 1, stepSince := -(2 ^ 60) }, by decide +kernel⟩,
   ⟨0, { on with pair := { on.pair with st := .standby, handover := some { step := 2, stepSince := -(2 ^ 60) } } }, { step := 2, stepSince := -(2 ^ 60) }, by decide +kernel⟩⟩

/-! The premises of the other statements. -/

/-- A device that is up with a command in flight on ring 0, TAG 7. -/
def busy (op : Nat) (flags : Nat) (started : Bool) (holds : List Resource) : State :=
  on.onHif fun h => { h with inflight := [{ cmd := { cmd0 with tag := 7, flags }, opcode := op, started, holds }] }

/-- A row at the front: its step answers. -/
theorem test_witness_StepOnEmptyQueue :
    (∃ s : State, s.pending = [] ∧ (s.held = true ∨ s.thm.power = .p3 ∨ s.thm.power = .p4 ∨ startable [] s.hif.inflight = none)) ∧
    (∃ (s : State) (e : InFlight), s.pending = [] ∧ s.held = false ∧ s.thm.power ≠ .p3 ∧ s.thm.power ≠ .p4 ∧ startable [] s.hif.inflight = some e) :=
  ⟨⟨on, by decide +kernel⟩, ⟨busy 0x0105 0 false [], { cmd := { cmd0 with tag := 7 }, opcode := 0x0105 }, by decide +kernel⟩⟩

/-- The invariants' premises: a state in the form with a row whose step answers, which holds a byte of SCRATCH. -/
theorem test_witness_MemoryFormKept_QueueConsumed_FusesOnlyAdvance :
    ∃ s t : State, scratchWf s.store.scratch = true ∧ s.store.scratch ≠ [] ∧ s.pending ≠ [] ∧ step s = .next t :=
  ⟨{ on with store := { on.store with scratch := [(3, 7), (9, 1)] }, pending := [.evqDb 5 0] }, _, by decide, by decide, by decide, rfl⟩

theorem test_witness_ScratchOnlyByWindow :
    ∃ (c : Instr) (s t : State), (∀ dt offset bytes, c ≠ .bar2WindowWrite dt offset bytes) ∧ exec c s = .next t :=
  ⟨.evqDb 5 0, on, _, by intros; exact fun h => (nomatch h), rfl⟩

theorem test_witness_HostCommandsRun :
    ∃ (c : Instr) (s : State) (op : Nat) (q : Cmd), hostCommand c = some (op, q) ∧ Runs op (opTable op).1 q s = true :=
  ⟨.sysNop cmd0, on, 0x0105, cmd0, rfl, by decide +kernel⟩

/-- A check that fails; a device held by an exclusive command; a standby; a status that is not ST_OK. -/
theorem test_witness_FailedCommandsAreCarriedOutInNoPart :
    (∃ (c : Instr) (s : State) (op : Nat) (q : Cmd) (r : Reply), hostCommand c = some (op, q) ∧ Starts op q s = true ∧ (flagFault q).or ((opTable op).1 q (s.begun op q)) = some r ∧ r.status ≠ .ok) ∧
    (∃ (c : Instr) (s : State) (op : Nat) (q : Cmd), hostCommand c = some (op, q) ∧ Starts op q s = true ∧
      let t := s.begun op q
      flagFault q = none ∧ (opTable op).1 q t = none ∧ ((t.holding .device && !unitFree op) || t.barHeld op q) = true) ∧
    (∃ (c : Instr) (s : State) (op : Nat) (q : Cmd), hostCommand c = some (op, q) ∧ Starts op q s = true ∧
      let t := s.begun op q
      flagFault q = none ∧ (opTable op).1 q t = none ∧ ((t.holding .device && !unitFree op) || t.barHeld op q) = false ∧ t.standbyRefuses op q = true) :=
  ⟨⟨.sysNop (cmdN 1 []), on, 0x0105, cmdN 1 [], Reply.err .badLength, rfl, by decide +kernel⟩,
   ⟨.layerFence (cmdN 8 []), busy 0x0203 0 true [.device], 0x0403, cmdN 8 [], rfl, by decide +kernel⟩,
   ⟨.layerFence (cmdN 8 []), on.onPair fun p => { p with st := .standby }, 0x0403, cmdN 8 [], rfl, by decide +kernel⟩⟩

theorem test_witness_WhereACommandWaits :
    (∃ (c : Instr) (s₀ : State) (op : Nat) (q : Cmd), hostCommand c = some (op, q) ∧ q.ring < 8 ∧ (advance q.dt s₀).mayFetch q.ring = false) ∧
    (∃ (c : Instr) (s₀ : State) (op : Nat) (q : Cmd) (r : Reply), hostCommand c = some (op, q) ∧ q.ring < 8 ∧
      let s := advance q.dt s₀
      s.mayFetch q.ring = true ∧ s.flying q.id = none ∧ gateCheck op q (s.onHif fun h => { h with inflight := h.inflight ++ [{ cmd := q, opcode := op }] }) = some r) ∧
    (∃ (c : Instr) (s₀ : State) (op : Nat) (q : Cmd), hostCommand c = some (op, q) ∧ q.ring < 8 ∧
      let s := advance q.dt s₀
      s.mayFetch q.ring = true ∧ s.flying q.id = none ∧ gateCheck op q (s.onHif fun h => { h with inflight := h.inflight ++ [{ cmd := q, opcode := op }] }) = none ∧
      mayStart q s.hif.inflight = false) :=
  ⟨⟨.sysNop cmd0, State.reset, 0x0105, cmd0, rfl, by decide +kernel⟩,
   ⟨.secLifecycle (cmdN 8 []), on.onRing 0 fun r => { r with role := 3 }, 0x0207, cmdN 8 [], Reply.err .denied, rfl, by decide +kernel⟩,
   ⟨.sysNop cmd0, busy 0x0105 2 true [], 0x0105, cmd0, rfl, by decide +kernel⟩⟩

/-- A slot of 128 bytes holding the given fields. -/
def slotOf (fs : List (Nat × Nat × Nat)) : List Byte := pb 128 fs

theorem test_witness_TagInFlight :
    (∃ (s : State) (n tag : Nat) (e : InFlight), s.flying (n, tag) = some e) ∧
    (∃ (c : Instr) (s₀ : State) (op : Nat) (q : Cmd) (e : InFlight), hostCommand c = some (op, q) ∧ q.ring < 8 ∧
      (advance q.dt s₀).mayFetch q.ring = true ∧ (advance q.dt s₀).flying q.id = some e) ∧
    (∃ (dt ring : Nat) (slot : List Byte) (s₀ : State) (e : InFlight), ring < 8 ∧ slot.length = 128 ∧
      let s := advance dt s₀
      let v := viewSlot slot
      s.mayFetch ring = true ∧ (s.ring ring).ethernet = false ∧ (s.ring ring).sqHead ≠ (s.ring ring).sqTail ∧ v.seq = (s.ring ring).expSeq ∧
      (if v.opcode = 0x0102 then 1 ≤ v.version ∧ v.version ≤ 15 else v.version = (s.ring ring).agreed) ∧
      v.length ≤ (if v.auth then 72 else 96) ∧ v.pblkLen ≤ 1048576 ∧ s.flying (ring, v.tag) = some e) :=
  ⟨⟨busy 0x0105 0 true [], 0, 7, { cmd := { cmd0 with tag := 7 }, opcode := 0x0105, started := true }, by decide +kernel⟩,
   ⟨.sysNop { cmd0 with tag := 7 }, busy 0x0105 0 true [], 0x0105, { cmd0 with tag := 7 }, { cmd := { cmd0 with tag := 7 }, opcode := 0x0105, started := true }, rfl, by decide +kernel⟩,
   ⟨0, 0, slotOf [(0, 1, 2), (2, 2, 0x0105), (4, 2, 7)], (busy 0x0105 0 true []).onRing 0 fun r => { r with sqTail := 1 },
    { cmd := { cmd0 with tag := 7 }, opcode := 0x0105, started := true }, by decide +kernel⟩⟩

theorem test_witness_RowsAlwaysAnswer :
    (∃ (c : Instr) (s : State), c.wellFormed = true ∧ (∀ dt line owner ecc, c = .memoryReadComplete dt line owner ecc → line < s.store.lines)) ∧
    (∃ c : Instr, c.wellFormed = false) :=
  ⟨⟨.evqDb 0 0, on, rfl, fun _ _ _ _ h => (nomatch h)⟩, ⟨.sqDb 0 8 0, rfl⟩⟩

theorem test_witness_ScratchReadsBackAsWritten :
    ∃ (dt offset : Nat) (bytes : List Byte) (s₀ : State),
      let s := advance dt s₀
      let a := s.hif.winBase + offset
      scratchWf s.store.scratch = true ∧ offset + bytes.length ≤ 0x4000000 ∧ s.hif.winEnable = true ∧ s.hif.winWrite = true ∧
      0x20000000 ≤ a ∧ a + bytes.length ≤ 0x24000000 ∧ a + bytes.length ≤ s.usable :=
  ⟨0, 0x3FFFFFE, [5, 6], on.onHif fun h => { h with winBase := 0x20000000, winEnable := true, winWrite := true }, by decide +kernel⟩

theorem test_witness_TimePassesAlone :
    (∃ s : State, s.held = true ∨ s.thm.power = .p4 ∨ s.tim.pllLock = false) ∧
    (∃ s : State, s.held = false ∧ s.thm.power = .p3 ∧ s.tim.pllLock = true) ∧
    (∃ s : State, s.held = false ∧ s.thm.power ≠ .p3 ∧ s.thm.power ≠ .p4 ∧ s.tim.pllLock = true) :=
  ⟨⟨on.onThm fun t => { t with power := .p4 }, by decide +kernel⟩, ⟨on.onThm fun t => { t with power := .p3 }, by decide +kernel⟩, ⟨on, by decide +kernel⟩⟩

theorem test_witness_CompletionFrame :
    ∃ (id : CmdId) (s : State) (e : InFlight), id.1 < 8 ∧ s.mirrors = false ∧ s.pair.auto = false ∧ s.flying id = some e :=
  ⟨(0, 7), busy 0x0105 0 true [], { cmd := { cmd0 with tag := 7 }, opcode := 0x0105, started := true }, by decide +kernel⟩

theorem test_witness_ReadingCommandsChangeNothing :
    ∃ (c : Instr) (s t : State) (op : Nat) (q : Cmd), hostCommand c = some (op, q) ∧ leavesRest op = true ∧ s.sec.resetOrdered = none ∧ exec c s = .next t :=
  ⟨.secStatus cmd0, on, _, 0x0201, cmd0, rfl, rfl, rfl, rfl⟩

/-- For each clause of PermissionMasks: a table read from its bytes, with the first and the last group and bit; a fixed opcode; check 9. -/
theorem test_witness_PermissionMasks :
    (∃ (bs : List Byte) (t : ProtTable), ProtTable.decode bs = some t ∧ fixedRoles (256 * 1 + 11) = none ∧ fixedRoles (256 * 16 + 7) = none) ∧
    (∃ rs : List Nat, fixedRoles 0x0203 = some rs) ∧
    (∃ (op : Nat) (q : Cmd) (s : State), q.ring < 8 ∧ opcodeDefined op = true ∧ ((s.ring q.ring).ethernet && dmaOps.contains op) = false ∧ 1 ≤ s.hif.floor) :=
  ⟨⟨defaultTable.encode, { defaultTable with crc := defaultTable.crcOf }, by decide +kernel⟩, ⟨[0], by decide⟩, ⟨0x0105, cmd0, on, by decide +kernel⟩⟩

theorem test_witness_RingEnable :
    (∃ s : State, s.hif.rings.length = 8 ∧ s.bar0 = true ∧ (s.ring 7).enable = true) ∧
    (∃ s : State, s.hif.rings.length = 8 ∧ s.bar0 = true ∧ (s.ring 7).enable = false ∧ ((s.ring 7).sqLog2 < 4 ∨ 12 < (s.ring 7).sqLog2 ∨ (s.ring 7).cqLog2 < 4 ∨ 12 < (s.ring 7).cqLog2 ∨ (s.ring 7).halted = true)) ∧
    (∃ s : State, s.hif.rings.length = 8 ∧ s.bar0 = true ∧ (s.ring 7).enable = false ∧ 4 ≤ (s.ring 7).sqLog2 ∧ (s.ring 7).sqLog2 ≤ 12 ∧ 4 ≤ (s.ring 7).cqLog2 ∧ (s.ring 7).cqLog2 ≤ 12 ∧
      (s.ring 7).halted = false ∧ ((s.ring 7).ethernet = true → (s.sec.prot.rings.getD 7 {}).ethAllowed = true)) :=
  ⟨⟨on, by decide +kernel⟩, ⟨on.onRing 7 fun r => { r with enable := false, sqLog2 := 13 }, by decide +kernel⟩,
   ⟨on.onRing 7 fun r => { r with enable := false, sqLog2 := 12 }, by decide +kernel⟩⟩

theorem test_witness_SequenceHalt :
    (∃ (dt n : Nat) (slot : List Byte) (s₀ : State), n < 8 ∧ s₀.hif.rings.length = 8 ∧ slot.length = 128 ∧
      let s := advance dt s₀
      s.mayFetch n = true ∧ (s.ring n).ethernet = false ∧ (s.ring n).sqHead ≠ (s.ring n).sqTail ∧ (viewSlot slot).seq ≠ (s.ring n).expSeq) ∧
    (∃ q : Cmd, q.tag < 65536) ∧
    (∃ s : State, s.bar0 = true ∧ ((s.ring 0).enable = true ∨ s.ringFlying 0 ≠ 0)) ∧
    (∃ s : State, s.bar0 = true ∧ (s.ring 0).enable = false ∧ s.ringFlying 0 = 0 ∧ (s.ring 0).halted = true) :=
  ⟨⟨0, 0, slotOf [(8, 4, 5)], on.onRing 0 fun r => { r with sqTail := 1 }, by decide +kernel⟩, ⟨{ cmd0 with tag := 65535 }, by decide⟩,
   ⟨on, by decide +kernel⟩, ⟨on.onRing 0 fun r => { r with enable := false, halted := true }, by decide +kernel⟩⟩

theorem test_witness_MemoryChannels : ∃ (line : Nat) (s : State), line < s.store.lines ∧ line + 1 = s.store.lines :=
  ⟨1006632959, on, by decide +kernel⟩

theorem test_witness_Fences :
    (∃ (q : Cmd) (s₀ : State), Runs 0x0403 layerFenceCheck q s₀ = true ∧
      let s := s₀.begun 0x0403 q
      bit (q.u8 1) 0 = false ∧ q.u32 4 ≤ s.cps.fences.getD (q.u8 0) 0 ∧ s.cps.fences.length = 64) ∧
    (∃ (q : Cmd) (s₀ : State), Runs 0x0403 layerFenceCheck q s₀ = true ∧ bit (q.u8 1) 0 = false ∧ (s₀.begun 0x0403 q).cps.fences.getD (q.u8 0) 0 < q.u32 4) ∧
    (∃ (q : Cmd) (s₀ : State), Runs 0x0403 layerFenceCheck q s₀ = true ∧ bit (q.u8 1) 0 = true) ∧
    (∃ (q : Cmd) (s₀ : State), Starts 0x0403 q s₀ = true ∧ flagFault q = none ∧ firstFail (shape q 8 [(0, 2), (4, 4)]) = none ∧ q.u8 0 < 64 ∧ extraBits (q.u8 1) 1 = false ∧
      bit (q.u8 1) 0 = true ∧ (s₀.begun 0x0403 q).fire.run.isSome = true) :=
  ⟨⟨cmdN 8 [(0, 1, 63)], on, by decide +kernel⟩, ⟨cmdN 8 [(0, 1, 63), (4, 4, 9)], on, by decide +kernel⟩,
   ⟨cmdN 8 [(1, 1, 1)], on, by decide +kernel⟩, ⟨cmdN 8 [(1, 1, 1)], on.onFire fun f => { f with run := some {} }, by decide +kernel⟩⟩

/-- A due flip that waits on fence 5 for 9, of a stored job. -/
theorem test_witness_Fences_flip : ∃ (frame i : Nat) (s : State) (f : Flip) (later : List Flip) (n v : Nat) (j : Job),
    (s.layer i).flips = f :: later ∧ f.target ≤ frame ∧ f.wait = some (n, v) ∧ s.job f.job = some j ∧ j.usable = true ∧ s.cps.fences.getD n 0 < v :=
  ⟨40, 3, (on.onLayer 3 fun l => { l with flips := [{ job := 1, target := 40, wait := some (5, 9) }] }).onStore fun t => { t with jobs := [{ id := 1, st := .ready }] },
   { job := 1, target := 40, wait := some (5, 9) }, [], 5, 9, { id := 1, st := .ready }, by decide +kernel⟩

theorem test_witness_ProtectionTableRoundTrip : ∃ t : ProtTable, t.generation < 2 ^ 32 ∧ t.rings.length = 8 ∧ (∀ e ∈ t.rings, e.role ≤ 3) ∧
    t.perms.length = 4 ∧ (∀ p ∈ t.perms, p.length = 16 ∧ ∀ m ∈ p, m < 2 ^ 16) :=
  ⟨{ defaultTable with generation := 2 ^ 32 - 1 }, by decide +kernel⟩

theorem test_witness_BlockRoundTrip : ∃ (h : ImageHeader) (n : Nat) (raw : List Byte), (h.depth = 8 ∨ h.depth = 16) ∧ 1 ≤ h.channels ∧ h.channels ≤ 9 ∧
    raw.length = h.blockRaw n ∧ raw ≠ [] :=
  ⟨{ format := 4, channels := 4, width := 3, height := 1, blocksX := 1, blocksY := 1 }, 0, [1, 2, 3, 4, 1, 2, 3, 5, 9, 9, 9, 9], by decide⟩

theorem test_witness_TimeConversion : (∃ frac : Nat, frac < 2 ^ 32) ∧ (∃ ns : Nat, ns < 1000000000) :=
  ⟨⟨2 ^ 32 - 1, by decide⟩, ⟨999999999, by decide⟩⟩

theorem test_witness_WritesThatAreIgnored :
    (∃ off : Nat, off < 0x4000 ∧ (off % 4 ≠ 0 ∨ (off ∉ [0x10, 0x14, 0x18, 0x20, 0x24, 0x28] ∧ ¬(0x1000 ≤ off ∧ off < 0x1400) ∧ ¬(0x3000 ≤ off ∧ off < 0x3400)))) ∧
    (∃ off size : Nat, off < 0x4000 ∧ size ≠ 4) ∧ (∃ s : State, s.hif.ready = false) ∧
    (∃ off : Nat, off ∉ [0x00, 0x04, 0x10, 0x14, 0x18, 0x20, 0x24, 0x28, 0x2C, 0x30, 0x3800, 0x3804] ∧ ¬(0x1000 ≤ off ∧ off < 0x1400) ∧
      ¬(0x3000 ≤ off ∧ off < 0x3400)) ∧ (∃ n : Nat, n < 8) ∧ (∃ off size : Nat, size ≠ 4 ∨ off % 4 ≠ 0) ∧ (∃ s : State, s.thm.power ≠ .p4) :=
  ⟨⟨0x3FFC, by decide⟩, ⟨0x1000, 8, by decide⟩, ⟨State.reset, rfl⟩, ⟨0x1400, by decide⟩, ⟨7, by decide⟩, ⟨3, 4, by decide⟩,
    ⟨State.reset, by decide⟩⟩

theorem test_witness_ColourAfterReset : ∃ (hold : List Hold) (cause : Nat) (s t : State), t = deviceReset hold cause s ∨ t = State.reset :=
  ⟨[], 0, on, State.reset, .inr rfl⟩

/-! Worked examples of the spec. -/

/-- 00, the moment 1,700,000,000.25 s. -/
theorem test_time_formats :
    encT (1700000000 * 2 ^ 32 + 2 ^ 30) = [0, 0, 0, 0x40, 0, 0xF1, 0x53, 0x65, 0, 0, 0, 0] ∧
    encN30 1700000000 250000000 = [0x80, 0xB2, 0xE6, 0x0E, 0, 0xF1, 0x53, 0x65, 0, 0, 0, 0] := by decide +kernel

/-- 11 R286, the check values over "123456789". -/
theorem test_crc_checks :
    crc8 [0x31, 0x32, 0x33, 0x34, 0x35, 0x36, 0x37, 0x38, 0x39] = 0xF4 ∧
    crc32c [0x31, 0x32, 0x33, 0x34, 0x35, 0x36, 0x37, 0x38, 0x39] = 0xE3069283 := by decide +kernel

/-- 04, a counter across a power failure: steps 1 and 2. -/
theorem test_counter_reservation :
    let s := on.onCounter 2 1 fun _ => { last := 32766, mark := 65536 }
    (acceptCounter 2 1 32767 s).2.nor.queue = [] ∧
    (acceptCounter 2 1 32768 s).1 = false ∧ ((acceptCounter 2 1 32768 s).2.counter 2 1).last = 32768 ∧
    (acceptCounter 2 1 32768 s).2.nor.queue = [.counter 2 1 98304 false] := by decide +kernel

/-- 07, one small block: ALPHA, 8-bit, 4 pixels by 2 lines. -/
def smallBlock : ImageHeader := { format := 7, depth := 8, channels := 1, width := 4, height := 2, blocksX := 1, blocksY := 1 }
def smallRaw : List Byte := [100, 102, 104, 104, 101, 103, 104, 110]
theorem test_codec_small_block :
    (encodeBlock smallBlock 0 smallRaw).length = 16 ∧ (encodeBlock smallBlock 0 smallRaw).take 4 = [1, 4, 6, 0] ∧
    slice (encodeBlock smallBlock 0 smallRaw) 8 6 = [0x77, 0x08, 0x04, 0x20, 0x04, 0x60] ∧
    decodeBlock smallBlock 0 (encodeBlock smallBlock 0 smallRaw) = some smallRaw := by decide +kernel

/-- 08, one pixel, native and Bilette. -/
def exL0 : LayerCfg := { opacity := 65535, writeMask := 0xFF }
def exP0 : Px := { cov := [51400, 10280, 0, 30840, 0, 0, 0, 0], alpha := 65535 }
def exP1 : Px := { cov := [0, 52428, 0, 0, 39321, 0, 0, 0], alpha := widen 8 191 }
def exInks : List Nat := blendNative exL0 exP1 (blendNative exL0 exP0 (List.replicate 8 0))
theorem test_pixel_native_and_bilette :
    exInks = [12900, 41850, 0, 7740, 29452, 0, 0, 0] ∧
    limitInks { limit := 85000, mask := 0xFF } exInks = (true, [11925, 38690, 0, 7155, 27228, 0, 0, 0]) ∧
    finishInks {} (limitInks { limit := 85000, mask := 0xFF } exInks).2 = [46, 151, 0, 28, 106, 0, 0, 0] ∧
    finishInks {} exInks = [50, 163, 0, 30, 115, 0, 0, 0] ∧
    blendBilette exL0 exP1 (blendBilette exL0 exP0 (List.replicate 8 0)) = [49, 161, 0, 29, 114, 0, 0, 0] := by decide +kernel

/-- 09, one nozzle: the trims of zones 51 and 52 at columns 40,001 and 40,002. -/
def exTrims : BarImage :=
  { trims := [(51, [0, 1024, 2048, 3072, 4096, 5120, 6144, 7300, 8300, 9216, 10240, 11264, 12288, 13312, 14336, 15360, 16384])] }
theorem test_nozzle_trims : exTrims.trimmed 40001 120 = 31040 ∧ exTrims.trimmed 40002 125 = 32312 := by decide +kernel

/-- 10, one stamp: its fire time, then its packet body. -/
theorem test_stamp :
    ({ pairs := [{ time := 1700000000 * 2 ^ 32 + 2 ^ 30, pos := 11575100 * 2 ^ 32 + 2 ^ 31 }], speed := 5039370 * 2 ^ 32, speedValid := true } : Channel).fireTime 1 11575370
      = some (1700000000 * 2 ^ 32 + 0x4003813A) ∧
    stampBody 0 [{ run := 1, target := 5, op := 0, line := 1000, time := 1700000000 * 2 ^ 32 + 0x4003813A }] =
      [0, 0xF1, 0x53, 0x65, 0x3A, 0x81, 0x03, 0x40, 1, 0, 0, 0, 1, 0, 0, 0, 5, 0, 0xE8, 3, 0, 0, 0, 0] := by decide +kernel

/-- 11, one exchange: the history with the new round trip, its mean, and DELAY. -/
theorem test_time_exchange :
    (timeExchange 2148 [2148, 2147, 2150, 2148, 2147, 2149, 2146]).2.1 = 2147 ∧
    sar (2147 + 17 + 1) 1 = 1082 := by decide +kernel

/-- 11 R315, mark A as D moves. -/
theorem test_queue_mark :
    let m : QMark := { level := 30720, hyst := 4096 }
    let a := m.at 30800
    let b := a.1.at 29000
    let c := b.1.at 31000
    let d := c.1.at 26000
    (m.at 30000).2 = false ∧ a.2 = true ∧ b.1.armed = false ∧ c.2 = false ∧ d.1.armed = true ∧ (d.1.at 30720).2 = true := by decide +kernel

/-- 12, one pixel to its cell. -/
def exCam : CamParams :=
  { colOrigin := -1200, colStep := 0x180000, camD := 36283464, rowOrigin := -786432, rowStep := 0x6000000 }
theorem test_camera_place : exCam.column 1500 = 34800 ∧ exCam.webOf 60000000 1000 = 24466104 := by decide +kernel

/-- 14, the hottest sensor fails: its substitute is 105.6 degrees C. -/
theorem test_sensor_substitute :
    let t (v : Int) : Sensor := { temp := v, lastValid := v }
    let s : State := { on with
      thm := { on.thm with sensors := [t 0, t 0, t 1538, t 0, t 0, t 1562, { lastValid := 1651, failed := 8 }, t 1504, t 0, t 0, t 1525, t 0, t 0, t 0, t 0, t 0] } }
    s.dieValue 6 = 1562 + 128 := by decide +kernel

/-- DEV_ID is PART 0x8200, REV 0xA1, CP_MIN 2 and CP_MAX 2 (03 Table 3-3). -/
theorem test_devId : State.reset.readRegister 0 4 = 0x22A18200 := by decide

/-- RING_STATUS after reset shows ROLE 3 in bits 25:24 and nothing else (03 Table 3-6). -/
theorem test_ringStatus : State.reset.readRegister 0x1018 4 = 0x03000000 := by decide

/-! Ill-formed rows: for every check of wellFormed a term that it refuses, and that exec stops on. -/

/-- A host command names one of the eight rings. -/
theorem test_illFormed_commands_1 : let q := ({ ring := 8 } : Cmd); ([.sysIdentify q, .sysHello q, .sysHealth q, .sysAbort q,
    .sysNop q, .sysReset q, .sysConfigSave q, .sysConfigLoad q,
    .sysFwWrite q, .sysFwActivate q, .sysGpio q, .secStatus q,
    .secProtectRead q, .secProtectWrite q, .secKeyLoad q, .secKeyRotate q,
    .secKeyRevoke q, .secLifecycle q, .secDebug q, .secCounterRead q,
    .jobLoad q, .jobEncode q, .jobCancel q, .jobDelete q,
    .jobList q, .jobInfo q, .jobStoreStatus q, .jobRead q,
    .layerConfig q, .layerFlip q, .layerFence q, .layerPalette q,
    .layerTone q, .layerOrder q, .layerGuard q, .layerStatus q,
    .colourInkLimit q, .colourCurves q, .colourLoopConfig q, .colourLoopEnable q] : List Instr).all (fun i => !i.wellFormed) = true := by
  decide +kernel

/-- A host command names one of the eight rings. -/
theorem test_illFormed_commands_2 : let q := ({ ring := 8 } : Cmd); ([.colourTrimRead q, .colourTrimWrite q, .colourProfileSave q, .colourStrip q,
    .colourLedgerRead q, .barConfig q, .barHeadMap q, .barSegments q,
    .barScreen q, .barNozzleMap q, .barDerive q, .barEnable q,
    .barDisable q, .barStatus q, .printStart q, .printStop q,
    .printCapo q, .printLead q, .printOffsets q, .printStatus q,
    .posEncoderConfig q, .posScale q, .posRead q, .posCompare q,
    .posBackup q, .posCalibrate q, .timeConfig q, .timeRead q,
    .timeStep q, .timePtpConfig q, .timeAsymmetry q, .timeTrigger q,
    .timeCapture q, .timeStatus q, .camConfig q, .camPipeline q,
    .camEnable q, .camCalibrate q, .camFrameRead q, .camArchive q] : List Instr).all (fun i => !i.wellFormed) = true := by
  decide +kernel

/-- A host command names one of the eight rings. -/
theorem test_illFormed_commands_3 : let q := ({ ring := 8 } : Cmd); ([.camStatus q, .linkCourseConfig q, .linkTrain q, .linkLaneSlip q,
    .linkPrbs q, .linkInject q, .linkQueueFlush q, .linkStatus q,
    .linkEthConfig q, .linkMarks q, .headDiscover q, .headMirRead q,
    .headGateTest q, .headEnable q, .headDisable q, .headStatus q,
    .headBridgeMgmt q, .thermLevels q, .thermRead q, .thermSensorTrim q,
    .thermPowerState q, .thermPmbus q, .thermBudget q, .pairConfig q,
    .pairHealth q, .pairHandover q, .pairMirror q, .pairStatus q,
    .pairRejoin q, .statFrameRecord q, .statCounters q, .statClear q,
    .statEventMask q, .statEventFetch q, .statPeaks q, .diagSelfTest q,
    .diagUnitRestore q, .diagUnitRetire q, .diagMemTest q, .diagRegRead q] : List Instr).all (fun i => !i.wellFormed) = true := by
  decide +kernel

/-- A host command names one of the eight rings. -/
theorem test_illFormed_commands_4 : let q := ({ ring := 8 } : Cmd); ([.diagInject q, .diagTrace q] : List Instr).all (fun i => !i.wellFormed) = true := by
  decide +kernel

/-- The checks of the other rows, each failing alone. -/
theorem test_illFormed_rows_1 : ([.ethPortRetrained 0 2 false, .sqDb 0 8 0, .cqDb 0 8 0, .ringEnableSet 0 8,
    .ringEnableClear 0 8, .ringReset 0 8, .bar2WindowRead 0 0x4000000 1 false, .bar2WindowWrite 0 0x4000000 [0],
    .registerWrite 0 0x4000 0 0, .slotFetch 0 8 (List.replicate 128 0) [] [] [] false, .slotFetch 0 0 (List.replicate 127 0) [] [] [] false, .completionCoalesceTimeout 0 8,
    .eventCoalesceTimeout 0 7, .eventCoalesceTimeout 0 64, .commandDatagram 0 2 default none 0 0 [], .arpRequest 0 2 none 0 0 0,
    .icmpEchoRequest 0 2 none 0 0 0 0 [], .ptpMessage 0 2 default 0 default, .pathHoldExpiry 0 2, .announceTimeout 0 2,
    .holdoverWarn 0 2, .ptpMasterSend 0 2 false, .ptpDelayRequest 0 2, .tbfReload 0 2,
    .triggerFire 0 16, .conversionComplete 0 4 0 0, .captureInputEdge 0 16 false, .encoderEdge 0 4 false false false 0,
    .compareCatchUpFire 0 16, .encoderStall 0 4, .sendDeadline 0 10 0, .sendDeadline 0 0 32,
    .stampFormation 0 10 0 0, .stampFormation 0 0 32 0, .stampFormation 0 0 0 8, .renderHeadLine 0 10 0,
    .blockDecode 0 5 0 0 0 false false, .unitRetirement 0 0xFFFF, .packetReceive 0 22 (List.replicate 8 0) [] 0 false, .packetReceive 0 0 (List.replicate 7 0) [] 0 false] : List Instr).all (fun i => !i.wellFormed) = true := by
  decide +kernel

/-- The checks of the other rows, each failing alone. -/
theorem test_illFormed_rows_2 : ([.packetReceive 0 0 (List.replicate 8 0) [] (2 ^ 32) false, .ackReceive 0 22 default 0 0, .ackReceive 0 0 default 65536 0, .ackReceive 0 0 default 0 256,
    .nakReceive 0 22 default 0 0, .nakReceive 0 0 default 65536 0, .nakReceive 0 0 default 0 256, .creditReceive 0 22 default 0 0,
    .creditReceive 0 0 default (2 ^ 32) 0, .creditReceive 0 0 default 0 256, .alignReceive 0 22 0 (List.replicate 8 0) 0, .alignReceive 0 0 4 (List.replicate 8 0) 0,
    .alignReceive 0 0 0 (List.replicate 7 0) 0, .alignSend 0 22, .ackTimeout 0 11 default, .nakRepeat 0 11 default,
    .creditSend 0 11 default, .linePacketSend 0 10 0, .stampPacketSend 0 10, .blockLockLost 0 24,
    .blockLockGained 0 24, .huntSlip 0 24, .laneDown 0 24, .courseRetrain 0 11,
    .timeSyncSend 0 11, .timeEcho 0 10 0 0 0, .bridgeHello 0 10 [], .claimAck 0 10 [],
    .claimAckTimeout 0 10, .ownerChanged 0 10 0 0, .bridgeStatus 0 10 [], .mgmtReply 0 10 [],
    .headTempStale 0 10, .barSilenceHalt 0 10, .csiFrameStart 0 4 0 default, .csiLinePacket 0 4 0 0 0 [] default false,
    .csiFrameEnd 0 4 0 default, .exposureMid 0 4 0, .exposureRecordTimeout 0 4 0, .camCalibrateHoldEnd 0 4] : List Instr).all (fun i => !i.wellFormed) = true := by
  decide +kernel

/-- The checks of the other rows, each failing alone. -/
theorem test_illFormed_rows_3 : ([.gatePulse 0 10, .thermalSample 0 (List.replicate 15 none), .hardwareTrip 0 (List.replicate 15 0) false, .pmbusPoll 0 16 default,
    .wake 0 (some 16), .heartbeatReceive 0 22 0 0 0, .heartbeatReceive 0 20 65536 0 0, .prbsCheckerInput 0 22 [],
    .hsSyncLost 0 4 0, .hsSyncLost 0 0 4, .hsSyncRegained 0 4 0, .hsSyncRegained 0 0 4,
    .i2cTransferDone 0 6 false [], .gateTestShot 0 10, .gateTestEnd 0 10, .posCalibrateTimeout 0 4,
    .mgmtReplyTimeout 0 10, .linkTrainTimeout 0 11, .pllLockLost 0 0, .pllRelocked 0 0,
    .lockstepMismatch 0 2] : List Instr).all (fun i => !i.wellFormed) = true := by
  decide +kernel

/-- Exec stops on an ill-formed row by name. -/
theorem test_illFormed_stops : exec (.sqDb 0 8 0) on = .fault .noSuchUnit ∧ exec (.sysNop ({ ring := 8 } : Cmd)) on = .fault .noSuchUnit := ⟨rfl, rfl⟩


end Sys2Proof.Tests
end

section
/-!
PROOFS. BAR0 as the host sees it: what the doorbell, ring control and register rows leave alone, and what a read of an offset that
Table 3-2 does not list gives (spec/03_command_interface.md, R8, R48, R49).
-/
namespace Sys2Proof.Machine

/-! What each host register row answers. -/

@[simp] theorem onUnit_true (s : State) : onUnit true s = .next s := rfl

theorem exec_sqDb (dt n v : Nat) (s : State) :
    exec (.sqDb dt n v) s = onUnit (decide (n < 8)) (writeSqDb n v (advance dt s)) := rfl

theorem exec_cqDb (dt n v : Nat) (s : State) :
    exec (.cqDb dt n v) s = onUnit (decide (n < 8)) (writeCqDb n v (advance dt s)) := rfl

theorem exec_evqDb (dt v : Nat) (s : State) : exec (.evqDb dt v) s = .next (writeEvqDb v (advance dt s)) := rfl

theorem exec_ringEnableSet (dt n : Nat) (s : State) :
    exec (.ringEnableSet dt n) s = onUnit (decide (n < 8)) (enableRing n (advance dt s)) := rfl

theorem exec_ringEnableClear (dt n : Nat) (s : State) :
    exec (.ringEnableClear dt n) s = onUnit (decide (n < 8))
      (if (advance dt s).bar0 then (advance dt s).onRing n fun r => { r with enable := false } else advance dt s) := rfl

theorem exec_ringReset (dt n : Nat) (s : State) :
    exec (.ringReset dt n) s = onUnit (decide (n < 8)) (resetRing n (advance dt s)) := rfl

theorem exec_registerWrite (dt off size v : Nat) (s : State) :
    exec (.registerWrite dt off size v) s = onUnit (decide (off < 0x4000))
      (if size = 4 then writeRegister off v (advance dt s) else advance dt s) := rfl

/-! While BAR0 takes no doorbell and no ring configuration, their writes are ignored (R49). -/

theorem bar0_eq_false_of_not_ready {s : State} (h : s.hif.ready = false) : s.bar0 = false := by
  simp [State.bar0, h]

section
variable {s : State} (h : s.bar0 = false)
include h

theorem writeSqDb_of_not_bar0 (n v : Nat) : writeSqDb n v s = s := by simp [writeSqDb, h]

theorem writeCqDb_of_not_bar0 (n v : Nat) : writeCqDb n v s = s := by simp [writeCqDb, h]

theorem writeEvqDb_of_not_bar0 (v : Nat) : writeEvqDb v s = s := by simp [writeEvqDb, h]

theorem enableRing_of_not_bar0 (n : Nat) : enableRing n s = s := by simp [enableRing, h]

theorem resetRing_of_not_bar0 (n : Nat) : resetRing n s = s := by simp [resetRing, h]

end

/-- The five rows that act on one ring do nothing but let time pass while BAR0 takes nothing. -/
theorem exec_ringRows_of_not_bar0 {dt n : Nat} {s : State} (hn : n < 8) (h : (advance dt s).bar0 = false) (v : Nat) :
    exec (.sqDb dt n v) s = .next (advance dt s) ∧ exec (.cqDb dt n v) s = .next (advance dt s) ∧
    exec (.ringEnableSet dt n) s = .next (advance dt s) ∧ exec (.ringEnableClear dt n) s = .next (advance dt s) ∧
    exec (.ringReset dt n) s = .next (advance dt s) := by
  simp [exec_sqDb, exec_cqDb, exec_ringEnableSet, exec_ringEnableClear, exec_ringReset, hn, h,
    writeSqDb_of_not_bar0, writeCqDb_of_not_bar0, enableRing_of_not_bar0, resetRing_of_not_bar0]

/-! Where a register write goes (R48). -/

theorem writeRegister_misaligned {off : Nat} (h : off % 4 ≠ 0) (v : Nat) (s : State) : writeRegister off v s = s := by
  simp [writeRegister, h]

/-- Outside the registers of the window and the event ring, the ring blocks and the MSI-X table, REGISTER_WRITE finds nothing to
write. EVQ_ENABLE and the doorbells lie there too: writes of them are rows of their own. -/
theorem writeRegister_unlisted {off : Nat} (hlist : off ∉ [0x10, 0x14, 0x18, 0x20, 0x24, 0x28])
    (hring : ¬(0x1000 ≤ off ∧ off < 0x1400)) (hmsix : ¬(0x3000 ≤ off ∧ off < 0x3400)) (v : Nat) (s : State) :
    writeRegister off v s = s := by
  simp only [List.mem_cons, List.not_mem_nil, or_false, not_or] at hlist
  simp [writeRegister, hlist, hring, hmsix]

/-- A write into a ring's block reaches the ring only in a power state that has BAR0, at an aligned offset, and with READY (R49). -/
theorem writeRegister_ringBlock {off : Nat} (hlo : 0x1000 ≤ off) (hhi : off < 0x1400) (v : Nat) (s : State) :
    writeRegister off v s =
      if s.thm.power = .p3 ∨ s.thm.power = .p4 ∨ off % 4 ≠ 0 ∨ s.hif.ready = false then s
      else writeRingReg ((off - 0x1000) / 0x80) ((off - 0x1000) % 0x80) v s := by
  have hlist : off ≠ 0x10 ∧ off ≠ 0x14 ∧ off ≠ 0x18 ∧ off ≠ 0x20 ∧ off ≠ 0x24 ∧ off ≠ 0x28 := by omega
  cases hready : s.hif.ready <;> simp [writeRegister, hlist, hlo, hhi, hready, or_assoc]

theorem writeRegister_ringBlock_of_not_ready {off : Nat} {s : State} (hlo : 0x1000 ≤ off) (hhi : off < 0x1400)
    (h : s.hif.ready = false) (v : Nat) : writeRegister off v s = s := by
  simp [writeRegister_ringBlock hlo hhi, h]

/-! What a read gives (R8, R48). -/

theorem readRegister_wrong_access {off size : Nat} (h : size ≠ 4 ∨ off % 4 ≠ 0) (s : State) : s.readRegister off size = 0 := by
  rcases h with h | h <;> simp [State.readRegister, h]

/-- Outside the readable registers of Table 3-2 there is only 0. The doorbells, which are write-only, lie there. -/
theorem readWord_unlisted {off : Nat}
    (hlist : off ∉ [0x00, 0x04, 0x10, 0x14, 0x18, 0x20, 0x24, 0x28, 0x2C, 0x30, 0x3800, 0x3804])
    (hring : ¬(0x1000 ≤ off ∧ off < 0x1400)) (hmsix : ¬(0x3000 ≤ off ∧ off < 0x3400)) (s : State) : s.readWord off = 0 := by
  simp only [List.mem_cons, List.not_mem_nil, or_false, not_or] at hlist
  simp [State.readWord, hlist, hring, hmsix]

theorem readRegister_unlisted {off : Nat}
    (hlist : off ∉ [0x00, 0x04, 0x10, 0x14, 0x18, 0x20, 0x24, 0x28, 0x2C, 0x30, 0x3800, 0x3804])
    (hring : ¬(0x1000 ≤ off ∧ off < 0x1400)) (hmsix : ¬(0x3000 ≤ off ∧ off < 0x3400)) (size : Nat) (s : State) :
    s.readRegister off size = 0 := by
  simp [State.readRegister, readWord_unlisted hlist hring hmsix]

/-- The doorbells of the rings and of the event ring fill 0x2000 to 0x2043. -/
theorem readRegister_doorbell {off : Nat} (hlo : 0x2000 ≤ off) (hhi : off ≤ 0x2040) (size : Nat) (s : State) :
    s.readRegister off size = 0 := by
  have hlist : off ∉ [0x00, 0x04, 0x10, 0x14, 0x18, 0x20, 0x24, 0x28, 0x2C, 0x30, 0x3800, 0x3804] := by
    simp only [List.mem_cons, List.not_mem_nil, or_false]; omega
  exact readRegister_unlisted hlist (by omega) (by omega) size s

/-- DEV_ID answers in every power state but P4, in P3 from the reduced responder (14 R378). -/
theorem readRegister_devId {s : State} (h : s.thm.power ≠ .p4) : s.readRegister 0 4 = devId := by
  simp [State.readRegister, State.readWord, h]

/-- Settles O60: each clause is where the register map sends the access, or the gate that READY is on doorbells and ring control. -/
theorem writesThatAreIgnored : Obligations.WritesThatAreIgnored := by
  intro dt s₀ s
  refine ⟨fun off v hoff h => ?_, fun off size v hoff hsize => ?_, fun hready => ⟨fun n v hn => ?_, fun v => ?_, fun off v hlo hhi => ?_⟩,
    fun off hlist hring hmsix => readRegister_unlisted hlist hring hmsix 4 s,
    fun n hn => ⟨?_, ?_⟩, readRegister_doorbell (by decide) (by decide) 4 s,
    fun off size h => readRegister_wrong_access h s, readRegister_devId⟩
  · have hkeep : writeRegister off v s = s := by
      rcases h with halign | ⟨hlist, hring, hmsix⟩
      · exact writeRegister_misaligned halign v s
      · exact writeRegister_unlisted hlist hring hmsix v s
    simp [exec_registerWrite, hoff, hkeep, s]
  · simp [exec_registerWrite, hoff, hsize, s]
  · exact exec_ringRows_of_not_bar0 hn (bar0_eq_false_of_not_ready hready) v
  · rw [exec_evqDb, writeEvqDb_of_not_bar0 (bar0_eq_false_of_not_ready hready)]
  · have hoff : off < 0x4000 := by omega
    simp [exec_registerWrite, hoff, writeRegister_ringBlock_of_not_ready hlo hhi hready, s]
  · exact readRegister_doorbell (by omega) (by omega) 4 s
  · exact readRegister_doorbell (by omega) (by omega) 4 s

end Sys2Proof.Machine
end

section
/-!
PROOFS. The rows of a run: where a row's condition holds, exec answers the row's own effect on the state in which its time has passed,
and for the rows that read progress, in which progress has advanced (spec/10_firing.md R258 to R277, spec/09_bar_rendering.md R229,
spec/08_composition_and_colour.md R206, R212, spec/01_print_model.md R20). Each lemma names that state `s`.
-/
namespace Sys2Proof.Machine

variable {dt : Nat} {s₀ s : State} {r : Run}

/-! The rows of progress: the estimate, ticks, readiness points, the run's end and stamps. -/

/-- R260: with or without a run, the limit is judged anew on the estimate. -/
theorem exec_webEstimateUpdate (hs : advanceProgress (advance dt s₀) = s) :
    exec (.webEstimateUpdate dt) s₀ = .next (checkLimit s) := by
  change execWebEstimateUpdate dt s₀ = _
  rw [execWebEstimateUpdate, hs]

section
variable (hs : advanceProgress (advance dt s₀) = s) (hrun : s.fire.run = some r)
include hs hrun

/-- R20: progress has reached the start of the next line, and the run is this device's own. -/
theorem exec_lineTick_due (hdue : s.tickDue r = true) (hown : s.copies = false) :
    exec (.lineTick dt) s₀ = .next (lineTick r s) := by
  change execLineTick dt s₀ = _
  simp [execLineTick, hs, hrun, hdue, hown]

/-- R206: the point of a frame that the run prints is reached on a device that decides its own frames. -/
theorem exec_readinessPoint_reached {f : FrameStart} (hf : s.startOf r s.cps.nextFrame = f) (hwants : r.wants f.line = true)
    (hgoing : r.dueOver = false) (hstop : r.stop = none) (hstandby : s.pair.st ≠ .standby) (hjoining : s.pair.st ≠ .joining)
    (hready : s.readyNow r f = true) : exec (.readinessPoint dt) s₀ = .next (readyFrame r f s) := by
  change execReadinessPoint dt s₀ = _
  simp [execReadinessPoint, hs, hrun, hf, hwants, hgoing, hstop, hstandby, hjoining, hready]

/-- R258: the run ends for the reason of the stop that is under way, or else since FRAMES is reached (reason 2). -/
theorem exec_runEnd_done (hdone : s.runDone r = true) (hown : s.copies = false) :
    exec (.runEnd dt) s₀ = .next (runEnd ((r.stop.map (·.reason)).getD 2) s) := by
  change execRunEnd dt s₀ = _
  simp [execRunEnd, hs, hrun, hdone, hown]

end

/-- R266: the row's line is judged as sent only where the course carries its packet. -/
theorem exec_stampFormation_next {bar head row n : Nat} {h : HeadRun} {w : RowRun} {sent skip : Bool}
    (hs : pump bar (advanceProgress (advance dt s₀)) = s) (hbar : bar < 10) (hhead : head < 32) (hrow : row < 8)
    (hrun : s.fire.run = some r) (hh : r.headRun bar head = some h) (hw : h.rows.find? (·.row == row) = some w)
    (hnext : nextStamp (s.bar bar) h w = some (n, sent, skip)) (hprint : s.mayPrint = true) (hv2 : s.isV1 bar = false)
    (hroom : (s.course bar).prio.length < prioCap) :
    exec (.stampFormation dt bar head row) s₀ = .next (doStamp h w n
      (planStamp r h w n (sent && (s.course bar).carried ((s.bar bar).place head).slot n) skip s) s) := by
  change execStampFormation dt bar head row s₀ = _
  simp [execStampFormation, hs, hbar, hhead, hrow, hrun, hh, hw, hnext, hprint, hv2, hroom]

/-! The print inhibit (R277). -/

theorem exec_printInhibitAssert_edge (hs : advance dt s₀ = s) (hclock : s.posRuns = true) (hlevel : s.fire.inhibit = false) :
    exec (.printInhibitAssert dt) s₀ = .next (setInhibit true s) := by
  change execPrintInhibitAssert dt s₀ = _
  simp [execPrintInhibitAssert, hs, hclock, hlevel]

theorem exec_printInhibitRelease_edge (hs : advance dt s₀ = s) (hclock : s.posRuns = true) (hlevel : s.fire.inhibit = true) :
    exec (.printInhibitRelease dt) s₀ = .next (setInhibit false s) := by
  change execPrintInhibitRelease dt s₀ = _
  simp [execPrintInhibitRelease, hs, hclock, hlevel]

/-- R265: the first line that the deadline can still make late has reached it. -/
theorem exec_sendDeadline_passed {bar head : Nat} {h : HeadRun} {d : DueLine} (hs : advance dt s₀ = s) (hbar : bar < 10)
    (hhead : head < 32) (hrun : s.fire.run = some r) (hh : r.headRun bar head = some h)
    (hd : h.due.find? (fun d => d.open (s.course bar).up) = some d) (hprint : s.mayPrint = true)
    (hpast : s.pastDeadline r bar head d.line = true) :
    exec (.sendDeadline dt bar head) s₀ = .next (settleSwap bar (lateLine bar head d.line s)) := by
  change execSendDeadline dt bar head s₀ = _
  simp [execSendDeadline, hs, hbar, hhead, hrun, hh, hd, hprint, hpast]

/-- What a bar's engine does when it is in service and it is some head's turn (R229): it goes on with the packet it writes; else a line
past its send deadline is late (R265), and one that may start is rendered. -/
theorem exec_renderHeadLine_turn {bar clocks : Nat} {h : HeadRun} {d : DueLine} (hs : advance dt s₀ = s) (hbar : bar < 10)
    (hrun : s.fire.run = some r) (hnext : s.nextRender bar = some (h, d)) (hprint : s.mayPrint = true)
    (hpll : bit s.board.pllLost 1 = false) (hswap : s.swapBusy bar = false)
    (hretired : s.isRetired (unitBre (s.bar bar).engine) = false) (hdoomed : s.isDoomed (unitBre (s.bar bar).engine) = false) :
    exec (.renderHeadLine dt bar clocks) s₀ = .next (settleSwap bar
      (if (s.course bar).written then writeOn bar clocks s
       else if s.pastDeadline r bar h.head d.line then lateLine bar h.head d.line (bump (ctr 6 bar 1) 1 s)
       else if !d.early && (s.lineEnv r bar d.line d.tick).ready h.head then
         writeOn bar clocks (renderLine (s.lineEnv r bar d.line d.tick) bar h.head d.line s)
       else s)) := by
  change execRenderHeadLine dt bar clocks s₀ = _
  simp only [execRenderHeadLine, hs, hrun, hnext, hprint, hpll, hswap, hretired, hdoomed, hbar, decide_true, onUnit_true,
    Bool.not_true, Bool.or_self, Bool.false_eq_true, if_false]

/-! Composition: the fronts left without a window are looked at again before the row chooses its line (R212, R247). -/

section
variable {t : State} (hs : advance dt s₀ = s) (ht : reserveFronts r s = t) (hrun : s.fire.run = some r) (hpower : s.thm.power = .p0)
  (hpll : bit s.board.pllLost 1 = false) (hpipes : s.pipes ≠ 0)
include hs ht hrun hpower hpll hpipes

theorem exec_composeContoneLine_front {b : Nat} {f : Front} (hturn : t.frontTurn r = some (b, f)) :
    exec (.composeContoneLine dt) s₀ = .next (composeFront r b f t) := by
  change execComposeContoneLine dt s₀ = _
  simp [execComposeContoneLine, hs, ht, hrun, hpower, hpll, hpipes, hturn]

theorem exec_composeContoneLine_next {f : Frame} (hturn : t.frontTurn r = none) (hf : t.clFrame t.cps.nextCl = some f)
    (hasked : t.asked r t.cps.nextCl = true) (hcomposes : r.composes t.cps.nextCl = true)
    (hwaits : t.pair.waits.any (fun w => w.frame == some f.number) = false) (hroom : t.cps.nextCl < t.ringOldest r + r.ringLines) :
    exec (.composeContoneLine dt) s₀ = .next (composeNext r t.cps.nextCl f t) := by
  have hfree : ¬ t.ringOldest r + r.ringLines ≤ t.cps.nextCl := Nat.not_le.2 hroom
  change execComposeContoneLine dt s₀ = _
  simp only [execComposeContoneLine, hs, ht, hrun, hpower, hpll, beq_eq_false_iff_ne.2 hpipes, hturn, hf, hasked, hcomposes, hwaits,
    hfree, bne_self_eq_false, Bool.not_true, Bool.or_self, Bool.false_eq_true, if_false]

end

/-- Settles O30: clause by clause, the row's effect where its condition holds; a rendering row splits on the packet being written, the
send deadline and the ring. -/
theorem firingRowsComplete : Obligations.FiringRowsComplete := by
  refine ⟨?estimate, ?tick, ?readiness, ?deadline, ?stamp, ?done, ?inhibit, ?release, ?render, ?renderLate, ?renderOn, ?compose, ?front⟩
  case estimate => exact fun dt s₀ => exec_webEstimateUpdate rfl
  case tick => exact fun dt s₀ r hrun => exec_lineTick_due rfl hrun
  case readiness => exact fun dt s₀ r hrun => exec_readinessPoint_reached rfl hrun rfl
  case deadline => exact fun dt bar head s₀ r h d => exec_sendDeadline_passed rfl
  case stamp =>
    exact fun dt bar head row s₀ r h w ⟨n, sent, skip⟩ => exec_stampFormation_next rfl
  case done => exact fun dt s₀ r hrun => exec_runEnd_done rfl hrun
  case inhibit => exact fun dt s₀ => exec_printInhibitAssert_edge rfl
  case release => exact fun dt s₀ => exec_printInhibitRelease_edge rfl
  case render =>
    intro dt bar clocks s₀ r h d s hbar hrun hnext hprint hpll hswap hretired hdoomed hnew htime hearly hready
    rw [exec_renderHeadLine_turn rfl hbar hrun hnext hprint hpll hswap hretired hdoomed]
    simp [s, hnew, htime, hearly, hready]
  case renderLate =>
    intro dt bar clocks s₀ r h d s hbar hrun hnext hprint hpll hswap hretired hdoomed hnew hpast
    rw [exec_renderHeadLine_turn rfl hbar hrun hnext hprint hpll hswap hretired hdoomed]
    simp [s, hnew, hpast]
  case renderOn =>
    intro dt bar clocks s₀ r h d s hbar hrun hnext hprint hpll hswap hretired hdoomed hwritten
    rw [exec_renderHeadLine_turn rfl hbar hrun hnext hprint hpll hswap hretired hdoomed]
    simp [s, hwritten]
  case compose => exact fun dt s₀ r f hrun hpower hpll hpipes => exec_composeContoneLine_next rfl rfl hrun hpower hpll hpipes
  case front => exact fun dt s₀ r b f hrun hpower hpll hpipes => exec_composeContoneLine_front rfl rfl hrun hpower hpll hpipes

end Sys2Proof.Machine
end

section
/-!
PROOFS. Where a row answers: a host command's row is the run of its opcode's entry of the table, and every row stops exactly where it
names a unit that the device does not have (spec/02_architecture.md, R29, R158).
-/
namespace Sys2Proof.Machine

/-! The next state of a row, or the fault of a unit that is not there. -/

@[simp] theorem onUnit_false (s : State) : onUnit false s = .fault .noSuchUnit := rfl

/-- The row of a host command stops where it names no ring; else it answers, whatever its checks and its effect. -/
theorem runCmd_eq_onUnit (op : Nat) (check : Cmd → State → Option Reply) (effect : Cmd → State → Ans) (q : Cmd) (s : State) :
    ∃ t, runCmd op check effect q s = onUnit (decide (q.ring < 8)) t := by
  by_cases hring : q.ring < 8
  · simp only [runCmd, Nat.not_le.2 hring, hring, decide_true, onUnit_true, if_false]
    by_cases hfetch : (advance q.dt s).mayFetch q.ring = true
    · by_cases hfree : ((advance q.dt s).flying q.id).isSome = true
      · exact ⟨tagInFlight op q (advance q.dt s), by simp [hfetch, hfree]⟩
      · exact ⟨launch op check effect q (advance q.dt s), by simp [hfetch, hfree]⟩
    · exact ⟨advance q.dt s, by simp [hfetch]⟩
  · exact ⟨s, by simp [runCmd, hring, Nat.not_lt.1 hring]⟩

/-- A host command's row runs its opcode's checks and effect of the table (Table 3-19). -/
theorem exec_hostCommand {c : Instr} {op : Nat} {q : Cmd} (h : hostCommand c = some (op, q)) (s : State) :
    exec c s = runCmd op (opTable op).1 (opTable op).2 q s := by
  cases c <;> cases h <;> rfl

theorem wellFormed_hostCommand {c : Instr} {op : Nat} {q : Cmd} (h : hostCommand c = some (op, q)) :
    c.wellFormed = decide (q.ring < 8) := by
  cases c <;> cases h <;> rfl

/-- The criteria of YIELD_CRITERION_TIMER name no unit: it answers where it is not due, and where it is. -/
theorem exec_yieldCriterionTimer_answers (dt peerUp : Nat) (peerMoves : Bool) (s : State) :
    ∃ t, exec (.yieldCriterionTimer dt peerUp peerMoves) s = .next t := by
  change ∃ t, execYieldCriterionTimer dt peerUp peerMoves s = .next t
  unfold execYieldCriterionTimer
  by_cases hdue : ((advance dt s).pair.st != .active || !bit (advance dt s).pair.peerFlags 2) = true
  · exact ⟨_, if_pos hdue⟩
  · exact ⟨_, if_neg hdue⟩

theorem exec_memoryReadComplete (dt line : Nat) (owner : Owner) (ecc : EccResult) (s : State) :
    exec (.memoryReadComplete dt line owner ecc) s =
      onUnit (decide (line < (advance dt s).store.lines)) (memoryRead line owner ecc (advance dt s)) := rfl

/-- No time changes the store, nor how much memory is fitted. -/
@[simp] theorem advance_store (n : Nat) (s : State) : (advance n s).store = s.store := by
  obtain ⟨t, ht⟩ := advance_onTim n s
  rw [ht]

/-- Every other row is judged by the units it names: the guard of its arm is the row's own check. -/
theorem exec_row {c : Instr} (hcmd : hostCommand c = none) (hread : ∀ dt line owner ecc, c ≠ .memoryReadComplete dt line owner ecc)
    (s : State) : ∃ t, exec c s = onUnit c.wellFormed t := by
  cases c
  case memoryReadComplete dt line owner ecc => exact absurd rfl (hread dt line owner ecc)
  case yieldCriterionTimer dt peerUp peerMoves => exact exec_yieldCriterionTimer_answers dt peerUp peerMoves s
  all_goals cases hcmd
  all_goals exact ⟨_, rfl⟩

/-- But for a read of device memory, a row answers a next state where it is well-formed and stops where it is not. -/
theorem exec_eq_onUnit {c : Instr} (hread : ∀ dt line owner ecc, c ≠ .memoryReadComplete dt line owner ecc) (s : State) :
    ∃ t, exec c s = onUnit c.wellFormed t := by
  cases hcmd : hostCommand c with
  | none => exact exec_row hcmd hread s
  | some x =>
    obtain ⟨op, q⟩ := x
    rw [exec_hostCommand hcmd, wellFormed_hostCommand hcmd]
    exact runCmd_eq_onUnit op _ _ q s

/-- Settles O8: a read of device memory is judged by the lines that are fitted, every other row by its own check. -/
theorem rowsAlwaysAnswer : Obligations.RowsAlwaysAnswer := by
  intro c s
  by_cases hread : ∃ dt line owner ecc, c = .memoryReadComplete dt line owner ecc
  · obtain ⟨dt, line, owner, ecc, rfl⟩ := hread
    refine ⟨fun _ hfitted => ⟨memoryRead line owner ecc (advance dt s), ?_⟩, fun h => nomatch h⟩
    simp [exec_memoryReadComplete, hfitted dt line owner ecc rfl]
  · obtain ⟨t, ht⟩ := exec_eq_onUnit (fun dt line owner ecc h => hread ⟨dt, line, owner, ecc, h⟩) s
    exact ⟨fun hwf _ => ⟨t, by rw [ht, hwf, onUnit_true]⟩, fun hwf => by rw [ht, hwf, onUnit_false]⟩

end Sys2Proof.Machine
end

section
/-!
PROOFS. What the completion of a command leaves unchanged (spec/02_architecture.md, R33; spec/03_command_interface.md, R62): of the host
interface every ring but its own and every other command in flight, and outside it everything but the configuration in force.
-/
namespace Sys2Proof.Machine

/-! The other rings and what is in flight. Posting an event touches neither; a completion touches its own ring. -/

/-- The rings with ring n left out, and the commands in flight. -/
def State.besideRing (n : Nat) (s : State) : List Ring × List InFlight := (s.hif.rings.set n {}, s.hif.inflight)

@[simp] theorem besideRing_ite (n : Nat) (c : Prop) [Decidable c] (a b : State) :
    (if c then a else b).besideRing n = if c then a.besideRing n else b.besideRing n := by
  split <;> rfl

@[simp] theorem besideRing_onStat (n : Nat) (f : Stat → Stat) (s : State) : (s.onStat f).besideRing n = s.besideRing n := (rfl)
@[simp] theorem besideRing_onBoard (n : Nat) (f : Board → Board) (s : State) : (s.onBoard f).besideRing n = s.besideRing n := (rfl)
@[simp] theorem besideRing_emit (n : Nat) (o : Output) (s : State) : (s.emit o).besideRing n = s.besideRing n := (rfl)
@[simp] theorem besideRing_onVec (n v : Nat) (f : EvVec → EvVec) (s : State) : (s.onVec v f).besideRing n = s.besideRing n := (rfl)

@[simp] theorem besideRing_onHif (n : Nat) (f : Hif → Hif) (s : State) (hf : ∀ h, (f h).rings = h.rings ∧ (f h).inflight = h.inflight) :
    (s.onHif f).besideRing n = s.besideRing n := by
  simp [State.besideRing, hf]

/-- A change of ring n is none beside it. -/
@[simp] theorem besideRing_onRing (n : Nat) (f : Ring → Ring) (s : State) : (s.onRing n f).besideRing n = s.besideRing n := by
  simp only [State.besideRing, State.onRing, State.onHif_hif, upd, Prod.mk.injEq, and_true]
  refine List.ext_getElem (by simp) fun i hi hi' => ?_
  by_cases h : n = i
  · subst h; simp
  · simp [h]

@[simp] theorem besideRing_onRec (n : Nat) (f : Record → Record) (s : State) : (s.onRec f).besideRing n = s.besideRing n := by
  unfold State.onRec; simp
@[simp] theorem besideRing_bump (n k : Nat) (v : Int) (s : State) : (bump k v s).besideRing n = s.besideRing n := by
  unfold bump; simp
@[simp] theorem besideRing_sendVector (n v : Nat) (s : State) : (sendVector v s).besideRing n = s.besideRing n := by
  unfold sendVector; simp
@[simp] theorem besideRing_flushEvVec (n v : Nat) (s : State) : (flushEvVec v s).besideRing n = s.besideRing n := by
  simp [flushEvVec]
@[simp] theorem besideRing_raiseEvVec (n v : Nat) (c : Bool) (s : State) : (raiseEvVec v c s).besideRing n = s.besideRing n := by
  unfold raiseEvVec; simp
@[simp] theorem besideRing_writeEntry (n : Nat) (e : Event) (s : State) : (writeEntry e s).besideRing n = s.besideRing n := by
  unfold writeEntry; simp
@[simp] theorem besideRing_loseEntry (n : Nat) (e : Event) (s : State) : (loseEntry e s).besideRing n = s.besideRing n := by
  simp [loseEntry]
@[simp] theorem besideRing_toHistory (n : Nat) (e : Event) (s : State) : (toHistory e s).besideRing n = s.besideRing n := by
  simp [toHistory]
@[simp] theorem besideRing_reportLost (n : Nat) (s : State) : (reportLost s).besideRing n = s.besideRing n := by
  unfold reportLost; simp
@[simp] theorem besideRing_postEntry (n : Nat) (e : Event) (s : State) : (postEntry e s).besideRing n = s.besideRing n := by
  unfold postEntry; simp
@[simp] theorem besideRing_post (n code source p1 p2 : Nat) (s : State) : (post code source p1 p2 s).besideRing n = s.besideRing n := by
  simp [post]
@[simp] theorem besideRing_settleFloor (n : Nat) (s : State) : (settleFloor s).besideRing n = s.besideRing n := by
  unfold settleFloor
  split
  · dsimp only
    split <;> simp
  · rfl

@[simp] theorem besideRing_raiseRing (n : Nat) (s : State) : (raiseRing n s).besideRing n = s.besideRing n := by
  unfold raiseRing; simp
@[simp] theorem besideRing_writeCompletion (n op : Nat) (q : Cmd) (r : Reply) (s : State) :
    (writeCompletion n op q r s).besideRing n = s.besideRing n := by
  simp [writeCompletion]
@[simp] theorem besideRing_sendDatagram (n : Nat) (d : EthFrom) (b : List Byte) (s : State) :
    (sendDatagram d b s).besideRing n = s.besideRing n := by
  unfold sendDatagram; simp
@[simp] theorem besideRing_keepReply (op : Nat) (q : Cmd) (r : Reply) (s : State) :
    (keepReply op q r s).besideRing q.ring = s.besideRing q.ring := by
  unfold keepReply; simp
@[simp] theorem besideRing_deliverTo (op : Nat) (q : Cmd) (r : Reply) (s : State) :
    (deliverTo op q r s).besideRing q.ring = s.besideRing q.ring := by
  unfold deliverTo; split <;> simp

theorem ring_eq_of_besideRing {n m : Nat} {s t : State} (h : (t.besideRing n).1 = (s.besideRing n).1) (hm : m ≠ n) :
    t.ring m = s.ring m := by
  have hget := congrArg (fun rs => rs[m]?.getD {}) h
  simpa [State.besideRing, State.ring, List.getElem?_set_ne hm.symm] using hget

/-! What a command leaves when its flight has ended, before its completion is written. -/

theorem id_of_flying {id : CmdId} {s : State} {e : InFlight} (h : s.flying id = some e) : e.cmd.id = id := by
  simpa using List.find?_some h

theorem inflight_filter_of_not_flying {id : CmdId} {s : State} (h : s.flying id = none) :
    s.hif.inflight.filter (fun e => !(e.cmd.id == id)) = s.hif.inflight :=
  List.filter_eq_self.2 fun e he => by simpa using List.find?_eq_none.1 h e he

/-- The configuration in force is the board's alone. -/
theorem remember_offBoard (e : InFlight) (b : Board) (s : State) : ((remember e s).onBoard fun _ => b) = s.onBoard fun _ => b := by
  unfold remember
  split <;> rfl

theorem besideRing_remember (n : Nat) (e : InFlight) (s : State) : (remember e s).besideRing n = s.besideRing n := by
  unfold remember
  split <;> rfl

theorem pair_of_rest {s t : State} (h : t.rest = s.rest) : t.pair = s.pair :=
  congrArg (fun (_, _, _, _, _, _, _, _, _, _, _, _, pair, _) => pair) h

theorem rest_offBoard_congr {s t : State} (h : t.rest = s.rest) (b : Board) :
    (t.onBoard fun _ => b).rest = (s.onBoard fun _ => b).rest := by
  simp_all [State.rest]

/-- The state in which command e of ring id.1 is no longer in flight, its slot no longer held, and its form kept where it succeeded. -/
def State.landed (id : CmdId) (e : InFlight) (r : Reply) (s : State) : State :=
  let s := s.onHif fun h => { h with inflight := h.inflight.filter fun x => !(x.cmd.id == id) }
  let s := if e.parked then s.onRing id.1 fun g => { g with held := none } else s
  if r.status = .ok then remember e s else s

/-- On a host's ring the completion of a command in flight is written on the state in which it has landed, unless it is mute. -/
theorem deliver_host {id : CmdId} {s : State} {e : InFlight} (hring : id.1 < 8) (hfly : s.flying id = some e) (r : Reply) :
    deliver id r s = settleFloor
      (if e.cmd.src.isNone && ((s.landed id e r).ring id.1).mute.contains id.2 then
        (s.landed id e r).onRing id.1 fun g => { g with mute := g.mute.filter (· != id.2) }
      else deliverTo e.opcode e.cmd r (keepReply e.opcode e.cmd r (s.landed id e r))) := by
  have hrecord : id.1 ≠ ringRecord := by simp only [ringRecord]; omega
  have hreplay : id.1 ≠ ringReplay := by simp only [ringReplay]; omega
  unfold deliver
  rw [hfly]
  dsimp only
  rw [if_neg hrecord, if_neg hreplay]
  rfl

/-- Landing changes the host interface and, of the rest, the board's configuration in force. -/
theorem rest_landed (id : CmdId) (e : InFlight) (r : Reply) (b : Board) (s : State) :
    ((s.landed id e r).onBoard fun _ => b).rest = (s.onBoard fun _ => b).rest := by
  unfold State.landed
  extract_lets s1 s2
  have h2 : s2.rest = s.rest := by unfold s2; simp [s1]
  split
  · rw [remember_offBoard, rest_offBoard_congr h2]
  · exact rest_offBoard_congr h2 b

theorem besideRing_landed (id : CmdId) (e : InFlight) (r : Reply) (s : State) :
    (s.landed id e r).besideRing id.1 =
      ((s.besideRing id.1).1, s.hif.inflight.filter fun x => !(x.cmd.id == id)) := by
  unfold State.landed
  extract_lets s1 s2
  have h2 : s2.besideRing id.1 = s1.besideRing id.1 := by unfold s2; simp
  rw [besideRing_ite, besideRing_remember, ite_self, h2]
  rfl

section
variable {id : CmdId} {s : State} {e : InFlight} (hring : id.1 < 8) (hfly : s.flying id = some e) (r : Reply)
include hring hfly

theorem rest_deliver_offBoard (b : Board) : ((deliver id r s).onBoard fun _ => b).rest = (s.onBoard fun _ => b).rest := by
  have hwrite : (deliver id r s).rest = (s.landed id e r).rest := by rw [deliver_host hring hfly]; simp
  rw [rest_offBoard_congr hwrite, rest_landed]

theorem besideRing_deliver : (deliver id r s).besideRing id.1 =
    ((s.besideRing id.1).1, s.hif.inflight.filter fun x => !(x.cmd.id == id)) := by
  have hwrite : (deliver id r s).besideRing id.1 = (s.landed id e r).besideRing id.1 := by
    obtain rfl := id_of_flying hfly
    rw [deliver_host hring hfly]
    simp [Cmd.id]
  rw [hwrite, besideRing_landed]

/-- With AUTO off, and nothing mirrored, a command on a host's ring finishes with its completion alone. -/
theorem finish_of_not_mirrored (hmirrors : s.mirrors = false) (hauto : s.pair.auto = false) : finish id r s = deliver id r s := by
  have hpair : (deliver id r s).pair = s.pair := by simpa using pair_of_rest (rest_deliver_offBoard hring hfly r s.board)
  simp [finish, hfly, hmirrors, mirrorAfter, hpair, hauto]

end

/-- Settles O47: a command that is not in flight changes nothing; one that is lands, and its completion is written. -/
theorem completionFrame : Obligations.CompletionFrame := by
  intro id r s hring hmirrors hauto t
  cases hfly : s.flying id with
  | none =>
    have ht : t = s := by simp only [t, finish, hfly]
    rw [ht]
    exact ⟨rfl, (inflight_filter_of_not_flying hfly).symm, fun _ _ => rfl⟩
  | some e =>
    have ht : t = deliver id r s := finish_of_not_mirrored hring hfly r hmirrors hauto
    have hbeside := besideRing_deliver hring hfly r
    rw [ht]
    exact ⟨rest_deliver_offBoard hring hfly r s.board, congrArg (·.2) hbeside,
      fun n hn => ring_eq_of_besideRing (congrArg (·.1) hbeside) hn⟩

end Sys2Proof.Machine
end

section
/-!
PROOFS. The DIAG commands: what each leaves where it runs (spec/17_bring_up_and_discovery.md, R443; spec/02_architecture.md, R39).
-/
namespace Sys2Proof.Machine

/-! What it takes to run, part by part. -/

theorem runs_iff {op : Nat} {check : Cmd → State → Option Reply} {q : Cmd} {s : State} :
    Runs op check q s = true ↔ Runs op (fun _ _ => none) q s = true ∧ check q (s.begun op q) = none := by
  simp only [Runs, Bool.and_eq_true, Option.isNone_iff_eq_none]
  constructor
  · rintro ⟨⟨⟨hstarts, hcheck⟩, hfree⟩, hrefuses⟩
    exact ⟨⟨⟨⟨hstarts, trivial⟩, hfree⟩, hrefuses⟩, hcheck⟩
  · rintro ⟨⟨⟨⟨hstarts, -⟩, hfree⟩, hrefuses⟩, hcheck⟩
    exact ⟨⟨⟨hstarts, hcheck⟩, hfree⟩, hrefuses⟩

/-- A command that runs under some checks starts, with no reserved bit in its flags. -/
theorem starts_of_runs {op : Nat} {check : Cmd → State → Option Reply} {q : Cmd} {s : State} (h : Runs op check q s = true) :
    Starts op q s = true ∧ flagFault q = none := by
  simp only [Runs, Bool.and_eq_true, Option.isNone_iff_eq_none] at h
  obtain ⟨⟨⟨hstarts, -⟩, -⟩, -⟩ := h
  exact hstarts

theorem firstFail_concat (l : List (Bool × Reply)) (b : Bool) (r : Reply) :
    firstFail (l ++ [(b, r)]) = (firstFail l).or (if b then some r else none) := by
  rw [firstFail_append]
  cases b <;> rfl

/-! DIAG_UNIT_RESTORE, DIAG_REG_READ and DIAG_TRACE. -/

/-- A unit that is not retired is left alone (R39). -/
theorem diagUnitRestoreEffect_in_service {q : Cmd} {s : State} (h : s.isRetired (q.u16 0) = false) :
    diagUnitRestoreEffect q s = .done .good s := by
  simp [diagUnitRestoreEffect, h]

/-- A retired unit is restored where it passes its self-test (R39). -/
theorem diagUnitRestoreEffect_retired {q : Cmd} {s : State} (h : s.isRetired (q.u16 0) = true) :
    diagUnitRestoreEffect q s = .done (if s.testPassed then .good else .errUnit .hwFault 0 (q.u16 0))
      (if s.testPassed then restoreUnit (q.u16 0) s.useFree else s.useFree) := by
  cases hpass : s.testPassed <;> simp [diagUnitRestoreEffect, h, hpass]

/-- The checks of DIAG_REG_READ's operands, which come before that of its addresses. -/
def diagRegReadForm (q : Cmd) (_s : State) : Option Reply :=
  firstFail (shape q 16 [(0, 6)] ++ [(q.u32 0 % 4 != 0, Reply.bad 0), (q.u16 4 == 0 || decide (4 < q.u16 4), Reply.bad 4)])

/-- Some word that DIAG_REG_READ names lies in the security engine. -/
def Cmd.readsSec (q : Cmd) : Bool := (List.range (q.u16 4)).any fun i => Config.secAddress (q.u32 0 + 4 * i)

theorem diagRegReadCheck_eq (q : Cmd) (s : State) :
    diagRegReadCheck q s = (diagRegReadForm q s).or (if q.readsSec then some (.err .denied) else none) := by
  unfold diagRegReadForm
  rw [← firstFail_concat, List.append_assoc]
  rfl

/-- A read of well-formed operands is denied where it reaches into the security engine, and else answers free words (R443). -/
theorem exec_diagRegRead {q : Cmd} {s₀ : State} (hruns : Runs 0x1005 diagRegReadForm q s₀ = true) :
    exec (.diagRegRead q) s₀ = .next (if q.readsSec = true then finish q.id (.err .denied) (s₀.begun 0x1005 q)
      else (diagRegReadEffect q (s₀.begun 0x1005 q)).left q) := by
  obtain ⟨hrest, hform⟩ := runs_iff.1 hruns
  have hcheck := diagRegReadCheck_eq q (s₀.begun 0x1005 q)
  change runCmd 0x1005 diagRegReadCheck diagRegReadEffect q s₀ = _
  rw [hform, Option.none_or] at hcheck
  by_cases hsec : q.readsSec = true
  · obtain ⟨hstarts, hflags⟩ := starts_of_runs hruns
    rw [if_pos hsec] at hcheck ⊢
    exact runCmd_rejects hstarts (by rw [hflags, hcheck, Option.none_or])
  · rw [if_neg hsec] at hcheck ⊢
    exact runCmd_runs (runs_iff.2 ⟨hrest, hcheck⟩)

/-- Bulk data that is not empty stays in flight until its transfer ends (R59, log 34). -/
theorem startRead_of_ne_nil {q : Cmd} {countOff : Nat} {r : Reply} {bytes : List Byte} {s : State} (h : bytes ≠ []) :
    startRead q countOff r bytes s = .wait (s.onFlying q.id fun e => { e with
      abortable := true, reply := some r, out := some (upToLast (q.counted (q.u32 countOff)), bytes.take (q.listBytes (q.u32 countOff))) }) := by
  simp [startRead, h]

/-- DIAG_TRACE of a list with room: its samples are on their way to the host, and its unit is held till then (R443). -/
theorem diagTraceEffect_of_room {q : Cmd} {n : Nat} (s : State) (hn : q.listBytes (q.u32 16) = n) (hroom : 0 < n) :
    diagTraceEffect q s = .wait ((hold q [.unit (q.u16 0)] true { s with free := s.free + n }).onFlying q.id fun e => { e with
      abortable := true, reply := some .good
      out := some (upToLast (q.counted (q.u32 16)),
        ((List.range n).map fun i => BitVec.ofNat 8 (Config.free Config.siteTrace (s.free + i))).take n) }) := by
  subst hn
  have hbytes : (List.range (q.listBytes (q.u32 16))).map
      (fun i => (BitVec.ofNat 8 (Config.free Config.siteTrace (s.free + i)) : Byte)) ≠ [] := by
    simpa using Nat.pos_iff_ne_zero.1 hroom
  exact startRead_of_ne_nil hbytes

/-- Settles O24: each command's effect where it runs; a restore splits on the unit's retirement, a register read on its addresses. -/
theorem diagCommandsComplete : Obligations.DiagCommandsComplete := by
  refine ⟨?selfTest, ?restoreInService, ?restoreRetired, ?retire, ?memTest, ?regRead, ?inject, ?trace⟩
  case selfTest => exact fun q s₀ hruns => runCmd_runs hruns
  case restoreInService =>
    intro q s₀ hruns s hin
    rw [← diagUnitRestoreEffect_in_service hin]
    exact runCmd_runs hruns
  case restoreRetired =>
    intro q s₀ hruns s hretired
    rw [← diagUnitRestoreEffect_retired hretired]
    exact runCmd_runs hruns
  case retire => exact fun q s₀ hruns => runCmd_runs hruns
  case memTest => exact fun q s₀ hruns => runCmd_runs hruns
  case regRead => exact fun q s₀ hruns => exec_diagRegRead hruns
  case inject => exact fun q s₀ hruns => runCmd_runs hruns
  case trace =>
    intro q s₀ hruns s n hroom
    refine (runCmd_runs hruns).trans ?_
    rw [diagTraceEffect_of_room s rfl hroom]
    rfl

end Sys2Proof.Machine
end

section
/-!
PROOFS. The rows of the image store and of the units: where a row's condition holds, exec answers the row's own effect on the state in
which its time has passed (spec/07_image_store_and_codec.md, R161 to R183; spec/02_architecture.md, R35 to R38; spec/13, R363). Each
lemma names that state `s`.
-/
namespace Sys2Proof.Machine

variable {dt : Nat} {s₀ s : State}

/-! BLOCK_DECODE (R177): a block of an image that its pipe reads. -/

section
variable {pipe job obj block : Nat} {poisoned glitch : Bool} {o : List Byte} (hs : advance dt s₀ = s) (hpipe : pipe < 5)
  (himage : s.image job obj = some o) (hblock : block < (ImageHeader.of o).blocks) (hretired : s.isRetired (0x0500 + pipe) = false)
  (hlisted : (s.job job).any (fun j => j.bad.contains { obj, block }) = false)
include hs hpipe himage hblock hretired hlisted

theorem exec_blockDecode_poisoned (hpoisoned : poisoned = true) :
    exec (.blockDecode dt pipe job obj block poisoned glitch) s₀ =
      .next (badBlock job obj block (bump (ctr 4 0 0) ((4 + (objBlock o block).length : Nat) : Int) s)) := by
  change execBlockDecode dt pipe job obj block poisoned glitch s₀ = _
  simp only [execBlockDecode, hs, hpipe, himage, Nat.not_le.2 hblock, hretired, hlisted, hpoisoned, decide_true, decide_false, onUnit_true,
    Bool.or_self, Bool.false_eq_true, if_false, if_true]

theorem exec_blockDecode_good (hclean : poisoned = false) (hfirst : glitch = false)
    (hgood : (decodeBlock (ImageHeader.of o) block (objBlock o block)).isSome = true) :
    exec (.blockDecode dt pipe job obj block poisoned glitch) s₀ =
      .next (bump (ctr 4 0 1) 1 (bump (ctr 4 0 0) ((4 + (objBlock o block).length : Nat) : Int) s)) := by
  change execBlockDecode dt pipe job obj block poisoned glitch s₀ = _
  simp only [execBlockDecode, hs, hpipe, himage, Nat.not_le.2 hblock, hretired, hlisted, hclean, hfirst, hgood, decide_true, decide_false,
    onUnit_true, Bool.or_self, Bool.not_false, Bool.and_self, Bool.false_eq_true, if_false, if_true]

end

/-! Memory reads (R161 to R164). -/

theorem exec_patrolScrubRead_awake {owner : Owner} {ecc : EccResult} (hs : advance dt s₀ = s) (hready : s.hif.ready = true)
    (hp3 : s.thm.power ≠ .p3) (hp4 : s.thm.power ≠ .p4) (hlevel : s.thm.level < 2)
    (hpage : s.store.retired.contains (s.store.scrub / 32768) = false) {t : State} (ht : memoryRead s.store.scrub owner ecc s = t) :
    exec (.patrolScrubRead dt owner ecc) s₀ = .next (if t.store.rereads.contains s.store.scrub then t
      else t.onStore fun x => { x with scrub := (s.store.scrub + 1) % max 1 x.lines }) := by
  change execPatrolScrubRead dt owner ecc s₀ = _
  simp only [execPatrolScrubRead, hs, hready, hpage, ht, beq_eq_false_iff_ne.2 hp3, beq_eq_false_iff_ne.2 hp4, Nat.not_le.2 hlevel,
    decide_false, Bool.not_true, Bool.or_self, Bool.false_eq_true, if_false]

theorem exec_pageMigrationDone_found {page : Nat} {m : Migration} (hs : advance dt s₀ = s)
    (hfound : s.store.migrations.find? (·.page == page) = some m) :
    exec (.pageMigrationDone dt page) s₀ = .next (
      let t := s.onStore fun t => { t with
        migrations := t.migrations.filter fun x => !(x.page == page), retired := t.retired ++ [page]
        remap := if m.owner.remapped then t.remapPage page (288 + s.freeVal Config.sitePage % max 1 t.poolPages) else t.remap }
      let t := if m.owner.remapped then t.useFree else t
      newSpare (post evUnitRetired (unitMem (lineChannel m.line)) (unitMem (lineChannel m.line)) m.criterion
        (post evPageRetired unitCtl page 0 (notePage (t.onNor fun n => { n with queue := n.queue ++ [.page page] }))))) := by
  change execPageMigrationDone dt page s₀ = _
  simp only [execPageMigrationDone, hs, hfound]

/-! UNIT_RETIREMENT (R37, R38) and what else ends a unit's service. -/

theorem exec_unitRetirement (dt unit : Nat) (s : State) :
    exec (.unitRetirement dt unit) s = onUnit (unitExists unit) (retireUnit unit (advance dt s)) := rfl

section
variable {unit crit : Nat} (hdoomed : s.stat.doomed.find? (·.1 == unit) = some (unit, crit))
include hdoomed

theorem retireUnit_device_fault (hcannot : cannotRetire unit s = true) :
    retireUnit unit s = retireAnswers unit (deviceFault unit crit s) := by
  simp [retireUnit, hdoomed, hcannot]

theorem retireUnit_at_boundary (hcan : cannotRetire unit s = false) (hboundary : atBoundary unit s = true) :
    retireUnit unit s = retireAnswers unit
      ((if s.toldBySwap unit then latchUnit unit crit false else latchRetired unit crit false) (retireAction unit crit s)) := by
  simp [retireUnit, hdoomed, hcan, hboundary]

end

theorem exec_lockstepMismatch_awake {pair : Nat} (hs : advance dt s₀ = s) (hpair : pair < 2) (hheld : s.held = false)
    (hp3 : s.thm.power ≠ .p3) (hp4 : s.thm.power ≠ .p4) :
    exec (.lockstepMismatch dt pair) s₀ = .next (deviceFault (0x0300 + pair) 0x04 s) := by
  change execLockstepMismatch dt pair s₀ = _
  simp [execLockstepMismatch, hs, hpair, hheld, hp3, hp4]

/-! PLLs but that of the time bases (R35). -/

section
variable {domain : Nat} (hs : advance dt s₀ = s) (hpll : pllDomains.contains domain = true) (htb : domain ≠ 9)
include hs hpll htb

theorem exec_pllLockLost_locked (hlocked : bit s.board.pllLost domain = false) :
    exec (.pllLockLost dt domain) s₀ =
      .next ((lockLoss (unitPll domain) s).onBoard fun b => { b with pllLost := b.pllLost + 2 ^ domain }) := by
  change onUnit (pllDomains.contains domain) (losePll domain true (advance dt s₀)) = _
  simp only [losePll, hs, hpll, hlocked, htb, onUnit_true, Bool.false_eq_true, if_false, if_true]

theorem exec_pllRelocked_lost (hlost : bit s.board.pllLost domain = true) :
    exec (.pllRelocked dt domain) s₀ = .next (s.onBoard fun b => { b with pllLost := b.pllLost - 2 ^ domain }) := by
  change execPllRelocked dt domain s₀ = _
  simp only [execPllRelocked, hs, hpll, hlost, htb, onUnit_true, Bool.not_true, Bool.false_eq_true, if_false]

end

/-! JOB_TRANSFER_DONE (R183): the transfer of a started command ends. -/

section
variable {ring tag glitches : Nat} {mismatch : Option Nat} {lost : List Nat} {e : InFlight} (hs : advance dt s₀ = s)
  (hfly : s.flying (ring, tag) = some e) (hstarted : e.started = true)
include hs hfly hstarted

theorem exec_jobTransferDone_read {out : List Desc × List Byte} (hout : e.out = some out) :
    exec (.jobTransferDone dt ring tag glitches mismatch lost) s₀ = .next (endRead e.cmd.id out s) := by
  change execJobTransferDone dt ring tag glitches mismatch lost s₀ = _
  simp [execJobTransferDone, hs, hfly, hstarted, hout]

theorem exec_jobTransferDone_jobRead (hout : e.out = none) (hlevel : s.thm.level < 2) (hop : e.opcode = 0x0308) :
    exec (.jobTransferDone dt ring tag glitches mismatch lost) s₀ = .next (readDone e.cmd lost s) := by
  change execJobTransferDone dt ring tag glitches mismatch lost s₀ = _
  simp [execJobTransferDone, hs, hfly, hstarted, hout, Nat.not_le.2 hlevel, hop]

/-- The transfer of a load or an encode, which the job it loads knows by its command. -/
theorem exec_jobTransferDone_load {j : Job} {l : LoadKind} (hout : e.out = none) (hlevel : s.thm.level < 2) (hop : e.opcode ≠ 0x0308)
    (hjob : s.store.jobs.find? (fun j => j.load.any (·.cmd == (ring, tag))) = some j) (hload : j.load = some l) :
    exec (.jobTransferDone dt ring tag glitches mismatch lost) s₀ =
      .next (if l.encode then encodeDone e.cmd j.id l glitches mismatch s else loadDone e.cmd j.id l s) := by
  change execJobTransferDone dt ring tag glitches mismatch lost s₀ = _
  simp [execJobTransferDone, hs, hfly, hstarted, hout, Nat.not_le.2 hlevel, hop, hjob, hload]

end

theorem exec_jobDeleteDone_deleting {job : Nat} {j : Job} (hs : advance dt s₀ = s) (hjob : s.job job = some j) (hst : j.st = .deleting) :
    exec (.jobDeleteDone dt job) s₀ = .next (finishAll j.delete.toList .good (dropJob job s)) := by
  change execJobDeleteDone dt job s₀ = _
  simp [execJobDeleteDone, hs, hjob, hst]

/-- A held save of a profile begins 60 s after the last (R363). -/
theorem exec_profileSaveHoldExpiry_due {id : CmdId} {r : List CmdId} {t : Int} (hs : advance dt s₀ = s) (hheld : s.clr.saveHeld = id :: r)
    (hsaved : s.clr.savedAt = some t) (hdue : passed s t 60 1 = true) :
    exec (.profileSaveHoldExpiry dt) s₀ = .next (beginSave id (s.onClr fun k => { k with saveHeld := r })) := by
  change execProfileSaveHoldExpiry dt s₀ = _
  simp [execProfileSaveHoldExpiry, hs, hheld, hsaved, hdue]

/-- Settles O31: clause by clause, the row's effect where its condition holds; a retirement splits on what a swap of engines has told,
the transfer of a load on what it loads. -/
theorem storeRowsComplete : Obligations.StoreRowsComplete := by
  refine ⟨?decode, ?decodePoisoned, ?read, ?scrub, ?retire, ?retireTold, ?deviceFault, ?migration, ?endRead, ?jobRead, ?load, ?encode,
    ?delete, ?save, ?lockstep, ?pllLost, ?pllRelocked⟩
  case decode =>
    exact fun dt pipe job obj block poisoned glitch s₀ o hpipe himage hblock hretired hlisted =>
      exec_blockDecode_good rfl hpipe himage hblock hretired hlisted
  case decodePoisoned =>
    exact fun dt pipe job obj block poisoned glitch s₀ o hpipe himage hblock hretired hlisted =>
      exec_blockDecode_poisoned rfl hpipe himage hblock hretired hlisted
  case read =>
    intro dt line owner ecc s₀ s hline
    rw [exec_memoryReadComplete, decide_eq_true hline, onUnit_true]
  case scrub =>
    exact fun dt owner ecc s₀ hready hp3 hp4 hlevel hpage => exec_patrolScrubRead_awake rfl hready hp3 hp4 hlevel hpage rfl
  case retire =>
    intro dt unit s₀ crit s hunit hdoomed hcan hboundary htold
    rw [exec_unitRetirement, hunit, onUnit_true, retireUnit_at_boundary hdoomed hcan hboundary, htold]
    rfl
  case retireTold =>
    intro dt unit s₀ crit s hunit hdoomed hcan hboundary htold
    rw [exec_unitRetirement, hunit, onUnit_true, retireUnit_at_boundary hdoomed hcan hboundary, htold]
    rfl
  case deviceFault =>
    intro dt unit s₀ crit s hunit hdoomed hcannot
    rw [exec_unitRetirement, hunit, onUnit_true, retireUnit_device_fault hdoomed hcannot]
  case migration => exact fun dt page s₀ m => exec_pageMigrationDone_found rfl
  case endRead => exact fun dt ring tag glitches mismatch lost s₀ e out hfly hstarted => exec_jobTransferDone_read rfl hfly hstarted
  case jobRead => exact fun dt ring tag glitches mismatch lost s₀ e hfly hstarted => exec_jobTransferDone_jobRead rfl hfly hstarted
  case load =>
    intro dt ring tag glitches mismatch lost s₀ e j l s hfly hstarted hout hlevel hop hjob hload hkind
    rw [exec_jobTransferDone_load rfl hfly hstarted hout hlevel hop hjob hload, hkind]
    rfl
  case encode =>
    intro dt ring tag glitches mismatch lost s₀ e j l s hfly hstarted hout hlevel hop hjob hload hkind
    rw [exec_jobTransferDone_load rfl hfly hstarted hout hlevel hop hjob hload, hkind]
    rfl
  case delete => exact fun dt job s₀ j => exec_jobDeleteDone_deleting rfl
  case save => exact fun dt s₀ id r t => exec_profileSaveHoldExpiry_due rfl
  case lockstep => exact fun dt pair s₀ => exec_lockstepMismatch_awake rfl
  case pllLost => exact fun dt domain s₀ hpll hlocked htb => exec_pllLockLost_locked rfl hpll htb hlocked
  case pllRelocked => exact fun dt domain s₀ hpll hlost htb => exec_pllRelocked_lost rfl hpll htb hlost

end Sys2Proof.Machine
end

section
/-!
PROOFS. What every step keeps of SCRATCH, and what reset and every reset leave (spec/03_command_interface.md, R52; spec/07, R186;
spec/17, R430).
-/
namespace Sys2Proof.Machine

/-! Every row but a write through the window keeps or grows. -/

/-- The rows that are no host command, each by its own law. -/
theorem exec_row_grows {c : Instr} (hcmd : hostCommand c = none) (hwrite : ∀ dt offset bytes, c ≠ .bar2WindowWrite dt offset bytes)
    (s : State) : OutGrows s (exec c s) := by
  cases c
  case jobTransferDone dt ring tag glitches mismatch lost => exact grows_execJobTransferDone dt ring tag glitches mismatch lost s
  case ethPortRetrained dt port linkUp => exact grows_execEthPortRetrained dt port linkUp s
  case sqDb dt ring value => exact grows_execSqDb dt ring value s
  case cqDb dt ring value => exact grows_execCqDb dt ring value s
  case evqDb dt value => exact grows_execEvqDb dt value s
  case ringEnableSet dt ring => exact grows_execRingEnableSet dt ring s
  case ringEnableClear dt ring => exact grows_execRingEnableClear dt ring s
  case ringReset dt ring => exact grows_execRingReset dt ring s
  case evqEnableSet dt => exact grows_execEvqEnableSet dt s
  case evqEnableClear dt => exact grows_execEvqEnableClear dt s
  case bar2WindowRead dt offset len uncorrectable => exact grows_execBar2WindowRead dt offset len uncorrectable s
  case bar2WindowWrite dt offset bytes => exact absurd rfl (hwrite dt offset bytes)
  case registerWrite dt offset size value => exact grows_execRegisterWrite dt offset size value s
  case slotFetch dt ring slot pblk descs data pcieError => exact grows_execSlotFetch dt ring slot pblk descs data pcieError s
  case journalWriteDone dt => exact grows_execJournalWriteDone dt s
  case completionCoalesceTimeout dt ring => exact grows_execCompletionCoalesceTimeout dt ring s
  case eventCoalesceTimeout dt vector => exact grows_execEventCoalesceTimeout dt vector s
  case commandDatagram dt port from_ vlan address udpPort bytes => exact grows_execCommandDatagram dt port from_ vlan address udpPort bytes s
  case arpRequest dt port vlan mac ip target => exact grows_execArpRequest dt port vlan mac ip target s
  case icmpEchoRequest dt port vlan ip target protocol type bytes => exact grows_execIcmpEchoRequest dt port vlan ip target protocol type bytes s
  case ptpMessage dt port via domainNumber msg => exact grows_execPtpMessage dt port via domainNumber msg s
  case pathHoldExpiry dt port => exact grows_execPathHoldExpiry dt port s
  case announceTimeout dt port => exact grows_execAnnounceTimeout dt port s
  case holdoverWarn dt domain => exact grows_execHoldoverWarn dt domain s
  case ptpMasterSend dt port announce => exact grows_execPtpMasterSend dt port announce s
  case ptpDelayRequest dt port => exact grows_execPtpDelayRequest dt port s
  case tb3RateStep dt => exact grows_execTb3RateStep dt s
  case tbfReload dt domain => exact grows_execTbfReload dt domain s
  case triggerFire dt unit => exact grows_execTriggerFire dt unit s
  case conversionComplete dt ch sinRaw cosRaw => exact grows_execConversionComplete dt ch sinRaw cosRaw s
  case captureInputEdge dt gpio rising => exact grows_execCaptureInputEdge dt gpio rising s
  case encoderEdge dt ch a b z held => exact grows_execEncoderEdge dt ch a b z held s
  case compareCatchUpFire dt unit => exact grows_execCompareCatchUpFire dt unit s
  case encoderStall dt ch => exact grows_execEncoderStall dt ch s
  case backupOffsetRefresh dt => exact grows_execBackupOffsetRefresh dt s
  case webEstimateUpdate dt => exact grows_execWebEstimateUpdate dt s
  case lineTick dt => exact grows_execLineTick dt s
  case readinessPoint dt => exact grows_execReadinessPoint dt s
  case sendDeadline dt bar head => exact grows_execSendDeadline dt bar head s
  case stampFormation dt bar head row => exact grows_execStampFormation dt bar head row s
  case runEnd dt => exact grows_execRunEnd dt s
  case printInhibitAssert dt => exact grows_execPrintInhibitAssert dt s
  case printInhibitRelease dt => exact grows_execPrintInhibitRelease dt s
  case renderHeadLine dt bar clocks => exact grows_execRenderHeadLine dt bar clocks s
  case composeContoneLine dt => exact grows_execComposeContoneLine dt s
  case blockDecode dt pipe job obj block poisoned glitch => exact grows_execBlockDecode dt pipe job obj block poisoned glitch s
  case memoryReadComplete dt line owner ecc => exact grows_execMemoryReadComplete dt line owner ecc s
  case patrolScrubRead dt owner ecc => exact grows_execPatrolScrubRead dt owner ecc s
  case unitRetirement dt unit => exact grows_execUnitRetirement dt unit s
  case pageMigrationDone dt page => exact grows_execPageMigrationDone dt page s
  case packetReceive dt lane start bytes crc whole => exact grows_execPacketReceive dt lane start bytes crc whole s
  case ackReceive dt lane cls seq crc => exact grows_execAckReceive dt lane cls seq crc s
  case nakReceive dt lane cls seq crc => exact grows_execNakReceive dt lane cls seq crc s
  case creditReceive dt lane cls limit crc => exact grows_execCreditReceive dt lane cls limit crc s
  case alignReceive dt lane hdr bytes bip => exact grows_execAlignReceive dt lane hdr bytes bip s
  case alignSend dt lane => exact grows_execAlignSend dt lane s
  case ackTimeout dt link cls => exact grows_execAckTimeout dt link cls s
  case nakRepeat dt link cls => exact grows_execNakRepeat dt link cls s
  case creditSend dt link cls => exact grows_execCreditSend dt link cls s
  case linePacketSend dt course clocks => exact grows_execLinePacketSend dt course clocks s
  case stampPacketSend dt course => exact grows_execStampPacketSend dt course s
  case blockLockLost dt lane => exact grows_execBlockLockLost dt lane s
  case blockLockGained dt lane => exact grows_execBlockLockGained dt lane s
  case huntSlip dt lane => exact grows_execHuntSlip dt lane s
  case laneDown dt lane => exact grows_execLaneDown dt lane s
  case courseRetrain dt course => exact grows_execCourseRetrain dt course s
  case timeSyncSend dt course => exact grows_execTimeSyncSend dt course s
  case timeEcho dt course syncId turn offset => exact grows_execTimeEcho dt course syncId turn offset s
  case bridgeHello dt course bytes => exact grows_execBridgeHello dt course bytes s
  case claimAck dt course bytes => exact grows_execClaimAck dt course bytes s
  case claimAckTimeout dt course => exact grows_execClaimAckTimeout dt course s
  case ownerChanged dt course epoch owner => exact grows_execOwnerChanged dt course epoch owner s
  case bridgeStatus dt course bytes => exact grows_execBridgeStatus dt course bytes s
  case mgmtReply dt course bytes => exact grows_execMgmtReply dt course bytes s
  case headTempStale dt course => exact grows_execHeadTempStale dt course s
  case barSilenceHalt dt bar => exact grows_execBarSilenceHalt dt bar s
  case csiFrameStart dt port vc ecc => exact grows_execCsiFrameStart dt port vc ecc s
  case csiLinePacket dt port vc dataType wordCount px ecc crcOk => exact grows_execCsiLinePacket dt port vc dataType wordCount px ecc crcOk s
  case csiFrameEnd dt port vc ecc => exact grows_execCsiFrameEnd dt port vc ecc s
  case pipelineLineTurn dt => exact grows_execPipelineLineTurn dt s
  case exposureMid dt port vc => exact grows_execExposureMid dt port vc s
  case exposureRecordTimeout dt port vc => exact grows_execExposureRecordTimeout dt port vc s
  case camCalibrateHoldEnd dt port => exact grows_execCamCalibrateHoldEnd dt port s
  case gatePulse dt gate => exact grows_execGatePulse dt gate s
  case thermalSample dt raws => exact grows_execThermalSample dt raws s
  case substitutionFloor dt => exact grows_execSubstitutionFloor dt s
  case shutdownHoldEnd dt => exact grows_execShutdownHoldEnd dt s
  case hardwareTrip dt temps unserviced => exact grows_execHardwareTrip dt temps unserviced s
  case avsAdjust dt target reached => exact grows_execAvsAdjust dt target reached s
  case pmbusPoll dt index answer => exact grows_execPmbusPoll dt index answer s
  case powerSupervisorFault dt => exact grows_execPowerSupervisorFault dt s
  case wake dt gpio => exact grows_execWake dt gpio s
  case porstNRelease dt gpio => exact grows_execPorstNRelease dt gpio s
  case sysRstNAssert dt => exact grows_execSysRstNAssert dt s
  case watchdogExpiry dt => exact grows_execWatchdogExpiry dt s
  case pciePerstNAssert dt => exact grows_execPciePerstNAssert dt s
  case trialBootTimeout dt => exact grows_execTrialBootTimeout dt s
  case idleRecordClose dt => exact grows_execIdleRecordClose dt s
  case heartbeatSend dt => exact grows_execHeartbeatSend dt s
  case heartbeatReceive dt lane beat st flags => exact grows_execHeartbeatReceive dt lane beat st flags s
  case heartbeatLoss dt => exact grows_execHeartbeatLoss dt s
  case peerAliveFall dt => exact grows_execPeerAliveFall dt s
  case pairYieldNLow dt => exact grows_execPairYieldNLow dt s
  case pairHello dt peer authentic => exact grows_execPairHello dt peer authentic s
  case ptimeSync dt t1 delay valid syncId adj => exact grows_execPtimeSync dt t1 delay valid syncId adj s
  case ptimeEcho dt syncId turn offset => exact grows_execPtimeEcho dt syncId turn offset s
  case baselineReceive dt part => exact grows_execBaselineReceive dt part s
  case recordReceive dt seq ring tag cmdSeq body status => exact grows_execRecordReceive dt seq ring tag cmdSeq body status s
  case recordAck dt seq status => exact grows_execRecordAck dt seq status s
  case recordAckTimeout dt => exact grows_execRecordAckTimeout dt s
  case framePacketReceive dt note => exact grows_execFramePacketReceive dt note s
  case checkpointSend dt => exact grows_execCheckpointSend dt s
  case checkpointReceive dt ckpt => exact grows_execCheckpointReceive dt ckpt s
  case mirrorReceive dt job bytes last => exact grows_execMirrorReceive dt job bytes last s
  case standbySelfTest dt pass => exact grows_execStandbySelfTest dt pass s
  case pairHealthEvaluate dt => exact grows_execPairHealthEvaluate dt s
  case healthReceive dt health => exact grows_execHealthReceive dt health s
  case yieldReceive dt code => exact grows_execYieldReceive dt code s
  case handoverReq dt => exact grows_execHandoverReq dt s
  case handoverReady dt => exact grows_execHandoverReady dt s
  case handoverGo dt h => exact grows_execHandoverGo dt h s
  case handoverDone dt => exact grows_execHandoverDone dt s
  case handoverTimeout dt => exact grows_execHandoverTimeout dt s
  case jobDeleteDone dt job => exact grows_execJobDeleteDone dt job s
  case norWriteDone dt => exact grows_execNorWriteDone dt s
  case profileSaveHoldExpiry dt => exact grows_execProfileSaveHoldExpiry dt s
  case porstNAssert dt => exact grows_execPorstNAssert dt s
  case sysRstNRelease dt => exact grows_execSysRstNRelease dt s
  case bootReady dt => exact grows_execBootReady dt s
  case pciePerstNRelease dt => exact grows_execPciePerstNRelease dt s
  case peerAliveRise dt => exact grows_execPeerAliveRise dt s
  case pairYieldNRelease dt => exact grows_execPairYieldNRelease dt s
  case tapInstruction dt instr => exact grows_execTapInstruction dt instr s
  case prbsCheckerInput dt lane bits => exact grows_execPrbsCheckerInput dt lane bits s
  case hsSyncLost dt port lane => exact grows_execHsSyncLost dt port lane s
  case hsSyncRegained dt port lane => exact grows_execHsSyncRegained dt port lane s
  case i2cTransferDone dt bus acked bytes => exact grows_execI2cTransferDone dt bus acked bytes s
  case gateTestShot dt bar => exact grows_execGateTestShot dt bar s
  case gateTestEnd dt bar => exact grows_execGateTestEnd dt bar s
  case posCalibrateTimeout dt ch => exact grows_execPosCalibrateTimeout dt ch s
  case mgmtReplyTimeout dt course => exact grows_execMgmtReplyTimeout dt course s
  case linkTrainTimeout dt course => exact grows_execLinkTrainTimeout dt course s
  case pairRejoinTimeout dt => exact grows_execPairRejoinTimeout dt s
  case yieldCriterionTimer dt peerUp peerMoves => exact grows_execYieldCriterionTimer dt peerUp peerMoves s
  case powerSupervisorClear dt porst => exact grows_execPowerSupervisorClear dt porst s
  case pllLockLost dt domain => exact grows_execPllLockLost dt domain s
  case pllRelocked dt domain => exact grows_execPllRelocked dt domain s
  case lockstepMismatch dt pair => exact grows_execLockstepMismatch dt pair s
  all_goals cases hcmd

theorem exec_grows {c : Instr} (hwrite : ∀ dt offset bytes, c ≠ .bar2WindowWrite dt offset bytes) (s : State) :
    OutGrows s (exec c s) := by
  cases hcmd : hostCommand c with
  | none => exact exec_row_grows hcmd hwrite s
  | some x =>
    obtain ⟨op, q⟩ := x
    rw [exec_hostCommand hcmd]
    exact OutGrows.runCmd (growsOpTable op) q s

/-- Settles O44: every other row keeps SCRATCH or, with a reset, clears it. -/
theorem scratchOnlyByWindow : Obligations.ScratchOnlyByWindow :=
  fun _ s t hwrite hexec => (exec_grows hwrite s t hexec).scratch

theorem exec_keeps_scratchWf {c : Instr} {s t : State} (hwf : scratchWf s.store.scratch = true) (hexec : exec c s = .next t) :
    scratchWf t.store.scratch = true := by
  by_cases hwrite : ∃ dt offset bytes, c = .bar2WindowWrite dt offset bytes
  · obtain ⟨dt, offset, bytes, rfl⟩ := hwrite
    obtain ⟨-, -, -, -, hkeeps⟩ := grows_execBar2WindowWrite dt offset bytes s t hexec
    exact hkeeps hwf
  · exact (exec_grows (fun dt offset bytes h => hwrite ⟨dt, offset, bytes, h⟩) s t hexec).wf hwf

/-- Settles O41: the row at the front, or with none waiting what the device does of its own accord, keeps the form. -/
theorem memoryFormKept : Obligations.MemoryFormKept := by
  intro s t hwf hstep
  cases hqueue : s.pending with
  | nil =>
    have hidle : step s = .next (idle s) := by simp only [step, hqueue]
    obtain rfl : idle s = t := Host.Outcome.next.inj (hidle.symm.trans hstep)
    exact (Grows.idle s).wf hwf
  | cons c rest =>
    have hrow : step s = exec c { s with pending := rest } := by simp only [step, hqueue]
    exact exec_keeps_scratchWf (s := { s with pending := rest }) hwf (hrow.symm.trans hstep)

/-! A step on an empty queue. -/

theorem startable_spec {earlier later : List InFlight} {e : InFlight} (h : startable earlier later = some e) :
    e ∈ later ∧ e.started = false := by
  induction later generalizing earlier with
  | nil => cases h
  | cons x later ih =>
    unfold startable at h
    split at h
    · rename_i hx
      obtain rfl := Option.some.inj h
      simp only [Bool.and_eq_true, Bool.not_eq_true'] at hx
      exact ⟨List.mem_cons_self, hx.1.1⟩
    · obtain ⟨hmem, hstarted⟩ := ih h
      exact ⟨List.mem_cons_of_mem _ hmem, hstarted⟩

theorem step_of_empty {s : State} (h : s.pending = []) : step s = .next (idle s) := by simp only [step, h]

theorem idle_of_startable {s : State} {e : InFlight} (hheld : s.held = false) (hp3 : s.thm.power ≠ .p3) (hp4 : s.thm.power ≠ .p4)
    (hfound : startable [] s.hif.inflight = some e) :
    idle s = carryOut e.opcode (opTable e.opcode).1 (opTable e.opcode).2 e.cmd s := by
  simp [idle, hheld, hp3, hp4, hfound]

theorem idle_of_nothing {s : State} (h : s.held = true ∨ s.thm.power = .p3 ∨ s.thm.power = .p4 ∨ startable [] s.hif.inflight = none) :
    idle s = s := by
  rcases h with h | h | h | h <;> simp [idle, h]

/-- Settles O2: the three clauses are the branches of what the device does of its own accord. -/
theorem stepOnEmptyQueue : Obligations.StepOnEmptyQueue := by
  intro s hqueue
  refine ⟨step_of_empty hqueue, fun hnothing => ?_, fun e hheld hp3 hp4 hfound => ⟨?_, startable_spec hfound⟩⟩
  · rw [step_of_empty hqueue, idle_of_nothing hnothing]
  · rw [step_of_empty hqueue, idle_of_startable hheld hp3 hp4 hfound]

/-- Settles O42: reset lists no byte of SCRATCH, and an unlisted byte reads 0. -/
theorem resetHasTheForm : Obligations.ResetHasTheForm :=
  ⟨rfl, fun _ => rfl, rfl, rfl, rfl, rfl⟩

/-- The pins that a reset drives are put out and leave the parts of the state that it carries over. -/
theorem emit_unless_leaves (b : Bool) (o : Output) (s : State) :
    (if b then s else s.emit o).sec = s.sec ∧ (if b then s else s.emit o).pending = s.pending := by
  cases b <;> exact ⟨rfl, rfl⟩

theorem emit_if_leaves (b : Bool) (o : Output) (s : State) :
    (if b then s.emit o else s).sec = s.sec ∧ (if b then s.emit o else s).pending = s.pending := by
  cases b <;> exact ⟨rfl, rfl⟩

/-- A reset carries the fuses and the queue over; debug follows from the lifecycle (R97, R430). -/
theorem deviceReset_carries (hold : List Hold) (cause : Nat) (s : State) :
    (deviceReset hold cause s).sec.lifecycle = s.sec.lifecycle ∧ (deviceReset hold cause s).sec.svnMin = s.sec.svnMin ∧
    (deviceReset hold cause s).sec.fwRevoked = s.sec.fwRevoked ∧ (deviceReset hold cause s).pending = s.pending ∧
    (deviceReset hold cause s).sec.debug = if s.sec.lifecycle = .blank ∨ s.sec.lifecycle = .returned then .full else .off := by
  unfold deviceReset
  extract_lets nor s1 s2 s3 s0 slot image onTrial z
  obtain ⟨hsec1, hqueue1⟩ := emit_unless_leaves s.board.faultN (.pin .faultN false) s
  obtain ⟨hsec2, hqueue2⟩ := emit_if_leaves s1.pair.pairActive (.pin .pairActive false) s1
  obtain ⟨hsec3, hqueue3⟩ := emit_if_leaves s2.pair.yieldOut (.pin .pairYieldN true) s2
  have hsec : s3.sec = s.sec := hsec3.trans (hsec2.trans hsec1)
  have hqueue : s3.pending = s.pending := hqueue3.trans (hqueue2.trans hqueue1)
  change s3.sec.lifecycle = _ ∧ s3.sec.svnMin = _ ∧ s3.sec.fwRevoked = _ ∧ s3.pending = _ ∧
    (if s3.sec.lifecycle = .blank ∨ s3.sec.lifecycle = .returned then Debug.full else .off) = _
  rw [hsec, hqueue]
  exact ⟨rfl, rfl, rfl, rfl, rfl⟩

/-- Settles O55: what the flash holds, the host interface and SCRATCH are read off the state that a reset builds; the rest is carried
over. -/
theorem resetLeaves : Obligations.ResetLeaves := by
  intro hold cause s t
  obtain ⟨hlife, hsvn, hrevoked, hqueue, hdebug⟩ := deviceReset_carries hold cause s
  refine ⟨hlife, hsvn, hrevoked, rfl, rfl, rfl, rfl, rfl, rfl, rfl, rfl, rfl, rfl, rfl, rfl, rfl, rfl, rfl, rfl, hqueue, ?_, ?_⟩
  · exact fun hopen => hdebug.trans (if_pos hopen)
  · exact fun hclosed => hdebug.trans (if_neg (by rcases hclosed with h | h <;> simp [h]))

end Sys2Proof.Machine
end

section
/-!
PROOFS. The host register rows where they take effect, and the window (spec/03_command_interface.md, R48 to R57, R63; spec/16, R419, R421).
-/
namespace Sys2Proof.Machine

/-! Doorbells and ring control in a device that is up. -/

section
variable {n : Nat} {s : State} (hup : s.bar0 = true)
include hup

/-- SQ_DB moves the submission tail, or halts the ring where it names no entry (R53). -/
theorem writeSqDb_new {v : Nat} (hpcie : (s.ring n).ethernet = false) (hon : (s.ring n).enable = true) (hnew : v ≠ (s.ring n).sqTail) :
    writeSqDb n v s = if 2 ^ (s.ring n).sqLog2 ≤ v then haltRing n 0x02 s else s.onRing n fun r => { r with sqTail := v } := by
  simp [writeSqDb, hup, hpcie, hon, hnew]

theorem writeCqDb_new {v : Nat} (hpcie : (s.ring n).ethernet = false) (hon : (s.ring n).enable = true) (hnew : v ≠ (s.ring n).cqHead) :
    writeCqDb n v s = if 2 ^ (s.ring n).cqLog2 ≤ v then haltRing n 0x02 s
      else s.onRing n fun r => { r with cqHead := v, cqUsed := r.cqUsed - (v + 2 ^ r.cqLog2 - r.cqHead) % 2 ^ r.cqLog2 } := by
  simp [writeCqDb, hup, hpcie, hon, hnew]

theorem writeEvqDb_entry {v : Nat} (hon : s.hif.evqEnable = true) (hentry : v < s.hif.evqN) :
    writeEvqDb v s = reportLost (s.onHif fun h => { h with evqHead := v }) := by
  simp [writeEvqDb, hup, hon, Nat.not_le.2 hentry]

/-- A ring with its sizes in range, not halted, and of a transport that the table allows, is enabled anew (R50). -/
theorem enableRing_taken (hoff : (s.ring n).enable = false) (hsq : 4 ≤ (s.ring n).sqLog2) (hsq' : (s.ring n).sqLog2 ≤ 12)
    (hcq : 4 ≤ (s.ring n).cqLog2) (hcq' : (s.ring n).cqLog2 ≤ 12) (hgoing : (s.ring n).halted = false)
    (htransport : (s.ring n).ethernet = false ∨ (s.sec.prot.rings.getD n {}).ethAllowed = true) :
    enableRing n s = s.onRing n fun r => { r with
      enable := true, configErr := false, sqHead := 0, sqTail := 0, cqTail := 0, cqHead := 0, cqUsed := 0, expSeq := 0, cqPhase := true
      agreed := 2 } := by
  have heth : ((s.ring n).ethernet && !(s.sec.prot.rings.getD n {}).ethAllowed) = false := by
    rcases htransport with h | h
    · rw [h, Bool.false_and]
    · rw [h, Bool.not_true, Bool.and_false]
  unfold enableRing
  simp only [hup, hoff, hgoing, heth, Nat.not_lt.2 hsq, Nat.not_lt.2 hsq', Nat.not_lt.2 hcq, Nat.not_lt.2 hcq', decide_false, Bool.or_self,
    Bool.not_true, Bool.false_eq_true, if_false]

/-- A ring whose size is out of range, or that is halted, is not enabled and says so (R50, R57). -/
theorem enableRing_refused (hoff : (s.ring n).enable = false)
    (hbad : (s.ring n).sqLog2 < 4 ∨ 12 < (s.ring n).sqLog2 ∨ (s.ring n).cqLog2 < 4 ∨ 12 < (s.ring n).cqLog2 ∨ (s.ring n).halted = true) :
    enableRing n s = s.onRing n fun r => { r with configErr := true } := by
  unfold enableRing
  rcases hbad with h | h | h | h | h <;> simp [hup, hoff, h]

theorem resetRing_stopped (hoff : (s.ring n).enable = false) (hidle : s.ringFlying n = 0) :
    resetRing n s = s.onRing n fun r => { r with halted := false, haltReason := 0 } := by
  simp [resetRing, hup, hoff, hidle]

theorem enableEvq_taken (hoff : s.hif.evqEnable = false) (hlo : 6 ≤ s.hif.evqSize) (hhi : s.hif.evqSize ≤ 14) :
    enableEvq s = reportLost (s.onHif fun h => { h with evqEnable := true, evqTail := 0, evqHead := 0, evqPhase := true }) := by
  simp [enableEvq, hup, hoff, Nat.not_lt.2 hlo, Nat.not_lt.2 hhi]

end

/-- RESET does nothing while the ring is enabled or a command of it is in flight (R57). -/
theorem resetRing_running {n : Nat} {s : State} (hruns : (s.ring n).enable = true ∨ s.ringFlying n ≠ 0) : resetRing n s = s := by
  rcases hruns with h | h <;> simp [resetRing, h]

/-! The rows of a ring that the device has. -/

section
variable {dt n : Nat} {s₀ s : State} (hs : advance dt s₀ = s) (hn : n < 8)
include hs hn

theorem exec_sqDb_ring (v : Nat) : exec (.sqDb dt n v) s₀ = .next (writeSqDb n v s) := by simp [exec_sqDb, hs, hn]

theorem exec_cqDb_ring (v : Nat) : exec (.cqDb dt n v) s₀ = .next (writeCqDb n v s) := by simp [exec_cqDb, hs, hn]

theorem exec_ringEnableSet_ring : exec (.ringEnableSet dt n) s₀ = .next (enableRing n s) := by simp [exec_ringEnableSet, hs, hn]

theorem exec_ringReset_ring : exec (.ringReset dt n) s₀ = .next (resetRing n s) := by simp [exec_ringReset, hs, hn]

theorem exec_ringEnableClear_up (hup : s.bar0 = true) :
    exec (.ringEnableClear dt n) s₀ = .next (s.onRing n fun r => { r with enable := false }) := by
  simp [exec_ringEnableClear, hs, hn, hup]

end

theorem exec_evqEnableSet (dt : Nat) (s : State) : exec (.evqEnableSet dt) s = .next (enableEvq (advance dt s)) := rfl

theorem exec_evqEnableClear (dt : Nat) (s : State) : exec (.evqEnableClear dt) s =
    .next (if (advance dt s).bar0 then (advance dt s).onHif fun h => { h with evqEnable := false } else advance dt s) := rfl

/-! Registers of the window, of the event ring and of the rings (R48, R50). -/

/-- P3 and P4 leave only the reduced responder, which takes no write (14 R378). -/
theorem exec_registerWrite_word {dt off v : Nat} {s₀ s : State} (hs : advance dt s₀ = s) (hoff : off < 0x4000) :
    exec (.registerWrite dt off 4 v) s₀ = .next (writeRegister off v s) := by
  simp [exec_registerWrite, hs, hoff]

theorem exec_registerWrite_otherSize {dt off size v : Nat} {s₀ s : State} (hs : advance dt s₀ = s) (hoff : off < 0x4000) (hsize : size ≠ 4) :
    exec (.registerWrite dt off size v) s₀ = .next s := by
  simp [exec_registerWrite, hs, hoff, hsize]

section
variable {s : State} (hp3 : s.thm.power ≠ .p3) (hp4 : s.thm.power ≠ .p4)
include hp3 hp4

theorem writeRegister_winBaseLow (v : Nat) : writeRegister 0x10 v s =
    s.onHif fun h => { h with winBase := h.winBase / 2 ^ 32 * 2 ^ 32 + v % 2 ^ 32 / 2 ^ 26 * 2 ^ 26 } := by
  simp [writeRegister, hp3, hp4]

theorem writeRegister_winCtrl (v : Nat) : writeRegister 0x18 v s =
    s.onHif fun h => { h with winEnable := bit v 0, winWrite := bit v 1, winDenied := h.winDenied && !bit v 2 } := by
  simp [writeRegister, hp3, hp4]

theorem writeRegister_ring {off : Nat} (halign : off % 4 = 0) (hlo : 0x1000 ≤ off) (hhi : off < 0x1400) (hready : s.hif.ready = true) (v : Nat) :
    writeRegister off v s = writeRingReg ((off - 0x1000) / 0x80) ((off - 0x1000) % 0x80) v s := by
  simp [writeRegister_ringBlock hlo hhi, hp3, hp4, halign, hready]

end

/-- Settles O25: in a device that is up each row is the one branch of its function that its condition chooses. -/
theorem hostRegisterRowsComplete : Obligations.HostRegisterRowsComplete := by
  refine ⟨?sqDb, ?sqDbHalt, ?cqDb, ?evqDb, ?enable, ?enableHalted, ?disable, ?reset, ?evqOn, ?evqOff, ?size, ?winBase, ?winCtrl, ?ringReg,
    ?coalesce, ?coalesceEvent⟩
  case sqDb =>
    intro dt n v s₀ s hn hup hpcie hon hnew hentry
    rw [exec_sqDb_ring rfl hn, writeSqDb_new hup hpcie hon hnew, if_neg (Nat.not_le.2 hentry)]
  case sqDbHalt =>
    intro dt n v s₀ s hn hup hpcie hon hnew hbeyond
    rw [exec_sqDb_ring rfl hn, writeSqDb_new hup hpcie hon hnew, if_pos hbeyond]
  case cqDb =>
    intro dt n v s₀ s hn hup hpcie hon hnew hentry
    rw [exec_cqDb_ring rfl hn, writeCqDb_new hup hpcie hon hnew, if_neg (Nat.not_le.2 hentry)]
  case evqDb =>
    intro dt v s₀ s hup hon hentry
    rw [exec_evqDb, writeEvqDb_entry hup hon hentry]
  case enable =>
    intro dt n s₀ s hn hup hoff hsq hsq' hcq hcq' hgoing htransport
    rw [exec_ringEnableSet_ring rfl hn, enableRing_taken hup hoff hsq hsq' hcq hcq' hgoing htransport]
  case enableHalted =>
    intro dt n s₀ s hn hup hoff hhalted
    rw [exec_ringEnableSet_ring rfl hn, enableRing_refused hup hoff (.inr (.inr (.inr (.inr hhalted))))]
  case disable => exact fun dt n s₀ hn hup => exec_ringEnableClear_up rfl hn hup
  case reset =>
    intro dt n s₀ s hn hup hoff hidle
    rw [exec_ringReset_ring rfl hn, resetRing_stopped hup hoff hidle]
  case evqOn =>
    intro dt s₀ s hup hoff hlo hhi
    rw [exec_evqEnableSet, enableEvq_taken hup hoff hlo hhi]
  case evqOff =>
    intro dt s₀ s hup
    rw [exec_evqEnableClear, if_pos hup]
  case size => exact fun dt off size v s₀ hoff hsize => exec_registerWrite_otherSize rfl hoff hsize
  case winBase =>
    rintro dt off size v s₀ s hp3 hp4 rfl rfl
    rw [exec_registerWrite_word rfl (by decide), writeRegister_winBaseLow hp3 hp4]
  case winCtrl =>
    rintro dt off size v s₀ s hp3 hp4 rfl rfl
    rw [exec_registerWrite_word rfl (by decide), writeRegister_winCtrl hp3 hp4]
  case ringReg =>
    rintro dt off size v s₀ s hp3 hp4 halign hlo hhi hready rfl
    rw [exec_registerWrite_word rfl (by omega), writeRegister_ring hp3 hp4 halign hlo hhi hready]
  case coalesce =>
    intro dt n s₀ s hn hpending htime hdue
    change execCompletionCoalesceTimeout dt n s₀ = _
    simp [execCompletionCoalesceTimeout, hn, hpending, htime, hdue, s]
  case coalesceEvent =>
    intro dt v s₀ s hlo hhi hpending htime hdue
    change execEventCoalesceTimeout dt v s₀ = _
    simp only [execEventCoalesceTimeout, hlo, hhi, hpending, htime, hdue, s, decide_true, Bool.and_self, onUnit_true, if_true]

/-! The window (R52). -/

section
variable {dt offset : Nat} {s₀ s : State} (hs : advance dt s₀ = s)
include hs

theorem exec_bar2WindowRead_closed {len : Nat} {bad : Bool} (hfits : offset + len ≤ 0x4000000) (hclosed : s.windowOpen = false) :
    exec (.bar2WindowRead dt offset len bad) s₀ = .next (denyWindow (s.emit (.windowData (List.replicate len 0) false))) := by
  change execBar2WindowRead dt offset len bad s₀ = _
  simp [execBar2WindowRead, hs, hfits, hclosed]

theorem exec_bar2WindowRead_open {len : Nat} {bad : Bool} (hfits : offset + len ≤ 0x4000000) (hopen : s.windowOpen = true)
    (husable : s.hif.winBase + offset + len ≤ s.usable) :
    exec (.bar2WindowRead dt offset len bad) s₀ = .next (s.useFree.emit (.windowData (windowBytes (s.hif.winBase + offset) len s) bad)) := by
  change execBar2WindowRead dt offset len bad s₀ = _
  simp [execBar2WindowRead, hs, hfits, hopen, Nat.not_lt.2 husable]

variable {bytes : List Byte} (hfits : offset + bytes.length ≤ 0x4000000)
include hfits

theorem exec_bar2WindowWrite_open (hopen : s.windowOpen = true) (hwrite : s.hif.winWrite = true)
    (hlo : scratchBase ≤ s.hif.winBase + offset) (hhi : s.hif.winBase + offset + bytes.length ≤ scratchEnd) :
    exec (.bar2WindowWrite dt offset bytes) s₀ =
      .next (s.onStore fun m => { m with scratch := scratchWrite (s.hif.winBase + offset - scratchBase) bytes m.scratch }) := by
  change execBar2WindowWrite dt offset bytes s₀ = _
  simp [execBar2WindowWrite, hs, hfits, hopen, hwrite, hlo, hhi]

theorem exec_bar2WindowWrite_denied (hdenied : s.windowOpen = false ∨ s.hif.winWrite = false ∨ s.hif.winBase + offset < scratchBase ∨
    scratchEnd < s.hif.winBase + offset + bytes.length) :
    exec (.bar2WindowWrite dt offset bytes) s₀ = .next (denyWindow s) := by
  change execBar2WindowWrite dt offset bytes s₀ = _
  have hcond : (s.windowOpen && s.hif.winWrite && decide (scratchBase ≤ s.hif.winBase + offset) &&
      decide (s.hif.winBase + offset + bytes.length ≤ scratchEnd)) = false := by
    rcases hdenied with hshut | hreadOnly | hbelow | habove
    · simp [hshut]
    · simp [hreadOnly]
    · simp [Nat.not_le.2 hbelow]
    · simp [Nat.not_le.2 habove]
  simp [execBar2WindowWrite, hs, hfits, hcond]

end

theorem windowOpen_of_enabled {s : State} (h : s.hif.winEnable = true) :
    s.windowOpen = !Config.windowForbids s.sec.lifecycle.code (Debug.code s.sec.debug) := by
  simp [State.windowOpen, h]

theorem windowOpen_of_disabled {s : State} (h : s.hif.winEnable = false) : s.windowOpen = false := by simp [State.windowOpen, h]

/-- Settles O26: an enabled window is open unless the lifecycle and debug state forbid it. -/
theorem windowRowsComplete : Obligations.WindowRowsComplete := by
  refine ⟨?read, ?readOff, ?write, ?writeDenied⟩
  case read =>
    intro dt offset len bad s₀ s hfits hon husable
    have hopen := windowOpen_of_enabled hon
    cases hforbids : Config.windowForbids s.sec.lifecycle.code (Debug.code s.sec.debug) <;> rw [hforbids] at hopen
    · exact exec_bar2WindowRead_open rfl hfits hopen husable
    · exact exec_bar2WindowRead_closed rfl hfits hopen
  case readOff => exact fun dt offset len bad s₀ hfits hoff => exec_bar2WindowRead_closed rfl hfits (windowOpen_of_disabled hoff)
  case write =>
    intro dt offset bytes s₀ s hfits hon hwrite hlo hhi
    have hopen := windowOpen_of_enabled hon
    cases hforbids : Config.windowForbids s.sec.lifecycle.code (Debug.code s.sec.debug) <;> rw [hforbids] at hopen
    · exact exec_bar2WindowWrite_open rfl hfits hopen hwrite hlo hhi
    · exact exec_bar2WindowWrite_denied rfl hfits (.inl hopen)
  case writeDenied =>
    exact fun dt offset bytes s₀ hfits hdenied => exec_bar2WindowWrite_denied rfl hfits (hdenied.imp_left windowOpen_of_disabled)

/-- Bytes of SCRATCH that lie within the memory read through the window as they stand. -/
theorem windowBytes_scratch {a : Nat} {bytes : List Byte} {s : State} (hlo : scratchBase ≤ a) (hhi : a + bytes.length ≤ scratchEnd)
    (husable : a + bytes.length ≤ s.usable)
    (hheld : ∀ i, i < bytes.length → scratchByte s.store.scratch (a + i - scratchBase) = bytes.getD i 0) :
    windowBytes a bytes.length s = bytes := by
  refine List.ext_getElem (by simp [windowBytes]) fun i hi hi' => ?_
  have hbelow : ¬ s.usable ≤ a + i := by omega
  have hinside : scratchBase ≤ a + i ∧ a + i < scratchEnd := by omega
  simp [windowBytes, hbelow, hinside, hheld i hi', hi']

/-- A write at address a of SCRATCH, told in the addresses of the memory that the window shows. -/
theorem scratchByte_write_at {a : Nat} (bytes : List Byte) {m : List Host.Cell} (hwf : scratchWf m = true) (hlo : scratchBase ≤ a) (x : Nat) :
    scratchByte (scratchWrite (a - scratchBase) bytes m) x =
      if a ≤ scratchBase + x ∧ scratchBase + x < a + bytes.length then bytes.getD (scratchBase + x - a) 0 else scratchByte m x := by
  have hrange : (a - scratchBase ≤ x ∧ x < a - scratchBase + bytes.length) ↔ (a ≤ scratchBase + x ∧ scratchBase + x < a + bytes.length) := by
    omega
  have hindex : x - (a - scratchBase) = scratchBase + x - a := by omega
  simp only [scratchByte_write _ _ _ _ hwf, hrange, hindex]

/-- Settles O45: the write stores where it was addressed, and the window reads SCRATCH as it stands. -/
theorem scratchReadsBackAsWritten : Obligations.ScratchReadsBackAsWritten := by
  intro dt offset bytes s₀ s a hwf hfits hon hwrite hlo hhi husable
  have hopen := windowOpen_of_enabled hon
  have hbyte := scratchByte_write_at bytes hwf hlo
  refine ⟨fun hforbids => ?_, fun hforbids => ?_⟩ <;> rw [hforbids] at hopen
  · exact exec_bar2WindowWrite_denied rfl hfits (.inl hopen)
  · refine ⟨_, exec_bar2WindowWrite_open rfl hfits hopen hwrite hlo hhi, hbyte, ?_, rfl⟩
    refine windowBytes_scratch hlo hhi husable fun i hi => (hbyte _).trans ?_
    have haddr : scratchBase + (a + i - scratchBase) = a + i := Nat.add_sub_cancel' (Nat.le_trans hlo (Nat.le_add_right a i))
    rw [haddr, if_pos (by omega), Nat.add_sub_cancel_left]

end Sys2Proof.Machine
end

section
/-!
PROOFS. A host command from its fetch to its start: where it waits, where it is refused, where it runs (spec/03_command_interface.md,
R54, R64 to R66, R70; spec/15_redundancy_and_upgrade.md, R395).
-/
namespace Sys2Proof.Machine

section
variable {c : Instr} {op : Nat} {q : Cmd} {s₀ s : State} (hcmd : hostCommand c = some (op, q))
include hcmd

theorem exec_hostCommand_runs (hruns : Runs op (opTable op).1 q s₀ = true) :
    exec c s₀ = .next (((opTable op).2 q (s₀.begun op q)).left q) := by
  rw [exec_hostCommand hcmd, runCmd_runs hruns]

/-! Before a command starts. -/

section
variable (hs : advance q.dt s₀ = s) (hring : q.ring < 8)
include hs hring

theorem exec_hostCommand_unfetched (hfetch : s.mayFetch q.ring = false) : exec c s₀ = .next s := by
  rw [exec_hostCommand hcmd]
  simp [runCmd, hs, Nat.not_le.2 hring, hfetch]

variable (hfetch : s.mayFetch q.ring = true)
include hfetch

theorem exec_hostCommand_tagInFlight {e : InFlight} (hfly : s.flying q.id = some e) : exec c s₀ = .next (tagInFlight op q s) := by
  rw [exec_hostCommand hcmd]
  simp [runCmd, hs, Nat.not_le.2 hring, hfetch, hfly]

theorem exec_hostCommand_launches (hfree : s.flying q.id = none) :
    exec c s₀ = .next (launch op (opTable op).1 (opTable op).2 q s) := by
  rw [exec_hostCommand hcmd]
  simp [runCmd, hs, Nat.not_le.2 hring, hfetch, hfree]

end

end

/-- Settles O4: the row of a host command runs its opcode's entry of the table. -/
theorem hostCommandsRun : Obligations.HostCommandsRun := fun _ _ _ _ hcmd hruns => exec_hostCommand_runs hcmd hruns

section
variable {op : Nat} {check : Cmd → State → Option Reply} {effect : Cmd → State → Ans} {q : Cmd} {s t : State}
  (ht : (s.onHif fun h => { h with inflight := h.inflight ++ [{ cmd := q, opcode := op }] }) = t)
include ht

theorem launch_gated {r : Reply} (hgate : gateCheck op q t = some r) : launch op check effect q s = deliver q.id r t := by
  simp only [launch, ht, hgate]

theorem launch_held_back (hgate : gateCheck op q t = none) (hwaits : mayStart q s.hif.inflight = false) :
    launch op check effect q s = t := by
  simp only [launch, ht, hgate, hwaits, Bool.false_eq_true, if_false]

end

/-- Settles O6: the three places before its start at which a command's row ends. -/
theorem whereACommandWaits : Obligations.WhereACommandWaits := by
  intro c s₀ op q hcmd hring s t
  refine ⟨exec_hostCommand_unfetched hcmd rfl hring, fun hfetch hfree r hgate => ?_, fun hfetch hfree hgate hwaits => ?_⟩ <;>
    rw [exec_hostCommand_launches hcmd rfl hring hfetch hfree]
  · rw [launch_gated rfl hgate]
  · rw [launch_held_back rfl hgate hwaits]

/-! A command that has started: an exclusive command, or a standby, may still refuse it. -/

/-- An exclusive command in flight holds what this one needs (R66). -/
def State.excludes (s : State) (op : Nat) (q : Cmd) : Bool := (s.holding .device && !unitFree op) || s.barHeld op q

/-- A command whose flags and own checks pass is carried out unless it is refused. -/
theorem runCmd_passes {op : Nat} {check : Cmd → State → Option Reply} {effect : Cmd → State → Ans} {q : Cmd} {s t : State}
    (hstarts : Starts op q s = true) (ht : s.begun op q = t) (hflags : flagFault q = none) (hcheck : check q t = none) :
    runCmd op check effect q s = .next
      (if t.excludes op q then finish q.id (.err .busy) t
       else if t.standbyRefuses op q then finish q.id (.err .state 0x01F1) t
       else (effect q t).left q) := by
  subst ht
  rw [runCmd_starts hstarts]
  have hpass : (flagFault q).or (check q (s.begun op q)) = none := by rw [hflags, hcheck]; rfl
  unfold carryOut
  change Host.Outcome.next (match (flagFault q).or (check q (s.begun op q)) with
    | some r => _
    | none => _) = _
  rw [hpass]
  rfl

/-- To begin a command changes the host interface alone. -/
@[simp] theorem rest_begun (op : Nat) (q : Cmd) (s : State) : (s.begun op q).rest = (advance q.dt s).rest := by simp [State.begun]

theorem ring_lt_of_starts {op : Nat} {q : Cmd} {s : State} (h : Starts op q s = true) : q.ring < 8 := by
  simp only [Starts, Bool.and_eq_true, decide_eq_true_eq] at h
  obtain ⟨⟨⟨⟨hring, -⟩, -⟩, -⟩, -⟩ := h
  exact hring

/-- Settles O5: the checks end a command in their order; a completion that is not ST_OK leaves everything but its own record. -/
theorem failedCommandsAreCarriedOutInNoPart : Obligations.FailedCommandsAreCarriedOutInNoPart := by
  intro c s op q hcmd hstarts t held
  rw [exec_hostCommand hcmd]
  refine ⟨fun r => runCmd_rejects hstarts, fun hflags hcheck hheld => ?busy, fun hflags hcheck hfree hrefuses => ?refused, fun r hr => ?rest⟩
  case busy =>
    have hexcludes : t.excludes op q = true := hheld
    rw [runCmd_passes hstarts rfl hflags hcheck, if_pos hexcludes]
  case refused =>
    have hexcludes : t.excludes op q = false := hfree
    rw [runCmd_passes hstarts rfl hflags hcheck, hexcludes, if_neg Bool.false_ne_true, if_pos hrefuses]
  case rest => rw [rest_finish_failed q.id r t (ring_lt_of_starts hstarts) hr, rest_begun]

end Sys2Proof.Machine
end

section
/-!
PROOFS. Rings: a TAG in flight, the enabling of a ring and the halt of one whose slots are out of sequence
(spec/03_command_interface.md, R50, R57, R64).
-/
namespace Sys2Proof.Machine

/-! One ring of the host interface. -/

/-- What a change leaves of every ring, it leaves of each where it is made to one. -/
theorem ring_onRing_congr {α : Type} (g : Ring → α) {f : Ring → Ring} (hf : ∀ r, g (f r) = g r) (n m : Nat) (s : State) :
    g ((s.onRing n f).ring m) = g (s.ring m) := by
  simp only [State.ring, State.onRing, State.onHif_hif, upd, List.getD_eq_getElem?_getD, List.getElem?_modify]
  cases s.hif.rings[m]? with
  | none => rfl
  | some r =>
    by_cases h : n = m
    · simp [h, hf]
    · simp [h]

/-- Whether a ring is halted, and why. -/
def Ring.halt (r : Ring) : Bool × Nat := (r.halted, r.haltReason)

theorem ring_onRing_self {n : Nat} {s : State} (hn : n < s.hif.rings.length) (f : Ring → Ring) :
    (s.onRing n f).ring n = f (s.ring n) := by
  simp [State.ring, State.onRing, upd, hn]

theorem ring_onRing_of_ne {n m : Nat} (hm : m ≠ n) (f : Ring → Ring) (s : State) : (s.onRing n f).ring m = s.ring m :=
  ring_eq_of_besideRing (congrArg (·.1) (besideRing_onRing n f s)) hm

@[simp] theorem length_rings_onRing (n : Nat) (f : Ring → Ring) (s : State) : (s.onRing n f).hif.rings.length = s.hif.rings.length := by
  simp [State.onRing, upd]

@[simp] theorem inflight_onRing (n : Nat) (f : Ring → Ring) (s : State) : (s.onRing n f).hif.inflight = s.hif.inflight := rfl

/-- What leaves everything beside ring n for every n leaves every ring. -/
theorem rings_eq_of_besideRing {s t : State} (h : ∀ n, t.besideRing n = s.besideRing n) : t.hif.rings = s.hif.rings := by
  have hset : t.hif.rings.set s.hif.rings.length {} = s.hif.rings :=
    (congrArg (·.1) (h s.hif.rings.length)).trans (List.set_eq_of_length_le (Nat.le_refl _))
  have hlen : t.hif.rings.length = s.hif.rings.length := by simpa using congrArg List.length hset
  rwa [List.set_eq_of_length_le (Nat.le_of_eq hlen)] at hset

@[simp] theorem ring_post (n code source p1 p2 : Nat) (s : State) : (post code source p1 p2 s).ring n = s.ring n := by
  simp only [State.ring, rings_eq_of_besideRing fun n => besideRing_post n code source p1 p2 s]

@[simp] theorem ring_sendVector (n v : Nat) (s : State) : (sendVector v s).ring n = s.ring n := by
  simp only [State.ring, rings_eq_of_besideRing fun n => besideRing_sendVector n v s]

theorem inflight_eq_of_besideRing {n : Nat} {s t : State} (h : t.besideRing n = s.besideRing n) : t.hif.inflight = s.hif.inflight :=
  congrArg (·.2) h

@[simp] theorem inflight_deliverTo (op : Nat) (q : Cmd) (r : Reply) (s : State) : (deliverTo op q r s).hif.inflight = s.hif.inflight :=
  inflight_eq_of_besideRing (besideRing_deliverTo op q r s)

@[simp] theorem inflight_post (code source p1 p2 : Nat) (s : State) : (post code source p1 p2 s).hif.inflight = s.hif.inflight :=
  inflight_eq_of_besideRing (besideRing_post 0 code source p1 p2 s)

@[simp] theorem rings_advance (k : Nat) (s : State) : (advance k s).hif.rings = s.hif.rings := by
  obtain ⟨t, ht⟩ := advance_onTim k s
  rw [ht]

/-! A completion is written, and leaves its ring halted or going as it was. -/

/-- The interrupt of a completion is pending, or is sent with those that are (R63). -/
theorem raiseRing_cases (n : Nat) (s : State) :
    (∃ v, raiseRing n s = sendVector v (s.onRing n fun r => { r with irqPending := 0 })) ∨
    ∃ since : Ring → Int, raiseRing n s = s.onRing n fun r => { r with irqPending := r.irqPending + 1, irqSince := since r } := by
  unfold raiseRing
  by_cases hsent : max 1 (s.ring n).coalCount ≤ (s.ring n).irqPending + 1
  · exact .inl ⟨_, if_pos hsent⟩
  · exact .inr ⟨_, if_neg hsent⟩

@[simp] theorem halt_raiseRing (n m : Nat) (s : State) : ((raiseRing n s).ring m).halt = (s.ring m).halt := by
  rcases raiseRing_cases n s with ⟨v, h⟩ | ⟨since, h⟩ <;> rw [h]
  · rw [ring_sendVector]
    exact ring_onRing_congr Ring.halt (by intro r; rfl) n m s
  · exact ring_onRing_congr Ring.halt (by intro r; rfl) n m s

@[simp] theorem halt_writeCompletion (n op : Nat) (q : Cmd) (r : Reply) (m : Nat) (s : State) :
    ((writeCompletion n op q r s).ring m).halt = (s.ring m).halt :=
  ring_onRing_congr Ring.halt (by intro r; rfl) n m (s.emit _)

theorem mem_out_sendVector {o : Output} {s : State} (h : o ∈ s.out) (v : Nat) : o ∈ (sendVector v s).out := by
  unfold sendVector
  split
  · exact h
  split
  · exact h
  · exact List.mem_cons_of_mem _ h

theorem mem_out_raiseRing {o : Output} {s : State} (h : o ∈ s.out) (n : Nat) : o ∈ (raiseRing n s).out := by
  rcases raiseRing_cases n s with ⟨v, heq⟩ | ⟨since, heq⟩ <;> rw [heq]
  · exact mem_out_sendVector (s := s.onRing n _) h v
  · exact h

theorem mem_out_writeCompletion (n op : Nat) (q : Cmd) (r : Reply) (s : State) :
    .completion n (s.ring n).cqTail (encCompletion (s.ring n).cqPhase op q r) ∈ (writeCompletion n op q r s).out :=
  List.mem_cons_self

/-- A completion of a command that came over PCIe and is not ST_OK is written, and interrupts (R62, R63). -/
theorem deliverTo_failed {op : Nat} {q : Cmd} {r : Reply} (hsrc : q.src = none) (hr : r.status ≠ .ok) (s : State) :
    deliverTo op q r s = raiseRing q.ring (writeCompletion q.ring op q r s) := by
  simp [deliverTo, hsrc, hr]

/-! Slots (R54, R57, R58). -/

theorem onRing_onRing (n : Nat) (f g : Ring → Ring) (s : State) : (s.onRing n f).onRing n g = s.onRing n fun r => g (f r) := by
  simp only [State.onRing, State.onHif, upd, List.modify_modify_eq]
  rfl

/-- SQ_HEAD has passed the slot that was fetched. -/
def State.fetched (n : Nat) (s : State) : State := s.onRing n fun r => { r with sqHead := (r.sqHead + 1) % 2 ^ r.sqLog2 }

/-- And it was in order: the next SEQ is expected. -/
def State.inOrder (n : Nat) (s : State) : State := (s.fetched n).onRing n fun r => { r with expSeq := (r.expSeq + 1) % 2 ^ 32 }

/-- Neither changes the version agreed on a ring. -/
@[simp] theorem agreed_inOrder (n m : Nat) (s : State) : ((s.inOrder n).ring m).agreed = (s.ring m).agreed :=
  (ring_onRing_congr Ring.agreed (by intro r; rfl) n m (s.fetched n)).trans (ring_onRing_congr Ring.agreed (by intro r; rfl) n m s)

section
variable {dt n : Nat} {slot pblk : List Byte} {descs : List Desc} {data : List Byte} {s₀ s : State} {q : Cmd}
  (hs : advance dt s₀ = s) (hn : n < 8) (hslot : slot.length = 128) (hfetch : s.mayFetch n = true) (hpcie : (s.ring n).ethernet = false)
  (hnew : (s.ring n).sqHead ≠ (s.ring n).sqTail)
include hs hn hslot hfetch hpcie hnew

/-- A slot that a PCIe error spoils halts its ring (R58). -/
theorem exec_slotFetch_pcieError : exec (.slotFetch dt n slot pblk descs data true) s₀ = .next (haltRing n 0x03 s) := by
  change execSlotFetch dt n slot pblk descs data true s₀ = _
  simp [execSlotFetch, fetchSlot, hs, hn, hslot, hfetch, hpcie, hnew]

variable (hq : slotCmd slot n (padTo (viewSlot slot).pblkLen pblk) descs data none = q)
include hq

theorem exec_slotFetch_outOfOrder (hseq : (viewSlot slot).seq ≠ (s.ring n).expSeq) :
    exec (.slotFetch dt n slot pblk descs data false) s₀ =
      .next (deliverTo (viewSlot slot).opcode q (.err .badParam 0x0001) (haltRing n 0x01 (s.fetched n))) := by
  change execSlotFetch dt n slot pblk descs data false s₀ = _
  simp [execSlotFetch, fetchSlot, hs, hn, hslot, hfetch, hpcie, hnew, hq, hseq, State.fetched]

variable (hseq : (viewSlot slot).seq = (s.ring n).expSeq)
include hseq

/-- A slot in order that fails one of the checks 2 to 5 completes with its reply (R70). -/
theorem exec_slotFetch_rejected {r : Reply} (hchecks : slotChecks slot n (padTo (viewSlot slot).pblkLen pblk) false (s.inOrder n) = some r) :
    exec (.slotFetch dt n slot pblk descs data false) s₀ = .next (deliverTo (viewSlot slot).opcode q r (s.inOrder n)) := by
  change execSlotFetch dt n slot pblk descs data false s₀ = _
  unfold State.inOrder State.fetched at hchecks ⊢
  simp only [execSlotFetch, fetchSlot, hs, hn, hslot, hfetch, hpcie, hnew, hq, hseq, hchecks, decide_true, decide_false, BEq.rfl, Bool.and_self,
    Bool.not_true, Bool.or_self, Bool.false_eq_true, if_false, ne_eq, not_true_eq_false, onUnit_true]

theorem exec_slotFetch_admitted (hchecks : slotChecks slot n (padTo (viewSlot slot).pblkLen pblk) false (s.inOrder n) = none) :
    exec (.slotFetch dt n slot pblk descs data false) s₀ =
      .next (admitSlot opTable slot n (padTo (viewSlot slot).pblkLen pblk) q false (s.inOrder n)) := by
  change execSlotFetch dt n slot pblk descs data false s₀ = _
  unfold State.inOrder State.fetched at hchecks ⊢
  simp only [execSlotFetch, fetchSlot, hs, hn, hslot, hfetch, hpcie, hnew, hq, hseq, hchecks, decide_true, decide_false, BEq.rfl, Bool.and_self,
    Bool.not_true, Bool.or_self, Bool.false_eq_true, if_false, ne_eq, not_true_eq_false, onUnit_true]

end

/-! A TAG in flight (R64). -/

theorem mem_of_flying {s : State} {n tag : Nat} {e : InFlight} (h : s.flying (n, tag) = some e) :
    e ∈ s.hif.inflight ∧ e.cmd.ring = n ∧ e.cmd.tag = tag :=
  ⟨List.mem_of_find?_eq_some h, Prod.mk.inj (id_of_flying h)⟩

/-- Checks 2 and 3 passed, a slot whose TAG is in flight fails with DETAIL 0x0002. -/
theorem slotChecks_tagInFlight {slot pblk : List Byte} {n : Nat} {s : State} {e : InFlight}
    (hversion : if (viewSlot slot).opcode = 0x0102 then 1 ≤ (viewSlot slot).version ∧ (viewSlot slot).version ≤ 15
      else (viewSlot slot).version = (s.ring n).agreed)
    (hlength : (viewSlot slot).length ≤ if (viewSlot slot).auth then 72 else 96) (hblock : (viewSlot slot).pblkLen ≤ 1048576)
    (hfly : s.flying (n, (viewSlot slot).tag) = some e) : slotChecks slot n pblk false s = some (.err .badParam 0x0002) := by
  have hagreed : (if (viewSlot slot).opcode = 0x0102 then decide (1 ≤ (viewSlot slot).version) && decide ((viewSlot slot).version ≤ 0x0F)
      else (viewSlot slot).version == (s.ring n).agreed) = true := by
    by_cases hhello : (viewSlot slot).opcode = 0x0102
    · rw [if_pos hhello] at hversion ⊢
      simpa using hversion
    · rw [if_neg hhello] at hversion ⊢
      simpa using hversion
  simp only [slotChecks, hagreed, Nat.not_lt.2 hlength, Nat.not_lt.2 hblock, hfly, decide_false, Bool.not_true, Bool.false_and, Bool.or_self,
    Option.isSome_some, firstFail]

/-- Settles O7: the completion is written beside what is in flight. -/
theorem tagInFlight_holds : Obligations.TagInFlight := by
  refine ⟨fun s n tag e => mem_of_flying, ?command, ?slot⟩
  case command =>
    intro c s₀ op q e hcmd hring s t hfetch hfly
    exact ⟨exec_hostCommand_tagInFlight hcmd rfl hring hfetch hfly, inflight_deliverTo .., rest_deliverTo ..⟩
  case slot =>
    intro dt n slot pblk descs data s₀ e hn hslot s v hfetch hpcie hnew hseq hversion hlength hblock hfly u t
    have hu : s.inOrder n = u := onRing_onRing ..
    have hchecks : slotChecks slot n (padTo (viewSlot slot).pblkLen pblk) false (s.inOrder n) = some (.err .badParam 0x0002) :=
      slotChecks_tagInFlight (by rwa [agreed_inOrder]) hlength hblock hfly
    refine ⟨?_, inflight_deliverTo .., rest_deliverTo ..⟩
    rw [exec_slotFetch_rejected rfl hn hslot hfetch hpcie hnew rfl hseq hchecks, hu]

/-! Base and size registers, and ENABLE (R50). -/

theorem power_of_bar0 {s : State} (h : s.bar0 = true) : s.thm.power ≠ .p3 ∧ s.thm.power ≠ .p4 ∧ s.hif.ready = true := by
  simp only [State.bar0, Bool.and_eq_true, bne_iff_ne, ne_eq] at h
  obtain ⟨⟨hready, hp3⟩, hp4⟩ := h
  exact ⟨hp3, hp4, hready⟩

theorem writeRingReg_enabled {n off : Nat} {s : State} (hon : (s.ring n).enable = true) (hoff : off ≤ 0x10) (v : Nat) :
    writeRingReg n off v s = s := by
  have hcoal : off ≠ 0x24 := by omega
  have hvec : off ≠ 0x28 := by omega
  simp [writeRingReg, hon, hcoal, hvec]

section
variable {n : Nat} {s : State} (hoff : (s.ring n).enable = false) (v : Nat)
include hoff

theorem writeRingReg_sqLow : writeRingReg n 0 v s = s.onRing n fun r => { r with sqBase := setLow r.sqBase v } := by
  simp [writeRingReg, hoff]

theorem writeRingReg_sqHigh : writeRingReg n 4 v s = s.onRing n fun r => { r with sqBase := setHigh r.sqBase v } := by
  simp [writeRingReg, hoff]

theorem writeRingReg_cqLow : writeRingReg n 8 v s = s.onRing n fun r => { r with cqBase := setLow r.cqBase v } := by
  simp [writeRingReg, hoff]

theorem writeRingReg_cqHigh : writeRingReg n 12 v s = s.onRing n fun r => { r with cqBase := setHigh r.cqBase v } := by
  simp [writeRingReg, hoff]

theorem writeRingReg_size : writeRingReg n 16 v s = s.onRing n fun r => { r with sqLog2 := bitsOf v 0 3, cqLog2 := bitsOf v 8 11 } := by
  simp [writeRingReg, hoff]

end

/-- A write at an offset of ring n's block, in a device that is up: aligned it reaches the ring. -/
theorem exec_registerWrite_ringBlock {dt n off v : Nat} {s₀ s : State} (hs : advance dt s₀ = s) (hn : n < 8) (hup : s.bar0 = true)
    (hoff : off < 0x80) (halign : off % 4 = 0) :
    exec (.registerWrite dt (0x1000 + 0x80 * n + off) 4 v) s₀ = .next (writeRingReg n off v s) := by
  obtain ⟨hp3, hp4, hready⟩ := power_of_bar0 hup
  have hring : (0x1000 + 0x80 * n + off - 0x1000) / 0x80 = n := by omega
  have hreg : (0x1000 + 0x80 * n + off - 0x1000) % 0x80 = off := by omega
  rw [exec_registerWrite_word hs (by omega), writeRegister_ring hp3 hp4 (by omega) (by omega) (by omega) hready, hring, hreg]

theorem exec_registerWrite_misaligned {dt off v : Nat} {s₀ s : State} (hs : advance dt s₀ = s) (hoff : off < 0x4000) (halign : off % 4 ≠ 0) :
    exec (.registerWrite dt off 4 v) s₀ = .next s := by
  rw [exec_registerWrite_word hs hoff, writeRegister_misaligned halign]

/-- Settles O50: a write to the block goes by ENABLE, and an enable by the sizes and the halt. -/
theorem ringEnable : Obligations.RingEnable := by
  intro dt n v s₀ hn hrings s r hup
  have hreg (off : Nat) (hblock : off < 0x80) (halign : off % 4 = 0) := exec_registerWrite_ringBlock (v := v) rfl hn hup hblock halign
  refine ⟨fun hon off hoff => ?ignored, fun hoff => ⟨?sqLow, ?sqHigh, ?cqLow, ?cqHigh, ?size⟩, fun hoff hbad => ?refused,
    fun hoff hsq hsq' hcq hcq' hgoing htransport => ?taken⟩
  case ignored =>
    by_cases halign : off % 4 = 0
    · rw [hreg off (by omega) halign, writeRingReg_enabled hon hoff]
    · exact exec_registerWrite_misaligned rfl (by omega) (by omega)
  case refused =>
    rw [exec_ringEnableSet_ring rfl hn, enableRing_refused hup hoff hbad]
  case taken =>
    have hallowed : r.ethernet = false ∨ (s.sec.prot.rings.getD n {}).ethAllowed = true := by
      cases heth : r.ethernet
      · exact .inl rfl
      · exact .inr (htransport heth)
    have hexists : n < s.hif.rings.length := by rw [rings_advance, hrings]; exact hn
    rw [exec_ringEnableSet_ring rfl hn, enableRing_taken hup hoff hsq hsq' hcq hcq' hgoing hallowed]
    refine ⟨_, rfl, ?_, ?_, ?_, ?_, ?_, fun m hm => ring_onRing_of_ne hm _ s, rest_onRing ..⟩ <;> rw [ring_onRing_self hexists]
  case sqLow => exact (hreg 0 (by decide) (by decide)).trans (congrArg _ (writeRingReg_sqLow hoff v))
  case sqHigh => exact (hreg 4 (by decide) (by decide)).trans (congrArg _ (writeRingReg_sqHigh hoff v))
  case cqLow => exact (hreg 8 (by decide) (by decide)).trans (congrArg _ (writeRingReg_cqLow hoff v))
  case cqHigh => exact (hreg 12 (by decide) (by decide)).trans (congrArg _ (writeRingReg_cqHigh hoff v))
  case size => exact (hreg 16 (by decide) (by decide)).trans (congrArg _ (writeRingReg_size hoff v))

/-! A slot out of sequence (R57). -/

/-- The entry of a failed command: its TAG, its STATUS and its DETAIL (Table 3-12). -/
theorem rd_encCompletion_sequence (phase : Bool) (op : Nat) (q : Cmd) (htag : q.tag < 65536) :
    rd (encCompletion phase op q (.err .badParam 0x0001)) 0 2 = q.tag ∧ rd (encCompletion phase op q (.err .badParam 0x0001)) 2 1 = 0x11 ∧
    rd (encCompletion phase op q (.err .badParam 0x0001)) 6 2 = 0x0001 := by
  refine ⟨?_, ?_, ?_⟩
  · simp [rd, encCompletion, toLe, leNat]; omega
  · simp [rd, encCompletion, toLe, leNat, Reply.err, Status.code]
  · simp [rd, encCompletion, toLe, leNat, Reply.err]

/-- The ring is halted, and SQ_HEAD, CQ_TAIL and the rest of it stay (R57). -/
theorem ring_haltRing {n : Nat} {s : State} (hn : n < s.hif.rings.length) (reason : Nat) :
    (haltRing n reason s).ring n = { s.ring n with halted := true, haltReason := reason } := by
  simp only [haltRing, ring_post, ring_onRing_self hn]

@[simp] theorem inflight_haltRing (n reason : Nat) (s : State) : (haltRing n reason s).hif.inflight = s.hif.inflight := by
  simp [haltRing]

/-- Settles O51: the halt stands before the completion, which leaves it; the way out is ring control's. -/
theorem sequenceHalt : Obligations.SequenceHalt := by
  refine ⟨?halt, fun phase op q => rd_encCompletion_sequence phase op q, ?undo⟩
  case halt =>
    intro dt n slot pblk descs data s₀ hn hrings hslot s v hfetch hpcie hnew hseq u q
    have hexists : n < s.hif.rings.length := by rw [rings_advance, hrings]; exact hn
    let w := haltRing n 0x01 u
    have hring : w.ring n = { u.ring n with halted := true, haltReason := 0x01 } :=
      ring_haltRing (by rwa [length_rings_onRing]) 0x01
    have hwritten : deliverTo v.opcode q (.err .badParam 0x0001) w = raiseRing n (writeCompletion n v.opcode q (.err .badParam 0x0001) w) :=
      deliverTo_failed rfl (by decide) w
    have hhalt : ((deliverTo v.opcode q (.err .badParam 0x0001) w).ring n).halt = (true, 1) := by
      rw [hwritten, halt_raiseRing, halt_writeCompletion, hring]; rfl
    refine ⟨_, exec_slotFetch_outOfOrder rfl hn hslot hfetch hpcie hnew rfl hseq, rfl, (Prod.mk.inj hhalt).1, (Prod.mk.inj hhalt).2,
      ?_, ?_, (w.ring n).cqPhase, ?_⟩
    · rw [inflight_deliverTo, inflight_haltRing]; rfl
    · rw [rest_deliverTo, rest_haltRing]; rfl
    · have htail : (w.ring n).cqTail = (s.ring n).cqTail :=
        (congrArg Ring.cqTail hring).trans (ring_onRing_congr Ring.cqTail (by intro r; rfl) n n s)
      have hout := mem_out_writeCompletion n v.opcode q (.err .badParam 0x0001) w
      rw [htail] at hout
      exact hwritten ▸ mem_out_raiseRing hout n
  case undo =>
    intro dt n s₀ hn hrings s hup
    have hexists : n < s.hif.rings.length := by rw [rings_advance, hrings]; exact hn
    refine ⟨exec_ringEnableClear_up rfl hn hup, fun hruns => ?_, fun hoff hidle => ?_, fun hoff hhalted => ?_⟩
    · rw [exec_ringReset_ring rfl hn, resetRing_running hruns]
    · rw [exec_ringReset_ring rfl hn, resetRing_stopped hup hoff hidle]
    · refine ⟨_, exec_ringEnableSet_ring rfl hn, ?_⟩
      rw [enableRing_refused hup hoff (.inr (.inr (.inr (.inr hhalted)))), ring_onRing_self hexists]
      exact hoff

end Sys2Proof.Machine
end

section
/-!
PROOFS. The SYS and LINK commands: what each answers and leaves where it runs (spec/03_command_interface.md, R67, R79, R81, R82;
spec/04, R105, R106; spec/11, R290 to R318; spec/16, R427; spec/17, R434, R435, R443).
-/
namespace Sys2Proof.Machine

/-- A command that runs answers what its effect does. -/
theorem runCmd_answers {op : Nat} {check : Cmd → State → Option Reply} {effect : Cmd → State → Ans} {q : Cmd} {s : State} {a : Ans}
    (hruns : Runs op check q s = true) (heffect : effect q (s.begun op q) = a) : runCmd op check effect q s = .next (a.left q) :=
  heffect ▸ runCmd_runs hruns

/-! LINK_ETH_CONFIG (R79). -/

section
variable {q : Cmd} {s : State} {p : EthPort} (hp : s.hif.eth.getD (q.u8 0) {} = p)
include hp

/-- The MODE that stands: the address alone changes, at once. -/
theorem linkEthConfigEffect_sameMode (henable : p.enable = bit (q.u8 1) 0) (hrate : p.is25 = bit (q.u8 1) 1) (hfec : p.fec = bit (q.u8 1) 2) :
    linkEthConfigEffect q s = .done .good (s.onHif fun h => { h with eth := upd (q.u8 0) (EthPort.address q) h.eth }) := by
  simp only [linkEthConfigEffect, hp, henable, hrate, hfec, BEq.rfl, Bool.and_self, if_true]

theorem linkEthConfigEffect_enable (hoff : p.enable = false) (hon : bit (q.u8 1) 0 = true) :
    linkEthConfigEffect q s = .wait ((s.onHif fun h => { h with
        eth := upd (q.u8 0) (fun p => { p with enable := true, is25 := bit (q.u8 1) 1, fec := bit (q.u8 1) 2, linkUp := false }) h.eth }).onHif
      fun h => { h with eth := upd (q.u8 0) (fun p => { p with retrain := some q.id }) h.eth }) := by
  simp only [linkEthConfigEffect, hp, hoff, hon, Bool.false_beq, Bool.not_true, Bool.false_and, Bool.false_eq_true, if_false, if_true]

theorem linkEthConfigEffect_disable (hon : p.enable = true) (hoff : bit (q.u8 1) 0 = false) :
    linkEthConfigEffect q s = .done .good ((s.onHif fun h => { h with
        eth := upd (q.u8 0) (fun p => { p with enable := false, is25 := bit (q.u8 1) 1, fec := bit (q.u8 1) 2, linkUp := false }) h.eth }).onHif
      fun h => { h with eth := upd (q.u8 0) (EthPort.address q) h.eth }) := by
  simp only [linkEthConfigEffect, hp, hoff, hon, Bool.true_beq, Bool.false_and, Bool.false_eq_true, if_false]

end

/-- Settles O19: each command's effect where it runs; a slip splits on the lane, a PRBS on OP, an injection on its kind, a flush on
whether the queue is empty of a packet half written, a status on CLEAR, and a port's configuration on its MODE. -/
theorem linkCommandsComplete : Obligations.LinkCommandsComplete := by
  refine ⟨?config, ?train, ?slipCamera, ?slipCourse, ?prbsStop, ?prbsRead, ?prbsClear, ?prbsStart, ?injectLane, ?injectCourse, ?flushed,
    ?flushWaits, ?status, ?statusClear, ?ethSame, ?ethOn, ?ethOff, ?marks⟩
  case config => exact fun q s₀ hruns => runCmd_runs hruns
  case train => exact fun q s₀ hruns => runCmd_runs hruns
  case slipCamera =>
    intro q s₀ hruns s lock errs hlane
    refine runCmd_answers hruns ?_
    simp only [linkLaneSlipEffect, if_neg (Nat.not_lt.2 hlane)]
    rfl
  case slipCourse =>
    intro q s₀ hruns s lock errs hlane
    refine runCmd_answers hruns ?_
    simp only [linkLaneSlipEffect, if_pos hlane]
    rfl
  case prbsStop =>
    intro q s₀ hruns s hop
    refine runCmd_answers hruns ?_
    simp only [linkPrbsEffect, hop]
    rfl
  case prbsRead =>
    intro q s₀ hruns s hop
    refine runCmd_answers hruns ?_
    simp only [linkPrbsEffect, hop]
    rfl
  case prbsClear =>
    intro q s₀ hruns s hop
    refine runCmd_answers hruns ?_
    simp only [linkPrbsEffect, hop]
    rfl
  case prbsStart =>
    intro q s₀ hruns s told p hstart hop
    refine runCmd_answers hruns ?_
    unfold linkPrbsEffect
    dsimp only
    split
    case h_1 hzero => exact absurd hzero hstart
    case h_2 hread => omega
    case h_3 hclear => omega
    case h_4 => rfl
  case injectLane =>
    intro q s₀ hruns s hkind
    refine runCmd_answers hruns ?_
    simp only [linkInjectEffect, if_pos hkind]
    rfl
  case injectCourse =>
    intro q s₀ hruns s hkind
    refine runCmd_answers hruns ?_
    simp only [linkInjectEffect, if_neg (Nat.not_le.2 hkind)]
    rfl
  case flushed =>
    intro q s₀ t n f hruns s hflush
    refine runCmd_answers hruns ?_
    simp only [linkQueueFlushEffect]
    rw [hflush]
  case flushWaits =>
    intro q s₀ t hruns s hflush
    refine runCmd_answers (a := .wait t) hruns ?_
    simp only [linkQueueFlushEffect]
    rw [hflush]
  case status =>
    intro q s₀ hruns s c res hkeep
    refine runCmd_answers hruns ?_
    simp only [linkStatusEffect, hkeep]
    rfl
  case statusClear =>
    intro q s₀ hruns s c res hclear
    refine runCmd_answers hruns ?_
    simp only [linkStatusEffect, hclear]
    rfl
  case ethSame =>
    intro q s₀ hruns s henable hrate hfec
    exact runCmd_answers hruns (linkEthConfigEffect_sameMode rfl henable hrate hfec)
  case ethOn =>
    intro q s₀ hruns s hoff hon
    exact runCmd_answers hruns (linkEthConfigEffect_enable rfl hoff hon)
  case ethOff =>
    intro q s₀ hruns s hon hoff
    exact runCmd_answers hruns (linkEthConfigEffect_disable rfl hon hoff)
  case marks => exact fun q s₀ hruns => runCmd_runs hruns

/-! SYS_ABORT (R67) and SYS_FW_ACTIVATE (04 R106). -/

/-- A target that has not started is cancelled where it stands. -/
theorem sysAbortEffect_notStarted {q : Cmd} {s : State} {e : InFlight} (hfly : s.flying (q.u8 0, q.u16 2) = some e)
    (hstarted : e.started = false) : sysAbortEffect q s = .done .good (deliver (q.u8 0, q.u16 2) (.err .cancelled) s) := by
  simp [sysAbortEffect, cancelFlying, hfly, hstarted, id_of_flying hfly]

theorem sysAbortEffect_abortable {q : Cmd} {s : State} {e : InFlight} (hfly : s.flying (q.u8 0, q.u16 2) = some e)
    (hstarted : e.started = true) (habortable : e.abortable = true) : sysAbortEffect q s = .done .good (cancelStarted e s) := by
  simp [sysAbortEffect, cancelFlying, hfly, hstarted, habortable]

/-- Settles O9: each command's effect where it runs; an abort splits on its target's start, a save on the board record's slot, an
activation on OP. -/
theorem sysCommandsComplete : Obligations.SysCommandsComplete := by
  refine ⟨?identify, ?hello, ?health, ?abortWaiting, ?abortStarted, ?nop, ?reset, ?saveBoard, ?saveConfig, ?load, ?fwWrite, ?fwSelect,
    ?fwConfirm, ?fwCommit, ?gpio⟩
  case identify => exact fun q s₀ hruns => runCmd_runs hruns
  case hello =>
    intro q s₀ v hruns s hagree
    refine runCmd_answers hruns ?_
    simp only [sysHelloEffect, hagree]
    rfl
  case health => exact fun q s₀ hruns => runCmd_runs hruns
  case abortWaiting =>
    intro q s₀ e hruns s hfly hstarted hid
    exact runCmd_answers hruns (sysAbortEffect_notStarted hfly hstarted)
  case abortStarted =>
    intro q s₀ e hruns s hfly hstarted habortable
    exact runCmd_answers hruns (sysAbortEffect_abortable hfly hstarted habortable)
  case nop => exact fun q s₀ hruns => runCmd_runs hruns
  case reset => exact fun q s₀ hruns => runCmd_runs hruns
  case saveBoard =>
    intro q s₀ hruns s hslot
    refine runCmd_answers (a := .wait _) hruns ?_
    simp only [sysConfigSaveEffect, if_pos hslot]
    rfl
  case saveConfig =>
    intro q s₀ hruns s hslot
    refine runCmd_answers (a := .wait _) hruns ?_
    simp only [sysConfigSaveEffect, if_neg hslot]
    rfl
  case load =>
    intro q s₀ t hruns s hreplay
    refine runCmd_answers hruns ?_
    unfold sysConfigLoadEffect
    rw [hreplay]
  case fwWrite => exact fun q s₀ hruns => runCmd_runs hruns
  case fwSelect =>
    intro q s₀ hruns s hop
    refine runCmd_answers hruns ?_
    simp only [sysFwActivateEffect, hop]
    rfl
  case fwConfirm =>
    intro q s₀ hruns s hop
    refine runCmd_answers hruns ?_
    simp only [sysFwActivateEffect, hop]
    rfl
  case fwCommit =>
    intro q s₀ hruns s hop
    refine runCmd_answers hruns ?_
    unfold sysFwActivateEffect
    split
    case h_1 hselect => omega
    case h_2 hconfirm => omega
    case h_3 => rfl
  case gpio => exact fun q s₀ hruns => runCmd_runs hruns

end Sys2Proof.Machine
end

section
/-!
PROOFS. The rows that bring commands in and end their NOR writes, and the rows of reset and start-up
(spec/03_command_interface.md, R70, R75, R76, R79; spec/04, R88, R94, R99, R106; spec/17, R423, R430, R432; spec/18, R461).
-/
namespace Sys2Proof.Machine

/-! The Ethernet ports (R75, R76, R79). -/

section
variable {dt port : Nat} {vlan : Option Nat} {s₀ s : State} (hs : advance dt s₀ = s) (hport : port < 2)
include hs hport

theorem exec_commandDatagram_ofPort (sender : EthFrom) (address udpPort : Nat) (bytes : List Byte) :
    exec (.commandDatagram dt port sender vlan address udpPort bytes) s₀ =
      .next (if !ethAccepts port vlan s then s
        else if address = (s.hif.eth.getD port {}).ip ∧ udpPort = (s.hif.eth.getD port {}).udp then takeDatagram opTable port sender bytes s
        else dropDatagram port s) := by
  change execCommandDatagram dt port sender vlan address udpPort bytes s₀ = _
  simp only [execCommandDatagram, hs, hport, decide_true, onUnit_true]

theorem exec_arpRequest_answered {mac ip target : Nat} (haccepts : ethAccepts port vlan s = true)
    (htarget : target = (s.hif.eth.getD port {}).ip) : exec (.arpRequest dt port vlan mac ip target) s₀ = .next (s.emit (.arpReply port mac ip)) := by
  change execArpRequest dt port vlan mac ip target s₀ = _
  simp only [execArpRequest, hs, hport, haccepts, htarget, decide_true, BEq.rfl, Bool.and_self, if_true, onUnit_true]

theorem exec_icmpEchoRequest_answered {ip target : Nat} {bytes : List Byte} (haccepts : ethAccepts port vlan s = true)
    (htarget : target = (s.hif.eth.getD port {}).ip) :
    exec (.icmpEchoRequest dt port vlan ip target 1 8 bytes) s₀ = .next (s.emit (.icmpReply port ip bytes)) := by
  change execIcmpEchoRequest dt port vlan ip target 1 8 bytes s₀ = _
  simp only [execIcmpEchoRequest, hs, hport, haccepts, htarget, decide_true, Bool.not_true, Bool.false_eq_true, if_false, and_self, if_true,
    onUnit_true]

end

/-- A link that comes up after a change of MODE: what waited goes out, the address takes effect, and its command finishes. -/
theorem ethRetrained_up {port : Nat} {s t : State} {id : CmdId} {e : InFlight} (henable : (s.hif.eth.getD port {}).enable = true)
    (hretrain : (s.hif.eth.getD port {}).retrain = some id)
    (ht : (s.hif.eth.getD port {}).waiting.foldl (fun s w => s.emit (.datagram port w.1 w.2))
      (reportGroups port (s.onHif fun h => { h with eth := upd port (fun p => { p with linkUp := true, retrain := none, waiting := [] }) h.eth })) = t)
    (hfly : t.flying id = some e) :
    ethRetrained port true s = finish id .good (t.onHif fun h => { h with eth := upd port (EthPort.address e.cmd) h.eth }) := by
  subst ht
  simp only [ethRetrained, henable, hretrain, hfly, Bool.not_true, Bool.false_eq_true, if_false, if_true]

/-! The oldest journal write and the oldest NOR write (04 R88, R94). -/

theorem journalWritten_counter {s : State} {ring role mark : Nat} {held : Bool} {rest : List JournalItem}
    (hqueue : s.nor.queue = .counter ring role mark held :: rest) :
    journalWritten s =
      counterWritten ring role mark held (s.onNor fun n => { n.take (.counter ring role mark held) with queue := rest }) := by
  simp only [journalWritten, hqueue]

theorem journalWritten_profile {s : State} {p : List Byte} {cmd : CmdId} {rest : List JournalItem}
    (hqueue : s.nor.queue = .profile p cmd :: rest) :
    journalWritten s = profileWritten cmd (s.onNor fun n => { n.take (.profile p cmd) with queue := rest }) := by
  simp only [journalWritten, hqueue]

section
variable {s : State} {bytes : List Byte} {id : CmdId} {rest : List (Nat × List Byte × CmdId)}

theorem norWritten_protect (hwrites : s.sec.norWrites = (0, bytes, id) :: rest) :
    norWritten s = protectWritten id (s.onSec fun c => { c with norWrites := rest }) := by
  simp only [norWritten, hwrites]

theorem norWritten_keys (hwrites : s.sec.norWrites = (1, bytes, id) :: rest) :
    norWritten s = keysWritten id bytes (s.onSec fun c => { c with norWrites := rest }) := by
  simp only [norWritten, hwrites]

theorem norWritten_image (hwrites : s.sec.norWrites = (2, bytes, id) :: rest) :
    norWritten s = imageWritten id bytes (s.onSec fun c => { c with norWrites := rest }) := by
  simp only [norWritten, hwrites]

end

/-- Settles O27: a slot splits on its read, a datagram on its address, a write on its region; each row then is its own effect. -/
theorem slotRowsComplete : Obligations.SlotRowsComplete := by
  refine ⟨?admitted, ?pcieError, ?counter, ?profile, ?taken, ?dropped, ?ignored, ?arp, ?echo, ?retrained, ?protect, ?keys, ?image⟩
  case admitted =>
    intro dt ring slot pblk descs data pcieError s₀ s t hring hslot hfetch hpcie hnew herror hseq hchecks
    subst herror
    exact exec_slotFetch_admitted rfl hring hslot hfetch hpcie hnew rfl hseq.2 hchecks
  case pcieError =>
    intro dt ring slot pblk descs data pcieError s₀ s hring hslot hfetch hpcie hnew herror
    subst herror
    exact exec_slotFetch_pcieError rfl hring hslot hfetch hpcie hnew
  case counter => exact fun dt s₀ ring role mark held rest hqueue => congrArg Host.Outcome.next (journalWritten_counter hqueue)
  case profile => exact fun dt s₀ p cmd rest hqueue => congrArg Host.Outcome.next (journalWritten_profile hqueue)
  case taken =>
    intro dt port sender vlan address udpPort bytes s₀ s hport haccepts haddress hudp
    rw [exec_commandDatagram_ofPort rfl hport, if_neg (by simp [haccepts, s]), if_pos ⟨haddress, hudp⟩]
  case dropped =>
    intro dt port sender vlan address udpPort bytes s₀ s hport haccepts hother
    rw [exec_commandDatagram_ofPort rfl hport, if_neg (by simp [haccepts, s]), if_neg fun h => hother.elim (· h.1) (· h.2)]
  case ignored =>
    intro dt port sender vlan address udpPort bytes s₀ s hport hshut
    rw [exec_commandDatagram_ofPort rfl hport, if_pos (by simp [hshut, s])]
  case arp => exact fun dt port vlan mac ip target s₀ hport haccepts htarget => exec_arpRequest_answered rfl hport haccepts htarget
  case echo =>
    intro dt port vlan ip target protocol type bytes s₀ s hport haccepts hprotocol htype htarget
    subst hprotocol htype
    exact exec_icmpEchoRequest_answered rfl hport haccepts htarget
  case retrained =>
    intro dt port linkUp s₀ id e s t hport hup henable hretrain hfly
    subst hup
    change onUnit (decide (port < 2)) (ethRetrained port true s) = _
    rw [ethRetrained_up henable hretrain rfl hfly, decide_eq_true hport, onUnit_true]
  case protect => exact fun dt s₀ bytes id rest hwrites => congrArg Host.Outcome.next (norWritten_protect hwrites)
  case keys => exact fun dt s₀ bytes id rest hwrites => congrArg Host.Outcome.next (norWritten_keys hwrites)
  case image => exact fun dt s₀ bytes id rest hwrites => congrArg Host.Outcome.next (norWritten_image hwrites)

/-! Reset and start-up (17 R430, R432; 04 R99, R106). -/

theorem releasePorst_alone {gpio : Nat} {s : State} (hporst : s.board.holds.contains .porst = true) :
    let t := s.onBoard fun b => { b with holds := b.holds.filter (· != .porst), gpioIn := gpio % 65536 }
    t.board.holds.contains .supply = false →
    releasePorst gpio s = t.onBoard fun b => { b with bootHold := bit gpio 0, gen3 := bit gpio 1, fault := bit gpio 0 || t.imageBad } := by
  intro t hsupply
  simp only [releasePorst, hporst, Bool.not_true, Bool.false_eq_true, if_false]
  exact if_neg (Bool.eq_false_iff.1 hsupply)

theorem assertSysRst_up {s : State} (hpower : s.thm.power ≠ .p4) (hrst : s.board.holds.contains .sysRst = false) (hheld : s.held = false) :
    assertSysRst s = deviceReset [.sysRst] 2 s := by
  simp only [assertSysRst, beq_eq_false_iff_ne.2 hpower, hrst, hheld, Bool.or_self, Bool.false_eq_true, if_false]

theorem bootReady_free {tab : OpTable} {s : State} {cause : Nat} (hboot : s.board.booting = some cause) (hheld : s.held = false)
    (hhold : s.board.bootHold = false) (hfault : s.board.fault = false) : bootReady tab s = raiseReady tab cause s := by
  simp only [bootReady, hboot, hheld, hhold, hfault, Bool.or_self, Bool.false_eq_true, if_false]

/-- Settles O37: each row's condition decides the branches of its function. -/
theorem resetRowsComplete : Obligations.ResetRowsComplete := by
  refine ⟨?porst, ?porstUp, ?sysRst, ?sysRstUp, ?watchdog, ?perst, ?perstUp, ?trial, ?ready, ?idle, ?tap⟩
  case porst => exact fun dt s₀ => rfl
  case porstUp =>
    intro dt gpio s₀ s t hporst hsupply hleft
    exact congrArg Host.Outcome.next (releasePorst_alone hporst hleft)
  case sysRst => exact fun dt s₀ hpower hrst hheld => congrArg Host.Outcome.next (assertSysRst_up hpower hrst hheld)
  case sysRstUp => exact fun dt s₀ => rfl
  case watchdog =>
    intro dt s₀ s hheld h3 h4
    exact congrArg Host.Outcome.next
      (if_neg (by simp only [hheld, beq_eq_false_iff_ne.2 h3, beq_eq_false_iff_ne.2 h4, Bool.or_self, Bool.false_eq_true, not_false_eq_true, s]))
  case perst => exact fun dt s₀ => rfl
  case perstUp => exact fun dt s₀ => rfl
  case trial =>
    intro dt s₀ cause s hboot htrial hheld hpassed
    change execTrialBootTimeout dt s₀ = _
    simp only [execTrialBootTimeout, show advance dt s₀ = s from rfl, hboot, htrial, hheld, hpassed, Bool.not_false, Bool.and_self, if_true]
  case ready => exact fun dt s₀ cause hboot hheld hhold hfault => congrArg Host.Outcome.next (bootReady_free hboot hheld hhold hfault)
  case idle =>
    intro dt s₀ s hready hrun hopen hpassed
    change execIdleRecordClose dt s₀ = _
    simp only [execIdleRecordClose, show advance dt s₀ = s from rfl, hready, hrun, hopen, hpassed, Option.isNone_none, Bool.and_self, if_true]
  case tap =>
    intro dt instr s₀ s t
    change Host.Outcome.next (loadTap instr s) = _
    unfold loadTap
    rfl

end Sys2Proof.Machine
end

section
/-!
PROOFS. The reading commands: what they read changes nothing outside the host interface and the statistics
(spec/03_command_interface.md, R70, R81; spec/16_statistics_and_diagnostics.md, R427).
-/
namespace Sys2Proof.Machine

/-! Their opcodes are neither mirrored nor kept (15 Table 15-7, 17 Table 17-4). -/

theorem leavesRest_iff {op : Nat} : leavesRest op = true ↔
    op ∈ [0x0101, 0x0102, 0x0103, 0x0105, 0x0201, 0x0202, 0x0209, 0x0305, 0x0306, 0x0408, 0x0505, 0x0509, 0x0609, 0x0706, 0x0803, 0x0902,
      0x0908, 0x0C02, 0x0C06, 0x0D02, 0x0E02, 0x0E05, 0x0F01, 0x0F02, 0x0F03, 0x0F05] :=
  List.contains_iff_mem

theorem mirroredOp_of_leavesRest {op : Nat} (h : leavesRest op = true) (q : Cmd) : mirroredOp op q = false := by
  revert op
  simp [leavesRest_iff, mirroredOp]

theorem savedKey_of_leavesRest {op : Nat} (h : leavesRest op = true) (ps : List Byte) : savedKey op ps = none := by
  revert op
  simp [leavesRest_iff, savedKey]

theorem mirrorAfter_of_leavesRest {op : Nat} (h : leavesRest op = true) (q : Cmd) (s : State) : mirrorAfter op q s = s := by
  have hop : op ≠ 0x0301 ∧ op ≠ 0x0302 ∧ op ≠ 0x0304 := by
    revert op
    simp [leavesRest_iff]
  simp [mirrorAfter, hop]

/-! What their effects leave. -/

/-- An effect completes at once, leaving the rest and what is in flight. -/
def Reads (effect : Cmd → State → Ans) : Prop :=
  ∀ q s, ∃ r t, effect q s = .done r t ∧ t.rest = s.rest ∧ t.hif.inflight = s.hif.inflight

/-- It is enough that an effect answers the state that it read. -/
theorem Reads.of_same {effect : Cmd → State → Ans} (h : ∀ q s, ∃ r, effect q s = .done r s) : Reads effect := by
  intro q s
  obtain ⟨r, hr⟩ := h q s
  exact ⟨r, s, hr, rfl, rfl⟩

theorem reads_sysHelloEffect : Reads sysHelloEffect := fun _ _ => ⟨_, _, rfl, rfl, rfl⟩

theorem reads_sysHealthEffect : Reads sysHealthEffect := fun _ _ => ⟨_, _, rfl, rfl, rfl⟩

theorem reads_statClearEffect : Reads statClearEffect := fun _ _ => ⟨_, _, rfl, rfl, rfl⟩

theorem reads_statCountersEffect : Reads statCountersEffect := by
  intro q s
  refine ⟨_, _, rfl, ?_⟩
  split <;> exact ⟨rfl, rfl⟩

theorem reads_statFrameRecordEffect : Reads statFrameRecordEffect := by
  intro q s
  unfold statFrameRecordEffect
  split
  · exact ⟨_, _, rfl, rfl, rfl⟩
  · exact ⟨_, _, rfl, rfl, rfl⟩

theorem reads_statEventFetchEffect : Reads statEventFetchEffect := by
  refine .of_same fun q s => ?_
  unfold statEventFetchEffect
  split
  · exact ⟨_, rfl⟩
  · exact ⟨_, rfl⟩

theorem reads_jobInfoEffect : Reads jobInfoEffect := by
  refine .of_same fun q s => ?_
  unfold jobInfoEffect
  dsimp only
  split
  · exact ⟨_, rfl⟩
  · exact ⟨_, rfl⟩

/-- The greeting and the statistics' own commands change the host interface or the statistics; every other opcode leaves the state. -/
theorem reads_opTable {op : Nat} (h : leavesRest op = true) : Reads (opTable op).2 := by
  simp only [leavesRest_iff, List.mem_cons, List.not_mem_nil, or_false] at h
  by_cases hello : op = 0x0102
  · exact hello ▸ reads_sysHelloEffect
  by_cases health : op = 0x0103
  · exact health ▸ reads_sysHealthEffect
  by_cases info : op = 0x0306
  · exact info ▸ reads_jobInfoEffect
  by_cases records : op = 0x0F01
  · exact records ▸ reads_statFrameRecordEffect
  by_cases counters : op = 0x0F02
  · exact counters ▸ reads_statCountersEffect
  by_cases clear : op = 0x0F03
  · exact clear ▸ reads_statClearEffect
  by_cases events : op = 0x0F05
  · exact events ▸ reads_statEventFetchEffect
  simp only [hello, health, info, records, counters, clear, events, or_false, false_or] at h
  rcases h with rfl | rfl | rfl | rfl | rfl | rfl | rfl | rfl | rfl | rfl | rfl | rfl | rfl | rfl | rfl | rfl | rfl | rfl | rfl <;>
    exact .of_same fun _ _ => ⟨_, rfl⟩

/-! Their completion. -/

/-- What is in flight under an id, if anything is, is a reading command. -/
def State.onlyReads (s : State) (id : CmdId) : Prop := ∀ e, s.flying id = some e → leavesRest e.opcode = true

theorem State.onlyReads_congr {s t : State} {id : CmdId} (h : t.hif.inflight = s.hif.inflight) : t.onlyReads id ↔ s.onlyReads id := by
  simp only [State.onlyReads, State.flying, h]

/-- A reading command that has just been fetched is the one in flight under its id. -/
theorem onlyReads_fetched {op : Nat} {q : Cmd} {s : State} (hop : leavesRest op = true) (hfree : s.flying q.id = none) :
    (s.onHif fun h => { h with inflight := h.inflight ++ [{ cmd := q, opcode := op }] }).onlyReads q.id := by
  intro e he
  have hfree : s.hif.inflight.find? (fun e => e.cmd.id == q.id) = none := hfree
  simp only [State.flying, State.onHif_hif, List.find?_append, hfree, Option.none_or, List.find?_cons, BEq.rfl, Option.some.injEq] at he
  rw [← he]
  exact hop

/-- That it has started changes neither its id nor its opcode. -/
theorem onlyReads_started {id : CmdId} {s : State} (h : s.onlyReads id) :
    (s.onFlying id fun e => { e with started := true }).onlyReads id := by
  have hid : (fun e : InFlight => e.cmd.id == id) ∘ (fun e => if e.cmd.id == id then { e with started := true } else e) =
      fun e => e.cmd.id == id := by
    funext e
    simp only [Function.comp_apply]
    split <;> rfl
  intro e he
  simp only [State.onFlying, State.flying, State.onHif_hif, List.find?_map, hid, Option.map_eq_some_iff] at he
  obtain ⟨x, hx, rfl⟩ := he
  split
  · exact h x hx
  · exact h x hx

section
variable {id : CmdId} {s : State} (hring : id.1 < 8) (hreads : s.onlyReads id)
include hring hreads

theorem rest_deliver_reading (r : Reply) : (deliver id r s).rest = s.rest :=
  rest_deliver id r s hring (.inr fun e he => savedKey_of_leavesRest (hreads e he) _)

theorem rest_finish_reading (r : Reply) : (finish id r s).rest = s.rest := by
  cases hfly : s.flying id with
  | none => simp only [finish, hfly]
  | some e =>
    have hop := hreads e hfly
    simp only [finish, hfly, mirroredOp_of_leavesRest hop, mirrorAfter_of_leavesRest hop, Bool.and_false, Bool.false_eq_true, if_false, ite_self]
    exact rest_deliver_reading hring hreads r

end

theorem orderedReset_of_none {s : State} (h : s.sec.resetOrdered = none) : orderedReset s = s := by
  simp only [orderedReset, h]

theorem advance_sec (n : Nat) (s : State) : (advance n s).sec = s.sec := by
  obtain ⟨tim, h⟩ := advance_onTim n s
  rw [h]

theorem sec_of_rest {s t : State} (h : t.rest = s.rest) : t.sec = s.sec := congrArg Prod.fst h

/-- A reading command that is carried out ends in a completion, whatever its checks say, and orders no reset. -/
theorem rest_carryOut_reading {op : Nat} {check : Cmd → State → Option Reply} {effect : Cmd → State → Ans} {q : Cmd} {s : State}
    (heffect : Reads effect) (hring : q.id.1 < 8) (hreads : s.onlyReads q.id) (hreset : s.sec.resetOrdered = none) :
    (carryOut op check effect q s).rest = s.rest := by
  have hstarted := onlyReads_started hreads
  unfold carryOut
  extract_lets t
  split
  · exact rest_finish_reading hring hstarted _
  split
  · exact rest_finish_reading hring hstarted _
  split
  · exact rest_finish_reading hring hstarted _
  obtain ⟨r, u, hdone, hrest, hinflight⟩ := heffect q t
  have hfinish : (finish q.id r u).rest = s.rest := (rest_finish_reading hring ((State.onlyReads_congr hinflight).2 hstarted) r).trans hrest
  rw [hdone]
  dsimp only
  rw [orderedReset_of_none (by rw [sec_of_rest hfinish, hreset]), hfinish]

theorem rest_launch_reading {op : Nat} {check : Cmd → State → Option Reply} {effect : Cmd → State → Ans} {q : Cmd} {s : State}
    (heffect : Reads effect) (hop : leavesRest op = true) (hring : q.ring < 8) (hfree : s.flying q.id = none)
    (hreset : s.sec.resetOrdered = none) : (launch op check effect q s).rest = s.rest := by
  have hreads := onlyReads_fetched hop hfree
  unfold launch
  extract_lets earlier t
  split
  · exact rest_deliver_reading hring hreads _
  split
  · exact rest_carryOut_reading heffect hring hreads hreset
  · rfl

/-- Settles O48: wherever a reading command's row stops, it has changed the host interface and the statistics alone. -/
theorem readingCommandsChangeNothing : Obligations.ReadingCommandsChangeNothing := by
  intro c s t op q hcmd hop hreset hexec
  rw [exec_hostCommand hcmd] at hexec
  unfold runCmd at hexec
  extract_lets s' at hexec
  split at hexec
  · cases hexec
  split at hexec
  · rw [← Host.Outcome.next.inj hexec]
  split at hexec
  · rw [← Host.Outcome.next.inj hexec, rest_tagInFlight]
  next hring _ hfree =>
    rw [← Host.Outcome.next.inj hexec]
    exact rest_launch_reading (reads_opTable hop) hop (Nat.not_le.1 hring) (by simpa using hfree) (by rw [advance_sec, hreset])

end Sys2Proof.Machine
end

section
/-!
PROOFS. The lifecycle and the fuses, which no step takes back, and the SEC commands (spec/04_security_and_debug.md, R87 to R107).
-/
namespace Sys2Proof.Machine

/-! The one-way state (R93, R96, R104). -/

/-- The lifecycle goes to no earlier state, SVN_MIN does not fall, and what is revoked stays revoked. -/
structure FusesAdvance (s t : State) : Prop where
  lifecycle : s.sec.lifecycle.code ≤ t.sec.lifecycle.code
  svnMin : s.sec.svnMin ≤ t.sec.svnMin
  revoked : ∀ k, s.sec.fwRevoked.getD k false = true → t.sec.fwRevoked.getD k false = true

theorem Grows.fusesAdvance {s t : State} (h : Grows s t) : FusesAdvance s t := ⟨h.life, h.svn, h.revoked⟩

theorem FusesAdvance.of_eq {s t : State} (hlife : t.sec.lifecycle = s.sec.lifecycle) (hsvn : t.sec.svnMin = s.sec.svnMin)
    (hrevoked : t.sec.fwRevoked = s.sec.fwRevoked) : FusesAdvance s t :=
  ⟨Nat.le_of_eq (congrArg Lifecycle.code hlife.symm), Nat.le_of_eq hsvn.symm, fun _ hk => hrevoked ▸ hk⟩

/-- A write through the window reaches SCRATCH alone; every other row keeps or grows. -/
theorem exec_fusesAdvance {c : Instr} {s t : State} (hexec : exec c s = .next t) : FusesAdvance s t := by
  by_cases hwrite : ∃ dt offset bytes, c = .bar2WindowWrite dt offset bytes
  · obtain ⟨dt, offset, bytes, rfl⟩ := hwrite
    obtain ⟨-, hlife, hsvn, hrevoked, -⟩ := grows_execBar2WindowWrite dt offset bytes s t hexec
    exact .of_eq hlife hsvn hrevoked
  · exact (exec_grows (fun dt offset bytes h => hwrite ⟨dt, offset, bytes, h⟩) s t hexec).fusesAdvance

/-- What a step that answers a next state has done: with no row waiting what the device does of its own accord, else the row at the
front of the queue. -/
theorem step_next_cases {s t : State} (h : step s = .next t) :
    (s.pending = [] ∧ t = idle s) ∨ ∃ c rest, s.pending = c :: rest ∧ exec c { s with pending := rest } = .next t := by
  unfold step at h
  split at h
  next hqueue => exact .inl ⟨hqueue, (Host.Outcome.next.inj h).symm⟩
  next c rest hqueue => exact .inr ⟨c, rest, hqueue, h⟩

theorem step_fusesAdvance {s t : State} (h : step s = .next t) : FusesAdvance s t := by
  obtain ⟨-, rfl⟩ | ⟨c, rest, -, hexec⟩ := step_next_cases h
  · exact (Grows.idle s).fusesAdvance
  · obtain ⟨hlife, hsvn, hrevoked⟩ := exec_fusesAdvance hexec
    exact ⟨hlife, hsvn, hrevoked⟩

/-- Settles O43: neither a row nor an idle step takes any of the three back. -/
theorem fusesOnlyAdvance : Obligations.FusesOnlyAdvance := by
  intro s t hstep
  obtain ⟨hlife, hsvn, hrevoked⟩ := step_fusesAdvance hstep
  exact ⟨hlife, hsvn, hrevoked⟩

/-! SEC_PROTECT_WRITE, SEC_DEBUG and SEC_COUNTER_READ (R87, R98, R107). -/

theorem secProtectWriteEffect_of_decode {q : Cmd} {t : ProtTable} (h : ProtTable.decode q.pblk = some t) (s : State) :
    let x := judgeFlying t q.id ((hold q [.device] false s).onHif fun h => { h with stops := .protect :: h.stops })
    secProtectWriteEffect q s = .wait (beginNor 0 t.encode q.id
      (x.2.onSec fun c => { c with switch := some { table := t, cmd := q.id, cancelled := x.1, writing := true } })) := by
  simp only [secProtectWriteEffect, h]

/-- A fall from FULL resets the device after the completion. -/
theorem secDebugEffect_lowered {q : Cmd} {s : State} (hfull : s.sec.debug = .full) (hlower : Debug.ofCode (q.u8 0) ≠ .full) :
    secDebugEffect q s =
      .done .good ((setDebug (Debug.ofCode (q.u8 0)) s).onSec fun c => { c with resetOrdered := some 5 }) := by
  simp [secDebugEffect, hfull, hlower]

theorem secDebugEffect_not_lowered {q : Cmd} {s : State} (h : s.sec.debug ≠ .full ∨ Debug.ofCode (q.u8 0) = .full) :
    secDebugEffect q s = .done .good (setDebug (Debug.ofCode (q.u8 0)) s) := by
  rcases h with hlow | hfull
  · simp [secDebugEffect, hlow]
  · simp [secDebugEffect, hfull]

/-- SEC_COUNTER_READ's result: L and J of a ring's counter for a role. -/
def counterResult (ring role : Nat) (s : State) : List Byte :=
  toLe 8 (s.sec.counters.getD (4 * ring + role) {}).last ++ toLe 8 (s.sec.counters.getD (4 * ring + role) {}).mark

theorem secCounterReadEffect_role {q : Cmd} {s : State} (h : q.u8 1 ≠ 0xFF) :
    secCounterReadEffect q s = .done (.good (counterResult (q.u8 0) (q.u8 1) s)) s := by
  simp only [secCounterReadEffect, if_neg h, counterResult]

theorem secCounterReadEffect_bound {q : Cmd} {s : State} (h : q.u8 1 = 0xFF) :
    secCounterReadEffect q s = .done (.good (counterResult (q.u8 0) (s.ring (q.u8 0)).role s)) s := by
  simp only [secCounterReadEffect, if_pos h, counterResult]

/-- Settles O10: each command's effect where it runs; a change of the debug state splits on the fall from FULL, a counter's read on
whether its role is named or the ring's own. -/
theorem secCommandsComplete : Obligations.SecCommandsComplete := by
  refine ⟨?status, ?protectRead, ?protectWrite, ?keyLoad, ?keyRotate, ?keyRevoke, ?lifecycle, ?debugLowered, ?debugSet, ?counterRole,
    ?counterBound⟩
  case status => exact fun q s₀ hruns => runCmd_runs hruns
  case protectRead => exact fun q s₀ hruns => runCmd_runs hruns
  case protectWrite =>
    intro q s₀ t hruns s x hdecode
    exact runCmd_answers hruns (secProtectWriteEffect_of_decode hdecode s)
  case keyLoad => exact fun q s₀ hruns => runCmd_runs hruns
  case keyRotate => exact fun q s₀ hruns => runCmd_runs hruns
  case keyRevoke => exact fun q s₀ hruns => runCmd_runs hruns
  case lifecycle => exact fun q s₀ hruns => runCmd_runs hruns
  case debugLowered =>
    intro q s₀ hruns s hfull hlower
    exact runCmd_answers hruns (secDebugEffect_lowered hfull hlower)
  case debugSet =>
    intro q s₀ hruns s hkeeps
    exact runCmd_answers hruns (secDebugEffect_not_lowered hkeeps)
  case counterRole =>
    intro q s₀ hruns s hrole
    exact runCmd_answers hruns (secCounterReadEffect_role hrole)
  case counterBound =>
    intro q s₀ hruns s hbound
    exact runCmd_answers hruns (secCounterReadEffect_bound hbound)

end Sys2Proof.Machine
end

section
/-!
PROOFS. The protection table: what stands where in its 192 bytes, and what its masks permit (spec/04_security_and_debug.md, R84, R85).
-/
namespace Sys2Proof.Machine

/-! Numbers and blocks of one length in bytes (R5). -/

@[simp] theorem length_toLe (n v : Nat) : (toLe n v).length = n := by
  induction n generalizing v with
  | zero => rfl
  | succ n ih => simp only [toLe, List.length_cons, ih]

theorem leNat_toLe (n v : Nat) : leNat (toLe n v) = v % 256 ^ n := by
  induction n generalizing v with
  | zero => simp only [toLe, leNat, Nat.pow_zero, Nat.mod_one]
  | succ n ih =>
    rw [toLe, leNat, ih, BitVec.toNat_ofNat, Nat.pow_succ' (m := 256), Nat.mod_mul]

theorem rd_toLe {n v : Nat} (h : v < 256 ^ n) : rd (toLe n v) 0 n = v := by
  rw [rd, List.drop_zero, List.take_of_length_le (Nat.le_of_eq (length_toLe n v)), leNat_toLe, Nat.mod_eq_of_lt h]

/-- A field inside the first of two parts, and one past it. -/
theorem rd_append_left {a : List Byte} {off n : Nat} (h : off + n ≤ a.length) (b : List Byte) : rd (a ++ b) off n = rd a off n := by
  rw [rd, rd, List.drop_append_of_le_length (by omega), List.take_append_of_le_length (by rw [List.length_drop]; omega)]

theorem rd_append_right {a : List Byte} {k : Nat} (h : a.length = k) (b : List Byte) (off n : Nat) : rd (a ++ b) (k + off) n = rd b off n := by
  rw [rd, rd, ← h, List.drop_length_add_append]

section
variable {f : Nat → List Byte} {w : Nat} (hw : ∀ i, (f i).length = w)
include hw

theorem length_blocks (k : Nat) : ((List.range k).flatMap f).length = w * k := by
  induction k with
  | zero => rfl
  | succ k ih => rw [List.range_succ, List.flatMap_append, List.length_append, ih, List.flatMap_singleton, hw, Nat.mul_succ]

/-- A field of the block i of k blocks of one length. -/
theorem rd_blocks {i k off n : Nat} (hi : i < k) (hn : off + n ≤ w) : rd ((List.range k).flatMap f) (w * i + off) n = rd (f i) off n := by
  obtain ⟨m, rfl⟩ : ∃ m, k = i + (m + 1) := ⟨k - i - 1, by omega⟩
  rw [List.range_add, List.flatMap_append, rd_append_right (length_blocks hw i), List.range_succ_eq_map, List.map_cons, List.flatMap_cons,
    rd_append_left (by rw [hw]; exact hn), Nat.add_zero]

end

/-! CRC-32C gives 32 bits (R286). -/

theorem crc32cSteps_lt (n : Nat) {r : Nat} (hr : r < 2 ^ 32) : crc32cSteps n r < 2 ^ 32 := by
  induction n generalizing r with
  | zero => exact hr
  | succ n ih =>
    refine ih ?_
    split
    · exact Nat.xor_lt_two_pow (by omega) (by decide)
    · omega

theorem crc32cReg_lt (bs : List Byte) {r : Nat} (hr : r < 2 ^ 32) : crc32cReg r bs < 2 ^ 32 := by
  induction bs generalizing r with
  | nil => exact hr
  | cons b bs ih => exact ih (crc32cSteps_lt 8 (Nat.xor_lt_two_pow hr (by have := b.isLt; omega)))

theorem crc32c_lt (bs : List Byte) : crc32c bs < 2 ^ 32 := Nat.xor_lt_two_pow (crc32cReg_lt bs (by decide)) (by decide)

/-! The layout of a table (Tables 4-1, 4-2). -/

/-- Bytes +0x00 to +0x0F: MAGIC, FORMAT and GENERATION. -/
def ProtTable.headBytes (t : ProtTable) : List Byte :=
  toLe 4 0x5452504C ++ toLe 2 1 ++ toLe 2 0 ++ toLe 4 t.generation ++ toLe 4 0

/-- The four bytes of a ring entry. -/
def RingEntry.bytes (e : RingEntry) : List Byte :=
  toLe 1 e.role ++ toLe 1 (b2n e.authRequired + 2 * b2n e.ethAllowed) ++ toLe 2 0

/-- The 32 bytes of a role entry's sixteen masks. -/
def roleBytes (masks : List Nat) : List Byte := (List.range 16).flatMap fun g => toLe 2 (masks.getD g 0)

theorem ProtTable.encode_eq (t : ProtTable) :
    t.encode = t.headBytes ++ ((List.range 8).flatMap (fun n => (t.rings.getD n {}).bytes) ++
      ((List.range 4).flatMap (fun r => roleBytes (t.perms.getD r [])) ++ (toLe 4 t.crcOf ++ List.replicate 12 0))) := by
  rw [← List.append_assoc, ← List.append_assoc, ← List.append_assoc]
  rfl

theorem ProtTable.length_headBytes (t : ProtTable) : t.headBytes.length = 0x10 := by simp [ProtTable.headBytes]

theorem RingEntry.length_bytes (e : RingEntry) : e.bytes.length = 4 := by simp [RingEntry.bytes]

theorem length_roleBytes (masks : List Nat) : (roleBytes masks).length = 32 := length_blocks (fun _ => length_toLe _ _) 16

theorem ProtTable.length_ringEntries (t : ProtTable) : ((List.range 8).flatMap fun n => (t.rings.getD n {}).bytes).length = 0x20 :=
  length_blocks (fun _ => RingEntry.length_bytes _) 8

theorem ProtTable.length_roleEntries (t : ProtTable) : ((List.range 4).flatMap fun r => roleBytes (t.perms.getD r [])).length = 0x80 :=
  length_blocks (fun _ => length_roleBytes _) 4

theorem ProtTable.length_encode (t : ProtTable) : t.encode.length = 192 := by
  simp only [t.encode_eq, List.length_append, t.length_headBytes, t.length_ringEntries, t.length_roleEntries, length_toLe, List.length_replicate]

theorem ProtTable.rd_encode_generation (t : ProtTable) (h : t.generation < 2 ^ 32) : rd t.encode 8 4 = t.generation := by
  rw [t.encode_eq, rd_append_left (by rw [t.length_headBytes]; decide)]
  unfold ProtTable.headBytes
  rw [rd_append_left (by simp), rd_append_right (k := 8) (off := 0) (by simp), rd_toLe h]

/-- A byte of the entry of ring n. -/
theorem ProtTable.rd_encode_ring (t : ProtTable) {n off : Nat} (hn : n < 8) (hoff : off < 4) :
    rd t.encode (0x10 + (4 * n + off)) 1 = rd (t.rings.getD n {}).bytes off 1 := by
  rw [t.encode_eq, rd_append_right t.length_headBytes, rd_append_left (by rw [t.length_ringEntries]; omega),
    rd_blocks (fun _ => RingEntry.length_bytes _) hn hoff]

/-- The mask of group g + 1 in the entry of role r. -/
theorem ProtTable.rd_encode_mask (t : ProtTable) {r g : Nat} (hr : r < 4) (hg : g < 16) (h : (t.perms.getD r []).getD g 0 < 2 ^ 16) :
    rd t.encode (0x30 + 32 * r + 2 * g) 2 = (t.perms.getD r []).getD g 0 := by
  have hoff : 0x30 + 32 * r + 2 * g = 0x10 + (0x20 + (32 * r + (2 * g + 0))) := by omega
  rw [hoff, t.encode_eq, rd_append_right t.length_headBytes, rd_append_right t.length_ringEntries,
    rd_append_left (by rw [t.length_roleEntries]; omega), rd_blocks (fun _ => length_roleBytes _) hr (by omega), roleBytes,
    rd_blocks (fun _ => length_toLe _ _) hg (by omega), rd_toLe h]

theorem ProtTable.rd_encode_crc (t : ProtTable) : rd t.encode 0xB0 4 = t.crcOf := by
  rw [t.encode_eq, rd_append_right (off := 0xA0) t.length_headBytes, rd_append_right (off := 0x80) t.length_ringEntries,
    rd_append_right (off := 0) t.length_roleEntries, rd_append_left (by simp), rd_toLe (crc32c_lt _)]

/-! What is read from a table's bytes. -/

/-- The fields of a table, each read where it stands. -/
def ProtTable.readFrom (bs : List Byte) : ProtTable :=
  { generation := rd bs 8 4
    rings := (List.range 8).map fun n =>
      { role := rd bs (0x10 + 4 * n) 1, authRequired := bit (rd bs (0x11 + 4 * n) 1) 0, ethAllowed := bit (rd bs (0x11 + 4 * n) 1) 1 }
    perms := (List.range 4).map fun r => (List.range 16).map fun g => rd bs (0x30 + 32 * r + 2 * g) 2
    crc := rd bs 0xB0 4 }

/-- A table is read where its roles are roles and its bytes are those that it is written as. -/
theorem ProtTable.decode_eq_some {bs : List Byte} {t : ProtTable} :
    ProtTable.decode bs = some t ↔ readFrom bs = t ∧ bs.length = 192 ∧ (∀ e ∈ t.rings, e.role ≤ 3) ∧ t.encode = bs := by
  change (if bs.length = 192 && (readFrom bs).rings.all (fun e => decide (e.role ≤ 3)) && (readFrom bs).encode == bs
    then some (readFrom bs) else none) = some t ↔ _
  simp only [Bool.and_eq_true, decide_eq_true_eq, List.all_eq_true, beq_iff_eq, Option.ite_none_right_eq_some, Option.some.injEq]
  constructor
  · rintro ⟨⟨⟨hlength, hroles⟩, hbytes⟩, rfl⟩
    exact ⟨rfl, hlength, hroles, hbytes⟩
  · rintro ⟨rfl, hlength, hroles, hbytes⟩
    exact ⟨⟨⟨hlength, hroles⟩, hbytes⟩, rfl⟩

theorem RingEntry.rd_role {e : RingEntry} (h : e.role ≤ 3) : rd e.bytes 0 1 = e.role := by
  rw [RingEntry.bytes, List.append_assoc, rd_append_left (by simp), rd_toLe (by omega)]

theorem two_flags : ∀ a b : Bool, b2n a + 2 * b2n b < 256 ∧ bit (b2n a + 2 * b2n b) 0 = a ∧ bit (b2n a + 2 * b2n b) 1 = b := by decide

theorem RingEntry.rd_flags (e : RingEntry) : bit (rd e.bytes 1 1) 0 = e.authRequired ∧ bit (rd e.bytes 1 1) 1 = e.ethAllowed := by
  obtain ⟨hlt, hauth, heth⟩ := two_flags e.authRequired e.ethAllowed
  rw [RingEntry.bytes, rd_append_left (by simp), rd_append_right (k := 1) (off := 0) (by simp), rd_toLe hlt]
  exact ⟨hauth, heth⟩

/-- A list of known length is the list of its elements in order. -/
theorem map_range_getD {α : Type} {l : List α} {k : Nat} (h : l.length = k) (d : α) : (List.range k).map (fun i => l.getD i d) = l := by
  subst h
  exact List.ext_getElem (by simp) fun i hi hl => by simp [hl]

theorem getD_mem {α : Type} {l : List α} {i : Nat} (h : i < l.length) (d : α) : l.getD i d ∈ l := by
  simp [h]

theorem readFrom_encode_rings {t : ProtTable} (hlength : t.rings.length = 8) (hroles : ∀ e ∈ t.rings, e.role ≤ 3) :
    (ProtTable.readFrom t.encode).rings = t.rings := by
  refine (List.map_congr_left fun n hn => ?_).trans (map_range_getD hlength {})
  have hn : n < 8 := List.mem_range.1 hn
  have hrole : rd t.encode (0x10 + 4 * n) 1 = (t.rings.getD n {}).role :=
    (t.rd_encode_ring (off := 0) hn (by decide)).trans (RingEntry.rd_role (hroles _ (getD_mem (hlength ▸ hn) {})))
  obtain ⟨hauth, heth⟩ := (t.rings.getD n {}).rd_flags
  have hoff : 0x11 + 4 * n = 0x10 + (4 * n + 1) := by omega
  rw [hoff, t.rd_encode_ring hn (by decide), hrole, hauth, heth]

theorem readFrom_encode_perms {t : ProtTable} (hlength : t.perms.length = 4) (hmasks : ∀ p ∈ t.perms, p.length = 16 ∧ ∀ m ∈ p, m < 2 ^ 16) :
    (ProtTable.readFrom t.encode).perms = t.perms := by
  refine (List.map_congr_left fun r hr => ?_).trans (map_range_getD hlength [])
  have hr : r < 4 := List.mem_range.1 hr
  obtain ⟨hsixteen, hword⟩ := hmasks _ (getD_mem (hlength ▸ hr) [])
  refine (List.map_congr_left fun g hg => ?_).trans (map_range_getD hsixteen 0)
  have hg : g < 16 := List.mem_range.1 hg
  exact t.rd_encode_mask hr hg (hword _ (getD_mem (hsixteen ▸ hg) 0))

/-- Settles O56: every field is read where it was written, and the CRC is no part of what it is taken over. -/
theorem protectionTableRoundTrip : Obligations.ProtectionTableRoundTrip := by
  intro t hgeneration hrings hroles hperms hmasks
  have hread : ProtTable.readFrom t.encode = { t with crc := t.crcOf } :=
    (ProtTable.mk.injEq ..).mpr
      ⟨t.rd_encode_generation hgeneration, readFrom_encode_rings hrings hroles, readFrom_encode_perms hperms hmasks, t.rd_encode_crc⟩
  exact ⟨t.length_encode, ProtTable.decode_eq_some.2 ⟨hread, t.length_encode, hroles, rfl⟩⟩

/-! What the masks permit (R85, Tables 4-3, 4-4). -/

theorem ProtTable.permits_of_fixed {op : Nat} {rs : List Nat} (h : fixedRoles op = some rs) (t : ProtTable) (r : Nat) :
    t.permits r op = rs.contains r := by
  simp only [ProtTable.permits, h]

/-- An opcode that the masks decide: its bit in its group's mask. -/
theorem ProtTable.permits_of_masked {g o : Nat} (h : fixedRoles (256 * g + o) = none) (ho : o < 256) (t : ProtTable) (r : Nat) :
    t.permits r (256 * g + o) = bit ((t.perms.getD r []).getD (g - 1) 0) (o - 1) := by
  have hgroup : (256 * g + o) / 256 = g := by omega
  have hindex : (256 * g + o) % 256 = o := by omega
  simp only [ProtTable.permits, h, hgroup, hindex]

theorem ProtTable.mask_readFrom (bs : List Byte) {r g : Nat} (hr : r < 4) (hg : g < 16) :
    ((ProtTable.readFrom bs).perms.getD r []).getD g 0 = rd bs (0x30 + 32 * r + 2 * g) 2 := by
  simp [ProtTable.readFrom, hr, hg]

/-- Table 4-3. -/
theorem fixedRoles_eq (op : Nat) : fixedRoles op =
    if op = 0x0101 ∨ op = 0x0102 ∨ op = 0x0104 ∨ op = 0x0105 ∨ op = 0x0201 ∨ op = 0x0209 then some [0, 1, 2, 3]
    else if 0x0203 ≤ op ∧ op ≤ 0x0208 then some [0]
    else if op = 0x010A ∨ op = 0x1002 then some [0, 1] else none := by
  unfold fixedRoles
  simp only [List.contains_iff_mem, List.mem_cons, List.not_mem_nil, or_false]
  exact ite_congr (propext (by omega)) (fun _ => rfl) fun _ => ite_congr (propext (by omega)) (fun _ => rfl) fun _ => rfl

/-- Where checks 7 and 8 pass, check 9 decides. -/
theorem gateCheck_eq {op : Nat} {q : Cmd} {s : State} (hring : q.ring < 8) (hdefined : opcodeDefined op = true)
    (hdma : ((s.ring q.ring).ethernet && dmaOps.contains op) = false) (hfloor : 1 ≤ s.hif.floor) :
    gateCheck op q s = if s.sec.prot.permits (s.ring q.ring).role op then none else some (.err .denied) := by
  rw [gateCheck, if_neg (Nat.not_le.2 hring), hdefined, hdma, decide_eq_false (Nat.not_lt.2 hfloor)]
  cases s.sec.prot.permits (s.ring q.ring).role op <;> rfl

/-- Settles O49: the mask that a table's bytes hold decides, where Table 4-3 does not. -/
theorem permissionMasks : Obligations.PermissionMasks := by
  refine ⟨?masked, fun t r op rs hfixed => t.permits_of_fixed hfixed r, fixedRoles_eq, fun op q s => gateCheck_eq⟩
  intro bs t r g o hdecode hr hg hg16 ho ho16 hmasked
  obtain ⟨rfl, -, -, -⟩ := ProtTable.decode_eq_some.1 hdecode
  rw [ProtTable.permits_of_masked hmasked (by omega), ProtTable.mask_readFrom bs hr (by omega)]

end Sys2Proof.Machine
end

section
/-!
PROOFS. The POS commands and the rows of the encoders: what each command answers and leaves where it runs, and what each row does where its
condition holds, on the state in which its time has passed (spec/05_web_position.md, R111 to R130). Each lemma names that state `s`.
-/
namespace Sys2Proof.Machine

/-! The commands whose effect splits on the options or on the channel (R116, R127, R129). -/

section
variable {q : Cmd} {s : State} {ch : Nat} (hch : s.chanOf (q.u8 0) = some ch)
include hch

/-- SET_POSITION with the scale kept: the position is set at once. -/
theorem posScaleEffect_setPosition (hset : bit (q.u8 1) 0 = true) (hkeep : bit (q.u8 1) 1 = true) :
    posScaleEffect q s = .done .good (s.onChan ch fun c => { c with
      q0 := q.s64 16 * 2 ^ 32, k0 := c.k, posSet := true, unreferenced := false, indexRef := none, indexErrs := 0 }) := by
  simp only [posScaleEffect, hch, hset, hkeep, Option.getD_some, if_true]

/-- A new scale without SET_POSITION: it is ordered, and the command waits for it. -/
theorem posScaleEffect_newScale (hstay : bit (q.u8 1) 0 = false) (hscale : bit (q.u8 1) 1 = false) :
    posScaleEffect q s = .wait (orderScale ch { cmd := q.id, scale := q.u64 8 } (setAbortable q.id true s)) := by
  simp only [posScaleEffect, hch, hstay, hscale, Option.getD_some, Bool.false_eq_true, if_false]

end

/-- The compare unit that POS_COMPARE arms (Table 5-9). -/
def Compare.armedBy (q : Cmd) : Compare :=
  { armed := true, ch := optUnit (q.u8 1), reverse := q.u8 2 == 1, post := bit (q.u8 3) 1, trigger := optUnit (q.u8 4)
    capture := optUnit (q.u8 5), gpio := optUnit (q.u8 6), pulseUs := q.u8 7, value := q.s64 8, period := q.u64 16, count := q.u32 24 }

theorem posCompareEffect_disarm {q : Cmd} {s : State} (hdisarm : q.u8 2 = 2) :
    posCompareEffect q s = .done .good (s.onCmp (q.u8 0) fun c => { c with armed := false }) := by
  simp only [posCompareEffect, if_pos hdisarm]

/-- A unit armed on a channel without a position stays in BEFORE. -/
theorem posCompareEffect_noPosition {q : Cmd} {s t : State} (harm : q.u8 2 ≠ 2) (ht : s.onCmp (q.u8 0) (fun _ => .armedBy q) = t)
    (hnone : ((t.cmpChan (.armedBy q)).bind fun n => (t.chan n).posQ) = none) : posCompareEffect q s = .done .good t := by
  subst ht
  unfold Compare.armedBy at hnone
  simp only [posCompareEffect, if_neg harm, hnone]
  rfl

/-- Settles O16: each command's effect where it runs; a configuration splits on a waiting scale, a scale on its options, a comparison on
ARM and on the channel's position, a backup on whether one is named. -/
theorem posCommandsComplete : Obligations.PosCommandsComplete := by
  refine ⟨?config, ?setPosition, ?newScale, ?read, ?disarm, ?arm, ?noBackup, ?backup, ?calibrate⟩
  case config =>
    intro q s₀ hruns s ch sc web t hpend
    refine runCmd_answers hruns ?_
    simp only [posEncoderConfigEffect]
    rw [hpend]
  case setPosition =>
    intro q s₀ ch hruns s hch hset hkeep
    exact runCmd_answers hruns (posScaleEffect_setPosition hch hset hkeep)
  case newScale =>
    intro q s₀ ch hruns s hch hstay hscale
    exact runCmd_answers hruns (posScaleEffect_newScale hch hstay hscale)
  case read =>
    intro q s₀ ch hruns s hch
    refine runCmd_answers hruns ?_
    simp only [posReadEffect]
    rw [hch, Option.getD_some]
  case disarm =>
    intro q s₀ hruns s hdisarm
    exact runCmd_answers hruns (posCompareEffect_disarm hdisarm)
  case arm =>
    intro q s₀ hruns s c harm hnone
    exact runCmd_answers hruns (posCompareEffect_noPosition harm rfl hnone)
  case noBackup =>
    intro q s₀ hruns s hnone
    exact runCmd_answers hruns (if_pos hnone)
  case backup =>
    intro q s₀ hruns s hnamed
    exact runCmd_answers hruns (if_neg hnamed)
  case calibrate =>
    intro q s₀ ch hruns s t hch
    refine runCmd_answers (a := .wait _) hruns ?_
    simp only [posCalibrateEffect]
    rw [hch, Option.getD_some]
    rfl

/-! The rows of the encoders. -/

section
variable {dt ch : Nat} {s₀ s : State} (hs : advance dt s₀ = s)
include hs

/-- R114: a conversion is taken on a running sine/cosine channel, at the earliest when its clocks are over. -/
theorem exec_conversionComplete_taken {sinRaw cosRaw : Nat} {t0 : Int} (hch : ch < 4) (hconv : (s.chan ch).conv = some t0)
    (hruns : s.posRuns = true) (hmode : (s.chan ch).mode = 2) (hretired : (s.chan ch).retired = false)
    (hover : t0 + nsT ((s.chan ch).convNs + 32 * (s.chan ch).sckDiv : Nat) ≤ s.tb3) :
    exec (.conversionComplete dt ch sinRaw cosRaw) s₀ = .next (takeConversion ch sinRaw cosRaw t0 s) := by
  change execConversionComplete dt ch sinRaw cosRaw s₀ = _
  simp only [execConversionComplete, hs, hch, hconv, hruns, hmode, hretired, hover, decide_true, BEq.rfl, Bool.not_false, Bool.and_self,
    if_true, onUnit_true]

/-- R110, R111: levels are taken from FILTER + 1 samples on, else they leave the channel as it is. -/
theorem exec_encoderEdge {a b z : Bool} {held : Nat} (hch : ch < 4) :
    exec (.encoderEdge dt ch a b z held) s₀ = .next (if s.posRuns = true ∧ (s.chan ch).filter < held then
      takeLevels ch a b z (s.tb3 - nsT (4 * (held - 1) : Nat)) s else s) := by
  change execEncoderEdge dt ch a b z held s₀ = _
  simp only [execEncoderEdge, hs, hch, decide_true, onUnit_true, Bool.and_eq_true, decide_eq_true_eq]

/-- R127: an armed unit that is not behind fires where the newest pair lies 4 frets or more past its value. -/
theorem exec_compareCatchUpFire_passed {unit n k : Nat} {c : Compare} {p : Pair} {ps : List Pair} (hunit : unit < 16)
    (hc : s.pos.cmp.getD unit {} = c) (hchan : s.cmpChan c = some n) (hscale : (s.chan n).scale = some k)
    (hpairs : (s.chan n).pairs = p :: ps) (harmed : c.armed = true) (hbehind : c.behind = false)
    (hpassed : 4 ≤ c.sgn * (p.pos.fdiv (2 ^ 32) - c.value)) :
    exec (.compareCatchUpFire dt unit) s₀ = .next (fireCompare unit false p.time s) := by
  change execCompareCatchUpFire dt unit s₀ = _
  simp only [execCompareCatchUpFire, hs, hunit, hc, hchan, hscale, hpairs, harmed, hbehind, hpassed, Option.map_some, decide_true,
    Bool.not_false, Bool.and_self, if_true, onUnit_true]

/-- R121: the counts of a whole STALL_MS lie within one check unit. -/
theorem exec_encoderStall_still {moves : List (Int × Int)} (hmoves : (s.chan ch).window121 s.tb1 = moves) (hch : ch < 4)
    (hruns : s.posRuns = true) (hmode : (s.chan ch).mode ≠ 0) (hretired : (s.chan ch).retired = false)
    (hstalled : (s.chan ch).stalled = false) (hwhole : moves.any (fun m => passed s m.2 (s.chan ch).stallMs 1000) = true)
    (hstill : (s.chan ch).still moves = true) :
    exec (.encoderStall dt ch) s₀ = .next (s.onChan ch fun c => { c with moves, stalled := true, speed := 0 }) := by
  change execEncoderStall dt ch s₀ = _
  simp only [execEncoderStall, hs, hmoves, hch, hruns, bne_iff_ne.2 hmode, hretired, hstalled, hwhole, hstill, decide_true, Bool.not_false,
    Bool.and_self, if_true, onUnit_true]

/-- R125: with no run armed, O is set once a second. -/
theorem exec_backupOffsetRefresh_due {b : Backup} (hbackup : s.pos.backup = some b) (hruns : s.posRuns = true) (hidle : s.fire.run = none)
    (hdue : passed s b.since 1 1 = true) : exec (.backupOffsetRefresh dt) s₀ = .next (setBackupOffset s) := by
  change execBackupOffsetRefresh dt s₀ = _
  simp only [execBackupOffsetRefresh, hs, hbackup, hruns, hidle, hdue, Option.isNone_none, Bool.and_self, if_true]

/-- R129: the time of a calibration is up. -/
theorem exec_posCalibrateTimeout_due {k : Calib} (hch : ch < 4) (hcalib : (s.chan ch).calib = some k) (hdue : k.deadline ≤ s.tb1) :
    exec (.posCalibrateTimeout dt ch) s₀ =
      .next (finish k.cmd (.err .timeout) (s.onChan ch fun c => { c with calib := none })) := by
  change execPosCalibrateTimeout dt ch s₀ = _
  simp only [execPosCalibrateTimeout, hs, hch, hcalib, hdue, decide_true, if_true, onUnit_true]

end

/-- Settles O29: clause by clause, the row's effect where its condition holds; an edge splits on the length of its filter. -/
theorem positionRowsComplete : Obligations.PositionRowsComplete := by
  refine ⟨?conversion, ?levels, ?glitch, ?catchUp, ?stall, ?refresh, ?timeout⟩
  case conversion => exact fun dt ch sinRaw cosRaw s₀ t0 => exec_conversionComplete_taken rfl
  case levels =>
    intro dt ch a b z held s₀ s hch hruns hlong
    rw [exec_encoderEdge rfl hch, if_pos ⟨hruns, hlong⟩]
  case glitch =>
    intro dt ch a b z held s₀ s hch hshort
    rw [exec_encoderEdge rfl hch, if_neg fun ⟨_, hlong⟩ => Nat.not_lt.2 hshort hlong]
  case catchUp => exact fun dt unit s₀ n k p ps hunit => exec_compareCatchUpFire_passed rfl hunit rfl
  case stall => exact fun dt ch s₀ => exec_encoderStall_still rfl rfl
  case refresh => exact fun dt s₀ b => exec_backupOffsetRefresh_due rfl
  case timeout => exact fun dt ch s₀ k => exec_posCalibrateTimeout_due rfl

end Sys2Proof.Machine
end

section
/-!
PROOFS. The time bases: what the time that passes changes, and their two formats (spec/06_time_bases.md, R134, R135, R137).
-/
namespace Sys2Proof.Machine

/-! Amounts added to a time base (R134). -/

/-- Keeping 64 bits of two's complement is the library's balanced remainder. -/
theorem wrapS_eq_bmod (v : Int) : wrapS 64 v = v.bmod (2 ^ 64) := by
  simp only [wrapS, Int.fmod_eq_emod_of_nonneg v (by decide : (0 : Int) ≤ 2 ^ 64)]
  exact (Int.bmod_def v (2 ^ 64)).symm

/-- Wrapping on the way does not show in a wrapped sum. -/
theorem wrapS_add_wrapS (a b : Int) : wrapS 64 (wrapS 64 a + b) = wrapS 64 (a + b) := by
  simp only [wrapS_eq_bmod, Int.bmod_add_bmod]

@[simp] theorem Tb.add_adj (x : Int) (t : Tb) : (t.add x).adj = t.adj := rfl

@[simp] theorem Tbf.add_adj (x : Int) (t : Tbf) : (t.add x).adj = t.adj := rfl

theorem Tb.add_add (x y : Int) (t : Tb) : (t.add x).add y = t.add (x + y) := by
  simp only [Tb.add, wrapS_add_wrapS, Int.add_assoc, Int.fdiv_eq_ediv_of_nonneg _ (by decide : (0 : Int) ≤ 2 ^ 64),
    Int.fmod_eq_emod_of_nonneg _ (by decide : (0 : Int) ≤ 2 ^ 64), Tb.mk.injEq, and_true]
  constructor
  · congr 2
    omega
  · omega

theorem Tbf.add_add (x y : Int) (t : Tbf) : (t.add x).add y = t.add (x + y) := by
  simp only [Tbf.add, wrapS_add_wrapS, Int.add_assoc, Int.fdiv_eq_ediv_of_nonneg _ (by decide : (0 : Int) ≤ 2 ^ 32),
    Int.fmod_eq_emod_of_nonneg _ (by decide : (0 : Int) ≤ 2 ^ 32), Int.fdiv_eq_ediv_of_nonneg _ (by decide : (0 : Int) ≤ 1000000000),
    Int.fmod_eq_emod_of_nonneg _ (by decide : (0 : Int) ≤ 1000000000), Tbf.mk.injEq, and_true]
  refine ⟨?_, ?_, ?_⟩
  · congr 2
    omega
  · omega
  · omega

theorem Tb.run_run (m n : Nat) (t : Tb) : (t.run m).run n = t.run (m + n) := by
  simp only [Tb.run, Tb.add_adj, Tb.add_add, Int.natCast_add, Int.add_mul]

theorem Tbf.run_run (m n : Nat) (t : Tbf) : (t.run m).run n = t.run (m + n) := by
  simp only [Tbf.run, Tbf.add_adj, Tbf.add_add, Int.natCast_add, Int.add_mul]

/-! The time that passes (R137). -/

/-- What n TB clocks do to the time bases where every one of them counts. -/
def Tim.run (n : Nat) (t : Tim) : Tim := { t with tb := t.tb.map (Tb.run n), tbf := t.tbf.run n, tbfCarry := t.carries n }

/-- The last of m + n clocks is the last of the n, or of the m where n is 0. -/
theorem Tim.carries_run (m n : Nat) (t : Tim) : (t.run m).carries n = t.carries (m + n) := by
  cases n with
  | zero => rfl
  | succ n => simp [Tim.carries, Tim.run, Tbf.run_run, Nat.add_sub_assoc]

theorem Tim.run_run (m n : Nat) (t : Tim) : (t.run m).run n = t.run (m + n) := by
  have htb : (t.run m).tb.map (Tb.run n) = t.tb.map (Tb.run (m + n)) := by simp [Tim.run, Function.comp_def, Tb.run_run]
  have htbf : (t.run m).tbf.run n = t.tbf.run (m + n) := Tbf.run_run m n t.tbf
  conv =>
    lhs
    rw [Tim.run, Tim.carries_run, htb, htbf]
  rfl

/-- No time base counts: in reset, in P4, or without the lock of the TB PLL. -/
def State.timeStands (s : State) : Prop := s.held = true ∨ s.thm.power = .p4 ∨ s.tim.pllLock = false

theorem advance_of_timeStands {s : State} (h : s.timeStands) (n : Nat) : advance n s = s := by
  unfold advance
  exact if_pos (by simpa [State.timeStands, or_assoc] using h)

section
variable {s : State} (hcounts : ¬ s.timeStands)
include hcounts

theorem advance_of_asleep (hp3 : s.thm.power = .p3) (n : Nat) :
    advance n s = s.onTim fun t => { t with asleep := t.asleep + n } := by
  unfold advance
  rw [if_neg (by simpa [State.timeStands, or_assoc] using hcounts), if_pos (beq_iff_eq.2 hp3)]

theorem advance_of_awake (hp3 : s.thm.power ≠ .p3) (n : Nat) : advance n s = s.onTim (Tim.run n) := by
  unfold advance
  rw [if_neg (by simpa [State.timeStands, or_assoc] using hcounts), if_neg (by simpa using hp3)]
  rfl

end

theorem State.not_timeStands {s : State} (hheld : s.held = false) (hp4 : s.thm.power ≠ .p4) (hlock : s.tim.pllLock = true) :
    ¬ s.timeStands := by
  simp [State.timeStands, hheld, hp4, hlock]

/-- Passing time changes neither whether the time bases count nor how. -/
theorem advance_advance (m n : Nat) (s : State) : advance n (advance m s) = advance (m + n) s := by
  by_cases hstop : s.timeStands
  · simp only [advance_of_timeStands hstop]
  by_cases hp3 : s.thm.power = .p3
  · rw [advance_of_asleep hstop hp3, advance_of_asleep hstop hp3, advance_of_asleep (by exact hstop) (by exact hp3)]
    simp only [State.onTim, Nat.add_assoc]
  · rw [advance_of_awake hstop hp3, advance_of_awake hstop hp3, advance_of_awake (by exact hstop) (by exact hp3)]
    simp only [State.onTim, Tim.run_run]

/-- Settles O46: by the three ways in which the time bases count, and the sum of what n clocks add to each. -/
theorem timePassesAlone : Obligations.TimePassesAlone := by
  refine ⟨advance_onTim, fun n s hstop => advance_of_timeStands hstop n, ?asleep, ?awake, advance_advance⟩
  case asleep =>
    intro n s hheld hp3 hlock
    rw [advance_of_asleep (State.not_timeStands hheld (by simp [hp3]) hlock) hp3]
    exact ⟨rfl, rfl, rfl⟩
  case awake =>
    intro n s hheld hp3 hp4 hlock
    rw [advance_of_awake (State.not_timeStands hheld hp4 hlock) hp3]
    exact ⟨rfl, rfl⟩

/-! Conversions (R135). -/

theorem toN30_sec_frac (sec : Int) {frac ns : Nat} (hfrac : frac < 2 ^ 32) (hns : (frac * 1000000000 + 2 ^ 31) / 2 ^ 32 = ns) :
    toN30 (sec * 2 ^ 32 + frac) = if ns = 1000000000 then (sec + 1, 0) else (sec, ns) := by
  have hsec : (sec * 2 ^ 32 + frac).fdiv (2 ^ 32) = sec := by
    rw [Int.fdiv_eq_ediv_of_nonneg _ (by decide)]
    omega
  have hrest : (sec * 2 ^ 32 + frac).fmod (2 ^ 32) = (frac : Int) := by
    rw [Int.fmod_eq_emod_of_nonneg _ (by decide)]
    omega
  have hround : ((frac : Int) * 1000000000 + 2 ^ 31).fdiv (2 ^ 32) = (ns : Int) := by
    rw [Int.fdiv_eq_ediv_of_nonneg _ (by decide)]
    omega
  have hcarry : (ns : Int) = 1000000000 ↔ ns = 1000000000 := by omega
  simp only [toN30, hsec, hrest, hround, hcarry, Int.toNat_natCast]

/-- The fraction of whole nanoseconds lies within half a unit, so that rounding finds them again. -/
theorem round_frac_of_ns {ns : Nat} (hns : ns < 1000000000) :
    (ns * 2 ^ 32 + 500000000) / 1000000000 < 2 ^ 32 ∧
    ((ns * 2 ^ 32 + 500000000) / 1000000000 * 1000000000 + 2 ^ 31) / 2 ^ 32 = ns := by
  omega

theorem toN30_toF32 (sec : Int) {ns : Nat} (hns : ns < 1000000000) : toN30 (toF32 sec ns) = (sec, ns) := by
  obtain ⟨hfrac, hround⟩ := round_frac_of_ns hns
  rw [toF32, toN30_sec_frac sec hfrac hround, if_neg (Nat.ne_of_lt hns)]

/-- Settles O59: the seconds and the fraction of a time are its quotient and remainder, and rounding to nanoseconds undoes rounding
to the fraction. -/
theorem timeConversion : Obligations.TimeConversion :=
  ⟨fun sec _ hfrac => toN30_sec_frac sec hfrac rfl, fun sec _ hns => ⟨(round_frac_of_ns hns).1, rfl, toN30_toF32 sec hns⟩⟩

end Sys2Proof.Machine
end

section
/-!
PROOFS. The TIME commands and the rows of the time bases: what each command answers and leaves where it runs, and what each row does
where its condition holds (spec/06_time_bases.md, R136 to R155). A lemma about a row names the state `s` in which its time has passed.
-/
namespace Sys2Proof.Machine

/-! TIME_TRIGGER on a unit that is disarmed (R150, R151): no firing of the old arming comes first. -/

section
variable {q : Cmd} {s : State} (hidle : (s.tim.triggers.getD (q.u8 0) {}).mode = 0)
include hidle

theorem timeTriggerEffect_disarm (hoff : q.u8 1 = 0) :
    timeTriggerEffect q s = .done .good (s.onTrigger (q.u8 0) fun t => { t with mode := 0, running := false }) := by
  simp only [timeTriggerEffect, hidle, bne_self_eq_false, Bool.false_and, Bool.false_eq_true, if_false, if_pos hoff]

/-- A unit armed on start, or for a T that is not past, does not fire at once. -/
theorem timeTriggerEffect_arm (hon : q.u8 1 ≠ 0) (hahead : q.u8 1 ≠ 1 ∨ (s.tb (q.u8 2)).t48 ≤ rdT q.params 16 * 2 ^ 16) :
    timeTriggerEffect q s = .done .good (s.onTrigger (q.u8 0) fun t => { t with
      mode := q.u8 1, running := q.u8 1 == 1, tb := q.u8 2, actions := q.u16 4, gpio := q.u8 6, camera := q.u8 7
      capture := q.u8 8, next := q.u8 9, pulseW := q.u16 10, count := q.u32 12, fired := 0, t := rdT q.params 16 * 2 ^ 16
      delay := rdT q.params 16 * 2 ^ 16, period := q.u64 32, late := false }) := by
  have hlate : (q.u8 1 == 1 && decide (rdT q.params 16 * 2 ^ 16 < (s.tb (q.u8 2)).t48)) = false := by
    rw [Bool.and_eq_false_iff, beq_eq_false_iff_ne, decide_eq_false_iff_not, Int.not_lt]
    exact hahead
  simp only [timeTriggerEffect, hidle, bne_self_eq_false, Bool.false_and, Bool.false_eq_true, if_false, if_neg hon, hlate]

end

/-! TIME_CAPTURE (R152, R153). -/

theorem tim_of_rest {s t : State} (h : t.rest = s.rest) : t.tim = s.tim := by
  simp only [State.rest, Prod.mk.injEq] at h
  obtain ⟨-, -, -, htim, -⟩ := h
  exact htim

@[simp] theorem tim_post (code source p1 p2 : Nat) (s : State) : (post code source p1 p2 s).tim = s.tim :=
  tim_of_rest (rest_post code source p1 p2 s)

/-- Change one capture unit. -/
def State.onCapture (u : Nat) (f : Capture → Capture) (s : State) : State := s.onTim fun t => { t with captures := upd u f t.captures }

/-- The run of drops of a capture unit is reported, where there is one. -/
def reportDrops (u : Nat) (s : State) : State :=
  let lost := (s.tim.captures.getD u {}).dropRun
  if 0 < lost then post evCaptureOverflow (0x0D20 + u) u (u32 lost) s else s

/-- The result of TIME_CAPTURE with n entries read (Table 6-10). -/
def captureResult (u n : Nat) (s : State) : List Byte :=
  toLe 1 n ++ toLe 1 ((s.tim.captures.getD u {}).entries.length) ++ toLe 2 0 ++ toLe 4 (s.tim.captures.getD u {}).lost

@[simp] theorem tim_reportDrops (u : Nat) (s : State) : (reportDrops u s).tim = s.tim := by
  unfold reportDrops
  dsimp only
  split
  · exact tim_post _ _ _ _ s
  · rfl

theorem captures_onCapture_self {u : Nat} {s : State} (hunit : u < s.tim.captures.length) (f : Capture → Capture) :
    (s.onCapture u f).tim.captures.getD u {} = f (s.tim.captures.getD u {}) := by
  simp [State.onCapture, upd, hunit]

/-- The unit as TIME_CAPTURE configures it: it holds nothing and has lost nothing. -/
def Capture.configuredBy (q : Cmd) : Capture :=
  { enable := true, source := q.u8 2, index := q.u8 3, edge := q.u8 4, channel := q.u8 5 }

section
variable {q : Cmd} {s : State}

theorem timeCaptureEffect_configure (hop : q.u8 1 = 0) (hunit : q.u8 0 < s.tim.captures.length) :
    timeCaptureEffect q s = .done (.good (toLe 1 0 ++ toLe 1 0 ++ toLe 2 0 ++ toLe 4 0))
      ((reportDrops (q.u8 0) s).onCapture (q.u8 0) fun _ => .configuredBy q) := by
  have hresult : captureResult (q.u8 0) 0 ((reportDrops (q.u8 0) s).onCapture (q.u8 0) fun _ => .configuredBy q) =
      toLe 1 0 ++ toLe 1 0 ++ toLe 2 0 ++ toLe 4 0 := by
    rw [captureResult, captures_onCapture_self (by rwa [tim_reportDrops])]
    rfl
  rw [← hresult]
  simp only [timeCaptureEffect, hop]
  rfl

theorem timeCaptureEffect_read (hop : q.u8 1 = 1) {got : List CaptureEntry} {t : State}
    (hgot : (s.tim.captures.getD (q.u8 0) {}).entries.take (q.u8 6) = got)
    (ht : s.onCapture (q.u8 0) (fun c => { c with entries := c.entries.drop (q.u8 6) }) = t) :
    timeCaptureEffect q s = .done (.withExt (captureResult (q.u8 0) got.length t) (q.u64 8) (got.flatMap encCapture)) t := by
  subst hgot ht
  simp only [timeCaptureEffect, hop]
  rfl

theorem timeCaptureEffect_disable (hop : q.u8 1 = 2) {t : State} (ht : s.onCapture (q.u8 0) (fun c => { c with enable := false }) = t) :
    timeCaptureEffect q s = .done (.good (captureResult (q.u8 0) 0 t)) t := by
  subst ht
  simp only [timeCaptureEffect, hop]
  rfl

theorem timeCaptureEffect_now (hop : 3 ≤ q.u8 1) :
    timeCaptureEffect q s = .done (.good (captureResult (q.u8 0) 0 (latchCapture (q.u8 0) s))) (latchCapture (q.u8 0) s) := by
  obtain ⟨n, hn⟩ := Nat.exists_eq_add_of_le' hop
  simp only [timeCaptureEffect, hn]
  rfl

end

/-- Settles O17: each command's effect where it runs; a reading splits on whether it is TBF's, a step on its mode, a port's
configuration on its ROLE, a trigger on its MODE, a capture on OP. -/
theorem timeCommandsComplete : Obligations.TimeCommandsComplete := by
  refine ⟨?config, ?read, ?readTbf, ?stepTo, ?stepBy, ?sameRole, ?newRole, ?asymmetry, ?disarm, ?arm, ?capture, ?captureRead, ?captureOff,
    ?captureNow, ?status⟩
  case config => exact fun q s₀ hruns => runCmd_runs hruns
  case read =>
    intro q s₀ hruns s htb
    refine runCmd_answers hruns ?_
    simp only [timeReadEffect, if_neg htb, decide_eq_false htb, Bool.or_false, decide_eq_true_eq]
    rfl
  case readTbf =>
    intro q s₀ hruns s htbf
    refine runCmd_answers hruns ?_
    simp only [timeReadEffect, if_pos htbf, decide_eq_true htbf, Bool.or_true, if_true]
    rfl
  case stepTo =>
    intro q s₀ hruns s hvalue
    exact runCmd_answers hruns (if_pos hvalue)
  case stepBy =>
    intro q s₀ hruns s total hoffset
    exact runCmd_answers hruns (if_neg hoffset)
  case sameRole =>
    intro q s₀ hruns s w hrole
    refine runCmd_answers hruns ?_
    simp only [timePtpConfigEffect]
    rw [if_pos hrole, if_pos hrole]
  case newRole =>
    intro q s₀ hruns s o w t hrole
    refine runCmd_answers hruns ?_
    simp only [timePtpConfigEffect]
    rw [if_neg hrole, if_neg hrole]
  case asymmetry => exact fun q s₀ hruns => runCmd_runs hruns
  case disarm => exact fun q s₀ hruns hoff hidle => runCmd_answers hruns (timeTriggerEffect_disarm hidle hoff)
  case arm => exact fun q s₀ hruns hon hidle hahead => runCmd_answers hruns (timeTriggerEffect_arm hidle hon hahead)
  case capture => exact fun q s₀ hruns hop hunit => runCmd_answers hruns (timeCaptureEffect_configure hop hunit)
  case captureRead => exact fun q s₀ hruns hop => runCmd_answers hruns (timeCaptureEffect_read hop rfl rfl)
  case captureOff => exact fun q s₀ hruns hop => runCmd_answers hruns (timeCaptureEffect_disable hop rfl)
  case captureNow => exact fun q s₀ hruns hop => runCmd_answers hruns (timeCaptureEffect_now hop)
  case status => exact fun q s₀ hruns => runCmd_runs hruns

/-! The rows of PTP (R139, R143, R145, R147). -/

section
variable {dt : Nat} {s₀ s : State} (hs : advance dt s₀ = s)
include hs

section
variable {port : Nat} {p : PtpPort} (hport : port < 2) (hp : s.ptp port = p)
include hport hp

theorem exec_ptpMessage_taken {via : PtpVia} {domainNumber : Nat} {msg : PtpMsg} (hon : s.ptpOn port = true)
    (harrives : s.ptpArrives port via msg = true) (hdomain : p.domainNumber = domainNumber) :
    exec (.ptpMessage dt port via domainNumber msg) s₀ = .next (takePtp (p.role - 1) port msg s) := by
  change execPtpMessage dt port via domainNumber msg s₀ = _
  simp only [execPtpMessage, hs, hp, hport, hon, harrives, hdomain, decide_true, onUnit_true, BEq.rfl, Bool.and_self, if_true]

theorem exec_pathHoldExpiry_due {h : PathHold} (hhold : p.hold = some h) (hdue : passed s h.since 8 1 = true) :
    exec (.pathHoldExpiry dt port) s₀ = .next (s.onPtp port fun t => { t with hold := some { h with looking := true } }) := by
  change execPathHoldExpiry dt port s₀ = _
  simp only [execPathHoldExpiry, hs, hp, hport, hhold, hdue, decide_true, onUnit_true, if_true]

theorem exec_announceTimeout_due {since : Int} (hheard : p.lastAnnounce = some since) (hrole : p.role ≠ 0) (hslave : p.isMaster = false)
    (hdue : passedLog s since p.announceTimeout p.logAnnounce = true) :
    exec (.announceTimeout dt port) s₀ =
      .next (loseMaster (p.role - 1) port (s.onPtp port fun t => { t with lastAnnounce := none })) := by
  change execAnnounceTimeout dt port s₀ = _
  simp only [execAnnounceTimeout, hs, hp, hport, hheard, bne_iff_ne.2 hrole, hslave, hdue, decide_true, onUnit_true, Bool.not_false,
    Bool.and_self, if_true]

/-- Announce and Sync fall due each at its own interval. -/
theorem exec_ptpMasterSend_due {announce : Bool} (hon : s.ptpOn port = true) (hmaster : p.isMaster = true)
    (hdue : (if announce then intervalDone s p.annAt p.logAnnounce else intervalDone s p.syncAt p.logSync) = true) :
    exec (.ptpMasterSend dt port announce) s₀ = .next (sendMaster (p.role - 1) port announce s) := by
  change execPtpMasterSend dt port announce s₀ = _
  simp only [execPtpMasterSend, hs, hp, hport, hon, hmaster, hdue, decide_true, onUnit_true, Bool.and_self, if_true]

/-- A port sends delay requests in the peer-delay profile, and in the other one as the slave of a master. -/
theorem exec_ptpDelayRequest_due (hon : s.ptpOn port = true)
    (hasks : p.p2p = true ∨ (p.isMaster = false ∧ p.master.isSome = true)) (hdue : intervalDone s p.reqAt p.logDelay = true) :
    exec (.ptpDelayRequest dt port) s₀ = .next (
      let time := s.servoClock (p.role - 1) - p.egress
      (sendPtp port (if p.p2p then 3 else 2) p.seq time s).onPtp port
        fun t => { t with reqSent := some (t.seq, time), reqAt := some s.tb1, seq := (t.seq + 1) % 65536, presp := none }) := by
  have hasks : (p.p2p || (!p.isMaster && p.master.isSome)) = true := by simpa using hasks
  change execPtpDelayRequest dt port s₀ = _
  simp only [execPtpDelayRequest, hs, hp, hport, hon, hasks, hdue, decide_true, onUnit_true, Bool.and_self, if_true]

end

section
variable {domain : Nat} {x : Domain} (hdomain : domain < 2) (hx : s.dom domain = x)
include hdomain hx

theorem exec_holdoverWarn_due {since : Int} (hsince : x.holdoverAt = some since) (hst : x.st = .holdover) (hnew : x.longPosted = false)
    (hdue : passed s since x.warnS 1 = true) :
    exec (.holdoverWarn dt domain) s₀ = .next (post evTimeHoldoverLong (unitTb (domTb domain)) domain x.warnS
      (s.onDom domain fun x => { x with longPosted := true })) := by
  change execHoldoverWarn dt domain s₀ = _
  simp only [execHoldoverWarn, hs, hx, hdomain, hsince, hst, hnew, hdue, decide_true, onUnit_true, BEq.rfl, Bool.not_false,
    Bool.and_self, if_true]

/-- R144: the time base of a locked domain has come to another second. -/
theorem exec_tbfReload_due {t : Tb} (ht : s.tb (domTb domain) = t) (hst : x.st = .locked) (hsecond : x.lastReload ≠ some t.sec) :
    exec (.tbfReload dt domain) s₀ = .next ((keepOffset ((s.onTbf fun f => { f with
        sec := (toN30 t.t32).1, ns := (toN30 t.t32).2, sub := 0 }).onTim fun t => { t with tbfCarry := false })).onDom domain
      fun x => { x with lastReload := some t.sec }) := by
  change execTbfReload dt domain s₀ = _
  simp only [execTbfReload, hs, hx, ht, hdomain, hst, bne_iff_ne.2 hsecond, decide_true, onUnit_true, BEq.rfl, Bool.and_self, if_true]

end

/-- R136: a millisecond of TB1 has passed on a device whose TB3 no pair servo drives. -/
theorem exec_tb3RateStep_due (hown : s.tim.pairServo = false) (hdue : passed s s.tim.lastRateStep 1 1000 = true) :
    exec (.tb3RateStep dt) s₀ = .next (
      let lim : Int := (s.tim.tb3Step : Int) * 2 ^ 40 / 1000000000
      setAdj 3 ((s.tb 3).adj + clampI ((s.tb 0).adj - (s.tb 3).adj) (-lim) lim)
        ((noteAdj s).onTim fun t => { t with lastRateStep := s.tb1 })) := by
  change execTb3RateStep dt s₀ = _
  simp only [execTb3RateStep, hs, hown, hdue, Bool.not_true, Bool.or_self, Bool.false_eq_true, if_false]

/-! Triggers and captures (R150, R152). -/

/-- A unit armed for a T, or started, has reached its T. -/
theorem exec_triggerFire_reached {unit : Nat} {t : Trigger} (hunit : unit < 16) (ht : s.tim.triggers.getD unit {} = t)
    (hclock : s.posRuns = true) (harmed : t.mode ≠ 0) (hset : t.mode = 1 ∨ t.running = true) (hreached : t.t ≤ (s.tb t.tb).t48) :
    exec (.triggerFire dt unit) s₀ = .next (fireTrigger unit s) := by
  have hset : (t.mode == 1 || t.running) = true := by simpa using hset
  change execTriggerFire dt unit s₀ = _
  simp only [execTriggerFire, hs, ht, hunit, hclock, bne_iff_ne.2 harmed, hset, hreached, decide_true, onUnit_true, Bool.and_self, if_true]

/-- An input shows a new level: every enabled unit with its source and that edge latches. -/
theorem exec_captureInputEdge_input {gpio : Nat} {rising : Bool} (hgpio : gpio < 16) (hnew : bit s.board.gpioIn gpio ≠ rising)
    (hinput : bit s.board.gpioDir gpio = false) :
    exec (.captureInputEdge dt gpio rising) s₀ = .next (settleCalibs ((List.range 16).foldl (fun s u =>
      let c := s.tim.captures.getD u {}
      if c.enable && c.source == 0 && c.index == gpio && (c.edge == 2 || (c.edge == 0) == rising) then latchCapture u s else s)
      (s.onBoard fun b => { b with gpioIn := setBit b.gpioIn gpio rising }))) := by
  change execCaptureInputEdge dt gpio rising s₀ = _
  simp only [execCaptureInputEdge, hs, hgpio, beq_eq_false_iff_ne.2 hnew, State.onBoard_board, hinput, decide_true, onUnit_true,
    Bool.false_eq_true, if_false]

end

/-- Settles O28: clause by clause, the row's effect where its condition holds; a master's sending splits on Announce and Sync, a
trigger's firing on how it was armed. -/
theorem timeRowsComplete : Obligations.TimeRowsComplete := by
  refine ⟨?message, ?hold, ?announceTimeout, ?holdover, ?announce, ?sync, ?delay, ?rate, ?reload, ?atTime, ?started, ?edge⟩
  case message => exact fun dt port via domainNumber msg s₀ hport => exec_ptpMessage_taken rfl hport rfl
  case hold => exact fun dt port s₀ h hport => exec_pathHoldExpiry_due rfl hport rfl
  case announceTimeout => exact fun dt port s₀ since hport => exec_announceTimeout_due rfl hport rfl
  case holdover => exact fun dt domain s₀ since hdomain => exec_holdoverWarn_due rfl hdomain rfl
  case announce =>
    intro dt port announce s₀ s hport hon hmaster hannounce hdue
    exact exec_ptpMasterSend_due rfl hport rfl hon hmaster (by rw [if_pos hannounce, hdue])
  case sync =>
    intro dt port announce s₀ s hport hon hmaster hsync hdue
    exact exec_ptpMasterSend_due rfl hport rfl hon hmaster (by rw [hsync, if_neg Bool.false_ne_true, hdue])
  case delay => exact fun dt port s₀ hport => exec_ptpDelayRequest_due rfl hport rfl
  case rate => exact fun dt s₀ => exec_tb3RateStep_due rfl
  case reload => exact fun dt domain s₀ hdomain => exec_tbfReload_due rfl hdomain rfl rfl
  case atTime =>
    intro dt unit s₀ s hunit hclock hmode hreached
    exact exec_triggerFire_reached rfl hunit rfl hclock (by rw [hmode]; decide) (.inl hmode) hreached
  case started =>
    intro dt unit s₀ s hunit hclock harmed hrunning hreached
    exact exec_triggerFire_reached rfl hunit rfl hclock harmed (.inr hrunning) hreached
  case edge => exact fun dt gpio rising s₀ => exec_captureInputEdge_input rfl

end Sys2Proof.Machine
end

section
/-!
PROOFS. Lists cut into pieces, numbers and their bits, and bits in bytes (spec/07_image_store_and_codec.md, R170).
-/
namespace Sys2Proof.Machine

/-! Lists cut into pieces. -/

theorem chunks_nil {α : Type} {n : Nat} (hn : 0 < n) : chunks n ([] : List α) = [] := by
  simp only [chunks, List.length_nil, Nat.zero_add, Nat.div_eq_of_lt (Nat.sub_one_lt_of_lt hn), List.range_zero, List.map_nil]

theorem chunks_of_ne_nil {α : Type} {n : Nat} (hn : 0 < n) {l : List α} (hl : l ≠ []) :
    chunks n l = l.take n :: chunks n (l.drop n) := by
  have hpos := List.length_pos_iff.2 hl
  have hcount : (l.length + n - 1) / n = ((l.drop n).length + n - 1) / n + 1 := by
    rw [List.length_drop, ← Nat.add_div_right _ hn]
    by_cases hshort : l.length ≤ n
    · rw [Nat.sub_eq_zero_of_le hshort, Nat.div_eq_of_lt_le (k := 1) (by omega) (by omega),
        Nat.div_eq_of_lt_le (k := 1) (by omega) (by omega)]
    · congr 1
      omega
  simp only [chunks, hcount, List.range_succ_eq_map, List.map_cons, List.map_map, Nat.mul_zero, List.drop_zero, List.drop_drop,
    Function.comp_def, Nat.succ_eq_add_one, Nat.mul_succ, Nat.add_comm n]

theorem flatten_chunks {α : Type} {n : Nat} (hn : 0 < n) (l : List α) : (chunks n l).flatten = l := by
  by_cases hl : l = []
  · rw [hl, chunks_nil hn, List.flatten_nil]
  · have hpos := List.length_pos_iff.2 hl
    rw [chunks_of_ne_nil hn hl, List.flatten_cons, flatten_chunks hn (l.drop n), List.take_append_drop]
termination_by l.length
decreasing_by rw [List.length_drop]; omega

theorem length_chunks {α : Type} {n k : Nat} (hn : 0 < n) {l : List α} (hl : l.length = n * k) : (chunks n l).length = k := by
  rw [chunks, List.length_map, List.length_range, hl, Nat.add_sub_assoc hn, Nat.mul_add_div hn, Nat.div_eq_of_lt (by omega), Nat.add_zero]

theorem length_of_mem_chunks {α : Type} {n k : Nat} {l : List α} (hl : l.length = n * k) {c : List α} (hc : c ∈ chunks n l) :
    c.length = n := by
  rcases Nat.eq_zero_or_pos n with rfl | hn
  · obtain ⟨i, -, rfl⟩ := List.mem_map.1 hc
    simp
  · have hcount := length_chunks hn hl
    obtain ⟨i, hi, rfl⟩ := List.mem_map.1 hc
    rw [chunks, List.length_map, List.length_range] at hcount
    rw [hcount, List.mem_range] at hi
    have := Nat.mul_le_mul_left n (Nat.succ_le_of_lt hi)
    rw [Nat.mul_succ] at this
    rw [List.length_take, List.length_drop, hl, Nat.min_eq_left (by omega)]

theorem indexed_cons {α : Type} (a : α) (l : List α) : indexed (a :: l) = (0, a) :: (indexed l).map fun x => (x.1 + 1, x.2) := by
  rw [indexed, indexed, List.length_cons, List.range_succ_eq_map, List.zip_cons_cons, List.zip_map_left]
  rfl

theorem filter_range_eq {a n : Nat} (h : a < n) : (List.range n).filter (fun i => decide (i = a)) = [a] := by
  rw [List.filter_eq, List.count_range, if_pos h]
  rfl

/-! Bits and the numbers they stand for, the lowest first (R170). -/

/-- The number that bits stand for, as the block coder gathers it. -/
def bitsValue (bs : List Bool) : Nat := ((indexed bs).map fun b => if b.2 then 2 ^ b.1 else 0).sum

@[simp] theorem bitsValue_nil : bitsValue [] = 0 := rfl

theorem sum_map_double {α : Type} (f : α → Nat) (l : List α) : (l.map fun x => 2 * f x).sum = 2 * (l.map f).sum := by
  induction l with
  | nil => rfl
  | cons x l ih => rw [List.map_cons, List.map_cons, List.sum_cons, List.sum_cons, ih, Nat.mul_add]

theorem bitsValue_cons (b : Bool) (bs : List Bool) : bitsValue (b :: bs) = b.toNat + 2 * bitsValue bs := by
  have hdouble : (fun x : Nat × Bool => if x.2 = true then 2 ^ (x.1 + 1) else 0) = fun x => 2 * if x.2 = true then 2 ^ x.1 else 0 := by
    funext x
    rw [Nat.pow_succ']
    split <;> rfl
  rw [bitsValue, indexed_cons, List.map_cons, List.map_map, List.sum_cons, bitsValue, ← sum_map_double, ← hdouble]
  cases b <;> rfl

@[simp] theorem length_putBits (v k : Nat) : (putBits v k).length = k := by simp [putBits]

theorem putBits_succ (v k : Nat) : putBits v (k + 1) = v.testBit 0 :: putBits (v / 2) k := by
  simp [putBits, List.range_succ_eq_map, Nat.testBit_succ]

/-- The bits put of a number stand for it. -/
theorem bitsValue_putBits (v k : Nat) : bitsValue (putBits v k) = v % 2 ^ k := by
  induction k generalizing v with
  | zero => rw [Nat.pow_zero, Nat.mod_one]; rfl
  | succ k ih =>
    have hlow : (v.testBit 0).toNat = v % 2 := by
      rw [Nat.testBit_zero]
      rcases Nat.mod_two_eq_zero_or_one v with h | h <;> rw [h] <;> rfl
    rw [putBits_succ, bitsValue_cons, ih, hlow, Nat.pow_succ', Nat.mod_mul]

/-- The bits of the number that bits stand for are these, with zeros after them. -/
theorem putBits_bitsValue (bs : List Bool) (k : Nat) : putBits (bitsValue bs) (bs.length + k) = bs ++ List.replicate k false := by
  induction bs with
  | nil => simp [putBits, List.map_const']
  | cons b bs ih =>
    have hlow : (b.toNat + 2 * bitsValue bs).testBit 0 = b := by
      rw [Nat.testBit_zero, Nat.add_mul_mod_self_left]
      cases b <;> rfl
    have hhigh : (b.toNat + 2 * bitsValue bs) / 2 = bitsValue bs := by
      have := b.toNat_lt
      omega
    rw [List.length_cons, Nat.add_right_comm, putBits_succ, bitsValue_cons, hlow, hhigh, ih, List.cons_append]

/-- k bits that were put are read back. -/
theorem getBits_putBits {v k : Nat} (rest : List Bool) : getBits k (putBits v k ++ rest) = some (v % 2 ^ k, rest) := by
  have hlong : ¬(putBits v k ++ rest).length < k := by rw [List.length_append, length_putBits]; omega
  rw [getBits, if_neg hlong, List.take_left' (length_putBits v k), List.drop_left' (length_putBits v k), ← bitsValue_putBits v k]
  rfl

/-! Bits in bytes (R170). -/

theorem bytesOfBits_eq (bs : List Bool) : bytesOfBits bs = (chunks 8 bs).map fun c => BitVec.ofNat 8 (bitsValue c) := rfl

theorem streamBits_cons (b : Byte) (bs : List Byte) : streamBits (b :: bs) = putBits b.toNat 8 ++ streamBits bs := rfl

/-- The bits of a byte that was gathered are the bits in it, padded with zeros. -/
theorem putBits_byte {c : List Bool} (hc : c.length ≤ 8) :
    putBits (BitVec.ofNat 8 (bitsValue c)).toNat 8 = c ++ List.replicate (8 - c.length) false := by
  have hmod : putBits (BitVec.ofNat 8 (bitsValue c)).toNat 8 = putBits (bitsValue c) 8 := by
    refine List.map_congr_left fun i hi => ?_
    rw [BitVec.toNat_ofNat, Nat.testBit_mod_two_pow, decide_eq_true (List.mem_range.1 hi), Bool.true_and]
  rw [hmod, ← putBits_bitsValue, Nat.add_sub_cancel' hc]

/-- The stream of bytes that bits were gathered into holds these, and fewer than eight zeros after them. -/
theorem streamBits_bytesOfBits (bs : List Bool) : ∃ k < 8, streamBits (bytesOfBits bs) = bs ++ List.replicate k false := by
  by_cases hbs : bs = []
  · exact ⟨0, by decide, by rw [hbs]; rfl⟩
  · have hpos := List.length_pos_iff.2 hbs
    obtain ⟨k, hk, hrest⟩ := streamBits_bytesOfBits (bs.drop 8)
    have hsplit : streamBits (bytesOfBits bs) = bs.take 8 ++ List.replicate (8 - (bs.take 8).length) false ++
        streamBits (bytesOfBits (bs.drop 8)) := by
      rw [bytesOfBits_eq, chunks_of_ne_nil (by decide) hbs, List.map_cons, streamBits_cons, putBits_byte (List.length_take_le 8 bs)]
      rfl
    by_cases hlong : 8 ≤ bs.length
    · refine ⟨k, hk, ?_⟩
      rw [hsplit, hrest, List.length_take_of_le hlong, Nat.sub_self, List.replicate_zero, List.append_nil, ← List.append_assoc,
        List.take_append_drop]
    · refine ⟨8 - bs.length, by omega, ?_⟩
      rw [hsplit, List.drop_eq_nil_of_le (by omega), List.take_of_length_le (by omega)]
      exact List.append_nil _
termination_by bs.length
decreasing_by rw [List.length_drop]; omega

end Sys2Proof.Machine
end

section
/-!
PROOFS. The block coder: the decoder reads back each plane that the encoder writes, value by value
(spec/07_image_store_and_codec.md, R170).
-/
namespace Sys2Proof.Machine

/-! Samples and their mapped values (R170). -/

/-- The mapped value stands for the sample's difference from its prediction, taken within half the range of a sample. -/
theorem mapped_difference {depth : Nat} (hdepth : 1 ≤ depth) (s p : Nat) :
    ∃ r : Int, -2 ^ (depth - 1) ≤ r ∧ r < 2 ^ (depth - 1) ∧ ((p : Int) + r) % 2 ^ depth = s % 2 ^ depth ∧
      mapped depth s p = if 0 ≤ r then (2 * r).toNat else (-2 * r - 1).toNat := by
  have hhalf : (2 : Int) ^ depth = 2 ^ (depth - 1) * 2 := by rw [← Int.pow_succ, Nat.succ_eq_add_one, Nat.sub_add_cancel hdepth]
  have hpos : (0 : Int) < 2 ^ (depth - 1) := Int.pow_pos (by decide)
  have hlow := Int.emod_nonneg ((s : Int) - p + 2 ^ (depth - 1)) (b := 2 ^ depth) (by omega)
  have hhigh := Int.emod_lt_of_pos ((s : Int) - p + 2 ^ (depth - 1)) (b := 2 ^ depth) (by omega)
  refine ⟨((s : Int) - p + 2 ^ (depth - 1)) % 2 ^ depth - 2 ^ (depth - 1), by omega, by omega, ?_, ?_⟩
  · rw [← Int.add_sub_assoc, Int.sub_emod, Int.add_emod_emod, ← Int.sub_emod]
    congr 1
    omega
  · rfl

section
variable {depth : Nat} (hdepth : 1 ≤ depth)
include hdepth

/-- A mapped value has the bits of a sample, whatever was predicted. -/
theorem mapped_lt (s p : Nat) : mapped depth s p < 2 ^ depth := by
  obtain ⟨r, hlow, hhigh, -, hmapped⟩ := mapped_difference hdepth s p
  have hhalf : 2 ^ depth = 2 ^ (depth - 1) * 2 := (Nat.two_pow_pred_mul_two hdepth).symm
  have hcast : ((2 ^ (depth - 1) : Nat) : Int) = 2 ^ (depth - 1) := Int.natCast_pow 2 _
  rw [hmapped, hhalf]
  split <;> omega

/-- The prediction and the mapped value give the sample back. -/
theorem unmapped_mapped {s : Nat} (hs : s < 2 ^ depth) (p : Nat) : unmapped depth (mapped depth s p) p = s := by
  obtain ⟨r, -, -, hsample, hmapped⟩ := mapped_difference hdepth s p
  have hr : (if mapped depth s p % 2 = 0 then ((mapped depth s p / 2 : Nat) : Int)
      else -(((mapped depth s p + 1) / 2 : Nat) : Int)) = r := by
    rw [hmapped]
    split <;> omega
  rw [unmapped, hr]
  change (((p : Int) + r) % 2 ^ depth).toNat = s
  rw [hsample, Int.emod_eq_of_lt (Int.natCast_nonneg s) (by exact_mod_cast hs), Int.toNat_natCast]

end

/-! Reading one mapped value (R170). -/

theorem countOnes_below {q n : Nat} (h : q < n) (bs : List Bool) :
    countOnes n (List.replicate q true ++ false :: bs) = (q, false :: bs) := by
  induction q generalizing n with
  | zero => obtain ⟨n, rfl⟩ := Nat.exists_eq_add_of_lt h; simp [countOnes]
  | succ q ih =>
    obtain ⟨n, rfl⟩ := Nat.exists_eq_add_of_le' (Nat.one_le_of_lt h)
    simp [List.replicate_succ, countOnes, ih (Nat.lt_of_succ_lt_succ h)]

theorem countOnes_limit (n : Nat) (bs : List Bool) : countOnes n (List.replicate n true ++ bs) = (n, bs) := by
  induction n with
  | zero => rfl
  | succ n ih => simp [List.replicate_succ, countOnes, ih]

/-- A mapped value of a sample's bits that stands at the front of the stream is the next sample's: one step of decodePlane. -/
theorem decodePlane_riceBits (pred w n : Nat) (s : Array Nat) (cs : List RiceCtx) (bs : List Bool) {depth m p x : Nat}
    (hm : m < 2 ^ depth) (hpredict : predict depth pred w s s.size = (p, x)) :
    decodePlane depth pred w (n + 1) s cs (riceBits depth (riceK (cs.getD x {}) depth 0) m ++ bs) =
      decodePlane depth pred w n (s.push (unmapped depth m p)) (cs.set x ((cs.getD x {}).next m)) bs := by
  rw [decodePlane, hpredict]
  dsimp only
  generalize riceK (cs.getD x {}) depth 0 = k
  by_cases hq : m / 2 ^ k < 2 * depth
  · rw [riceBits, if_pos hq, List.append_assoc, List.append_assoc, List.singleton_append, countOnes_below hq]
    simp only [if_neg (Nat.ne_of_lt hq), getBits_putBits, Option.map_some, Nat.div_add_mod']
  · rw [riceBits, if_neg hq, List.append_assoc, countOnes_limit]
    simp only [if_true, getBits_putBits, Nat.mod_eq_of_lt hm]


/-! Planes (R170). -/

/-- A prediction rests on the samples before its own. -/
theorem predict_congr (depth pred : Nat) {w i : Nat} (hw : 0 < w) {s t : Array Nat} (h : ∀ j < i, s.getD j 0 = t.getD j 0) :
    predict depth pred w s i = predict depth pred w t i := by
  unfold predict
  extract_lets half x y at_ at_'
  have hi : x + y * w = i := Nat.mod_add_div' i w
  have hleft : 0 < x → at_ (x - 1) y = at_' (x - 1) y := fun hx => h _ (by omega)
  have habove : 0 < y → at_ x (y - 1) = at_' x (y - 1) := fun hy => h _ (by
    have := Nat.mul_lt_mul_of_pos_right (Nat.sub_one_lt_of_lt hy) hw
    omega)
  have hcorner : 0 < x → 0 < y → at_ (x - 1) (y - 1) = at_' (x - 1) (y - 1) := fun hx hy => h _ (by
    have := Nat.mul_lt_mul_of_pos_right (Nat.sub_one_lt_of_lt hy) hw
    omega)
  by_cases hx : x = 0
  · by_cases hy : y = 0
    · simp only [hx, hy, and_self, if_true]
    · simp only [hx, hy, and_false, if_false, if_true, hx ▸ habove (Nat.pos_of_ne_zero hy)]
  · have hx' := Nat.pos_of_ne_zero hx
    by_cases hy : y = 0
    · simp only [hx, hy, false_and, if_false, if_true, hy ▸ hleft hx']
    · have hy' := Nat.pos_of_ne_zero hy
      simp only [hx, hy, false_and, if_false, hleft hx', habove hy', hcorner hx' hy']

/-- The bits of a block from the mapped values and contexts of its planes, each plane beginning with fresh contexts. -/
def planesBits (depth k0 : Nat) (values : List (List (Nat × Nat))) : List Bool :=
  values.flatMap fun p => encodeValues depth p (List.replicate 3 { a := 2 ^ k0 })

theorem planesBits_cons (depth k0 : Nat) (p : List (Nat × Nat)) (values : List (List (Nat × Nat))) :
    planesBits depth k0 (p :: values) = encodeValues depth p (List.replicate 3 { a := 2 ^ k0 }) ++ planesBits depth k0 values :=
  List.flatMap_cons

section
variable {depth pred w : Nat} (hdepth : 1 ≤ depth) (hw : 0 < w)

theorem drop_planeValues (depth pred w : Nat) {s : Array Nat} {i : Nat} (hi : i < s.size) {p x : Nat}
    (hpredict : predict depth pred w s i = (p, x)) :
    (planeValues depth pred w s).drop i = (mapped depth (s.getD i 0) p, x) :: (planeValues depth pred w s).drop (i + 1) := by
  have hlen : i < (planeValues depth pred w s).length := by simpa [planeValues] using hi
  rw [List.drop_eq_getElem_cons hlen]
  simp [planeValues, hpredict]

include hdepth hw

/-- From the samples so far the decoder reads the rest of a plane. -/
theorem decodePlane_encodeValues {s : Array Nat} (hs : ∀ j, s.getD j 0 < 2 ^ depth) (rest : List Bool) {i n : Nat}
    (hn : i + n = s.size) (cs : List RiceCtx) :
    decodePlane depth pred w n (s.extract 0 i) cs (encodeValues depth ((planeValues depth pred w s).drop i) cs ++ rest) =
      some (s, rest) := by
  induction n generalizing i cs with
  | zero =>
    have hdone : (planeValues depth pred w s).drop i = [] := List.drop_eq_nil_of_le (by simp [planeValues]; omega)
    rw [hdone, Array.extract_eq_self_of_le (by omega)]
    rfl
  | succ n ih =>
    have hi : i < s.size := by omega
    obtain ⟨⟨p, x⟩, hpredict⟩ : ∃ px, predict depth pred w s i = px := ⟨_, rfl⟩
    have hprefix : predict depth pred w (s.extract 0 i) (s.extract 0 i).size = (p, x) := by
      rw [← hpredict, Array.size_extract, Nat.sub_zero, Nat.min_eq_left (Nat.le_of_lt hi)]
      refine predict_congr depth pred hw fun j hj => ?_
      simp only [Array.getD_eq_getD_getElem?, Array.getElem?_extract, Nat.zero_add, Nat.sub_zero, Nat.min_eq_left (Nat.le_of_lt hi), if_pos hj]
    have hpush : (s.extract 0 i).push (s.getD i 0) = s.extract 0 (i + 1) := by
      rw [Array.extract_succ_right (Nat.succ_pos i) hi, Array.getD, dif_pos hi]
      rfl
    rw [drop_planeValues depth pred w hi hpredict, encodeValues, List.append_assoc,
      decodePlane_riceBits pred w n _ cs _ (mapped_lt hdepth _ p) hprefix, unmapped_mapped hdepth (hs i), hpush]
    exact ih (by omega) _

/-- The bits of the planes of a block, one after the other, decode to the planes. -/
theorem decodePlanes_planesBits {count k0 : Nat} (rest : List Bool) {planes : List (Array Nat)}
    (hplanes : ∀ s ∈ planes, s.size = count ∧ ∀ j, s.getD j 0 < 2 ^ depth) :
    decodePlanes depth pred w count k0 planes.length (planesBits depth k0 (planes.map (planeValues depth pred w)) ++ rest) =
      some (planes, rest) := by
  induction planes with
  | nil => rfl
  | cons s planes ih =>
    obtain ⟨hsize, hs⟩ := hplanes s List.mem_cons_self
    have hfirst := decodePlane_encodeValues (pred := pred) hdepth hw hs (planesBits depth k0 (planes.map (planeValues depth pred w)) ++ rest)
      ((Nat.zero_add count).trans hsize.symm) (List.replicate 3 { a := 2 ^ k0 })
    rw [Array.extract_zero, List.drop_zero] at hfirst
    rw [List.length_cons, List.map_cons, planesBits_cons, List.append_assoc, decodePlanes, hfirst]
    dsimp only
    rw [ih fun t ht => hplanes t (List.mem_cons_of_mem s ht)]
    rfl

end

end Sys2Proof.Machine
end

section
/-!
PROOFS. Blocks: what the device's encoder stores, and that its decoder gives back the raw bytes, mode by mode
(spec/07_image_store_and_codec.md, R168 to R172).
-/
namespace Sys2Proof.Machine

/-! Bytes, samples and planes (R169). -/

theorem toLe_leNat (bs : List Byte) : toLe bs.length (leNat bs) = bs := by
  induction bs with
  | nil => rfl
  | cons b bs ih =>
    have hlow : (b.toNat + 256 * leNat bs) % 256 = b.toNat := by have := b.isLt; omega
    have hhigh : (b.toNat + 256 * leNat bs) / 256 = leNat bs := by have := b.isLt; omega
    rw [List.length_cons, leNat, toLe, hhigh, ih]
    congr 1
    exact BitVec.eq_of_toNat_eq (by rw [BitVec.toNat_ofNat]; exact hlow)

theorem leNat_lt (bs : List Byte) : leNat bs < 256 ^ bs.length := by
  rw [← toLe_leNat bs, leNat_toLe, length_toLe]
  exact Nat.mod_lt _ (Nat.pow_pos (by decide))

section
variable {d k : Nat} {raw : List Byte} (hraw : raw.length = d * k)
include hraw

theorem length_numbers (hd : 0 < d) : (numbers d raw).length = k := by
  rw [numbers, List.length_map, length_chunks hd hraw]

/-- Bytes are those of the numbers that they hold. -/
theorem flatMap_toLe_numbers (hd : 0 < d) : (numbers d raw).flatMap (toLe d) = raw := by
  have hbytes : (chunks d raw).map (fun c => toLe d (leNat c)) = (chunks d raw).map id :=
    List.map_congr_left fun c hc => by rw [← length_of_mem_chunks hraw hc, toLe_leNat]; rfl
  rw [numbers, List.flatMap_map, List.flatMap_def, hbytes, List.map_id, flatten_chunks hd]

theorem getD_numbers_lt (j : Nat) : (numbers d raw).getD j 0 < 256 ^ d := by
  rw [List.getD_eq_getElem?_getD]
  cases hget : (numbers d raw)[j]? with
  | none => exact Nat.pow_pos (by decide)
  | some v =>
    obtain ⟨c, hc, rfl⟩ := List.mem_map.1 (List.mem_of_getElem? hget)
    have := leNat_lt c
    rwa [length_of_mem_chunks hraw hc] at this

end

theorem indexed_eq_map {α : Type} (d : α) (l : List α) : indexed l = (List.range l.length).map fun i => (i, l.getD i d) := by
  refine List.ext_getElem (by simp [indexed]) fun i hi _ => ?_
  have hil : i < l.length := by simpa [indexed] using hi
  simp [indexed, hil]

theorem filterMap_ite {α β : Type} (p : α → Prop) [DecidablePred p] (f : α → β) (l : List α) :
    l.filterMap (fun i => if p i then some (f i) else none) = (l.filter fun i => decide (p i)).map f := by
  have hguard : (fun i => if p i then some (f i) else none) = fun i => (Option.guard (fun i => decide (p i)) i).map f := by
    funext i
    simp only [Option.guard, decide_eq_true_eq]
    split <;> rfl
  rw [hguard, ← List.map_filterMap, List.filterMap_eq_filter]

/-- Of the first ch * count numbers, those of one residue. -/
theorem filter_range_mod {ch c : Nat} (hc : c < ch) (count : Nat) :
    (List.range (ch * count)).filter (fun i => decide (i % ch = c)) = (List.range count).map fun i => ch * i + c := by
  induction count with
  | zero => rfl
  | succ count ih =>
    have hturn : (List.range ch).filter ((fun i => decide (i % ch = c)) ∘ (ch * count + ·)) = [c] := by
      rw [← filter_range_eq hc]
      refine List.filter_congr fun i hi => ?_
      rw [Function.comp_apply, Nat.mul_add_mod, Nat.mod_eq_of_lt (List.mem_range.1 hi)]
    rw [Nat.mul_succ, List.range_add, List.filter_append, ih, List.filter_map, hturn, List.range_succ, List.map_append]
    rfl

theorem flatMap_range_mul {α : Type} (f : Nat → List α) (ch count : Nat) :
    (List.range count).flatMap (fun i => (List.range ch).flatMap fun c => f (ch * i + c)) = (List.range (ch * count)).flatMap f := by
  induction count with
  | zero => rfl
  | succ count ih =>
    rw [Nat.mul_succ, List.range_add (n := ch * count), List.flatMap_append, ← ih, List.range_succ, List.flatMap_append,
      List.flatMap_singleton, List.flatMap_map]

/-- Plane c of a block holds the samples of channel c, pixel by pixel. -/
theorem planesOf_eq {depth channels count : Nat} {raw : List Byte} (hcount : (numbers (depth / 8) raw).length = channels * count) :
    planesOf depth channels raw = (List.range channels).map fun c =>
      ((List.range count).map fun i => (numbers (depth / 8) raw).getD (channels * i + c) 0).toArray := by
  refine List.map_congr_left fun c hc => ?_
  have hc := List.mem_range.1 hc
  rw [Nat.max_eq_right (Nat.one_le_of_lt hc), indexed_eq_map 0, List.filterMap_map, hcount]
  refine congrArg List.toArray ((filterMap_ite (· % channels = c) ((numbers (depth / 8) raw).getD · 0) _).trans ?_)
  rw [filter_range_mod hc, List.map_map]
  rfl

section
variable {depth channels count : Nat} {raw : List Byte} (hdepth : 0 < depth / 8) (hraw : raw.length = depth / 8 * (channels * count))
include hdepth hraw

/-- Each plane of a block has a sample per pixel, of the samples' bytes. -/
theorem plane_of_mem_planesOf {s : Array Nat} (hs : s ∈ planesOf depth channels raw) :
    s.size = count ∧ ∀ j, s.getD j 0 < 256 ^ (depth / 8) := by
  rw [planesOf_eq (length_numbers hraw hdepth)] at hs
  obtain ⟨c, -, rfl⟩ := List.mem_map.1 hs
  refine ⟨by simp, fun j => ?_⟩
  rw [Array.getD_eq_getD_getElem?, List.getElem?_toArray, List.getElem?_map]
  cases (List.range count)[j]? with
  | none => exact Nat.pow_pos (by decide)
  | some i => exact getD_numbers_lt hraw _

/-- What planesOf parts, rawOfPlanes puts together. -/
theorem rawOfPlanes_planesOf : rawOfPlanes depth (planesOf depth channels raw) count = raw := by
  have hpixel : ∀ i ∈ List.range count, (planesOf depth channels raw).flatMap (fun p => toLe (depth / 8) (p.getD i 0)) =
      (List.range channels).flatMap fun c => toLe (depth / 8) ((numbers (depth / 8) raw).getD (channels * i + c) 0) := by
    intro i hi
    rw [planesOf_eq (length_numbers hraw hdepth), List.flatMap_map]
    refine congrArg List.flatten (List.map_congr_left fun c _ => ?_)
    simp [List.mem_range.1 hi]
  have hsamples : (List.range (channels * count)).map (fun j => (numbers (depth / 8) raw).getD j 0) = numbers (depth / 8) raw := by
    rw [← length_numbers hraw hdepth]
    refine List.ext_getElem (by simp) fun j hj hj' => ?_
    simp [hj']
  rw [rawOfPlanes, List.flatMap_def, List.map_congr_left hpixel, ← List.flatMap_def,
    flatMap_range_mul (fun j => toLe (depth / 8) ((numbers (depth / 8) raw).getD j 0)),
    ← List.flatMap_map (f := fun j => (numbers (depth / 8) raw).getD j 0), hsamples, flatMap_toLe_numbers hraw hdepth]

end

/-! A block as stored (R168, R169). -/

/-- The header of a stored block (Table 7-8): MODE, PARAM, PAYLOAD_LEN and CHECK. -/
def blockHeader (mode param len check : Nat) : List Byte := toLe 1 mode ++ (toLe 1 param ++ (toLe 2 len ++ toLe 4 check))

@[simp] theorem length_blockHeader (mode param len check : Nat) : (blockHeader mode param len check).length = 8 := by
  simp only [blockHeader, List.length_append, length_toLe]

/-- A stored block is its header and its payload, padded to a whole word. -/
theorem blockBytes_eq (mode param : Nat) (payload raw : List Byte) : ∃ k ≤ 3, (8 + payload.length + k) % 4 = 0 ∧
    blockBytes mode param payload raw =
      blockHeader mode param payload.length (crc32c raw) ++ (payload ++ List.replicate k 0) := by
  have hlen : storedLen payload.length = 4 * ((8 + payload.length + 3) / 4) := rfl
  refine ⟨storedLen payload.length - (8 + payload.length), by omega, by omega, ?_⟩
  have hbody : (toLe 1 mode ++ toLe 1 param ++ toLe 2 payload.length ++ toLe 4 (crc32c raw) ++ payload).length = 8 + payload.length := by
    simp only [List.length_append, length_toLe]
  rw [blockBytes, padTo, hbody, List.take_of_length_le (by rw [List.length_append, hbody, List.length_replicate]; omega)]
  simp only [blockHeader, List.append_assoc]

section
variable {mode param len check : Nat}

theorem rd_blockHeader_mode (h : mode < 256) : rd (blockHeader mode param len check) 0 1 = mode := by
  rw [blockHeader, rd_append_left (by simp), rd_toLe h]

theorem rd_blockHeader_param (h : param < 256) : rd (blockHeader mode param len check) 1 1 = param := by
  rw [blockHeader, rd_append_right (k := 1) (off := 0) (by simp), rd_append_left (by simp), rd_toLe h]

theorem rd_blockHeader_len (h : len < 65536) : rd (blockHeader mode param len check) 2 2 = len := by
  rw [blockHeader, rd_append_right (k := 1) (off := 1) (by simp), rd_append_right (k := 1) (off := 0) (by simp),
    rd_append_left (by simp), rd_toLe h]

theorem rd_blockHeader_check (h : check < 2 ^ 32) : rd (blockHeader mode param len check) 4 4 = check := by
  rw [blockHeader, rd_append_right (k := 1) (off := 3) (by simp), rd_append_right (k := 1) (off := 2) (by simp),
    rd_append_right (k := 2) (off := 0) (by simp), rd_toLe h]

end

theorem slice_append_middle {a : List Byte} {k : Nat} (ha : a.length = k) (b c : List Byte) : slice (a ++ (b ++ c)) k b.length = b := by
  subst ha
  simp [slice]

/-- What is stored of a payload that gives the raw bytes decodes to these. -/
theorem decodeBlock_blockBytes {h : ImageHeader} {n mode param : Nat} {payload raw : List Byte} (hmode : mode < 256) (hparam : param < 256)
    (hlen : payload.length < 65536) (hpayload : decodePayload h n mode param payload = some raw) :
    decodeBlock h n (blockBytes mode param payload raw) = some raw := by
  obtain ⟨k, -, -, hblock⟩ := blockBytes_eq mode param payload raw
  have hfield : ∀ off size, off + size ≤ 8 → rd (blockBytes mode param payload raw) off size =
      rd (blockHeader mode param payload.length (crc32c raw)) off size :=
    fun off size hin => by rw [hblock, rd_append_left (by rwa [length_blockHeader])]
  have hslice : slice (blockBytes mode param payload raw) 8 payload.length = payload := by
    rw [hblock, slice_append_middle (length_blockHeader _ _ _ _)]
  rw [decodeBlock, hfield 0 1 (by decide), hfield 1 1 (by decide), hfield 2 2 (by decide), hfield 4 4 (by decide),
    rd_blockHeader_mode hmode, rd_blockHeader_param hparam, rd_blockHeader_len hlen, rd_blockHeader_check (crc32c_lt raw), hslice, hpayload]
  exact if_pos rfl

/-! The three modes of the encoder (R171). -/

/-- The planes' mapped values and contexts. -/
def blockValues (h : ImageHeader) (n pred : Nat) (raw : List Byte) : List (List (Nat × Nat)) :=
  (planesOf h.depth h.channels raw).map (planeValues h.depth pred (h.blockSize n).1)

/-- The payload of a CODED block. -/
def codedPayload (h : ImageHeader) (n pred k0 : Nat) (raw : List Byte) : List Byte :=
  bytesOfBits (planesBits h.depth k0 (blockValues h n pred raw))

theorem chooseK0_le (count sum f k : Nat) : chooseK0 count sum f k ≤ k + f := by
  induction f generalizing k with
  | zero => exact Nat.le_refl k
  | succ f ih =>
    rw [chooseK0]
    split
    · exact Nat.le_trans (ih (k + 1)) (by omega)
    · omega

/-- The encoder stores a block FLAT where all pixels are the first, CODED where that is shorter than the raw bytes, else RAW. -/
theorem encodeBlock_mode (h : ImageHeader) (n : Nat) (raw : List Byte) :
    ((∀ c ∈ chunks h.pixelBytes raw, c = raw.take h.pixelBytes) ∧ encodeBlock h n raw = blockBytes 2 0 (raw.take h.pixelBytes) raw) ∨
    (∃ pred ≤ 1, ∃ k0 ≤ h.depth, (codedPayload h n pred k0 raw).length < raw.length ∧
      encodeBlock h n raw = blockBytes 1 (k0 + 32 * pred) (codedPayload h n pred k0 raw) raw) ∨
    encodeBlock h n raw = blockBytes 0 0 raw raw := by
  by_cases hflat : (chunks h.pixelBytes raw).all (· == raw.take h.pixelBytes) = true
  · refine .inl ⟨by simpa using hflat, ?_⟩
    simp only [encodeBlock, if_pos hflat]
  · obtain ⟨pred, hpred⟩ : ∃ pred, pred = if h.format ≤ 2 then 1 else 0 := ⟨_, rfl⟩
    obtain ⟨k0, hk0⟩ : ∃ k0, k0 = chooseK0 ((blockValues h n pred raw).map (·.length)).sum
        ((blockValues h n pred raw).map fun p => (p.map (·.1)).sum).sum h.depth 0 := ⟨_, rfl⟩
    have hencode : encodeBlock h n raw = if (codedPayload h n pred k0 raw).length < raw.length then
        blockBytes 1 (k0 + 32 * pred) (codedPayload h n pred k0 raw) raw else blockBytes 0 0 raw raw := by
      simp only [encodeBlock, if_neg hflat]
      rw [hk0, hpred]
      rfl
    by_cases hshort : (codedPayload h n pred k0 raw).length < raw.length
    · refine .inr (.inl ⟨pred, by rw [hpred]; split <;> decide, k0, ?_, hshort, by rw [hencode, if_pos hshort]⟩)
      rw [hk0]
      exact Nat.le_trans (chooseK0_le _ _ _ _) (Nat.le_of_eq (Nat.zero_add _))
    · exact .inr (.inr (by rw [hencode, if_neg hshort]))

/-- Settles O57: whichever mode the encoder takes, its payload is no longer than the raw bytes. -/
theorem encodedBlockBounded : Obligations.EncodedBlockBounded := by
  intro h n raw
  obtain ⟨mode, param, payload, hblock, hlen⟩ : ∃ mode param payload,
      encodeBlock h n raw = blockBytes mode param payload raw ∧ payload.length ≤ raw.length := by
    obtain ⟨-, hflat⟩ | ⟨pred, -, k0, -, hshort, hcoded⟩ | hraw := encodeBlock_mode h n raw
    · exact ⟨_, _, _, hflat, List.length_take_le' _ raw⟩
    · exact ⟨_, _, _, hcoded, Nat.le_of_lt hshort⟩
    · exact ⟨_, _, _, hraw, Nat.le_refl _⟩
  obtain ⟨k, hk, hword, hbytes⟩ := blockBytes_eq mode param payload raw
  rw [hblock, hbytes]
  simp only [List.length_append, length_blockHeader, List.length_replicate]
  omega

/-! What each mode's payload decodes to (R169, R170). -/

theorem ImageHeader.pixelBytes_eq {h : ImageHeader} (hdepth : h.depth = 8 ∨ h.depth = 16) : h.pixelBytes = h.depth / 8 * h.channels := by
  rw [ImageHeader.pixelBytes]
  rcases hdepth with hd | hd <;> rw [hd] <;> omega

theorem ImageHeader.blockRaw_lt {h : ImageHeader} (hdepth : h.depth = 8 ∨ h.depth = 16) (hchannels : h.channels ≤ 9) (n : Nat) :
    h.blockRaw n < 65536 := by
  have hcount : (h.blockSize n).1 * (h.blockSize n).2 ≤ 256 * 4 := Nat.mul_le_mul (Nat.min_le_left _ _) (Nat.min_le_left _ _)
  have hpixel : h.pixelBytes ≤ 18 := by
    rw [ImageHeader.pixelBytes_eq hdepth]
    rcases hdepth with hd | hd <;> rw [hd] <;> omega
  exact Nat.lt_of_le_of_lt (Nat.mul_le_mul hcount hpixel) (by decide)

section
variable {h : ImageHeader} {n : Nat} {raw : List Byte} (hlen : raw.length = h.blockRaw n)
include hlen

theorem decodePayload_raw : decodePayload h n 0 0 raw = some raw := if_pos ⟨hlen, rfl⟩

variable (hne : raw ≠ [])
include hne

/-- A block that is not empty has a width, pixels and bytes in a pixel. -/
theorem blockSize_pos : 0 < (h.blockSize n).1 ∧ 0 < (h.blockSize n).1 * (h.blockSize n).2 ∧ 0 < h.pixelBytes := by
  have hpos := List.length_pos_iff.2 hne
  rw [hlen, ImageHeader.blockRaw] at hpos
  exact ⟨Nat.pos_of_mul_pos_right (Nat.pos_of_mul_pos_right hpos), Nat.pos_of_mul_pos_right hpos, Nat.pos_of_mul_pos_left hpos⟩

/-- A FLAT block decodes to its pixel as often as the block has pixels. -/
theorem decodePayload_flat (hflat : ∀ c ∈ chunks h.pixelBytes raw, c = raw.take h.pixelBytes) :
    decodePayload h n 2 0 (raw.take h.pixelBytes) = some raw := by
  obtain ⟨-, hcount, hpixel⟩ := blockSize_pos hlen hne
  have hmul : raw.length = h.pixelBytes * ((h.blockSize n).1 * (h.blockSize n).2) := by rw [hlen, ImageHeader.blockRaw, Nat.mul_comm]
  have hfirst : (raw.take h.pixelBytes).length = h.pixelBytes :=
    List.length_take_of_le (hmul ▸ Nat.le_mul_of_pos_right _ hcount)
  have hpieces := List.eq_replicate_iff.2 ⟨length_chunks hpixel hmul, hflat⟩
  have hdecode : decodePayload h n 2 0 (raw.take h.pixelBytes) =
      some ((List.range ((h.blockSize n).1 * (h.blockSize n).2)).flatMap fun _ => raw.take h.pixelBytes) := if_pos ⟨hfirst, rfl⟩
  rw [hdecode, List.flatMap_def, List.map_const', List.length_range, ← hpieces, flatten_chunks hpixel]

/-- A CODED block's planes decode, and fewer than eight bits are left over, all of them zero. -/
theorem decodePayload_coded (hdepth : h.depth = 8 ∨ h.depth = 16) {pred k0 : Nat} (hpred : pred ≤ 1) (hk0 : k0 ≤ h.depth)
    (hshort : (codedPayload h n pred k0 raw).length < raw.length) :
    decodePayload h n 1 (k0 + 32 * pred) (codedPayload h n pred k0 raw) = some raw := by
  obtain ⟨hw, -, -⟩ := blockSize_pos hlen hne
  have hbyte : 0 < h.depth / 8 := by omega
  have hmul : raw.length = h.depth / 8 * (h.channels * ((h.blockSize n).1 * (h.blockSize n).2)) := by
    rw [hlen, ImageHeader.blockRaw, ImageHeader.pixelBytes_eq hdepth, Nat.mul_comm, Nat.mul_assoc]
  have hbits : 256 ^ (h.depth / 8) = 2 ^ h.depth := by rcases hdepth with hd | hd <;> rw [hd] <;> rfl
  have hparam : ¬(h.depth < (k0 + 32 * pred) % 32 ∨ (k0 + 32 * pred) / 32 % 4 = 3 ∨ 128 ≤ k0 + 32 * pred ∨
      h.blockRaw n ≤ (codedPayload h n pred k0 raw).length) := by omega
  have hk : (k0 + 32 * pred) % 32 = k0 := by omega
  have hp : (k0 + 32 * pred) / 32 % 4 = pred := by omega
  have hplanes : ∀ s ∈ planesOf h.depth h.channels raw,
      s.size = (h.blockSize n).1 * (h.blockSize n).2 ∧ ∀ j, s.getD j 0 < 2 ^ h.depth := fun s hs => by
    rw [← hbits]
    exact plane_of_mem_planesOf hbyte hmul hs
  have hn : (planesOf h.depth h.channels raw).length = h.channels := by rw [planesOf, List.length_map, List.length_range]
  obtain ⟨k, hk8, hstream⟩ := streamBits_bytesOfBits (planesBits h.depth k0 (blockValues h n pred raw))
  have hdecode : decodePlanes h.depth pred (h.blockSize n).1 ((h.blockSize n).1 * (h.blockSize n).2) k0 h.channels
      (streamBits (codedPayload h n pred k0 raw)) = some (planesOf h.depth h.channels raw, List.replicate k false) := by
    have hread := decodePlanes_planesBits (pred := pred) (k0 := k0) (by omega) hw (List.replicate k false) hplanes
    rwa [hn, ← blockValues, ← hstream, ← codedPayload] at hread
  unfold decodePayload
  dsimp only
  rw [if_neg hparam, hk, hp, hdecode]
  simp [hk8, rawOfPlanes_planesOf hbyte hmul]

end

/-- Settles O58: mode by mode, the payload gives the raw bytes back. -/
theorem blockRoundTrip : Obligations.BlockRoundTrip := by
  intro h n raw hdepth _ hchannels hlen hne
  have hraw : raw.length < 65536 := hlen ▸ ImageHeader.blockRaw_lt hdepth hchannels n
  obtain ⟨hsame, hflat⟩ | ⟨pred, hpred, k0, hk0, hshort, hcoded⟩ | hstored := encodeBlock_mode h n raw
  · rw [hflat]
    exact decodeBlock_blockBytes (by decide) (by decide) (Nat.lt_of_le_of_lt (List.length_take_le' _ raw) hraw)
      (decodePayload_flat hlen hne hsame)
  · rw [hcoded]
    exact decodeBlock_blockBytes (by decide) (by omega) (Nat.lt_trans hshort hraw) (decodePayload_coded hlen hne hdepth hpred hk0 hshort)
  · rw [hstored]
    exact decodeBlock_blockBytes (by decide) (by decide) hraw (decodePayload_raw hlen)

end Sys2Proof.Machine
end

section
/-!
PROOFS. The JOB commands: what each answers and leaves where it runs (spec/07_image_store_and_codec.md, R179 to R185).
-/
namespace Sys2Proof.Machine

/-! JOB_CANCEL (R67, R184). -/

theorem jobCancelEffect_of_flying {q : Cmd} {s : State} {e : InFlight} (hfly : s.jobFlying (q.u32 0) = some e) :
    jobCancelEffect q s = .done .good (cancelFlying e s).2 := by
  rw [jobCancelEffect, hfly]

theorem cancelFlying_notStarted {e : InFlight} (hstarted : e.started = false) (s : State) :
    cancelFlying e s = (true, deliver e.cmd.id (.err .cancelled) s) := by
  simp [cancelFlying, hstarted]

theorem cancelFlying_abortable {e : InFlight} (hstarted : e.started = true) (habortable : e.abortable = true) (s : State) :
    cancelFlying e s = (true, cancelStarted e s) := by
  simp [cancelFlying, hstarted, habortable]

/-! JOB_INFO (R184). -/

section
variable {q : Cmd} {s : State} {j : Job} (hjob : s.job (q.u32 0) = some j)
include hjob

/-- A job that is LOADING or DELETING has its state and its pages to tell. -/
theorem jobInfoEffect_unusable (husable : j.usable = false) :
    jobInfoEffect q s = .done (.good (toLe 1 j.st.code ++ toLe 7 0 ++ toLe 4 j.pages)) s := by
  simp only [jobInfoEffect, hjob, Option.getD_some, husable, Bool.not_false, if_true]

theorem jobInfoEffect_usable (husable : j.usable = true) {got : List (Nat × DirEntry)}
    (hgot : ((indexed (directory j.bytes)).drop (q.u16 4)).take (q.u16 6) = got) :
    jobInfoEffect q s = .done (.withExt (toLe 1 j.st.code ++ toLe 1 0 ++ toLe 2 (objCount j.bytes) ++ toLe 2 got.length ++ toLe 2 0
      ++ toLe 4 j.pages ++ toLe 4 (j.bad.length + j.badMore)) (q.u64 8) (j.bytes.take 64 ++ got.flatMap fun x => objEntry j x.1 x.2)) s := by
  subst hgot
  simp only [jobInfoEffect, hjob, Option.getD_some, husable, Bool.not_true, Bool.false_eq_true, if_false]

end

/-- Settles O11: each command's effect where it runs; a cancel splits on its target's start, a job's information on whether the job is
usable, the store's status on SET_LOW. -/
theorem jobCommandsComplete : Obligations.JobCommandsComplete := by
  refine ⟨?load, ?encode, ?cancelWaiting, ?cancelStarted, ?delete, ?list, ?info, ?infoUnusable, ?status, ?statusSet, ?read⟩
  case load => exact fun q s₀ hruns => runCmd_runs hruns
  case encode => exact fun q s₀ hruns => runCmd_runs hruns
  case cancelWaiting =>
    intro q s₀ e hruns s hfly hstarted
    refine runCmd_answers hruns ?_
    rw [jobCancelEffect_of_flying hfly, cancelFlying_notStarted hstarted]
  case cancelStarted =>
    intro q s₀ e hruns s hfly hstarted habortable
    refine runCmd_answers hruns ?_
    rw [jobCancelEffect_of_flying hfly, cancelFlying_abortable hstarted habortable]
  case delete => exact fun q s₀ hruns => runCmd_runs hruns
  case list => exact fun q s₀ hruns => runCmd_runs hruns
  case info =>
    intro q s₀ j hruns s got hjob husable
    exact runCmd_answers hruns (jobInfoEffect_usable hjob husable rfl)
  case infoUnusable =>
    intro q s₀ j hruns s hjob husable
    exact runCmd_answers hruns (jobInfoEffect_unusable hjob husable)
  case status =>
    intro q s₀ hruns s hkeep
    refine runCmd_answers hruns ?_
    simp only [jobStoreStatusEffect, hkeep, Bool.false_eq_true, if_false]
    rfl
  case statusSet =>
    intro q s₀ hruns _ s hset
    refine runCmd_answers hruns ?_
    simp only [jobStoreStatusEffect, if_pos hset]
    rfl
  case read => exact fun q s₀ hruns => runCmd_runs hruns

end Sys2Proof.Machine
end

section
/-!
PROOFS. The memory channels (spec/07_image_store_and_codec.md, R159, R161).
-/
namespace Sys2Proof.Machine

/-! The memory channels (R159). -/

/-- The channel of the units of 256 bytes: bits [10:8] of an address are the unit's own in a group of eight, bits [13:11] the group's. -/
theorem lineChannel_unit (g u : Nat) (hu : u < 8) : lineChannel ((2048 * g + 256 * u) / 64) = u ^^^ (g % 8) := by
  have hline : 64 * ((2048 * g + 256 * u) / 64) = 2048 * g + 256 * u := by omega
  rw [lineChannel, hline]
  congr 1 <;> omega

theorem lineChannel_address (a : Nat) : lineChannel (a / 64) = (a / 2 ^ 8 % 8) ^^^ (a / 2 ^ 11 % 8) := by
  rw [lineChannel]
  congr 1 <;> omega

theorem lineChannel_lt (line : Nat) : lineChannel line < 8 :=
  Nat.xor_lt_two_pow (n := 3) (Nat.mod_lt _ (by decide)) (Nat.mod_lt _ (by decide))

/-- Of a group of eight units each channel has one: that whose number is the channel XOR the group's. -/
theorem units_of_channel (g : Nat) {ch : Nat} (hch : ch < 8) :
    (List.range 8).filter (fun u => lineChannel ((2048 * g + 256 * u) / 64) == ch) = [ch ^^^ (g % 8)] := by
  have hunit : ch ^^^ (g % 8) < 8 := Nat.xor_lt_two_pow (n := 3) hch (Nat.mod_lt _ (by decide))
  rw [← filter_range_eq hunit]
  refine List.filter_congr fun u hu => ?_
  rw [lineChannel_unit g u (List.mem_range.1 hu), Bool.eq_iff_iff, beq_iff_eq, decide_eq_true_eq]
  have hundo : ∀ v, v ^^^ (g % 8) ^^^ (g % 8) = v := fun v => by rw [Nat.xor_assoc, Nat.xor_self, Nat.xor_zero]
  exact ⟨fun h => by rw [← h, hundo], fun h => by rw [h, hundo]⟩

/-- Of n groups of eight units each channel has n. -/
theorem count_units_of_channel (g n : Nat) {ch : Nat} (hch : ch < 8) :
    ((List.range (8 * n)).filter fun u => lineChannel ((2048 * g + 256 * u) / 64) == ch).length = n := by
  induction n with
  | zero => rfl
  | succ n ih =>
    have hgroup : (fun u => lineChannel ((2048 * g + 256 * u) / 64) == ch) ∘ (8 * n + ·) =
        fun u => lineChannel ((2048 * (g + n) + 256 * u) / 64) == ch := by
      funext u
      rw [Function.comp_apply, show 2048 * g + 256 * (8 * n + u) = 2048 * (g + n) + 256 * u by omega]
    rw [Nat.mul_succ, List.range_add, List.filter_append, List.length_append, ih, List.filter_map, List.length_map, hgroup,
      units_of_channel _ hch, List.length_singleton]

theorem memoryRead_linkCorrected (line : Nat) (owner : Owner) (s : State) :
    memoryRead line owner .linkCorrected s =
      upset (0x0400 + lineChannel line) (s.onStore fun t => { t with rereads := t.rereads.filter (· != line) }) := rfl

/-- Settles O52: by the unit's place in its group of eight, and a page's groups one after the other. -/
theorem memoryChannels : Obligations.MemoryChannels := by
  refine ⟨fun a => ⟨lineChannel_address a, lineChannel_lt _⟩, fun k ch hch => ?group, fun page ch hch => ?page,
    fun dt line owner s₀ hline => ?upset⟩
  case group => rw [units_of_channel k hch, List.length_singleton]
  case page =>
    have hpage : 2097152 * page = 2048 * (1024 * page) := by omega
    rw [hpage]
    exact count_units_of_channel (1024 * page) 1024 hch
  case upset => rw [exec_memoryReadComplete, advance_store, decide_eq_true hline, onUnit_true, memoryRead_linkCorrected]

end Sys2Proof.Machine
end

section
/-!
PROOFS. The LAYER commands: what each answers and leaves where it runs, and the fences (spec/08_composition_and_colour.md, R191 to R216).
-/
namespace Sys2Proof.Machine

/-! At once, or held for the frame boundary (R191). -/

section
variable {s : State} {now later : Ans}

theorem atOnce_of_noRun (hidle : s.fire.run = none) : (if s.fire.run.isNone then now else later) = now := by
  rw [hidle]
  rfl

theorem held_of_run {r : Run} (hrun : s.fire.run = some r) : (if s.fire.run.isNone then now else later) = later := by
  rw [hrun]
  rfl

end

/-! LAYER_FLIP and LAYER_PALETTE (R199, R208, R209). -/

/-- The flip that LAYER_FLIP leaves pending. -/
def Flip.askedBy (q : Cmd) (s : State) : Flip :=
  { cmd := q.id, job := q.u32 4, obj := q.u32 8, target := flipTarget (s.layer (q.u8 0)) (q.u32 12) s
    wait := if bit (q.u8 1) 1 then some (q.u8 2, q.u32 16) else none
    origin := if bit (q.u8 1) 0 then some (q.s32 20, q.s32 24) else none }

/-- A flip whose image is not at fault, or not yet stored, joins those pending on its layer. -/
theorem layerFlipEffect_taken {q : Cmd} {s : State}
    (hfault : (if (s.job (q.u32 4)).any (·.usable) then flipFault (q.u8 0) (q.u32 4) (q.u32 8) s else none) = none) :
    layerFlipEffect q s =
      .wait (setAbortable q.id true (s.onLayer (q.u8 0) fun l => { l with flips := l.flips ++ [.askedBy q s] })) := by
  simp only [layerFlipEffect, hfault]
  rfl

theorem layerPaletteEffect_of_object {q : Cmd} {s : State} {p : Palette} (hobject : palObject q s = some p) :
    layerPaletteEffect q s = .done .good (s.onCps fun c => { c with palettes := upd (q.u8 0) (fun _ => p) c.palettes }) := by
  simp only [layerPaletteEffect, hobject, Option.getD_some]

/-! LAYER_FENCE (R207). -/

/-- Set one fence. -/
def State.setFence (n v : Nat) (s : State) : State := s.onCps fun c => { c with fences := upd n (fun _ => v) c.fences }

theorem upd_const {α : Type} (n : Nat) (v : α) (l : List α) : upd n (fun _ => v) l = l.set n v := by
  induction l generalizing n with
  | nil => rw [upd, List.modify_nil, List.set_nil]
  | cons x l ih =>
    cases n with
    | zero => rfl
    | succ n => exact congrArg (x :: ·) (ih n)

theorem setFence_eq_set (n v : Nat) (s : State) : s.setFence n v = s.onCps fun c => { c with fences := c.fences.set n v } := by
  simp only [State.setFence, upd_const]

/-- A fence set to what it holds leaves the state as it is. -/
theorem setFence_self {n : Nat} {s : State} (hn : n < s.cps.fences.length) : s.setFence n (s.cps.fences.getD n 0) = s := by
  have hset : s.cps.fences.set n (s.cps.fences.getD n 0) = s.cps.fences := by
    rw [List.getD_eq_getElem?_getD, List.getElem?_eq_getElem hn, Option.getD_some, List.set_getElem_self]
  rw [setFence_eq_set]
  simp only [State.onCps, hset]

section
variable {q : Cmd}

theorem layerFenceEffect_reset (hreset : bit (q.u8 1) 0 = true) (s : State) :
    layerFenceEffect q s = .done (.good (toLe 4 (q.u32 4))) (s.setFence (q.u8 0) (q.u32 4)) := by
  simp only [layerFenceEffect, hreset, if_true, State.setFence]

theorem layerFenceEffect_raise (hraise : bit (q.u8 1) 0 = false) (s : State) :
    layerFenceEffect q s = .done (.good (toLe 4 (max (s.cps.fences.getD (q.u8 0) 0) (q.u32 4))))
      (s.setFence (q.u8 0) (max (s.cps.fences.getD (q.u8 0) 0) (q.u32 4))) := by
  simp only [layerFenceEffect, hraise, Bool.false_eq_true, if_false, State.setFence]

end

/-- Settles O12: each command's effect where it runs; a configuration and an order split on a run, a fence on RESET. -/
theorem layerCommandsComplete : Obligations.LayerCommandsComplete := by
  refine ⟨?configNow, ?configHeld, ?flip, ?fenceReset, ?fenceRaise, ?palette, ?tone, ?orderNow, ?orderHeld, ?guard, ?status⟩
  case configNow =>
    intro q s₀ hruns s hidle
    exact runCmd_answers hruns (atOnce_of_noRun hidle)
  case configHeld =>
    intro q s₀ r hruns s hrun
    exact runCmd_answers (a := .wait _) hruns (held_of_run hrun)
  case flip =>
    intro q s₀ hruns s husable hfault
    exact runCmd_answers hruns (layerFlipEffect_taken (by rw [if_pos husable, hfault]))
  case fenceReset =>
    intro q s₀ hruns s hreset
    exact runCmd_answers hruns (layerFenceEffect_reset hreset s)
  case fenceRaise =>
    intro q s₀ hruns s hraise
    exact runCmd_answers hruns (layerFenceEffect_raise hraise s)
  case palette =>
    intro q s₀ p hruns s hobject
    exact runCmd_answers hruns (layerPaletteEffect_of_object hobject)
  case tone => exact fun q s₀ hruns => runCmd_runs hruns
  case orderNow =>
    intro q s₀ hruns s hidle
    exact runCmd_answers hruns (atOnce_of_noRun hidle)
  case orderHeld =>
    intro q s₀ r hruns s hrun
    exact runCmd_answers (a := .wait _) hruns (held_of_run hrun)
  case guard => exact fun q s₀ hruns => runCmd_runs hruns
  case status => exact fun q s₀ hruns => runCmd_runs hruns

/-! The checks of LAYER_FENCE, and the flip that waits on a fence (R207, R209). -/

theorem firstFail_eq_none {l : List (Bool × Reply)} : firstFail l = none ↔ ∀ x ∈ l, x.1 = false := by
  induction l with
  | nil => simp [firstFail]
  | cons x l ih =>
    obtain ⟨b, r⟩ := x
    cases b <;> simp [firstFail, ih]

theorem rd_lt (l : List Byte) (off size : Nat) : rd l off size < 256 ^ size :=
  Nat.lt_of_lt_of_le (leNat_lt _) (Nat.pow_le_pow_right (by decide) (List.length_take_le _ _))

section
variable {q : Cmd} {s : State}

/-- LAYER_FENCE passes its checks for one of the 64 fences, and with RESET for no run armed. -/
theorem fence_of_layerFenceCheck (hcheck : layerFenceCheck q s = none) :
    q.u8 0 < 64 ∧ (bit (q.u8 1) 0 = true → s.fire.run = none) := by
  rw [layerFenceCheck, firstFail_append, Option.or_eq_none_iff] at hcheck
  obtain ⟨-, hown⟩ := hcheck
  simp only [firstFail_eq_none, List.forall_mem_cons, decide_eq_false_iff_not, Bool.and_eq_false_iff, Option.isSome_eq_false_iff,
    Option.isNone_iff_eq_none] at hown
  obtain ⟨hfence, -, hrun, -⟩ := hown
  refine ⟨by omega, fun hreset => ?_⟩
  simpa [hreset] using hrun

/-- With a run armed RESET is refused. -/
theorem layerFenceCheck_reset_armed (hshape : firstFail (shape q 8 [(0, 2), (4, 4)]) = none) (hfence : q.u8 0 < 64)
    (hflags : extraBits (q.u8 1) 1 = false) (hreset : bit (q.u8 1) 0 = true) (hrun : s.fire.run.isSome = true) :
    layerFenceCheck q s = some (.err .state) := by
  have hfence : decide (63 < q.u8 0) = false := decide_eq_false (by omega)
  rw [layerFenceCheck, firstFail_append, hshape, Option.none_or, hfence, hflags, hreset, hrun]
  rfl

end

theorem layer_onLayer_self {i : Nat} {s : State} (hi : i < s.cps.layers.length) (f : Layer → Layer) :
    (s.onLayer i f).layer i = f (s.layer i) := by
  simp [State.layer, State.onLayer, upd, hi]

theorem layer_setAbortable (id : CmdId) (b : Bool) (s : State) (i : Nat) : (setAbortable id b s).layer i = s.layer i := rfl

/-- A due flip of a stored job waits while its fence is lower than the value it waits for. -/
theorem planFlip_waits_on_fence {frame i n v : Nat} {s : State} {f : Flip} {later : List Flip} {j : Job}
    (hflips : (s.layer i).flips = f :: later) (hdue : f.target ≤ frame) (hwait : f.wait = some (n, v)) (hjob : s.job f.job = some j)
    (husable : j.usable = true) (hlow : s.cps.fences.getD n 0 < v) : planFlip frame i s = .waits := by
  have hfence : (f.wait.all fun w => decide (w.2 ≤ s.cps.fences.getD w.1 0)) = false := by
    rw [hwait, Option.all_some]
    exact decide_eq_false (Nat.not_le.2 hlow)
  simp only [planFlip, hflips, if_neg (Nat.not_lt.2 hdue), hjob, hfence, husable]
  exact if_pos (.inr ⟨rfl, trivial⟩)

/-- Settles O53: LAYER_FENCE splits on RESET and on VALUE against the fence; a flip's wait is read off the flip that is left pending. -/
theorem fences : Obligations.Fences := by
  refine ⟨⟨rfl, fun hold cause s => rfl⟩, ?fence, ?refused, ?flip, ?waits⟩
  case fence =>
    intro q s₀ hruns s old
    obtain ⟨hfence, hidle⟩ := fence_of_layerFenceCheck (runs_iff.1 hruns).2
    refine ⟨hfence, rd_lt _ _ 4, fun hraise hle hlen => ?_, fun hraise hlt => ?_, fun hreset => ⟨hidle hreset, ?_⟩⟩
    · refine runCmd_answers hruns ?_
      rw [layerFenceEffect_raise hraise, Nat.max_eq_left hle, setFence_self (hlen ▸ hfence)]
    · refine runCmd_answers hruns ?_
      rw [layerFenceEffect_raise hraise, Nat.max_eq_right (Nat.le_of_lt hlt), setFence_eq_set]
    · refine runCmd_answers hruns ?_
      rw [layerFenceEffect_reset hreset, setFence_eq_set]
  case refused =>
    intro q s₀ hstarts s hflags hshape hfence hextra hreset hrun
    refine runCmd_rejects hstarts ?_
    rw [hflags, Option.none_or, layerFenceCheck_reset_armed hshape hfence hextra hreset hrun]
  case flip =>
    intro q s₀ hruns s hfault hlayer
    refine ⟨_, .askedBy q s, runCmd_answers hruns (layerFlipEffect_taken hfault), ?_, rfl⟩
    change ((setAbortable _ _ _).layer _).flips = _
    rw [layer_setAbortable, layer_onLayer_self hlayer]
  case waits => exact fun frame i s f later n v j => planFlip_waits_on_fence

end Sys2Proof.Machine
end

section
/-!
PROOFS. The COLOUR commands: what each answers and leaves where it runs (spec/08_composition_and_colour.md, R204, R205;
spec/13_colour_constancy_and_nozzle_health.md, R342 to R363).
-/
namespace Sys2Proof.Machine

section
variable {q : Cmd} {s : State}

/-! COLOUR_CURVES (R191, R205). -/

section
variable {k : Curves} (hobject : curvesObject q s = some k)
include hobject

theorem colourCurvesEffect_noRun (hidle : s.fire.run = none) :
    colourCurvesEffect q s = .done .good (s.onCps fun c => { c with curves := k }) := by
  rw [colourCurvesEffect, hobject]
  exact atOnce_of_noRun hidle

theorem colourCurvesEffect_run {r : Run} (hrun : s.fire.run = some r) :
    colourCurvesEffect q s = .wait (s.onCps fun c => { c with
      pendCurves := some (k, ((c.pendCurves.map (·.2)).getD []) ++ [q.id]) }) := by
  rw [colourCurvesEffect, hobject]
  exact held_of_run hrun

end

/-! COLOUR_LOOP_ENABLE (R350). -/

theorem colourLoopEnableEffect_stop (hop : q.u8 0 = 0) :
    colourLoopEnableEffect q s = .done (.good (toLe 1 0)) (setLoop .stopped s) := by
  simp only [colourLoopEnableEffect, hop]
  rfl

theorem colourLoopEnableEffect_run (hop : q.u8 0 = 1) :
    colourLoopEnableEffect q s = .done (.good (toLe 1 1)) (setLoop .running s) := by
  simp only [colourLoopEnableEffect, hop]
  rfl

/-- A loop that runs, or is frozen, is frozen. -/
theorem colourLoopEnableEffect_freeze (hop : 2 ≤ q.u8 0) (hactive : s.clr.st ≠ .stopped) :
    colourLoopEnableEffect q s = .done (.good (toLe 1 2)) (setLoop .frozen s) := by
  obtain ⟨n, hn⟩ := Nat.exists_eq_add_of_le' hop
  simp only [colourLoopEnableEffect, hn, if_neg hactive]
  rfl

/-! COLOUR_PROFILE_SAVE (R363). -/

/-- A save is held behind one that is held, and within 60 s of the previous one. -/
theorem colourProfileSaveEffect_eq (q : Cmd) (s : State) :
    colourProfileSaveEffect q s = .wait (if (!s.clr.saveHeld.isEmpty || s.clr.savedAt.any fun t => within s t 60 1) = true then
      s.onClr fun k => { k with saveHeld := k.saveHeld ++ [q.id] } else beginSave q.id s) := by
  unfold colourProfileSaveEffect
  cases s.clr.savedAt <;> rfl

theorem colourProfileSaveEffect_begins (hnone : s.clr.saveHeld = []) (hlate : (s.clr.savedAt.any fun t => within s t 60 1) = false) :
    colourProfileSaveEffect q s = .wait (beginSave q.id s) := by
  simp [colourProfileSaveEffect_eq, hnone, hlate]

theorem colourProfileSaveEffect_held {t : Int} (hsaved : s.clr.savedAt = some t) (hearly : within s t 60 1 = true) :
    colourProfileSaveEffect q s = .wait (s.onClr fun k => { k with saveHeld := k.saveHeld ++ [q.id] }) := by
  simp [colourProfileSaveEffect_eq, hsaved, hearly]

/-! COLOUR_STRIP (R351, R354) and COLOUR_LEDGER_READ (R363). -/

theorem colourStripEffect_configure (hop : q.u8 0 = 0) : colourStripEffect q s = setStrip (some (stripOf q)) q.id s := by
  simp only [colourStripEffect, hop]

theorem colourStripEffect_off (hop : q.u8 0 = 1) : colourStripEffect q s = setStrip none q.id s := by
  simp only [colourStripEffect, hop]

theorem colourStripEffect_read (hop : q.u8 0 = 2) {list : List Strike} (hlist : (s.clr.strikes.filter (·.suspect)).take (q.u32 24) = list) :
    colourStripEffect q s = .done (.withExt (toLe 4 list.length) (q.u64 16)
      (list.flatMap fun x => toLe 1 x.bar ++ toLe 1 x.strikes ++ toLe 2 0 ++ toLe 4 x.column)) s := by
  simp only [colourStripEffect, hop, hlist]

theorem colourStripEffect_clear (hop : 3 ≤ q.u8 0) : colourStripEffect q s = .done .good (s.onClr fun k => { k with
    strikes := (k.strikes.map fun x => { x with suspect := false }).filter fun x => x.strikes != 0 }) := by
  obtain ⟨n, hn⟩ := Nat.exists_eq_add_of_le' hop
  simp only [colourStripEffect, hn]

theorem colourLedgerReadEffect_toAddr (haddr : q.u64 16 ≠ 0) :
    colourLedgerReadEffect q s = .done (.withExt (toLe 2 (q.u16 8)) (q.u64 16) ((List.range (q.u16 8)).flatMap fun i =>
      (((s.clr.entryOf (q.u64 0 + i)).filter fun e => e.band == q.u64 0 + i).getD { band := q.u64 0 + i }).bytes)) s := by
  simp only [colourLedgerReadEffect, if_neg haddr]

theorem colourLedgerReadEffect_noAddr (haddr : q.u64 16 = 0) :
    colourLedgerReadEffect q s = .done (.withExt (toLe 2 (q.u16 8)) (q.u64 16) []) s := by
  simp only [colourLedgerReadEffect, if_pos haddr]

end

/-- Settles O13: each command's effect where it runs; a limit and curves split on a run, the loop and the strip on OP, a save on the
time since the previous one, a read of the ledger on ADDR. -/
theorem colourCommandsComplete : Obligations.ColourCommandsComplete := by
  refine ⟨?limitNow, ?limitHeld, ?curvesNow, ?curvesHeld, ?loopConfig, ?loopStop, ?loopRun, ?loopFreeze, ?trimRead, ?trimWrite,
    ?saveBegins, ?saveHeld, ?strip, ?stripOff, ?suspects, ?suspectsClear, ?ledger, ?ledgerNoAddr⟩
  case limitNow =>
    intro q s₀ hruns s hidle
    exact runCmd_answers hruns (atOnce_of_noRun hidle)
  case limitHeld =>
    intro q s₀ r hruns s hrun
    exact runCmd_answers (a := .wait _) hruns (held_of_run hrun)
  case curvesNow =>
    intro q s₀ k hruns s hidle hobject
    exact runCmd_answers hruns (colourCurvesEffect_noRun hobject hidle)
  case curvesHeld =>
    intro q s₀ r k hruns s hrun hobject
    exact runCmd_answers hruns (colourCurvesEffect_run hobject hrun)
  case loopConfig => exact fun q s₀ hruns => runCmd_runs hruns
  case loopStop => exact fun q s₀ hruns hop => runCmd_answers hruns (colourLoopEnableEffect_stop hop)
  case loopRun => exact fun q s₀ hruns hop => runCmd_answers hruns (colourLoopEnableEffect_run hop)
  case loopFreeze => exact fun q s₀ hruns hop hactive => runCmd_answers hruns (colourLoopEnableEffect_freeze hop hactive)
  case trimRead => exact fun q s₀ hruns => runCmd_runs hruns
  case trimWrite => exact fun q s₀ hruns => runCmd_runs hruns
  case saveBegins => exact fun q s₀ hruns hnone hlate => runCmd_answers hruns (colourProfileSaveEffect_begins hnone hlate)
  case saveHeld => exact fun q s₀ t hruns hsaved hearly => runCmd_answers hruns (colourProfileSaveEffect_held hsaved hearly)
  case strip => exact fun q s₀ hruns hop => runCmd_answers hruns (colourStripEffect_configure hop)
  case stripOff => exact fun q s₀ hruns hop => runCmd_answers hruns (colourStripEffect_off hop)
  case suspects => exact fun q s₀ hruns hop => runCmd_answers hruns (colourStripEffect_read hop rfl)
  case suspectsClear => exact fun q s₀ hruns hop => runCmd_answers hruns (colourStripEffect_clear hop)
  case ledger => exact fun q s₀ hruns haddr => runCmd_answers hruns (colourLedgerReadEffect_toAddr haddr)
  case ledgerNoAddr => exact fun q s₀ hruns haddr => runCmd_answers hruns (colourLedgerReadEffect_noAddr haddr)

end Sys2Proof.Machine
end

section
/-!
PROOFS. The BAR commands: what each answers and leaves where it runs (spec/09_bar_rendering.md, R223 to R251).
-/
namespace Sys2Proof.Machine

section
variable {q : Cmd} {s : State}

/-! BAR_HEAD_MAP (R224). -/

/-- A head removed takes its segments, its context and its nozzle states with it. -/
theorem barHeadMapEffect_remove {c : Nat} (hremove : q.u8 2 = 1) (hctx : ((s.bar (q.u8 0)).place (q.u8 1)).ctx = some c) :
    barHeadMapEffect q s = .done (.good (toLe 1 c)) ((s.onCtx c fun x => { retired := x.retired }).onBar (q.u8 0) fun b =>
      { (b.dropSegs (q.u8 1)) with heads := upd (q.u8 1) (fun _ => {}) b.heads, act := b.act.dropNozzles fun n => n.head == q.u8 1 }) := by
  simp only [barHeadMapEffect, if_pos hremove, hctx, Option.getD_some]

/-- What placing a head at a place that has none leaves: the context, and the bar's place, segments and nozzle states. -/
def State.headPlaced (q : Cmd) (c : Nat) (s : State) : State :=
  (s.onCtx c fun x =>
    { retired := x.retired, owner := some (q.u8 0, q.u8 1), mir := s.headRecord (q.u8 0) (q.u8 8)
      complete := !(s.headRecord (q.u8 0) (q.u8 8)).isEmpty }).onBar (q.u8 0) fun b =>
    { b with
      heads := upd (q.u8 1) (fun _ => { ctx := some c, rows := givenRows q, stitch := q.s32 4, slot := q.u8 8 }) b.heads
      committed := b.committed && !(b.segs.any fun g => g.valid && g.head == q.u8 1)
      act := b.act.dropNozzles fun n => n.head == q.u8 1
        && ((givenRows q).getD n.row {}).nozzles != (((s.bar (q.u8 0)).place (q.u8 1)).rows.getD n.row {}).nozzles }

/-- The row offsets that a bar has at the head place that BAR_HEAD_MAP names. -/
def givenOffsets (q : Cmd) (s : State) : List Int := (List.range (givenRows q).length).map fun r => (s.bar (q.u8 0)).rowD (q.u8 1) r

/-- A head that is new to its place takes the free context, as after reset but for its retirement. -/
theorem barHeadMapEffect_place {c : Nat} (hplace : q.u8 2 ≠ 1) (hnew : ((s.bar (q.u8 0)).place (q.u8 1)).ctx = none)
    (hfree : s.freeCtx = some c) :
    barHeadMapEffect q s = .done (.good (toLe 1 c ++ toLe 3 0 ++ toLeS 4 ((givenOffsets q (s.headPlaced q c)).min?.getD 0)
      ++ toLeS 4 ((givenOffsets q (s.headPlaced q c)).max?.getD 0))) (s.headPlaced q c) := by
  simp only [barHeadMapEffect, if_neg hplace, hnew, hfree, Option.orElse_none, Option.getD_some, Option.isSome_none, Bool.false_and,
    Bool.false_eq_true, if_false]
  rfl

/-! BAR_NOZZLE_MAP (R232). -/

theorem barNozzleMapEffect_of_entries {l : List Nat} (hentries : mapEntries q s = some l) :
    barNozzleMapEffect q s = barWriteCmd (q.u8 0) (fun i =>
      { i.putNozzles (q.u8 1) (q.u8 2) (q.u16 4) l with gen := (s.bar (q.u8 0)).nextGen }) .good q s := by
  simp only [barNozzleMapEffect, hentries, Option.getD_some]

/-! BAR_ENABLE (R242) and BAR_DISABLE (R243). -/

theorem barEnableEffect_disabled (hoff : (s.bar (q.u8 0)).enabled = false) :
    barEnableEffect q s = .done (.good (toLe 8 (enableBar (q.u8 0) s).2)) (enableBar (q.u8 0) s).1 := by
  simp only [barEnableEffect, hoff, Bool.false_eq_true, if_false]

/-- A bar that is enabled stays as it is. -/
theorem barEnableEffect_enabled (hon : (s.bar (q.u8 0)).enabled = true) :
    barEnableEffect q s = .done (.good (toLe 8 (s.bar (q.u8 0)).firstLine)) s := by
  simp only [barEnableEffect, if_pos hon]

/-- A bar that is not enabled stays as it is. -/
theorem barDisableEffect_disabled (hoff : (s.bar (q.u8 0)).enabled = false) :
    barDisableEffect q s = .done (.good (toLe 8 (s.bar (q.u8 0)).lastPushed ++ toLe 4 0)) s := by
  simp only [barDisableEffect, hoff, Bool.not_false, if_true]

section
variable (hon : (s.bar (q.u8 0)).enabled = true)
include hon

/-- A bar that is not in print has no line boundary to wait for. -/
theorem barDisableEffect_notInPrint (hout : s.inPrint (q.u8 0) = false) :
    barDisableEffect q s = .wait (disableBar (q.u8 0) [q.id] (bit (q.u8 1) 0) s) := by
  simp only [barDisableEffect, hon, hout, Bool.not_true, Bool.false_eq_true, if_false]

/-- A bar in print is disabled at its next line boundary. -/
theorem barDisableEffect_inPrint (hin : s.inPrint (q.u8 0) = true) (hfirst : (s.bar (q.u8 0)).disabling = none) :
    barDisableEffect q s = .wait (s.onBar (q.u8 0) fun x => { x with disabling := some ([q.id], bit (q.u8 1) 0) }) := by
  simp only [barDisableEffect, hon, hin, hfirst, Bool.not_true, Bool.false_eq_true, if_false, if_true, Option.getD_none, List.nil_append,
    Bool.false_or]

end

end

/-- Settles O14: each command's effect where it runs; a head map splits on its removal, enabling on whether the bar is enabled, disabling
on that and on whether it is in print. That a configuration with a new span or interleave leaves the segments uncommitted is log 61. -/
theorem barCommandsComplete : Obligations.BarCommandsComplete := by
  refine ⟨?config, ?headRemove, ?headPlace, ?segments, ?screen, ?nozzleMap, ?derive, ?enable, ?enableAgain, ?disableAgain, ?disableNow,
    ?disableHeld, ?status⟩
  case config => exact fun q s₀ hruns => runCmd_runs hruns
  case headRemove => exact fun q s₀ c hruns hremove hctx => runCmd_answers hruns (barHeadMapEffect_remove hremove hctx)
  case headPlace =>
    intro q s₀ c hruns s t hplace hnew hfree
    exact runCmd_answers hruns (barHeadMapEffect_place hplace hnew hfree)
  case segments => exact fun q s₀ hruns => runCmd_runs hruns
  case screen => exact fun q s₀ hruns => runCmd_runs hruns
  case nozzleMap => exact fun q s₀ l hruns hentries => runCmd_answers hruns (barNozzleMapEffect_of_entries hentries)
  case derive => exact fun q s₀ hruns => runCmd_runs hruns
  case enable => exact fun q s₀ hruns hoff => runCmd_answers hruns (barEnableEffect_disabled hoff)
  case enableAgain => exact fun q s₀ hruns hon => runCmd_answers hruns (barEnableEffect_enabled hon)
  case disableAgain => exact fun q s₀ hruns hoff => runCmd_answers hruns (barDisableEffect_disabled hoff)
  case disableNow => exact fun q s₀ hruns hon hout => runCmd_answers hruns (barDisableEffect_notInPrint hon hout)
  case disableHeld => exact fun q s₀ hruns hon hin hfirst => runCmd_answers hruns (barDisableEffect_inPrint hon hin hfirst)
  case status => exact fun q s₀ hruns => runCmd_runs hruns

end Sys2Proof.Machine
end

section
/-!
PROOFS. The HEAD commands: what each answers and leaves where it runs (spec/09_bar_rendering.md, R245;
spec/13_colour_constancy_and_nozzle_health.md, R358; spec/17_bring_up_and_discovery.md, R440 to R443).
-/
namespace Sys2Proof.Machine

section
variable {q : Cmd} {s : State}

/-! HEAD_MIR_READ (R443). -/

theorem headMirReadEffect_of_held {m : Mir} (hheld : heldMir (q.u8 0) (q.u8 1) s = some m) :
    headMirReadEffect q s =
      .done (.withExt [] (q.u64 16) (if q.src.isNone && q.u64 16 == 0 then [] else slice m.bytes (q.u32 4) (q.u32 8))) s := by
  simp only [headMirReadEffect, hheld, Option.map_some, Option.getD_some]

/-! HEAD_GATE_TEST (R358). -/

/-- The test that HEAD_GATE_TEST asks for. -/
def GateTest.askedBy (q : Cmd) (s : State) : GateTest :=
  { cmd := q.id, bar := q.u8 0, apply := bit (q.u8 1) 0, takeOut := bit (q.u8 1) 1, repeats := orDefault (q.u8 2) 3, drop := orDefault (q.u8 3) 2
    shotNs := q.u32 8, flightNs := orDefault (q.u32 12) (s.gateFlight (q.u8 0)), windowNs := orDefault (q.u16 16) 5000
    weakNs := orDefault (q.u16 18) 1000, failLimit := orDefault (q.u16 20) 50, heads := q.u32 4, addr := q.u64 24, room := q.u32 32
    runId := 2 ^ 31 + (s.clr.testRuns + 1) % 2 ^ 31, again := (s.bar (q.u8 0)).enabled, began := s.tb1 }

/-- A test joins those in hand. -/
def State.withTest (t : GateTest) (s : State) : State :=
  s.onClr fun k => { k with tests := k.tests ++ [t], testRuns := (k.testRuns + 1) % 2 ^ 31 }

theorem bar_withTest (t : GateTest) (s : State) (b : Nat) : (s.withTest t).bar b = s.bar b := rfl

theorem bar_hold (q : Cmd) (rs : List Resource) (abortable : Bool) (s : State) (b : Nat) : (hold q rs abortable s).bar b = s.bar b := rfl

/-- A bar that is not enabled has no print to leave: its test begins at once. -/
theorem headGateTestEffect_disabled (hoff : (s.bar (q.u8 0)).enabled = false) {w : State}
    (hw : hold q [.bar (q.u8 0), .course (q.u8 0), .gate (q.u8 0)] true s = w) :
    headGateTestEffect q s = .wait (beginTest (.askedBy q w) (w.withTest (.askedBy q w))) := by
  have hout : ((w.withTest (.askedBy q w)).bar (q.u8 0)).enabled = false := by rw [bar_withTest, ← hw, bar_hold, hoff]
  unfold State.withTest GateTest.askedBy at hout ⊢
  simp only [headGateTestEffect, hw, hout, Bool.not_false, if_true]

/-! HEAD_ENABLE (R441) and HEAD_DISABLE (09 R245). -/

section
variable {b h : Nat} (howner : (s.ctx (q.u8 0)).owner = some (b, h))
include howner

theorem headEnableEffect_notInPrint (hout : s.inPrint b = false) :
    headEnableEffect q s =
      .done .good (checkLimit (s.onCtx (q.u8 0) fun x => { x with enabled := true, halted := none, haltAt := none })) := by
  simp only [headEnableEffect, howner, hout, Bool.false_eq_true, if_false]

/-- A head whose bar is in print waits for its line boundary, in the place of a disabling of it that waits there. -/
theorem headEnableEffect_inPrint (hin : s.inPrint b = true) :
    headEnableEffect q s = .wait (keepFor q.id .good (s.onBar b fun x => { x with
      headOn := x.headOn ++ ((x.headOff.filter fun o => o.1 == h).filterMap fun o => o.2.map fun i => (h, i)) ++ [(h, q.id)]
      headOff := x.headOff.filter fun o => o.1 != h })) := by
  simp only [headEnableEffect, howner, if_pos hin]

theorem headDisableEffect_notInPrint (hout : s.inPrint b = false) :
    headDisableEffect q s =
      .done (if s.isDoomed (unitHead (q.u8 0)) then .errUnit .retired 0 (unitHead (q.u8 0)) else .good) (checkLimit (headOff (q.u8 0) [] s)) := by
  simp only [headDisableEffect, howner, Option.any_some, hout, Bool.false_eq_true, if_false]

theorem headDisableEffect_inPrint (hin : s.inPrint b = true) :
    headDisableEffect q s = .wait (headOff (q.u8 0) [some q.id] (keepFor q.id .good s)) := by
  simp only [headDisableEffect, howner, Option.any_some, if_pos hin]

end

end

/-- Settles O20: each command's effect where it runs; enabling and disabling a head split on whether its bar is in print. That a
discovery leaves out the courses that are down is log 77. -/
theorem headCommandsComplete : Obligations.HeadCommandsComplete := by
  refine ⟨?discover, ?mirRead, ?gateTest, ?enableNow, ?enableHeld, ?disableNow, ?disableHeld, ?status, ?mgmt⟩
  case discover => exact fun q s₀ hruns => runCmd_runs hruns
  case mirRead => exact fun q s₀ m hruns hheld => runCmd_answers hruns (headMirReadEffect_of_held hheld)
  case gateTest =>
    intro q s₀ hruns s w t hoff _ _
    exact runCmd_answers hruns (headGateTestEffect_disabled hoff rfl)
  case enableNow => exact fun q s₀ b h hruns howner hout => runCmd_answers hruns (headEnableEffect_notInPrint howner hout)
  case enableHeld => exact fun q s₀ b h hruns howner hin => runCmd_answers hruns (headEnableEffect_inPrint howner hin)
  case disableNow => exact fun q s₀ b h hruns howner hout => runCmd_answers hruns (headDisableEffect_notInPrint howner hout)
  case disableHeld => exact fun q s₀ b h hruns howner hin => runCmd_answers hruns (headDisableEffect_inPrint howner hin)
  case status => exact fun q s₀ hruns => runCmd_runs hruns
  case mgmt => exact fun q s₀ hruns => runCmd_runs hruns

end Sys2Proof.Machine
end

section
/-!
PROOFS. The PRINT commands: what each answers and leaves where it runs (spec/10_firing.md, R255 to R280).
-/
namespace Sys2Proof.Machine

section
variable {q : Cmd} {s : State}

/-! PRINT_STOP (R258): first the stop that is ordered then, and what the command answers by that stop's mode. -/

section
variable {r : Run}

/-- NOW and HALT fix no last line. -/
theorem stopLine_none (hmode : 2 ≤ q.u8 0) : stopLine q r s = none := by
  unfold stopLine
  split
  · omega
  · omega
  · rfl

theorem stopOn_first (hfirst : r.stop = none) : stopOn q r s = { mode := q.u8 0, last := stopLine q r s, cmds := [q.id] } := by
  simp only [stopOn, hfirst]

theorem stopOn_stricter {st : Stop} (hstop : r.stop = some st) (hmode : st.mode < q.u8 0) :
    stopOn q r s = { mode := q.u8 0, last := stricter (stopLine q r s) st.last, cmds := st.cmds ++ [q.id] } := by
  simp only [stopOn, hstop, if_pos hmode]

/-- A mode that is not further down Table 10-1 leaves the stop ordered; the command joins those that complete with it. -/
theorem stopOn_notStricter {st : Stop} (hstop : r.stop = some st) (hmode : q.u8 0 ≤ st.mode) :
    stopOn q r s = { st with cmds := st.cmds ++ [q.id] } := by
  simp only [stopOn, hstop, if_neg (Nat.not_lt.2 hmode)]

variable {st : Stop} (hrun : s.fire.run = some r) (hstop : stopOn q r s = st)
include hrun hstop

/-- A stop short of HALT completes at the end of the run. -/
theorem printStopEffect_waits (hmode : st.mode < 3) :
    printStopEffect q s = .wait (s.onRun fun r => { r with stop := some st }) := by
  simp only [printStopEffect, hrun, hstop, if_neg hmode.ne]

/-- HALT ends the run at once. -/
theorem printStopEffect_halts (hmode : st.mode = 3) :
    printStopEffect q s = .wait (haltRun st.reason (s.onRun fun r => { r with stop := some st })) := by
  simp only [printStopEffect, hrun, hstop, if_pos hmode]

end

/-! PRINT_CAPO (R256). -/

theorem printCapoEffect_set (hset : bit (q.u8 4) 0 = false) :
    printCapoEffect q s = .done .good (s.onFire fun f =>
      { f with capos := (s.fire.capos.filter fun c => c.1 != q.u32 0) ++ [(q.u32 0, q.s64 8)] }) := by
  simp only [printCapoEffect, hset, Bool.false_eq_true, if_false]

theorem printCapoEffect_remove (hremove : bit (q.u8 4) 0 = true) :
    printCapoEffect q s = .done .good (s.onFire fun f => { f with capos := s.fire.capos.filter fun c => c.1 != q.u32 0 }) := by
  simp only [printCapoEffect, if_pos hremove]

/-! PRINT_LEAD (R268) and PRINT_OFFSETS (R263). -/

/-- With no run, or at the lead it has already, the lead is set at once; the commands whose slew it replaces complete. -/
theorem printLeadEffect_now (hnow : s.fire.run = none ∨ s.fire.lead = q.u8 0) :
    printLeadEffect q s = .done .good (finishAll ((s.fire.leadTo.map (·.2)).getD []) .good
      (s.onFire fun f => { f with lead := q.u8 0, leadTo := none })) :=
  if_pos (by simpa only [Bool.or_eq_true, Option.isNone_iff_eq_none, beq_iff_eq] using hnow)

/-- In a run the lead slews to a new value. -/
theorem printLeadEffect_slews {r : Run} (hrun : s.fire.run = some r) (hlead : s.fire.lead ≠ q.u8 0) :
    printLeadEffect q s = .wait (s.onFire fun f =>
      { f with leadTo := some (q.u8 0, ((s.fire.leadTo.map (·.2)).getD []) ++ [q.id]) }) :=
  if_neg (by simpa only [hrun, Option.isNone_some, Bool.false_or, beq_iff_eq] using hlead)

/-- With no run the offsets are set at once; the commands whose slew they replace complete. -/
theorem printOffsetsEffect_noRun (hidle : s.fire.run = none) :
    printOffsetsEffect q s = .done .good (finishAll (((s.bar (q.u8 0)).alignTo.map (·.2.2)).getD []) .good
      (s.onBar (q.u8 0) fun x => { x with alignF := q.s32 4, alignR := q.s32 8, alignTo := none })) :=
  if_pos (by rw [hidle]; rfl)

/-- In a run the bar slews to new offsets. -/
theorem printOffsetsEffect_slews {r : Run} (hrun : s.fire.run = some r)
    (hnew : (s.bar (q.u8 0)).alignF ≠ q.s32 4 ∨ (s.bar (q.u8 0)).alignR ≠ q.s32 8) :
    printOffsetsEffect q s = .wait (s.onBar (q.u8 0) fun x =>
      { x with alignTo := some (q.s32 4, q.s32 8, (((s.bar (q.u8 0)).alignTo.map (·.2.2)).getD []) ++ [q.id]) }) :=
  if_neg (by simpa only [hrun, Option.isNone_some, Bool.false_or, Bool.and_eq_true, beq_iff_eq, not_and_or] using hnew)

end

/-- Settles O15: each command's effect where it runs; a stop splits on the stop ordered before it and on HALT, a capo on its removal,
the lead and the offsets on whether a run is armed. -/
theorem printCommandsComplete : Obligations.PrintCommandsComplete := by
  refine ⟨?start, ?stopFirst, ?haltFirst, ?stopStricter, ?stopAgain, ?capoSet, ?capoRemove, ?leadNow, ?leadSlews, ?offsetsNow,
    ?offsetsSlew, ?status⟩
  case start => exact fun q s₀ hruns => runCmd_runs hruns
  case stopFirst =>
    intro q s₀ r hruns s hrun hfirst hmode
    exact runCmd_answers hruns (printStopEffect_waits hrun (stopOn_first hfirst) hmode)
  case haltFirst =>
    intro q s₀ r hruns s hrun hfirst hmode
    have hstop : stopOn q r s = { mode := 3, last := none, cmds := [q.id] } := by
      rw [stopOn_first hfirst, stopLine_none (by omega), hmode]
    have hhalts := printStopEffect_halts hrun hstop rfl
    exact runCmd_answers (a := .wait _) hruns hhalts
  case stopStricter =>
    intro q s₀ r st hruns s hrun hstop hstricter hmode
    exact runCmd_answers hruns (printStopEffect_waits hrun (stopOn_stricter hstop hstricter) hmode)
  case stopAgain =>
    intro q s₀ r st hruns s hrun hstop hnot hmode
    exact runCmd_answers hruns (printStopEffect_waits hrun (stopOn_notStricter hstop hnot) hmode)
  case capoSet => exact fun q s₀ hruns hset => runCmd_answers hruns (printCapoEffect_set hset)
  case capoRemove => exact fun q s₀ hruns hremove => runCmd_answers hruns (printCapoEffect_remove hremove)
  case leadNow => exact fun q s₀ hruns hnow => runCmd_answers hruns (printLeadEffect_now hnow)
  case leadSlews => exact fun q s₀ r hruns hrun hlead => runCmd_answers hruns (printLeadEffect_slews hrun hlead)
  case offsetsNow => exact fun q s₀ hruns hidle => runCmd_answers hruns (printOffsetsEffect_noRun hidle)
  case offsetsSlew => exact fun q s₀ r hruns hrun hnew => runCmd_answers hruns (printOffsetsEffect_slews hrun hnew)
  case status => exact fun q s₀ hruns => runCmd_runs hruns

end Sys2Proof.Machine
end

section
/-!
PROOFS. A step takes one row from the queue and adds none; the colour loop as every reset leaves it (spec/02_architecture.md;
spec/13_colour_constancy_and_nozzle_health.md, R365).
-/
namespace Sys2Proof.Machine

/-! The queue. -/

/-- Settles O1: the queue is not empty, so its front is the row that runs. -/
theorem stepRunsFront : Obligations.StepRunsFront := fun _ _ => rfl

/-- No row adds one: a write through the window reaches SCRATCH alone, and every other row keeps the queue. -/
theorem exec_pending {c : Instr} {s t : State} (hexec : exec c s = .next t) : t.pending = s.pending := by
  by_cases hwrite : ∃ dt offset bytes, c = .bar2WindowWrite dt offset bytes
  · obtain ⟨dt, offset, bytes, rfl⟩ := hwrite
    obtain ⟨hpending, -⟩ := grows_execBar2WindowWrite dt offset bytes s t hexec
    exact hpending
  · exact (exec_grows (fun dt offset bytes h => hwrite ⟨dt, offset, bytes, h⟩) s t hexec).pending

/-- Settles O3: what the device does of its own accord leaves the empty queue empty, and the row at the front leaves the queue's rest. -/
theorem queueConsumed : Obligations.QueueConsumed := by
  intro s t hstep
  obtain ⟨hempty, rfl⟩ | ⟨c, rest, hqueue, hexec⟩ := step_next_cases hstep
  · rw [(Grows.idle s).pending, hempty]
    rfl
  · rw [exec_pending hexec, hqueue]
    rfl

/-! The colour loop after a reset (R253, R365). -/

/-- Every bar is unconfigured: its image is that of a reset, and no copy of it is pending. -/
theorem bar_of_unconfigured {t : State} (ht : t.bars = {}) (b : Nat) : (t.bar b).act = {} ∧ (t.bar b).pend = none := by
  have hbar : t.bar b = ((List.range 10).map fun b => ({ engine := b } : Bar)).getD b {} := by rw [State.bar, ht]
  rw [hbar, List.getD_eq_getElem?_getD, List.getElem?_map]
  cases (List.range 10)[b]? <;> exact ⟨rfl, rfl⟩

theorem trim_of_reset {k : Nat} (hk : k < 17) (z : Nat) : (({} : BarImage).trim z).getD k 0 = 1024 * k := by
  change ((List.range 17).map (1024 * ·)).getD k 0 = _
  simp [hk]

theorem nozzle_of_reset (h row n : Nat) : ({} : BarImage).nozzle h row n = 0x0300 := rfl

/-- A reset of the device, and the state after reset, have the store, the colour loop and the bars at their reset values. -/
theorem reset_values {hold : List Hold} {cause : Nat} {s t : State} (ht : t = deviceReset hold cause s ∨ t = State.reset) :
    t.store = {} ∧ t.clr = {} ∧ t.bars = {} := by
  rcases ht with rfl | rfl <;> exact ⟨rfl, rfl, rfl⟩

/-- Settles O54: read off the reset values of the store, the colour loop and the bars. -/
theorem colourAfterReset : Obligations.ColourAfterReset := by
  intro hold cause s t ht
  obtain ⟨hstore, hclr, hbars⟩ := reset_values ht
  rw [hstore, hclr]
  refine ⟨rfl, rfl, rfl, rfl, rfl, rfl, rfl, rfl, fun b => ?_⟩
  obtain ⟨hact, hpend⟩ := bar_of_unconfigured hbars b
  rw [hact, hpend]
  exact ⟨rfl, rfl, fun z k hk => trim_of_reset hk z, nozzle_of_reset⟩

end Sys2Proof.Machine
end

section
/-!
PROOFS. The rows of the link protocol: packets and their CRC, LINK blocks, markers, the timers of the retry buffer and what a course
puts out of its queues (spec/11_course_links_and_queues.md, R288, R289, R292 to R299, R301, R311).
-/
namespace Sys2Proof.Machine

/-! A packet's CRC (R292, R294). A CRC-32C and its inversion differ, since 0xFFFFFFFF is odd. -/

theorem judgeCrc_good {start bytes : List Byte} {crc : Nat} (hcrc : crc = crc32c (start ++ bytes)) :
    judgeCrc start bytes crc = .good :=
  if_pos hcrc

theorem judgeCrc_stomped {start bytes : List Byte} {crc : Nat} (hcrc : crc = 0xFFFFFFFF - crc32c (start ++ bytes)) :
    judgeCrc start bytes crc = .stomped := by
  have hlt := crc32c_lt (start ++ bytes)
  have hne : crc ≠ crc32c (start ++ bytes) := by omega
  simp only [judgeCrc, if_neg hne, if_pos hcrc]

theorem judgeCrc_bad {start bytes : List Byte} {crc : Nat} (hgood : crc ≠ crc32c (start ++ bytes))
    (hstomped : crc ≠ 0xFFFFFFFF - crc32c (start ++ bytes)) : judgeCrc start bytes crc = .bad := by
  simp only [judgeCrc, if_neg hgood, if_neg hstomped]

/-! What the receiver makes of a packet that has been judged (R295, R296, R301). -/

/-- The receiver of a course's version takes the packet, or counts it as failed. -/
def receiveJudged (l : Nat) (k : Cls) (seq n : Nat) (ok : Bool) (s : State) : State :=
  if (s.course l).run.version = 1 then receiveV1 l k seq n ok s else receiveV2 l k seq n ok s

section
variable {l : Nat} {k : Cls} {seq n : Nat} {s : State}

theorem receiveJudged_v1 (hversion : (s.course l).run.version = 1) :
    receiveJudged l k seq n true s = s.onCourse l fun c =>
      { (c.onCls k (·.accept seq n)) with rxGaps := c.rxGaps + b2n (seq != (c.at k).rxSeq) } := by
  simp only [receiveJudged, if_pos hversion, receiveV1, if_true]

theorem receiveJudged_inSequence (hversion : (s.course l).run.version = 2) (hseq : seq = ((s.course l).at k).rxSeq)
    (hinjects : (s.course l).injects = []) :
    receiveJudged l k seq n true s = sendLink l (k.num + 1) seq (s.onCourse l fun c =>
      { (c.onCls k fun x => { x.accept seq n with ackHeld := false }) with injects := [] }) := by
  have hnew : ¬ (s.course l).run.version = 1 := by omega
  have hexpected : (true && seq == ((s.course l).at k).rxSeq) = true := beq_iff_eq.2 hseq
  simp only [receiveJudged, if_neg hnew, receiveV2, if_pos hexpected, hinjects]
  rfl

/-- A packet that fails, or is out of sequence, is told to the sender once (R296). -/
theorem receiveJudged_refused {ok : Bool} (hversion : (s.course l).run.version = 2)
    (hrefused : ok = false ∨ seq ≠ ((s.course l).at k).rxSeq) (hfirst : ((s.course l).at k).nakSince = none) :
    receiveJudged l k seq n ok s = sendLink l (0x11 + k.num) ((s.course l).at k).rxSeq
      (s.onCourse l fun c => c.onCls k fun x => { x with nakSince := some s.tb1 }) := by
  have hnew : ¬ (s.course l).run.version = 1 := by omega
  have hnot : ¬ (ok && seq == ((s.course l).at k).rxSeq) = true := by
    rw [Bool.and_eq_true, beq_iff_eq]
    rintro ⟨hok, hseq⟩
    rcases hrefused with h | h
    · exact absurd hok (by simp [h])
    · exact h hseq
  have hfirst : ¬ ((s.course l).at k).nakSince.isSome = true := by simp [hfirst]
  simp only [receiveJudged, if_neg hnew, receiveV2, if_neg hnot, if_neg hfirst]

end

/-! A packet that arrives whole on a lane that its course listens to (R292 to R294). -/

section
variable {dt lane : Nat} {k : Cls} {start bytes : List Byte} {crc : Nat} {whole : Bool} {s₀ s : State} (hs : advance dt s₀ = s)
  (hlane : lane < 22) (hstart : start.length = 8) (hcrc : crc < 2 ^ 32)
include hs hlane hstart hcrc

theorem exec_packetReceive_unknown (hclass : classOfStart (rd start 0 1) = none) :
    exec (.packetReceive dt lane start bytes crc whole) s₀ = .next (headerError lane s) := by
  change execPacketReceive dt lane start bytes crc whole s₀ = _
  simp only [execPacketReceive, hs, hlane, hstart, hcrc, hclass, BEq.rfl, decide_true, Bool.and_self, onUnit_true]

variable (hclass : classOfStart (rd start 0 1) = some k) (hopen : (s.course (linkOf lane)).open = true)
  (hlistens : listens lane s = true) (hwhole : whole = true) (hlen : bytes.length = 4 * rd start 3 2)
include hclass hopen hlistens hwhole hlen

theorem exec_packetReceive_good (hgood : crc = crc32c (start ++ bytes)) :
    exec (.packetReceive dt lane start bytes crc whole) s₀ =
      .next (receiveJudged (linkOf lane) k (rd start 1 2) bytes.length true s) := by
  change execPacketReceive dt lane start bytes crc whole s₀ = _
  simp only [execPacketReceive, hs, hlane, hstart, hcrc, hclass, receivePacket, hopen, hlistens, hwhole, hlen, judgeCrc_good hgood,
    BEq.rfl, decide_true, onUnit_true, Bool.not_true, Bool.or_self, Bool.and_self, Bool.false_eq_true, if_false]
  rfl

theorem exec_packetReceive_stomped (hstomped : crc = 0xFFFFFFFF - crc32c (start ++ bytes)) :
    exec (.packetReceive dt lane start bytes crc whole) s₀ = .next (receiveJudged (linkOf lane) k (rd start 1 2) bytes.length true
      (s.onCourse (linkOf lane) fun c => { c with rxStomped := c.rxStomped + 1 })) := by
  change execPacketReceive dt lane start bytes crc whole s₀ = _
  simp only [execPacketReceive, hs, hlane, hstart, hcrc, hclass, receivePacket, hopen, hlistens, hwhole, hlen,
    judgeCrc_stomped hstomped, BEq.rfl, decide_true, onUnit_true, Bool.not_true, Bool.or_self, Bool.and_self, Bool.false_eq_true, if_false]
  rfl

theorem exec_packetReceive_bad (hgood : crc ≠ crc32c (start ++ bytes)) (hstomped : crc ≠ 0xFFFFFFFF - crc32c (start ++ bytes)) :
    exec (.packetReceive dt lane start bytes crc whole) s₀ =
      .next (receiveJudged (linkOf lane) k (rd start 1 2) bytes.length false (upset (unitLane lane) s)) := by
  change execPacketReceive dt lane start bytes crc whole s₀ = _
  simp only [execPacketReceive, hs, hlane, hstart, hcrc, hclass, receivePacket, hopen, hlistens, hwhole, hlen,
    judgeCrc_bad hgood hstomped, BEq.rfl, decide_true, onUnit_true, Bool.not_true, Bool.or_self, Bool.and_self, Bool.false_eq_true, if_false]
  rfl

end

/-! A LINK block that arrives (Table 11-5, R286, R297, R298). -/

section
variable {dt lane : Nat} {cls : Cls} {crc : Nat} {s₀ s : State}

theorem receiveLink_taken {kind arg : Nat} (f : State → State) (hlistens : listens lane s = true)
    (hcrc : rd (linkBlock kind arg) 7 1 = crc) : receiveLink lane kind arg crc f s = f s := by
  simp [receiveLink, hlistens, hcrc]

theorem receiveLink_discarded {kind arg : Nat} (f : State → State) (hlistens : listens lane s = true)
    (hcrc : rd (linkBlock kind arg) 7 1 ≠ crc) : receiveLink lane kind arg crc f s = badLinkBlock lane s := by
  simp [receiveLink, hlistens, hcrc]

theorem takeAck_covered {l seq : Nat} (hcovers : ((s.course l).at cls).unacked.any (fun p => p.seq == seq) = true) :
    takeAck l cls seq s = drain l (s.onCourse l fun c => c.onCls cls fun x =>
      { x with unacked := (x.unacked.dropWhile fun p => p.seq != seq).drop 1, resend := none }) :=
  if_pos hcovers

theorem takeNak_first {l seq : Nat} (hversion : (s.course l).run.version ≠ 1) (hresend : ((s.course l).at cls).resend = none) :
    takeNak l cls seq s = resendFrom l cls seq (if l < 10 then bump (ctr 9 l 1) 1 s else s) := by
  simp only [takeNak, if_neg hversion, hresend]

theorem takeCredit_raised {l limit : Nat} (hopen : (s.course l).open = true)
    (hraised : 0 < signed 32 (limit + 2 ^ 32 - ((s.course l).at cls).limit)) :
    takeCredit l cls limit s = drain l (s.onCourse l fun c => c.onCls cls fun x => { x with limit := limit % 2 ^ 32 }) := by
  simp only [takeCredit, hopen, hraised, decide_true, Bool.and_self, if_true]

variable (hs : advance dt s₀ = s) (hlane : lane < 22) (hcrc : crc < 256)
include hs hlane hcrc

theorem exec_ackReceive_lane {seq : Nat} (hseq : seq < 65536) : exec (.ackReceive dt lane cls seq crc) s₀ =
    .next (receiveLink lane (0x01 + cls.num) seq crc (takeAck (linkOf lane) cls seq) s) := by
  change execAckReceive dt lane cls seq crc s₀ = _
  simp only [execAckReceive, hs, hlane, hseq, hcrc, decide_true, Bool.and_self, onUnit_true]

theorem exec_nakReceive_lane {seq : Nat} (hseq : seq < 65536) : exec (.nakReceive dt lane cls seq crc) s₀ =
    .next (receiveLink lane (0x11 + cls.num) seq crc (takeNak (linkOf lane) cls seq) s) := by
  change execNakReceive dt lane cls seq crc s₀ = _
  simp only [execNakReceive, hs, hlane, hseq, hcrc, decide_true, Bool.and_self, onUnit_true]

theorem exec_creditReceive_lane {limit : Nat} (hlimit : limit < 2 ^ 32) : exec (.creditReceive dt lane cls limit crc) s₀ =
    .next (receiveLink lane (0x21 + cls.num) limit crc (takeCredit (linkOf lane) cls limit) s) := by
  change execCreditReceive dt lane cls limit crc s₀ = _
  simp only [execCreditReceive, hs, hlane, hlimit, hcrc, decide_true, Bool.and_self, onUnit_true]

end

/-! Markers (R285, R288, R289). -/

section
variable {lane hdr bip : Nat} {b : List Byte} {s : State}

/-- A marker whose BIP8 agrees, or that is the lane's first, counts no BIP error. -/
theorem takeAlign_agreed (hbip : rd b 4 1 = bip ∨ (s.lane lane).rxMseq = none) :
    takeAlign lane b bip s = checkLimit (trainLook (linkOf lane)
      ((deskew lane (s.onLane lane fun q => { q with rxMseq := some (rd b 3 1), alignAt := s.tb1 })).onCourse (linkOf lane)
        fun c => followMode lane (bit (rd b 2 1) 0) { c with rxOk := rd b 2 1 / 2 % 4 })) := by
  have hno : ¬ (((s.lane lane).rxMseq.isSome && decide (rd b 4 1 ≠ bip)) = true) := by
    rcases hbip with h | h <;> simp [h]
  simp only [takeAlign, if_neg hno]

variable (hprbs : (s.lane lane).prbs = none)
include hprbs

theorem receiveAlign_headerError (hbad : hdr = 0 ∨ hdr = 3 ∨ (hdr = 2 ∧ blockTypes.contains (rd b 0 1) = false)) :
    receiveAlign lane hdr b bip s = headerError lane s := by
  have hbad : (hdr = 0 || hdr = 3 || (hdr = 2 && !blockTypes.contains (rd b 0 1))) = true := by
    simpa [or_assoc] using hbad
  simp only [receiveAlign, hprbs, Option.isSome_none, Bool.false_eq_true, if_false, if_pos hbad]

/-- A marker is a control block of a known type; its CRC8 decides. -/
theorem receiveAlign_marker (hhdr : hdr = 2) (htype : rd b 0 1 = 0x2D) :
    receiveAlign lane hdr b bip s = if crc8 (b.take 7) ≠ rd b 7 1 then badLinkBlock lane s else takeAlign lane b bip s := by
  subst hhdr
  simp [receiveAlign, hprbs, htype, blockTypes]

end

theorem exec_alignReceive_lane {dt lane hdr bip : Nat} {bytes : List Byte} {s₀ s : State} (hs : advance dt s₀ = s) (hlane : lane < 22)
    (hhdr : hdr < 4) (hlen : bytes.length = 8) :
    exec (.alignReceive dt lane hdr bytes bip) s₀ = .next (receiveAlign lane hdr bytes bip s) := by
  change execAlignReceive dt lane hdr bytes bip s₀ = _
  simp only [execAlignReceive, hs, hlane, hhdr, hlen, BEq.rfl, decide_true, Bool.and_self, onUnit_true]

theorem exec_alignSend_due {dt lane : Nat} {s₀ s : State} (hs : advance dt s₀ = s) (hlane : lane < 22)
    (hsending : (s.course (linkOf lane)).sending = true) (hprbs : (s.lane lane).prbs = none) (hpower : s.thm.power ≠ .p3)
    (hdue : alignDue lane s = true) :
    exec (.alignSend dt lane) s₀ = .next (
      let l := linkOf lane
      let v := pump l s
      let m := (v.lane lane).mseq
      let t := if m = (v.lane (if lane % 2 = 0 then lane + 1 else lane - 1)).mseq then startInterval l v else v
      let c := t.course l
      let b := toLe 1 0x2D ++ toLe 1 (lane % 2)
        ++ toLe 1 (b2n (!c.duo && c.carry == lane % 2) + 2 * b2n (rxOkLane (2 * l) t) + 4 * b2n (rxOkLane (2 * l + 1) t))
        ++ toLe 1 m ++ toLe 1 (laneBip lane v) ++ toLe 1 l ++ toLe 1 0
      let w := sendBlock lane { hdr := 2, bytes := b ++ toLe 1 (crc8 b) } t
      checkLimit (w.onLane lane fun q => { q with mseq := (m + 1) % 256, alignSent := some w.tb1, parity := 0, blocks := 0 })) := by
  change execAlignSend dt lane s₀ = _
  simp only [execAlignSend, sendAlign, hs, hlane, hsending, hprbs, beq_eq_false_iff_ne.2 hpower, hdue, decide_true, onUnit_true,
    Option.isSome_none, Bool.not_true, Bool.or_self, Bool.false_eq_true, if_false]

/-! Timers of the retry buffer and of credit (R296 to R298). -/

theorem exec_ackTimeout_due {dt link : Nat} {cls : Cls} {s₀ s : State} {p : SentPacket} {ps : List SentPacket}
    (hs : pump link (advance dt s₀) = s) (hlink : link ≤ 10) (hunacked : ((s.course link).at cls).unacked = p :: ps)
    (hopen : (s.course link).open = true)
    (hbegun : ((s.course link).hot ++ (s.course link).out).all (fun o => !(o.fresh cls && o.seq == p.seq)) = true)
    (hpassed : passed s p.time (s.course link).run.ackTimeout 1000000 = true) :
    exec (.ackTimeout dt link cls) s₀ = .next (resendFrom link cls p.seq s) := by
  change execAckTimeout dt link cls s₀ = _
  simp only [execAckTimeout, hs, hlink, hunacked, hopen, hbegun, hpassed, decide_true, onUnit_true, Bool.and_self, if_true]

section
variable {dt link : Nat} {cls : Cls} {s₀ s : State} (hs : advance dt s₀ = s) (hlink : link ≤ 10) (hopen : (s.course link).open = true)
include hs hlink hopen

theorem exec_nakRepeat_due {t : Int} (hnak : ((s.course link).at cls).nakSince = some t) (hpassed : passed s t 20 1000000 = true) :
    exec (.nakRepeat dt link cls) s₀ = .next (sendLink link (0x11 + cls.num) ((s.course link).at cls).rxSeq
      (s.onCourse link fun c => c.onCls cls fun x => { x with nakSince := some s.tb1 })) := by
  change execNakRepeat dt link cls s₀ = _
  simp only [execNakRepeat, hs, hlink, hnak, hopen, hpassed, decide_true, onUnit_true, Bool.and_self, if_true]

theorem exec_creditSend_due {limit : Nat} (hlimit : (rxCap cls + ((s.course link).at cls).freed) % 2 ^ 32 = limit)
    (hclass : link = 10 ∨ cls = .ctrl)
    (hdue : 64 ≤ (limit + 2 ^ 32 - ((s.course link).at cls).limitSent) % 2 ^ 32 ∨
      passed s ((s.course link).at cls).creditSince 10 1000000 = true) :
    exec (.creditSend dt link cls) s₀ = .next (sendLink link (0x21 + cls.num) limit
      (s.onCourse link fun c => c.onCls cls fun x => { x with limitSent := limit, creditSince := s.tb1 })) := by
  have hclass : (decide (link = 10) || cls == .ctrl) = true := by simpa using hclass
  have hdue : (decide (64 ≤ (limit + 2 ^ 32 - ((s.course link).at cls).limitSent) % 2 ^ 32) ||
      passed s ((s.course link).at cls).creditSince 10 1000000) = true := by simpa using hdue
  change execCreditSend dt link cls s₀ = _
  simp only [execCreditSend, hs, hlimit, hlink, hopen, hclass, hdue, decide_true, onUnit_true, Bool.and_self, if_true]

end

/-! The queues of a course (R299, R311). -/

theorem exec_linePacketSend_course {dt course clocks : Nat} {s₀ s : State} (hs : pump course (advance dt s₀) = s) (hcourse : course < 10) :
    exec (.linePacketSend dt course clocks) s₀ = .next (serveQueue course clocks s) := by
  change execLinePacketSend dt course clocks s₀ = _
  simp only [execLinePacketSend, hs, hcourse, decide_true, onUnit_true]

section
variable {l clocks : Nat} {s : State} {p : QueuePacket} {ps : List QueuePacket} (hqueue : (s.course l).queue = p :: ps)
include hqueue

/-- A packet that is being popped goes on, and one to be discarded is popped without being sent. -/
theorem serveQueue_pops
    (hpops : p.popped ≠ 0 ∨ (s.carries l = true ∧ p.visible s.tb1 = true ∧ p.discard = true)) :
    serveQueue l clocks s = popOn l clocks p s := by
  by_cases hbegun : p.popped = 0
  · obtain ⟨hcarries, hvisible, hdiscard⟩ := hpops.resolve_left (absurd hbegun)
    simp [serveQueue, hqueue, hbegun, hcarries, hvisible, hdiscard]
  · simp [serveQueue, hqueue, hbegun]

variable (hcarries : s.carries l = true) (hnew : p.popped = 0) (hvisible : p.visible s.tb1 = true) (hkept : p.discard = false)
include hcarries hnew hvisible hkept

theorem serveQueue_sends (hmay : (s.course l).maySend .data p.bytes.length = true) :
    serveQueue l clocks s = popOn l clocks p (sendLine l p s) := by
  simp [serveQueue, hqueue, hcarries, hnew, hvisible, hkept, hmay]

/-- Without credit the course stalls. -/
theorem serveQueue_stalls (hmay : (s.course l).maySend .data p.bytes.length = false)
    (hcredit : (s.course l).hasCredit .data p.bytes.length = false) :
    serveQueue l clocks s = s.onCourse l fun c => { c with stallSince := some (c.stallSince.getD s.tb1) } := by
  simp [serveQueue, hqueue, hcarries, hnew, hvisible, hkept, hmay, hcredit]

end

/-- The first stamp packet of a course at rate 1: 32 entries at most. -/
theorem exec_stampPacketSend_first {dt course : Nat} {s₀ s : State} (hs : advance dt s₀ = s) (hcourse : course < 10)
    (hcarries : s.carries course = true) (hversion : (s.course course).run.version = 2) (hprio : (s.course course).prio ≠ [])
    (hfirst : (s.course course).stampSince = none) (hrate : (s.course course).run.rate = 1)
    (hmay : (s.course course).maySend .prio (16 + 8 * (takeStamps 32 (s.course course).prio).length) = true) :
    exec (.stampPacketSend dt course) s₀ = .next (
      let t := settleWaited course s
      let es := takeStamps 32 (t.course course).prio
      let w := t.onCourse course fun c => { c with prio := c.prio.drop es.length, prioWait := false, stampSince := some t.tb1 }
      bump (ctr 9 course 9) 1 (transmit course .prio 0 (stampBody w.tb3 es) false w)) := by
  have hnew : ¬ (s.course course).run.version = 1 := by omega
  change execStampPacketSend dt course s₀ = _
  simp only [execStampPacketSend, serveStamps, hs, hcourse, hcarries, hnew, List.isEmpty_eq_false_iff.2 hprio, hfirst, hrate, hmay,
    decide_true, decide_false, onUnit_true, Bool.true_or, Bool.not_true, Bool.or_self, Bool.false_eq_true, if_true, if_false]

/-- Settles O32: a packet splits on its CRC, its SEQ and the course's version, a LINK block and a marker on their CRC8, the queue on the
packet in front; every other row acts when it is due. -/
theorem linkRowsComplete : Obligations.LinkRowsComplete := by
  refine ⟨?inSequence, ?stomped, ?outOfSequence, ?failed, ?version1, ?unknown, ?ack, ?ackBad, ?nak, ?nakBad, ?credit, ?creditBad, ?align,
    ?alignHeader, ?alignBad, ?alignSend, ?ackTimeout, ?nakRepeat, ?creditSend, ?line, ?lineStalls, ?linePops, ?stamp⟩
  case inSequence =>
    intro dt lane start bytes crc whole s₀ k s l hlane hstart hcrc hclass hopen hlistens hwhole hlen hgood hversion hseq hinjects
    rw [exec_packetReceive_good rfl hlane hstart hcrc hclass hopen hlistens hwhole hlen hgood]
    exact congrArg _ (receiveJudged_inSequence hversion hseq hinjects)
  case stomped =>
    intro dt lane start bytes crc whole s₀ k s l t hlane hstart hcrc hclass hopen hlistens hwhole hlen hstomped hversion hseq hinjects
    rw [exec_packetReceive_stomped rfl hlane hstart hcrc hclass hopen hlistens hwhole hlen hstomped]
    exact congrArg _ (receiveJudged_inSequence hversion hseq hinjects)
  case outOfSequence =>
    intro dt lane start bytes crc whole s₀ k s l hlane hstart hcrc hclass hopen hlistens hwhole hlen hgood hversion hseq hfirst
    rw [exec_packetReceive_good rfl hlane hstart hcrc hclass hopen hlistens hwhole hlen hgood]
    exact congrArg _ (receiveJudged_refused hversion (.inr hseq) hfirst)
  case failed =>
    intro dt lane start bytes crc whole s₀ k s l t hlane hstart hcrc hclass hopen hlistens hwhole hlen hgood hstomped hversion hfirst
    rw [exec_packetReceive_bad rfl hlane hstart hcrc hclass hopen hlistens hwhole hlen hgood hstomped]
    exact congrArg _ (receiveJudged_refused hversion (.inl rfl) hfirst)
  case version1 =>
    intro dt lane start bytes crc whole s₀ k s l hlane hstart hcrc hclass hopen hlistens hwhole hlen hgood hversion
    rw [exec_packetReceive_good rfl hlane hstart hcrc hclass hopen hlistens hwhole hlen hgood]
    exact congrArg _ (receiveJudged_v1 hversion)
  case unknown => exact fun dt lane start bytes crc whole s₀ => exec_packetReceive_unknown rfl
  case ack =>
    intro dt lane cls seq crc s₀ s l hlane hseq hcrc hlistens hgood hcovers
    rw [exec_ackReceive_lane rfl hlane hcrc hseq, receiveLink_taken _ hlistens hgood, takeAck_covered hcovers]
  case ackBad =>
    intro dt lane cls seq crc s₀ s hlane hseq hcrc hlistens hbad
    rw [exec_ackReceive_lane rfl hlane hcrc hseq, receiveLink_discarded _ hlistens hbad]
  case nak =>
    intro dt lane cls seq crc s₀ s l hlane hseq hcrc hlistens hgood hversion hresend
    rw [exec_nakReceive_lane rfl hlane hcrc hseq, receiveLink_taken _ hlistens hgood, takeNak_first hversion hresend]
  case nakBad =>
    intro dt lane cls seq crc s₀ s hlane hseq hcrc hlistens hbad
    rw [exec_nakReceive_lane rfl hlane hcrc hseq, receiveLink_discarded _ hlistens hbad]
  case credit =>
    intro dt lane cls limit crc s₀ s l hlane hlimit hcrc hlistens hgood hopen hraised
    rw [exec_creditReceive_lane rfl hlane hcrc hlimit, receiveLink_taken _ hlistens hgood, takeCredit_raised hopen hraised]
  case creditBad =>
    intro dt lane cls limit crc s₀ s hlane hlimit hcrc hlistens hbad
    rw [exec_creditReceive_lane rfl hlane hcrc hlimit, receiveLink_discarded _ hlistens hbad]
  case align =>
    intro dt lane hdr bytes bip s₀ s t hlane hhdr hlen hprbs hmarker htype hcrc hbip
    rw [exec_alignReceive_lane rfl hlane hhdr hlen, receiveAlign_marker hprbs hmarker htype, if_neg (not_not_intro hcrc),
      takeAlign_agreed hbip]
  case alignHeader =>
    intro dt lane hdr bytes bip s₀ s hlane hhdr hlen hprbs hbad
    rw [exec_alignReceive_lane rfl hlane hhdr hlen, receiveAlign_headerError hprbs hbad]
  case alignBad =>
    intro dt lane hdr bytes bip s₀ s hlane hhdr hlen hprbs hmarker htype hcrc
    rw [exec_alignReceive_lane rfl hlane hhdr hlen, receiveAlign_marker hprbs hmarker htype, if_pos hcrc]
  case alignSend => exact fun dt lane s₀ => exec_alignSend_due rfl
  case ackTimeout => exact fun dt link cls s₀ p ps => exec_ackTimeout_due rfl
  case nakRepeat =>
    exact fun dt link cls s₀ t hlink hnak hopen hpassed => exec_nakRepeat_due rfl hlink hopen hnak hpassed
  case creditSend => exact fun dt link cls s₀ hlink hopen hclass hdue => exec_creditSend_due rfl hlink hopen rfl hclass hdue
  case line =>
    intro dt course clocks s₀ p ps s hcourse hcarries hqueue hnew hvisible hkept hmay
    rw [exec_linePacketSend_course rfl hcourse, serveQueue_sends hqueue hcarries hnew hvisible hkept hmay]
  case lineStalls =>
    intro dt course clocks s₀ p ps s hcourse hcarries hqueue hnew hvisible hkept hmay hcredit
    rw [exec_linePacketSend_course rfl hcourse, serveQueue_stalls hqueue hcarries hnew hvisible hkept hmay hcredit]
  case linePops =>
    intro dt course clocks s₀ p ps s hcourse hqueue hpops
    rw [exec_linePacketSend_course rfl hcourse, serveQueue_pops hqueue hpops]
  case stamp => exact fun dt course s₀ => exec_stampPacketSend_first rfl

end Sys2Proof.Machine
end

section
/-!
PROOFS. The CAM commands, and the rows of the cameras and of a gate test (spec/12_inspection_camera.md, R322 to R340;
spec/13_colour_constancy_and_nozzle_health.md, R355 to R359).
-/
namespace Sys2Proof.Machine

/-- A command that runs and does not finish answers the state in which it waits. -/
theorem runCmd_waits {op : Nat} {check : Cmd → State → Option Reply} {effect : Cmd → State → Ans} {q : Cmd} {s t : State}
    (hruns : Runs op check q s = true) (heffect : effect q (s.begun op q) = .wait t) : runCmd op check effect q s = .next t :=
  runCmd_answers hruns heffect

/-- Bulk data that is empty needs no transfer (R59). -/
theorem startRead_of_eq_nil {q : Cmd} {countOff : Nat} {r : Reply} {bytes : List Byte} {s : State} (h : bytes = []) :
    startRead q countOff r bytes s = .done r s := by
  rw [h]
  rfl

section
variable {q : Cmd} {s : State}

/-! CAM_PIPELINE without a SENSOR section (R335, R336): no register is written, and no frame is waited for. -/

theorem camPipelineEffect_noSensor (hsensor : (sectionsOf q.pblk (q.u16 2)).1.find? (fun x => x.1 == 9) = none) :
    camPipelineEffect q s = .wait (applyIdle (q.u8 0) (sendSensor (q.u8 0) (hold q [.camera (q.u8 0)] false
      (s.onPort (q.u8 0) fun p => { p with
        pend := some { cmd := some q.id, params := (sectionsOf q.pblk (q.u16 2)).1.foldl (readSection q.pblk) {}
                       sections := q.u16 2, writes := [], delay := 0 } })))) := by
  simp only [camPipelineEffect, hsensor, Option.isSome_none, Bool.false_eq_true, if_false]

/-! CAM_ENABLE (R325, R339). -/

/-- A later CAM_ENABLE that waited for the port's disabling no longer does. -/
def keepEnabled (k : Nat) (s : State) : State :=
  s.onPort k fun p => { p with enabling := p.enabling.map fun e => { e with after := false } }

section
variable (hoff : q.u8 1 = 0)
include hoff

theorem camEnableEffect_alreadyOff (hport : (s.port (q.u8 0)).enable = false) :
    camEnableEffect q s = .done (.good (toLe 4 (s.port (q.u8 0)).lastSeq)) (keepEnabled (q.u8 0) s) := by
  simp only [camEnableEffect, if_pos hoff, hport, Bool.not_false, if_true]
  rfl

variable (hport : (s.port (q.u8 0)).enable = true)
include hport

/-- Between frames the port is disabled at once. -/
theorem camEnableEffect_off (hidle : (s.port (q.u8 0)).frames = []) :
    camEnableEffect q s = .done
      (if (keepEnabled (q.u8 0) s).portGone (q.u8 0) then .errUnit .retired 0 (unitCam (q.u8 0))
       else .good (toLe 4 (s.port (q.u8 0)).lastSeq))
      (disablePort (q.u8 0) 1 (keepEnabled (q.u8 0) s)) := by
  simp only [camEnableEffect, if_pos hoff, hport, hidle, List.isEmpty_nil, Bool.not_true, Bool.false_eq_true, if_false, if_true]
  rfl

theorem camEnableEffect_offWaits (hbusy : (s.port (q.u8 0)).frames ≠ []) (hfirst : (s.port (q.u8 0)).disabling = none) :
    camEnableEffect q s = .wait ((keepEnabled (q.u8 0) s).onPort (q.u8 0) fun p => { p with disabling := some q.id }) := by
  simp only [camEnableEffect, if_pos hoff, hport, List.isEmpty_eq_false_iff.2 hbusy, hfirst, Bool.not_true, Bool.false_eq_true, if_false,
    keepEnabled]

end

section
variable (hon : q.u8 1 ≠ 0)
include hon

/-- A port that is receiving takes the change at its frame boundary. -/
theorem camEnableEffect_onWaits (hport : (s.port (q.u8 0)).enable = true) (hbusy : (s.port (q.u8 0)).frames ≠ []) :
    camEnableEffect q s = .wait (s.onPort (q.u8 0) fun p => { p with
      enabling := some { cmds := (p.enabling.map (·.cmds)).getD [] ++ [q.id], after := p.disabling.isSome, mode := q.u8 2
                         loop := bit (q.u8 3) 0, pulseW := q.u16 4, spacing := q.u64 8, x0 := q.s64 16 } }) := by
  simp only [camEnableEffect, if_neg hon, hport, List.isEmpty_eq_false_iff.2 hbusy, Bool.not_false, Bool.and_self, if_true]

theorem camEnableEffect_on (hidle : (s.port (q.u8 0)).enable = false ∨ (s.port (q.u8 0)).frames = []) :
    camEnableEffect q s = .done (.good (toLe 4 (s.port (q.u8 0)).lastSeq))
      (enablePort (q.u8 0) { mode := q.u8 2, loop := bit (q.u8 3) 0, pulseW := q.u16 4, spacing := q.u64 8, x0 := q.s64 16 } s) := by
  have hidle : ¬ ((s.port (q.u8 0)).enable && !(s.port (q.u8 0)).frames.isEmpty) = true := by
    rcases hidle with h | h <;> simp [h]
  simp only [camEnableEffect, if_neg hon, if_neg hidle]

end

/-! CAM_FRAME_READ and CAM_ARCHIVE (R334, R337). -/

theorem camFrameReadEffect_none (hnone : packReports (wantedReports (s.port (q.u8 0)) (q.u32 4) (q.u8 1)) = []) :
    camFrameReadEffect q s = .done
      (.good (toLe 4 (wantedReports (s.port (q.u8 0)) (q.u32 4) (q.u8 1)).length ++ toLe 4 0 ++ toLe 8 0)) s := by
  rw [camFrameReadEffect, startRead_of_eq_nil hnone, hnone, List.length_nil]

/-- The reports found are on their way to the host. -/
theorem camFrameReadEffect_some (hsome : packReports (wantedReports (s.port (q.u8 0)) (q.u32 4) (q.u8 1)) ≠ []) :
    camFrameReadEffect q s = .wait (s.onFlying q.id fun e => { e with
      abortable := true
      reply := some (.good (toLe 4 (wantedReports (s.port (q.u8 0)) (q.u32 4) (q.u8 1)).length ++ toLe 4 0
        ++ toLe 8 (packReports (wantedReports (s.port (q.u8 0)) (q.u32 4) (q.u8 1))).length))
      out := some (upToLast (q.counted (q.u32 16)),
        (packReports (wantedReports (s.port (q.u8 0)) (q.u32 4) (q.u8 1))).take (q.listBytes (q.u32 16))) }) :=
  startRead_of_ne_nil hsome

theorem camArchiveEffect_configure (hop : q.u8 0 = 0) {t : State}
    (ht : checkLow ((s.onCam fun c => { c with
        archive := some { pages := q.u32 8, stage := q.u8 1, keepMarked := bit (q.u8 2) 0, portMask := q.u8 3, keepEvery := q.u16 4
                          rate := if q.u16 6 = 0 then 400 else q.u16 6, budgetAt := s.tb1 } }).onStore
      fun t => { t with archive := q.u32 8 }) = t) :
    camArchiveEffect q s = .done (.good (archiveResult t).1) (archiveResult t).2 := by
  subst ht
  simp only [camArchiveEffect, hop]
  rfl

theorem camArchiveEffect_directory (hop : q.u8 0 = 1) :
    camArchiveEffect q s = startRead q 32 (.good (archiveResult s).1)
      (((s.archived.filter fun e => decide (q.u32 12 ≤ e.entry)).take (q.u16 16)).flatMap (·.header)) (archiveResult s).2 := by
  simp only [camArchiveEffect, hop]

theorem camArchiveEffect_read {e : ArchEntry} (hop : q.u8 0 = 2) (hfound : s.archived.find? (fun e => e.entry == q.u32 12) = some e) :
    camArchiveEffect q s =
      startRead q 32 (.good (archiveResult s).1) (e.header ++ e.image) (archiveResult s).2 := by
  simp only [camArchiveEffect, hop, hfound, Option.map_some, Option.getD_some]

theorem camArchiveEffect_clear (hop : 3 ≤ q.u8 0) {t : State}
    (ht : (s.onCam fun c => { c with archive := c.archive.map fun a => { a with entries := [] } }) = t) :
    camArchiveEffect q s = .done (.good (archiveResult t).1) (archiveResult t).2 := by
  subst ht
  obtain ⟨n, hn⟩ : ∃ n, q.u8 0 = n + 3 := ⟨q.u8 0 - 3, (Nat.sub_add_cancel hop).symm⟩
  simp only [camArchiveEffect, hn]
  rfl

end

/-- Settles O18: each command's effect where it runs; enabling splits on the port and its frames, a read on whether it finds anything,
the archive on OP. -/
theorem camCommandsComplete : Obligations.CamCommandsComplete := by
  refine ⟨?config, ?pipeline, ?offAlready, ?off, ?offWaits, ?onWaits, ?on, ?calibrate, ?readNone, ?read, ?configure, ?directoryNone,
    ?directory, ?entry, ?clear, ?status⟩
  case config => exact fun q s₀ hruns => runCmd_runs hruns
  case pipeline => exact fun q s₀ hruns hsensor => runCmd_waits hruns (camPipelineEffect_noSensor hsensor)
  case offAlready => exact fun q s₀ hruns hoff hport => runCmd_answers hruns (camEnableEffect_alreadyOff hoff hport)
  case off => exact fun q s₀ hruns hoff hport hidle => runCmd_answers hruns (camEnableEffect_off hoff hport hidle)
  case offWaits =>
    exact fun q s₀ hruns hoff hport hbusy hfirst => runCmd_waits hruns (camEnableEffect_offWaits hoff hport hbusy hfirst)
  case onWaits => exact fun q s₀ hruns hon hport hbusy => runCmd_waits hruns (camEnableEffect_onWaits hon hport hbusy)
  case on => exact fun q s₀ hruns hon hidle => runCmd_answers hruns (camEnableEffect_on hon hidle)
  case calibrate => exact fun q s₀ hruns => runCmd_runs hruns
  case readNone => exact fun q s₀ hruns hnone => runCmd_answers hruns (camFrameReadEffect_none hnone)
  case read => exact fun q s₀ hruns hsome => runCmd_waits hruns (camFrameReadEffect_some hsome)
  case configure => exact fun q s₀ hruns hop => runCmd_answers hruns (camArchiveEffect_configure hop rfl)
  case directoryNone =>
    exact fun q s₀ hruns hop hnone => runCmd_answers hruns ((camArchiveEffect_directory hop).trans (startRead_of_eq_nil hnone))
  case directory =>
    exact fun q s₀ hruns hop hsome => runCmd_waits hruns ((camArchiveEffect_directory hop).trans (startRead_of_ne_nil hsome))
  case entry =>
    exact fun q s₀ e hruns hop hfound hsome =>
      runCmd_waits hruns ((camArchiveEffect_read hop hfound).trans (startRead_of_ne_nil hsome))
  case clear => exact fun q s₀ hruns hop => runCmd_answers hruns (camArchiveEffect_clear hop rfl)
  case status => exact fun q s₀ hruns => runCmd_runs hruns

/-! The CSI-2 rows: a port that is live judges the packet's header first (R322, R324, R327). -/

section
variable {dt port vc : Nat} {ecc : EccResult} {s₀ s t : State} {good : Bool} (hs : advance dt s₀ = s) (hport : port < 4)
  (hlive : s.portLive port = true) (hheader : takeHeader port vc ecc s = (t, good))
include hs hport hlive hheader

theorem exec_csiFrameStart_live :
    exec (.csiFrameStart dt port vc ecc) s₀ = .next (if good then frameStart port vc t else t) := by
  change execCsiFrameStart dt port vc ecc s₀ = _
  simp only [execCsiFrameStart, hs, hport, hlive, hheader, decide_true, onUnit_true, Bool.not_true, Bool.false_eq_true, if_false]

theorem exec_csiFrameEnd_live : exec (.csiFrameEnd dt port vc ecc) s₀ = .next (if good then frameEnd port vc t else t) := by
  change execCsiFrameEnd dt port vc ecc s₀ = _
  simp only [execCsiFrameEnd, hs, hport, hlive, hheader, decide_true, onUnit_true, Bool.not_true, Bool.false_eq_true, if_false]

section
variable {dataType wordCount : Nat} {px : List Nat} {crcOk : Bool}

theorem exec_csiLinePacket_discarded (hbad : good = false) :
    exec (.csiLinePacket dt port vc dataType wordCount px ecc crcOk) s₀ = .next t := by
  change execCsiLinePacket dt port vc dataType wordCount px ecc crcOk s₀ = _
  simp only [execCsiLinePacket, hs, hport, hlive, hheader, hbad, decide_true, onUnit_true, Bool.not_true, Bool.not_false, Bool.true_or,
    Bool.false_eq_true, if_false, if_true]

theorem exec_csiLinePacket_line {f : CamFrame} (hgood : good = true) (hlong : dataType ≠ 0x12)
    (htype : dataType = (t.port port).conf.dataType) (hexpects : (t.port port).conf.expects vc = true)
    (hopen : (t.port port).openOn vc = some f) :
    exec (.csiLinePacket dt port vc dataType wordCount px ecc crcOk) s₀ = .next (takeLine port vc wordCount px crcOk f t) := by
  have hmine : ¬ (dataType ≠ (t.port port).conf.dataType ∨ (!(t.port port).conf.expects vc) = true) := by simp [hexpects, ← htype]
  change execCsiLinePacket dt port vc dataType wordCount px ecc crcOk s₀ = _
  simp only [execCsiLinePacket, hs, hport, hlive, hheader, hgood, beq_eq_false_iff_ne.2 hlong, if_neg hmine, hopen, decide_true,
    onUnit_true, Bool.not_true, Bool.or_self, Bool.false_eq_true, if_false]

end

end

/-- A frame with lines missing is marked so as it ends (R324, Table 12-2). -/
theorem frameEnd_open {k vc : Nat} {f : CamFrame} {t : State} (hopen : (t.port k).openOn vc = some f) :
    frameEnd k vc t = tryClose k f.seq
      ((markFrame k f.seq (if f.got.getD ((t.port k).conf.slot vc) 0 < (t.port k).conf.height then 1 else 0) t).onFrame k f.seq
        fun g => { g with ended := g.ended ||| 2 ^ (t.port k).conf.slot vc }) := by
  simp only [frameEnd, hopen, endExposure, b2n, decide_eq_true_eq]

/-- The pipeline takes a line of the next standard port in turn that has one (R327). -/
theorem exec_pipelineLineTurn_standard {dt k y : Nat} {s₀ s : State} {f : CamFrame} (hs : advance dt s₀ = s) (hheld : s.held = false)
    (hpll : bit s.board.pllLost 1 = false) (hpower : s.thm.power = .p0 ∨ s.thm.power = .p1)
    (hturn : ((List.range 4).map fun i => (s.cam.turn + i) % 4).findSome? (fun k => (s.port k).ready.map fun x => (k, x)) = some (k, f, y))
    (hstandard : (s.port k).conf.wide = false) :
    exec (.pipelineLineTurn dt) s₀ = .next (tryClose k f.seq ((s.onFrame k f.seq fun x => { x with
      buffered := x.buffered.drop 1, taken := x.taken ++ (f.buffered.filter fun l => some l == f.buffered.head?), merged := y + 1 }).onCam
      fun c => { c with turn := (k + 1) % 4 })) := by
  have hrests : (s.held || bit s.board.pllLost 1 || s.thm.power == .p2 || s.thm.power == .p3 || s.thm.power == .p4) = false := by
    rcases hpower with h | h <;> simp [hheld, hpll, h]
  change execPipelineLineTurn dt s₀ = _
  simp only [execPipelineLineTurn, hs, hrests, hturn, hstandard, Bool.false_and, Bool.false_eq_true, if_false]

/-! Exposures and the calibration's hold (R326; 13 R355, R357). -/

section
variable {dt port vc : Nat} {s₀ s : State} (hs : advance dt s₀ = s) (hport : port < 4)
include hs hport

theorem exec_exposureMid_frame {f : CamFrame}
    (hdue : (s.port port).frames.find? (fun f => (f.exposure.map (Exposure.due s vc)).getD false) = some f) :
    exec (.exposureMid dt port vc) s₀ =
      .next (s.onFrame port f.seq fun f => { f with exposure := f.exposure.map (Exposure.atMid s) }) := by
  change execExposureMid dt port vc s₀ = _
  simp only [execExposureMid, hs, hport, hdue, decide_true, onUnit_true]

theorem exec_exposureMid_record {e : Exposure}
    (hnone : (s.port port).frames.find? (fun f => (f.exposure.map (Exposure.due s vc)).getD false) = none)
    (hdue : (s.port port).records.find? (Exposure.due s vc) = some e) :
    exec (.exposureMid dt port vc) s₀ =
      .next (s.onPort port fun p => { p with records := p.records.map fun x => if x = e then e.atMid s else x }) := by
  change execExposureMid dt port vc s₀ = _
  simp only [execExposureMid, hs, hport, hnone, hdue, decide_true, onUnit_true]

theorem exec_exposureRecordTimeout_due {e : Exposure} (holdest : (s.port port).records.find? (fun e => e.vc == vc) = some e)
    (hdue : e.mid + msT (s.port port).conf.timeoutMs ≤ s.tb3) :
    exec (.exposureRecordTimeout dt port vc) s₀ = .next (post evCamExposureMissed (unitCam port) port vc
      (bump (ctr 10 port 7) 1 (s.onPort port fun p => { p with records := p.records.erase e }))) := by
  change execExposureRecordTimeout dt port vc s₀ = _
  simp only [execExposureRecordTimeout, hs, hport, holdest, hdue, decide_true, onUnit_true, if_true]

/-- Two seconds after a calibration began it has its frames, or has failed. -/
theorem exec_camCalibrateHoldEnd_due {c : CamCal} (hcal : (s.port port).cal = some c) (hpassed : passed s c.since 2 1 = true) :
    exec (.camCalibrateHoldEnd dt port) s₀ = .next (
      if c.taken.length < c.frames then
        finish c.cmd (Reply.errUnit .timeout 0x01B0 (unitCam port)) (s.onPort port fun p => { p with cal := none })
      else s.onPort port fun p => { p with cal := some { c with released := true } }) := by
  change execCamCalibrateHoldEnd dt port s₀ = _
  simp only [execCamCalibrateHoldEnd, hs, hport, hcal, hpassed, decide_true, onUnit_true, Bool.not_true, Bool.false_eq_true, if_false]

/-! Lane lock (R340). -/

theorem exec_hsSyncLost_lane {lane : Nat} (hlane : lane < 4) :
    exec (.hsSyncLost dt port lane) s₀ = .next (setSync port lane false s) := by
  change execHsSyncLost dt port lane s₀ = _
  simp only [execHsSyncLost, hs, hport, hlane, decide_true, Bool.and_self, onUnit_true]

theorem exec_hsSyncRegained_lane {lane : Nat} (hlane : lane < 4) :
    exec (.hsSyncRegained dt port lane) s₀ = .next (setSync port lane true s) := by
  change execHsSyncRegained dt port lane s₀ = _
  simp only [execHsSyncRegained, hs, hport, hlane, decide_true, Bool.and_self, onUnit_true]

end

theorem exec_i2cTransferDone_awake {dt bus : Nat} {acked : Bool} {bytes : List Byte} {s₀ s : State} (hs : advance dt s₀ = s)
    (hbus : bus < 6) (hawake : s.awake = true) :
    exec (.i2cTransferDone dt bus acked bytes) s₀ = .next (i2cDone bus acked bytes s) := by
  change execI2cTransferDone dt bus acked bytes s₀ = _
  simp only [execI2cTransferDone, hs, hbus, hawake, decide_true, onUnit_true, if_true]

/-- Settles O34: a packet's row splits on its header, an exposure on whether a frame or a record waits for it, the calibration's hold on
the frames taken. -/
theorem cameraRowsComplete : Obligations.CameraRowsComplete := by
  refine ⟨?frameStart, ?startDiscarded, ?line, ?lineDiscarded, ?frameEnd, ?endDiscarded, ?turn, ?midFrame, ?midRecord, ?recordTimeout,
    ?calibrationFails, ?calibrationGoesOn, ?syncLost, ?syncRegained, ?i2c⟩
  case frameStart => exact fun dt port vc ecc s₀ t hport hlive hheader => exec_csiFrameStart_live rfl hport hlive hheader
  case startDiscarded => exact fun dt port vc ecc s₀ t hport hlive hheader => exec_csiFrameStart_live rfl hport hlive hheader
  case line =>
    exact fun dt port vc dataType wordCount px ecc crcOk s₀ t f hport hlive hheader =>
      exec_csiLinePacket_line rfl hport hlive hheader rfl
  case lineDiscarded =>
    exact fun dt port vc dataType wordCount px ecc crcOk s₀ t hport hlive hheader =>
      exec_csiLinePacket_discarded rfl hport hlive hheader rfl
  case frameEnd =>
    intro dt port vc ecc s₀ t f s c short hport hlive hheader hopen
    rw [exec_csiFrameEnd_live rfl hport hlive hheader, if_pos rfl, frameEnd_open hopen]
  case endDiscarded => exact fun dt port vc ecc s₀ t hport hlive hheader => exec_csiFrameEnd_live rfl hport hlive hheader
  case turn => exact fun dt s₀ k y f => exec_pipelineLineTurn_standard rfl
  case midFrame => exact fun dt port vc s₀ f hport => exec_exposureMid_frame rfl hport
  case midRecord => exact fun dt port vc s₀ e hport => exec_exposureMid_record rfl hport
  case recordTimeout => exact fun dt port vc s₀ e hport => exec_exposureRecordTimeout_due rfl hport
  case calibrationFails =>
    intro dt port s₀ c s hport hcal hpassed hfew
    rw [exec_camCalibrateHoldEnd_due rfl hport hcal hpassed, if_pos hfew]
  case calibrationGoesOn =>
    intro dt port s₀ c s hport hcal hpassed hall
    rw [exec_camCalibrateHoldEnd_due rfl hport hcal hpassed, if_neg (Nat.not_lt.2 hall)]
  case syncLost => exact fun dt port lane s₀ hport => exec_hsSyncLost_lane rfl hport
  case syncRegained => exact fun dt port lane s₀ hport => exec_hsSyncRegained_lane rfl hport
  case i2c => exact fun dt bus acked bytes s₀ => exec_i2cTransferDone_awake rfl

/-! A gate test (13 R359). -/

section
variable {dt bar : Nat} {s₀ s : State} (hs : advance dt s₀ = s) (hbar : bar < 10)
include hs hbar

theorem exec_gatePulse_gate : exec (.gatePulse dt bar) s₀ =
    .next (s.onTest bar fun t => if t.t0.isNone then t else Machine.gatePulse t s.tb3) := by
  change execGatePulse dt bar s₀ = _
  simp only [execGatePulse, hs, hbar, decide_true, onUnit_true]

variable {t : GateTest} (ht : s.clr.tests.find? (·.bar == bar) = some t)
include ht

theorem exec_gateTestShot_begins (hnew : t.t0 = none) : exec (.gateTestShot dt bar) s₀ = .next (beginTest t s) := by
  change execGateTestShot dt bar s₀ = _
  simp only [execGateTestShot, hs, hbar, ht, hnew, Option.isNone_none, decide_true, onUnit_true, if_true]

theorem exec_gateTestShot_commits {t0 : Int} (hbegun : t.t0 = some t0) : exec (.gateTestShot dt bar) s₀ = .next (commitShot t s) := by
  change execGateTestShot dt bar s₀ = _
  simp only [execGateTestShot, hs, hbar, ht, hbegun, Option.isNone_some, decide_true, onUnit_true, Bool.false_eq_true, if_false]

/-- Every shot is sent, and 1 ms has passed after the last one's window. -/
theorem exec_gateTestEnd_over (hbegun : t.t0.isSome = true) (hsent : t.sent = t.shots)
    (hover : ((t.shots * t.shotNs + t.windowNs + 1000000) * 2 ^ 32 : Nat) ≤ t.since s.tb3) :
    exec (.gateTestEnd dt bar) s₀ = .next (endTest t s) := by
  change execGateTestEnd dt bar s₀ = _
  simp only [execGateTestEnd, hs, hbar, ht, hbegun, hsent, hover, BEq.rfl, decide_true, onUnit_true, Bool.and_self, if_true]

end

/-- Settles O35: a shot's row splits on whether the test has begun. -/
theorem gateRowsComplete : Obligations.GateRowsComplete := by
  refine ⟨?begins, ?shot, ?pulse, ?ends⟩
  case begins => exact fun dt bar s₀ t hbar ht => exec_gateTestShot_begins rfl hbar ht
  case shot => exact fun dt bar s₀ t t0 hbar ht => exec_gateTestShot_commits rfl hbar ht
  case pulse => exact fun dt gate s₀ => exec_gatePulse_gate rfl
  case ends => exact fun dt bar s₀ t hbar ht => exec_gateTestEnd_over rfl hbar ht

end Sys2Proof.Machine
end

section
/-!
PROOFS. The THERM commands, and the rows of temperature and power (spec/14_thermal_and_power.md, R366 to R384; spec/18, R456).
-/
namespace Sys2Proof.Machine

section
variable {q : Cmd} {s : State}

/-! THERM_SENSOR_TRIM (R384). -/

theorem thermSensorTrimEffect_unsaved (hsave : bit (q.u8 1) 0 = false) :
    thermSensorTrimEffect q s =
      .done .good (s.onThm fun t => { t with sensors := upd (q.u8 0) (fun x => { x with trim := q.s16 2 }) t.sensors }) := by
  simp only [thermSensorTrimEffect, hsave, Bool.false_eq_true, if_false]

theorem thermSensorTrimEffect_saved (hsave : bit (q.u8 1) 0 = true) :
    thermSensorTrimEffect q s = .done .good (journal (.trim (q.u8 0) (q.s16 2))
      (s.onThm fun t => { t with sensors := upd (q.u8 0) (fun x => { x with trim := q.s16 2 }) t.sensors })) := by
  simp only [thermSensorTrimEffect, if_pos hsave]

/-! THERM_POWER_STATE (R377). -/

theorem thermPowerStateEffect_same (hsame : s.thm.power = Power.ofCode (q.u8 0)) :
    thermPowerStateEffect q s = .done (.good (toLe 1 (Power.ofCode (q.u8 0)).code ++ toLe 3 0 ++ toLe 4 0)) s :=
  if_pos (beq_iff_eq.2 hsame)

/-- P1 is entered at once. -/
theorem thermPowerStateEffect_p1 (hother : s.thm.power ≠ .p1) (htarget : Power.ofCode (q.u8 0) = .p1) :
    thermPowerStateEffect q s = .wait (enterPower q.id .p1 s.tb1
      ((hold q [.device] false s).onThm fun x => { x with going := some (q.id, .p1, s.tb1) })) := by
  simp only [thermPowerStateEffect, htarget, beq_eq_false_iff_ne.2 hother, BEq.rfl, Bool.false_eq_true, if_false, if_true]
  rfl

/-- For any other state the device's work ends first. -/
theorem thermPowerStateEffect_endsWork (hother : s.thm.power ≠ Power.ofCode (q.u8 0)) (htarget : Power.ofCode (q.u8 0) ≠ .p1) :
    thermPowerStateEffect q s = .wait (settlePower (endWork ((hold q [.device] false s).onThm fun x => { x with
      going := some (q.id, Power.ofCode (q.u8 0), s.tb1)
      wakeMask := if Power.ofCode (q.u8 0) == .p3 then q.u16 2 else x.wakeMask }))) := by
  simp only [thermPowerStateEffect, beq_eq_false_iff_ne.2 hother, beq_eq_false_iff_ne.2 htarget, Bool.false_eq_true, if_false]

/-! THERM_PMBUS (R381). -/

theorem thermPmbusEffect_newEntry (hop : q.u8 0 = 2) :
    thermPmbusEffect q s = .done (.good (List.replicate 8 0)) (s.onThm fun t => { t with
      rails := upd (q.u8 1) (fun _ => some { addr := q.u8 2, page := q.u8 3, rail := q.u8 4 }) t.rails }) :=
  if_pos hop

theorem thermPmbusEffect_transaction {r : Rail} (hop : q.u8 0 ≠ 2) (hrail : s.rail (q.u8 1) = some r) :
    thermPmbusEffect q s = .wait (pmbusWrite r (pmbusTransaction q)
      ((hold q [.pmb0] false s).onThm fun t => { t with pmbus := some (q.id, q.u8 0, q.u8 1, false) })) := by
  simp only [thermPmbusEffect, if_neg hop, hrail]

end

/-- Settles O21: each command's effect where it runs; a trim splits on SAVE, a power state on its target, a PMBus command on OP. -/
theorem thermCommandsComplete : Obligations.ThermCommandsComplete := by
  refine ⟨?levels, ?read, ?trim, ?trimSaved, ?powerSame, ?powerP1, ?power, ?pmbusEntry, ?pmbus, ?budget⟩
  case levels => exact fun q s₀ hruns => runCmd_runs hruns
  case read => exact fun q s₀ hruns => runCmd_runs hruns
  case trim => exact fun q s₀ hruns hsave => runCmd_answers hruns (thermSensorTrimEffect_unsaved hsave)
  case trimSaved => exact fun q s₀ hruns hsave => runCmd_answers hruns (thermSensorTrimEffect_saved hsave)
  case powerSame => exact fun q s₀ hruns hsame => runCmd_answers hruns (thermPowerStateEffect_same hsame)
  case powerP1 => exact fun q s₀ hruns hother htarget => runCmd_waits hruns (thermPowerStateEffect_p1 hother htarget)
  case power => exact fun q s₀ hruns hother htarget => runCmd_waits hruns (thermPowerStateEffect_endsWork hother htarget)
  case pmbusEntry => exact fun q s₀ hruns hop => runCmd_answers hruns (thermPmbusEffect_newEntry hop)
  case pmbus => exact fun q s₀ r hruns hop hrail => runCmd_waits hruns (thermPmbusEffect_transaction hop hrail)
  case budget => exact fun q s₀ hruns => runCmd_runs hruns

section
variable {dt : Nat} {s₀ s : State} (hs : advance dt s₀ = s)
include hs

/-! Samples, substitution, the shut-down's hold and the hardware trip (R366 to R373). -/

/-- The device samples every 1 ms, and every 100 us near a level. -/
theorem exec_thermalSample_due {raws : List (Option Int)} {interval : Nat} (hlen : raws.length = 16) (hawake : s.awake = true)
    (hinterval : (if decide (s.thm.levels.throttle - 96 ≤ s.thm.hottest) || decide (s.thm.levels.shutdown - 96 ≤ s.thm.hottest)
      then 100 else 1000) = interval)
    (hpassed : passed s s.thm.sampled interval 1000000 = true) :
    exec (.thermalSample dt raws) s₀ = .next (thermalSample raws s) := by
  change execThermalSample dt raws s₀ = _
  simp only [execThermalSample, hs, hlen, hawake, hinterval, hpassed, BEq.rfl, onUnit_true, Bool.and_self, if_true]

theorem exec_substitutionFloor_due {t : Int} (hsubst : s.thm.substSince = some t) (hawake : s.awake = true)
    (hfloor : s.thm.floor = 0) (hpassed : passed s t 60 1 = true) :
    exec (.substitutionFloor dt) s₀ = .next (setLevel (min 2 (s.thm.level + 1))
      (s.onThm fun t => { t with floor := min 2 (s.thm.level + 1) })) := by
  change execSubstitutionFloor dt s₀ = _
  simp only [execSubstitutionFloor, hs, hsubst, hawake, hfloor, hpassed, decide_true, Bool.and_self, if_true]

theorem exec_shutdownHoldEnd_due {t : Int} (hcool : s.thm.coolSince = some t) (hawake : s.awake = true) (hhold : s.thm.hold = true)
    (hpassed : passed s t 10 1 = true) : exec (.shutdownHoldEnd dt) s₀ = .next (endHold s) := by
  change execShutdownHoldEnd dt s₀ = _
  simp only [execShutdownHoldEnd, hs, hcool, hawake, hhold, hpassed, Bool.and_self, if_true]

/-- A sensor reads 120 degrees C or more (1920 sixteenths). -/
theorem exec_hardwareTrip_hot {temps : List Int} {unserviced : Bool} (hlen : temps.length = 16) (hpower : s.thm.power ≠ .p4)
    (hfirst : s.thm.tripped = false) (hhot : 1920 ≤ (temps.max?).getD 0) :
    exec (.hardwareTrip dt temps unserviced) s₀ = .next (hardwareTrip s) := by
  change execHardwareTrip dt temps unserviced s₀ = _
  simp only [execHardwareTrip, hs, hlen, bne_iff_ne.2 hpower, hfirst, hhot, BEq.rfl, onUnit_true, decide_true, Bool.not_false,
    Bool.true_or, Bool.and_self, if_true]

/-! Voltage scaling and the regulators' telemetry (R381, R382). -/

section
variable {target i : Nat} (hawake : s.awake = true) (hready : s.hif.ready = true) (hon : s.thm.avsOff = false)
  (hpassed : passed s s.thm.avsAt 1 1000 = true) (hcore : s.thm.rails.findIdx? (fun r => r.any (·.rail == 0)) = some i)
include hawake hready hon hpassed hcore

theorem exec_avsAdjust_unreached : exec (.avsAdjust dt target false) s₀ =
    .next (railLost i (pmbusUpset (pmbusUpset (s.onThm fun t => { t with avsAt := s.tb1 })))) := by
  change execAvsAdjust dt target false s₀ = _
  simp only [execAvsAdjust, hs, hawake, hready, hon, hpassed, hcore, Bool.not_true, Bool.not_false, Bool.or_self, Bool.false_eq_true,
    if_false, if_true]

/-- VDD_CORE moves towards what is asked for, within 0.72 V to 0.80 V and by 5 mV at most. -/
theorem exec_avsAdjust_moves {t : State} {r : Rail} {new : Nat}
    (ht : ((s.onThm fun t => { t with avsAt := s.tb1 }).onRail i fun r => { r with unreachable := false }) = t)
    (hnew : (if s.thm.vcore < min 8000 (max 7200 target) then min (min 8000 (max 7200 target)) (s.thm.vcore + 50)
      else max (min 8000 (max 7200 target)) (s.thm.vcore - 50)) = new)
    (hrail : t.rail i = some r) (hmoves : new ≠ s.thm.vcore) :
    exec (.avsAdjust dt target true) s₀ =
      .next (pmbusWrite r (toLe 1 0x21 ++ toLe 2 (new / 10)) (t.onThm fun t => { t with vcore := new })) := by
  change execAvsAdjust dt target true s₀ = _
  simp only [execAvsAdjust, hs, hawake, hready, hon, hpassed, hcore, State.onThm_thm, ht, hrail, hnew, if_neg hmoves, Bool.not_true,
    Bool.or_self, Bool.false_eq_true, if_false]

end

/-- A regulator that has not been polled yet. -/
theorem exec_pmbusPoll_first {index : Nat} {answer : Option RailAnswer} {r : Rail} (hindex : index < 16)
    (hrail : s.rail index = some r) (hawake : s.awake = true) (hready : s.hif.ready = true) (hfirst : r.polled = none) :
    exec (.pmbusPoll dt index answer) s₀ = .next (answer.elim
      (railLost index (pmbusUpset (pmbusUpset (s.onRail index fun r => { r with polled := some s.tb1 }))))
      fun a => railAnswer index a (s.onRail index fun r => { r with polled := some s.tb1 })) := by
  change execPmbusPoll dt index answer s₀ = _
  simp only [execPmbusPoll, hs, hindex, hrail, hawake, hready, hfirst, Option.all_none, decide_true, onUnit_true, Bool.not_true,
    Bool.or_self, Bool.false_eq_true, if_false]
  cases answer <;> rfl

/-! Supply faults (18 R456) and waking (R378). -/

theorem exec_powerSupervisorFault_on (hpower : s.thm.power ≠ .p4) :
    exec (.powerSupervisorFault dt) s₀ = .next ((deviceReset (.supply :: s.board.holds.filter (· != .supply)) 1 s).onThm
      fun t => { t with tripped := s.thm.tripped }) := by
  change execPowerSupervisorFault dt s₀ = _
  simp only [execPowerSupervisorFault, hs, supplyFault, beq_eq_false_iff_ne.2 hpower, Bool.false_eq_true, if_false]

theorem exec_powerSupervisorClear_held {porst : Bool} (hheld : s.board.holds.contains .supply = true) :
    exec (.powerSupervisorClear dt porst) s₀ = .next (s.onBoard fun b => { b with
      holds := if porst then b.holds.filter fun h => h != .supply && h != .porst
        else .porst :: b.holds.filter fun h => h != .supply && h != .porst }) := by
  change execPowerSupervisorClear dt porst s₀ = _
  simp only [execPowerSupervisorClear, hs, if_pos hheld]

variable (hasleep : s.thm.power = .p3)
include hasleep

theorem exec_wake_doorbell (hup : s.hif.pcieUp = true) : exec (.wake dt none) s₀ = .next (wakeUp s) := by
  change execWake dt none s₀ = _
  simp only [execWake, hs, hasleep, hup, Option.all_none, onUnit_true, bne_self_eq_false, Bool.false_eq_true, if_false, if_true]

theorem exec_wake_gpio {n : Nat} (hn : n < 16) (hmask : bit s.thm.wakeMask n = true) :
    exec (.wake dt (some n)) s₀ = .next (wakeUp (s.onBoard fun b => { b with gpioIn := b.gpioIn ^^^ 2 ^ n })) := by
  change execWake dt (some n) s₀ = _
  simp only [execWake, hs, hasleep, hn, State.onBoard_thm, hmask, Option.all_some, decide_true, onUnit_true, bne_self_eq_false,
    Bool.false_eq_true, if_false, if_true]

end

/-- Settles O36: sampling splits on the levels, voltage scaling and a poll on whether the regulator answers, waking on what wakes. The
VOUT_COMMAND code 0x21 of the voltage scaling's transaction is the model's (log 81). -/
theorem thermalRowsComplete : Obligations.ThermalRowsComplete := by
  refine ⟨?sampleFar, ?sampleNear, ?floor, ?holdEnd, ?trip, ?avsUnreached, ?avsMoves, ?pollAnswered, ?pollLost, ?supplyFault,
    ?supplyClear, ?wake, ?wakeGpio⟩
  case sampleFar =>
    intro dt raws s₀ s hlen hawake hpassed hthrottle hshutdown
    exact exec_thermalSample_due rfl hlen hawake
      (if_neg (by simpa only [Bool.or_eq_true, decide_eq_true_eq, not_or, Int.not_le] using And.intro hthrottle hshutdown)) hpassed
  case sampleNear =>
    intro dt raws s₀ s hlen hawake hpassed hnear
    exact exec_thermalSample_due rfl hlen hawake (if_pos (by simpa only [Bool.or_eq_true, decide_eq_true_eq] using hnear)) hpassed
  case floor => exact fun dt s₀ t => exec_substitutionFloor_due rfl
  case holdEnd => exact fun dt s₀ t => exec_shutdownHoldEnd_due rfl
  case trip => exact fun dt temps unserviced s₀ => exec_hardwareTrip_hot rfl
  case avsUnreached =>
    rintro dt target _ s₀ i s hawake hready hon hpassed hcore rfl
    exact exec_avsAdjust_unreached rfl hawake hready hon hpassed hcore
  case avsMoves =>
    rintro dt target _ s₀ i r s v new t hawake hready hon hpassed hcore rfl hrail hmoves
    exact exec_avsAdjust_moves rfl hawake hready hon hpassed hcore rfl rfl hrail hmoves
  case pollAnswered =>
    rintro dt index _ s₀ r a s hindex hrail hawake hready hfirst rfl
    exact exec_pmbusPoll_first rfl hindex hrail hawake hready hfirst
  case pollLost =>
    rintro dt index _ s₀ r s hindex hrail hawake hready hfirst rfl
    exact exec_pmbusPoll_first rfl hindex hrail hawake hready hfirst
  case supplyFault => exact fun dt s₀ => exec_powerSupervisorFault_on rfl
  case supplyClear => exact fun dt porst s₀ => exec_powerSupervisorClear_held rfl
  case wake =>
    rintro dt _ s₀ s rfl hasleep hup
    exact exec_wake_doorbell rfl hasleep hup
  case wakeGpio =>
    rintro dt _ s₀ n s rfl hn hasleep hmask
    exact exec_wake_gpio rfl hasleep hn hmask

end Sys2Proof.Machine
end

section
/-!
PROOFS. The rows of the courses and bridges: block lock, bring-up, time transfer, claims, management messages and a course's silence
(spec/11_course_links_and_queues.md, R287, R303, R306 to R309, R317, R318; spec/14, R375; spec/15, R394, R407; spec/17, R439, R443;
spec/19, R473).
-/
namespace Sys2Proof.Machine

/-- The temperatures held of a bar's heads are marked stale (14 R375). -/
def staleHeads (b : Nat) (s : State) : State :=
  (s.bar b).placed.foldl (fun s h => match ((s.bar b).place h).ctx with
    | some x => s.onCtx x fun x => { x with stale := true }
    | none => s) s

section
variable {dt : Nat} {s₀ s : State} (hs : advance dt s₀ = s)
include hs

/-! Block lock and the hunt for it (R287, R309, R473). -/

section
variable {lane : Nat}

theorem exec_blockLockLost_locked {t : State} (hlane : lane < 24) (hlock : (s.lane lane).lock = true)
    (ht : (s.onLane lane fun q => { q with
      lock := false, lostSince := some s.tb1, rxMseq := none, deskewed := false, slip := 0, slipSince := s.tb1 }) = t) :
    exec (.blockLockLost dt lane) s₀ = .next (checkLimit (post evLaneLockLost (unitLane lane) lane 0
      (if (t.lane lane).retired then t else lockLoss (unitLane lane) t))) := by
  change execBlockLockLost dt lane s₀ = _
  simp only [execBlockLockLost, hs, hlane, hlock, ht, decide_true, onUnit_true, Bool.not_true, Bool.false_eq_true, if_false]

section
variable (hlane : lane < 24) (hlock : (s.lane lane).lock = false)
include hlane hlock

theorem exec_blockLockGained_unlocked :
    exec (.blockLockGained dt lane) s₀ = .next (checkLimit (trainLook (linkOf lane)
      (s.onLane lane fun q => { q with lock := true, lostSince := none, down := false }))) := by
  change execBlockLockGained dt lane s₀ = _
  simp only [execBlockLockGained, hs, hlane, hlock, decide_true, onUnit_true, Bool.false_eq_true, if_false]

theorem exec_huntSlip_due (hpassed : passed s (s.lane lane).slipSince 39 1000000 = true) :
    exec (.huntSlip dt lane) s₀ = .next (s.onLane lane fun q => { q with slip := (q.slip + 1) % 66, slipSince := s.tb1 }) := by
  change execHuntSlip dt lane s₀ = _
  simp only [execHuntSlip, hs, hlane, hlock, hpassed, decide_true, onUnit_true, Bool.not_false, Bool.and_self, if_true]

end

/-- Only the lanes of courses, below 22, can leave a course without a lane. -/
theorem exec_laneDown_course {t : Int} (hlane : lane < 22) (hlost : (s.lane lane).lostSince = some t)
    (hlock : (s.lane lane).lock = false) (hup : (s.lane lane).down = false) (hpassed : passed s t 10 1000 = true) :
    exec (.laneDown dt lane) s₀ = .next (checkLimit (checkCourseDown (linkOf lane)
      (post evLaneDown (unitLane lane) lane 0 (s.onLane lane fun q => { q with down := true })))) := by
  have hlane24 : lane < 24 := by omega
  change execLaneDown dt lane s₀ = _
  simp only [execLaneDown, hs, hlane24, hlane, hlost, hlock, hup, hpassed, decide_true, onUnit_true, Bool.not_false, Bool.and_self, if_true]

theorem exec_prbsCheckerInput_lane {bits : List Bool} {t : State} (ht : sendPrbs lane bits.length s = t) (hlane : lane < 22) :
    exec (.prbsCheckerInput dt lane bits) s₀ = .next (t.onLane lane fun x => { x with
      prbs := x.prbs.map fun p => if p.chk then bits.foldl prbsBit p else p }) := by
  change execPrbsCheckerInput dt lane bits s₀ = _
  simp only [execPrbsCheckerInput, hs, ht, hlane, decide_true, onUnit_true]

end

/-! Bring-up (R308, R309). -/

section
variable {course : Nat}

theorem exec_courseRetrain_due (hcourse : course ≤ 10) (hwanted : (s.course course).wanted = true)
    (hdown : (s.course course).up = false) (htrain : (s.course course).train = none) (hprbs : (s.course course).prbs = false)
    (hpassed : passed s (s.course course).tried 100 1000 = true) (hpower : s.thm.power ≠ .p3) :
    exec (.courseRetrain dt course) s₀ = .next (startTrain course none false s) := by
  change execCourseRetrain dt course s₀ = _
  simp only [execCourseRetrain, hs, hcourse, hwanted, hdown, htrain, hprbs, hpassed, bne_iff_ne.2 hpower, decide_true, onUnit_true,
    Option.isNone_none, Bool.not_false, Bool.and_self, if_true]

/-- A step but that of the lanes fails the bring-up, which names the first usable lane that has not passed. -/
theorem exec_linkTrainTimeout_due {t : Train} (hcourse : course ≤ 10) (htrain : (s.course course).train = some t)
    (hpassed : passed s t.stepAt (trainBound (s.course course) t.step) 1000000000 = true) (hstep : t.step ≠ 2) :
    exec (.linkTrainTimeout dt course) s₀ = .next (failTrain course (Reply.errUnit .timeout 0x0195
      (unitLane ((([2 * course, 2 * course + 1].filter fun n => laneUsable n s && !rxOkLane n s).head?).getD (2 * course)))) s) := by
  change execLinkTrainTimeout dt course s₀ = _
  simp only [execLinkTrainTimeout, trainTimeout, hs, hcourse, htrain, hpassed, if_neg hstep, decide_true, onUnit_true, Bool.not_true,
    Bool.false_eq_true, if_false]

/-! Time transfer (R303; 15 R394). -/

theorem exec_timeSyncSend_course (hcourse : course < 10) (hversion : (s.course course).run.version = 2)
    (hup : (s.course course).up = true)
    (hpassed : passed s (s.course course).syncSince (s.course course).cfg.timeInterval 1000000 = true) :
    exec (.timeSyncSend dt course) s₀ = .next (sendTimeSync course s) := by
  have hnotPair : ¬ course = 10 := by omega
  change execTimeSyncSend dt course s₀ = _
  simp only [execTimeSyncSend, hs, Nat.le_of_lt hcourse, hnotPair, hversion, hup, hpassed, decide_true, onUnit_true, Bool.true_or,
    Bool.and_self, if_false, if_true]

theorem exec_timeSyncSend_pair (hcourse : course = 10) (hmirrors : s.mirrors = true) (hup : (s.course course).up = true)
    (hpassed : passed s (s.course course).syncSince (s.course course).cfg.timeInterval 1000000 = true) :
    exec (.timeSyncSend dt course) s₀ = .next (pairTimeSync s) := by
  subst hcourse
  change execTimeSyncSend dt 10 s₀ = _
  simp only [execTimeSyncSend, hs, hmirrors, hup, hpassed, Nat.le_refl, decide_true, onUnit_true, Bool.and_self, if_true]

/-! What a bridge sends: its HELLO, echoes, claims and management replies (R303, R306, R308; 17 R439). -/

section
variable (hcourse : course < 10)
include hcourse

theorem exec_timeEcho_course {syncId turn : Nat} {offset : Int} :
    exec (.timeEcho dt course syncId turn offset) s₀ = .next (takeEcho course syncId turn s) := by
  change execTimeEcho dt course syncId turn offset s₀ = _
  simp only [execTimeEcho, hs, hcourse, decide_true, onUnit_true]

theorem exec_bridgeHello_course {bytes : List Byte} : exec (.bridgeHello dt course bytes) s₀ = .next (takeHello course bytes s) := by
  change execBridgeHello dt course bytes s₀ = _
  simp only [execBridgeHello, hs, hcourse, decide_true, onUnit_true]

theorem exec_bridgeStatus_course {bytes : List Byte} : exec (.bridgeStatus dt course bytes) s₀ = .next (takeStatus course bytes s) := by
  change execBridgeStatus dt course bytes s₀ = _
  simp only [execBridgeStatus, hs, hcourse, decide_true, onUnit_true]

theorem exec_ownerChanged_other {epoch owner : Nat} (hopen : (s.course course).open = true) (howner : owner ≠ Config.uid) :
    exec (.ownerChanged dt course epoch owner) s₀ = .next (post evCourseClaimedAway (unitCourse course) course epoch
      (s.onCourse course fun c => { c with owner, epoch, owned := false, claim := none, prio := [] })) := by
  change execOwnerChanged dt course epoch owner s₀ = _
  simp only [execOwnerChanged, hs, hcourse, hopen, howner, decide_true, decide_false, onUnit_true, Bool.not_true, Bool.or_self,
    Bool.false_eq_true, if_false]

section
variable {w : ClaimWait} (hclaim : (s.course course).claim = some w)
include hclaim

section
variable {bytes : List Byte} (hepoch : rd bytes 0 4 = w.epoch)
include hepoch

theorem exec_claimAck_accepted (haccepted : rd bytes 4 1 = 0) :
    exec (.claimAck dt course bytes) s₀ = .next (takeCourse course w (rowEntries (rd bytes 6 2) (bytes.drop 8)) s) := by
  change execClaimAck dt course bytes s₀ = _
  simp only [execClaimAck, takeClaimAck, hs, hcourse, hclaim, hepoch, haccepted, decide_true, onUnit_true, ne_eq, not_true, if_false]

/-- R405: a claim that is refused is made once more, its epoch 16 higher. -/
theorem exec_claimAck_refused (hrefused : rd bytes 4 1 = 1) (htrain : (s.course course).train = none) (hfirst : w.again = false)
    (hplanned : w.planned = false) :
    exec (.claimAck dt course bytes) s₀ = .next (sendClaim course (w.epoch + 16) none true s) := by
  change execClaimAck dt course bytes s₀ = _
  simp only [execClaimAck, takeClaimAck, hs, hcourse, hclaim, hepoch, hrefused, htrain, hfirst, hplanned, decide_true, onUnit_true,
    ne_eq, not_true, Option.isSome_none, Bool.false_eq_true, if_false]

end

theorem exec_claimAckTimeout_due (htrain : (s.course course).train = none) (hpassed : passed s w.since 200 1000000 = true) :
    exec (.claimAckTimeout dt course) s₀ = .next (post evCourseDown (unitCourse course) course 0
      (s.onCourse course fun c => { c with claim := none, up := false, wanted := true, owned := false, tried := s.tb1 })) := by
  change execClaimAckTimeout dt course s₀ = _
  simp only [execClaimAckTimeout, hs, hcourse, hclaim, htrain, hpassed, Option.isNone_none, decide_true, onUnit_true, Bool.and_self, if_true]

end

/-- The reply, with bit 7 of its OP set, to a request of the device's own. -/
theorem exec_mgmtReply_record {bytes : List Byte} {w : MgmtWait}
    (hasked : (s.course course).mgmt.find? (fun w => w.mid == rd bytes 2 2) = some w) (hreply : bit (rd bytes 0 1) 7 = true)
    (hkind : w.kind ≠ 0) :
    exec (.mgmtReply dt course bytes) s₀ = .next (partRead course w bytes
      (s.onCourse course fun c => { c with mgmt := c.mgmt.filter (· != w) })) := by
  change execMgmtReply dt course bytes s₀ = _
  simp only [execMgmtReply, takeMgmt, hs, hcourse, hasked, hreply, if_neg hkind, decide_true, onUnit_true, Bool.not_true,
    Bool.false_eq_true, if_false]

/-- A HEAD_BRIDGE_MGMT whose reply has not come in 1 ms. -/
theorem exec_mgmtReplyTimeout_command {w : MgmtWait} {ws : List MgmtWait} (holdest : (s.course course).mgmt = w :: ws)
    (hpassed : passed s w.since 1 1000 = true) (hkind : w.kind = 0) :
    exec (.mgmtReplyTimeout dt course) s₀ = .next (finish w.cmd (Reply.err .timeout 0x0207)
      (s.onCourse course fun c => { c with mgmt := c.mgmt.filter (· != w) })) := by
  change execMgmtReplyTimeout dt course s₀ = _
  simp only [execMgmtReplyTimeout, hs, hcourse, holdest, hpassed, hkind, decide_true, onUnit_true, if_true]

/-! A course's silence (14 R375). -/

section
variable (hup : (s.course course).up = true) (howned : (s.course course).owned = true)
include hup howned

/-- After 5 ms the temperatures of the bar's heads are stale. -/
theorem exec_headTempStale_due (hsilent : (s.course course).silent = 0)
    (hpassed : passed s (s.course course).heardAt 5 1000 = true) :
    exec (.headTempStale dt course) s₀ = .next (post evHeadTempStale (unitCourse course) course 1
      ((staleHeads course s).onCourse course fun c => { c with silent := 1 })) := by
  change execHeadTempStale dt course s₀ = _
  simp only [execHeadTempStale, hs, hcourse, hup, howned, hsilent, hpassed, decide_true, onUnit_true, Bool.and_self, if_true]
  rfl

/-- After 100 ms the heads of a bar in print are halted. -/
theorem exec_barSilenceHalt_due (hsilent : (s.course course).silent = 1) (hprint : s.inPrint course = true)
    (hpassed : passed s (s.course course).heardAt 100 1000 = true) :
    exec (.barSilenceHalt dt course) s₀ = .next (post evHeadTempStale (unitCourse course) course 2
      ((((s.bar course).placed.filterMap fun h => ((s.bar course).place h).ctx).foldl (fun s c => haltHead c s) s).onCourse course
        fun c => { c with silent := 2 })) := by
  change execBarSilenceHalt dt course s₀ = _
  simp only [execBarSilenceHalt, hs, hcourse, hup, howned, hsilent, hprint, hpassed, decide_true, onUnit_true, Bool.and_self, if_true]

end

end

end

end

/-- Settles O33: a claim's answer splits on accepted and refused, time transfer on courses and the pair link; every other row acts where
its condition holds. -/
theorem courseRowsComplete : Obligations.CourseRowsComplete := by
  refine ⟨?lockLost, ?lockGained, ?hunt, ?laneDown, ?retrain, ?sync, ?syncPair, ?echo, ?hello, ?claimed, ?claimAgain, ?claimTimeout,
    ?owner, ?status, ?mgmt, ?mgmtTimeout, ?stale, ?halt, ?trainTimeout, ?prbs⟩
  case lockLost => exact fun dt lane s₀ hlane hlock => exec_blockLockLost_locked rfl hlane hlock rfl
  case lockGained => exact fun dt lane s₀ => exec_blockLockGained_unlocked rfl
  case hunt => exact fun dt lane s₀ => exec_huntSlip_due rfl
  case laneDown => exact fun dt lane s₀ t => exec_laneDown_course rfl
  case retrain => exact fun dt course s₀ => exec_courseRetrain_due rfl
  case sync => exact fun dt course s₀ => exec_timeSyncSend_course rfl
  case syncPair => exact fun dt course s₀ => exec_timeSyncSend_pair rfl
  case echo => exact fun dt course syncId turn offset s₀ t hcourse _ _ => exec_timeEcho_course rfl hcourse
  case hello => exact fun dt course bytes s₀ hcourse _ => exec_bridgeHello_course rfl hcourse
  case claimed => exact fun dt course bytes s₀ w hcourse hclaim => exec_claimAck_accepted rfl hcourse hclaim
  case claimAgain => exact fun dt course bytes s₀ w hcourse hclaim => exec_claimAck_refused rfl hcourse hclaim
  case claimTimeout => exact fun dt course s₀ w hcourse hclaim => exec_claimAckTimeout_due rfl hcourse hclaim
  case owner => exact fun dt course epoch owner s₀ hcourse => exec_ownerChanged_other rfl hcourse
  case status => exact fun dt course bytes s₀ hcourse _ => exec_bridgeStatus_course rfl hcourse
  case mgmt => exact fun dt course bytes s₀ w hcourse => exec_mgmtReply_record rfl hcourse
  case mgmtTimeout => exact fun dt course s₀ w ws hcourse => exec_mgmtReplyTimeout_command rfl hcourse
  case stale => exact fun dt course s₀ hcourse hup howned => exec_headTempStale_due rfl hcourse hup howned
  case halt => exact fun dt bar s₀ hcourse hup howned => exec_barSilenceHalt_due rfl hcourse hup howned
  case trainTimeout => exact fun dt course s₀ t => exec_linkTrainTimeout_due rfl
  case prbs => exact fun dt lane bits s₀ => exec_prbsCheckerInput_lane rfl rfl

end Sys2Proof.Machine
end

section
/-!
PROOFS. The STAT commands (spec/16_status_statistics_events.md, R420 to R428, R477).
-/
namespace Sys2Proof.Machine

section
variable {q : Cmd} {s : State}

/-! STAT_FRAME_RECORD (R425, R428): the records held, from the oldest `o` to the newest `r`. -/

theorem statFrameRecordEffect_held {r o : Record} {rs : List Record} (hnewest : s.stat.records = r :: rs)
    (holdest : s.stat.records.getLast? = some o) {first n : Nat} (hspan : readSpan (q.u32 0) (q.u16 4) o.seq r.seq = (first, n))
    {got : List Record} (hgot : (s.stat.records.filter fun x => decide (first ≤ x.seq) && decide (x.seq < first + n)).reverse = got) :
    statFrameRecordEffect q s = .done (.withExt (toLe 2 n ++ toLe 2 0 ++ toLe 4 first ++ toLe 4 r.seq) (q.u64 8)
        (if q.src.isSome then window (q.u16 6) (got.flatMap encRecord)
         else ((got.map encRecord).intersperse (List.replicate 56 0)).flatten))
      (s.onStat fun t => { t with readUpTo := max t.readUpTo (first + n) }) := by
  unfold statFrameRecordEffect
  split
  next r' rs' o' hnewest' holdest' =>
    obtain ⟨rfl, rfl⟩ := List.cons.inj (hnewest.symm.trans hnewest')
    obtain rfl := Option.some.inj (holdest.symm.trans holdest')
    simp only [hspan, hgot]
  next hnone => exact absurd holdest (hnone r rs o hnewest)

theorem statFrameRecordEffect_none (hnone : s.stat.records = []) :
    statFrameRecordEffect q s =
      .done (.good (toLe 2 0 ++ toLe 2 0 ++ toLe 4 s.stat.recSeq ++ toLe 4 ((s.stat.recSeq + (2 ^ 32 - 1)) % 2 ^ 32))) s := by
  simp only [statFrameRecordEffect, hnone]

/-! STAT_COUNTERS (R426, R428). -/

theorem statCountersEffect_clears (hclear : bit (q.u8 0) 0 = true) :
    statCountersEffect q s = .done (.withExt [] (q.u64 8)
        (if q.src.isSome then window (q.u16 2) (encRecord s.cumulative) else encRecord s.cumulative))
      (s.onStat fun t => { t with cumul := clearedCumul s }) := by
  simp only [statCountersEffect, if_pos hclear]

theorem statCountersEffect_keeps (hkeep : bit (q.u8 0) 0 = false) :
    statCountersEffect q s = .done (.withExt [] (q.u64 8)
      (if q.src.isSome then window (q.u16 2) (encRecord s.cumulative) else encRecord s.cumulative)) s := by
  simp only [statCountersEffect, hkeep, Bool.false_eq_true, if_false]

/-! STAT_EVENT_FETCH (R420, R428). -/

theorem statEventFetchEffect_none (hnone : s.stat.history = []) :
    statEventFetchEffect q s =
      .done (.good (toLe 2 0 ++ toLe 2 0 ++ toLe 4 s.stat.hseq ++ toLe 4 ((s.stat.hseq + (2 ^ 32 - 1)) % 2 ^ 32))) s :=
  if_pos (List.isEmpty_iff.2 hnone)

theorem statEventFetchEffect_held (hheld : s.stat.history ≠ []) {first n : Nat}
    (hspan : readSpan (q.u32 0) (q.u16 4) s.oldestHseq (s.stat.hseq - 1) = (first, n)) :
    statEventFetchEffect q s = .done (.withExt (toLe 2 n ++ toLe 2 0 ++ toLe 4 first ++ toLe 4 (s.stat.hseq - 1)) (q.u64 8)
      (((s.stat.history.reverse.drop (first - s.oldestHseq)).take n).flatMap (encEvent false))) s := by
  simp only [statEventFetchEffect, List.isEmpty_eq_false_iff.2 hheld, hspan, Bool.false_eq_true, if_false]

end

/-- Settles O23: each command's effect where it runs; a read splits on whether anything is held, the counters on CLEAR. -/
theorem statCommandsComplete : Obligations.StatCommandsComplete := by
  refine ⟨?record, ?recordNone, ?countersClear, ?counters, ?clear, ?mask, ?eventsNone, ?events, ?peaks⟩
  case record =>
    exact fun q s₀ r o rs hruns hnewest holdest => runCmd_answers hruns (statFrameRecordEffect_held hnewest holdest rfl rfl)
  case recordNone => exact fun q s₀ hruns hnone => runCmd_answers hruns (statFrameRecordEffect_none hnone)
  case countersClear => exact fun q s₀ hruns hclear => runCmd_answers hruns (statCountersEffect_clears hclear)
  case counters => exact fun q s₀ hruns hkeep => runCmd_answers hruns (statCountersEffect_keeps hkeep)
  case clear => exact fun q s₀ hruns => runCmd_runs hruns
  case mask => exact fun q s₀ hruns => runCmd_runs hruns
  case eventsNone => exact fun q s₀ hruns hnone => runCmd_answers hruns (statEventFetchEffect_none hnone)
  case events => exact fun q s₀ hruns hheld => runCmd_answers hruns (statEventFetchEffect_held hheld rfl)
  case peaks => exact fun q s₀ hruns => runCmd_runs hruns

end Sys2Proof.Machine
end

section
/-!
PROOFS. The PAIR commands (spec/15_redundancy_and_upgrade.md, R399, R402, R408, R409, R412, R414).
-/
namespace Sys2Proof.Machine

/-- What PAIR_CONFIG writes: the pair's settings, and those of the pair link as a course that always runs version 2. -/
def configuredPair (enable : Bool) (q : Cmd) (s : State) : State :=
  (s.onPair fun p => { p with
    enable, prefer := bit (q.u8 0) 1, autoJoin := bit (q.u8 0) 2, refSpeed := q.u32 4, peerUid := q.u64 8 }).onCourse 10
      fun c => { c with cfg := { c.cfg with enable, rate := q.u8 1, lanes := 3, version := 2 } }

/-- PAIR_REJOIN has been taken: the yield line is given back and the device is LINKING, for the time that the command allows. -/
def rejoiningPair (q : Cmd) (s : State) : State :=
  let t := setAbortable q.id true (drivePairYield false s)
  setPair .linking (t.onPair fun p => { p with rejoin := some (q.id, t.tb1 + secT (orDefault (q.u32 0) 600)) })

section
variable {q : Cmd} {s t : State}

/-! PAIR_CONFIG (R412, R414). That switching the pair off releases PAIR_YIELD_N is the model's choice (log 79). -/

section
variable (hon : bit (q.u8 0) 0 = true) (ht : configuredPair true q s = t)
include hon ht

theorem pairConfigEffect_alreadyOn (hst : t.pair.st ≠ .off) : pairConfigEffect q s = .done .good t := by
  subst ht
  unfold pairConfigEffect
  rw [hon]
  exact if_pos (bne_iff_ne.2 hst)

/-- Only a command replayed at boot can leave the pair DETACHED (R409). -/
theorem pairConfigEffect_on (hst : t.pair.st = .off) (hring : q.ring ≠ ringReplay) :
    pairConfigEffect q s = .done .good (setPair .linking (trainPair t)) := by
  subst ht
  have hnotOn : (((configuredPair true q s).pair.st != .off) = true) → False := fun h => bne_iff_ne.1 h hst
  unfold pairConfigEffect
  rw [hon]
  refine (if_neg hnotOn).trans ?_
  simp only [hring, decide_false, Bool.false_and, Bool.false_eq_true, if_false]
  rfl

end

theorem pairConfigEffect_off (hoff : bit (q.u8 0) 0 = false)
    (ht : (configuredPair false q s).onCourse 10 (fun c => { c with up := false, wanted := false, train := none }) = t) :
    pairConfigEffect q s = .done .good (orderFloor (drivePairYield false
      (setPair .off (t.onPair fun p => { p with peer := none, peerState := .off, beatSeen := none, beatLost := false })))) := by
  subst ht
  simp only [pairConfigEffect, hoff, Bool.false_eq_true, if_false]
  rfl

/-! PAIR_MIRROR (R399). -/

theorem pairMirrorEffect_policy (hop : q.u8 0 = 0)
    (ht : (s.onPair fun p => { p with auto := bit (q.u8 1) 0, mirrorRate := orDefault (q.u16 2) 4000 }) = t) :
    pairMirrorEffect q s = .done (.good (mirrorResult t)) t := by
  simp only [pairMirrorEffect, hop, ht]

theorem pairMirrorEffect_job (hop : q.u8 0 = 1) :
    pairMirrorEffect q s = .done (.good (mirrorResult (mirrorJob (q.u32 4) s))) (mirrorJob (q.u32 4) s) := by
  simp only [pairMirrorEffect, hop]

theorem pairMirrorEffect_status (hop : 2 ≤ q.u8 0) : pairMirrorEffect q s = .done (.good (mirrorResult s)) s := by
  obtain ⟨n, hn⟩ := Nat.exists_eq_add_of_le' hop
  simp only [pairMirrorEffect, hn]

/-! PAIR_REJOIN (R409, R412); log 79 as above. -/

section
variable (ht : rejoiningPair q s = t)
include ht

theorem pairRejoinEffect_linkUp (hup : (t.course 10).up = true) : pairRejoinEffect q s = .wait (sendPairHello t) := by
  subst ht
  exact congrArg Ans.wait (if_pos hup)

theorem pairRejoinEffect_linkDown (hdown : (t.course 10).up = false) (htrain : (t.course 10).train = none) :
    pairRejoinEffect q s = .wait (trainPair t) := by
  subst ht
  have hnotUp : ¬ ((rejoiningPair q s).course 10).up = true := Bool.eq_false_iff.1 hdown
  have hidle : ¬ ((rejoiningPair q s).course 10).train.isSome = true := Option.not_isSome_iff_eq_none.2 htrain
  exact congrArg Ans.wait ((if_neg hnotUp).trans (if_neg hidle))

end

end

/-- Settles O22: PAIR_CONFIG splits on enabling and on the pair's state, PAIR_MIRROR on its operation and PAIR_REJOIN on the pair link;
the others have one effect each. That PAIR_YIELD_N is released is the model's choice (log 79). -/
theorem pairCommandsComplete : Obligations.PairCommandsComplete := by
  refine ⟨?alreadyOn, ?on, ?off, ?health, ?handover, ?mirrorPolicy, ?mirrorOne, ?mirrorStatus, ?status, ?rejoinUp, ?rejoinDown⟩
  case alreadyOn => exact fun q s₀ hruns hon hst => runCmd_answers hruns (pairConfigEffect_alreadyOn hon rfl hst)
  case on => exact fun q s₀ hruns hon hst hring => runCmd_answers hruns (pairConfigEffect_on hon rfl hst hring)
  case off => exact fun q s₀ hruns hoff => runCmd_answers hruns (pairConfigEffect_off hoff rfl)
  case health => exact fun q s₀ hruns => runCmd_runs hruns
  case handover => exact fun q s₀ hruns => runCmd_waits hruns rfl
  case mirrorPolicy => exact fun q s₀ hruns hop => runCmd_answers hruns (pairMirrorEffect_policy hop rfl)
  case mirrorOne => exact fun q s₀ hruns hop => runCmd_answers hruns (pairMirrorEffect_job hop)
  case mirrorStatus => exact fun q s₀ hruns hop => runCmd_answers hruns (pairMirrorEffect_status hop)
  case status => exact fun q s₀ hruns => runCmd_runs hruns
  case rejoinUp => exact fun q s₀ hruns hup => runCmd_waits hruns (pairRejoinEffect_linkUp rfl hup)
  case rejoinDown => exact fun q s₀ hruns hdown htrain => runCmd_waits hruns (pairRejoinEffect_linkDown rfl hdown htrain)

end Sys2Proof.Machine
end

section
/-!
PROOFS. The heartbeats and wires of a pair, and its time (spec/15_redundancy_and_upgrade.md, R387, R388, R392, R394, R403, R404).
-/
namespace Sys2Proof.Machine

/-- A heartbeat goes out on every pair lane that is in lock and not retired. -/
def sendBeats (s : State) : State :=
  let arg := s.pair.beat + 65536 * s.pair.st.code + 16777216 * s.beatFlags
  [20, 21].foldl (fun t n =>
    if (t.lane n).lock && !(t.lane n).retired then sendBlock n { hdr := 2, bytes := linkBlock 0x31 arg } t else t) s

section
variable {dt : Nat} {s₀ s t : State} (hs : advance dt s₀ = s)
include hs

/-! Heartbeats (R388). -/

theorem exec_heartbeatSend_due (henable : s.pair.enable = true) (hready : s.hif.ready = true) (hp3 : s.thm.power ≠ .p3)
    (hp4 : s.thm.power ≠ .p4) (hpassed : passed s s.pair.beatSent 10 1000000 = true) (ht : sendBeats s = t) :
    exec (.heartbeatSend dt) s₀ = .next (t.onPair fun p => { p with beat := (p.beat + 1) % 65536, beatSent := t.tb1 }) := by
  subst ht
  change execHeartbeatSend dt s₀ = _
  simp only [execHeartbeatSend, hs, henable, hready, bne_iff_ne.2 hp3, bne_iff_ne.2 hp4, hpassed, Bool.and_self, if_true]
  rfl

theorem exec_heartbeatReceive_pairLane {lane beat st flags : Nat} {x : PairState} (ht : bump (ctr 13 0 4) (missedBeats s) s = t)
    (hlane : lane = 20 ∨ lane = 21) (hbeat : beat < 65536) (henable : s.pair.enable = true) (hst : PairState.ofCode st = some x) :
    exec (.heartbeatReceive dt lane beat st flags) s₀ = .next (learnPeer x (t.onPair fun p => { p with
      beatSeen := some t.tb1, beatLost := false, downPosted := false, peerFlags := flags })) := by
  change execHeartbeatReceive dt lane beat st flags s₀ = _
  simp only [execHeartbeatReceive, hs, ht, hlane, hbeat, henable, hst, decide_true, onUnit_true, Bool.and_self, Bool.not_true,
    Bool.false_eq_true, if_false]

section
variable {b : Int} (hseen : s.pair.beatSeen = some b) (hfirst : s.pair.beatLost = false) (hpassed : passed s b 52 1000000 = true)
  (ht : (s.onPair fun p => { p with beatLost := true }) = t)
include hseen hfirst hpassed ht

/-- A standby takes over when the peer's alive pin has fallen too (R404). -/
theorem exec_heartbeatLoss_takesOver (hst : t.pair.st = .standby) (hdead : t.pair.peerAlive = false) :
    exec (.heartbeatLoss dt) s₀ = .next (takeover 2 t) := by
  change execHeartbeatLoss dt s₀ = _
  simp only [execHeartbeatLoss, hs, hseen, hfirst, hpassed, ht, hst, hdead, BEq.rfl, Bool.not_true, Bool.or_self, Bool.false_eq_true,
    if_false, if_true]

theorem exec_heartbeatLoss_standsAlone (hst : t.pair.st ≠ .standby) : exec (.heartbeatLoss dt) s₀ = .next (standAlone t) := by
  change execHeartbeatLoss dt s₀ = _
  simp only [execHeartbeatLoss, hs, hseen, hfirst, hpassed, ht, beq_eq_false_iff_ne.2 hst, Bool.not_true, Bool.or_self,
    Bool.false_eq_true, if_false]

end

/-! The wires (R387, R404). -/

section
variable (ht : (s.onPair fun p => { p with peerAlive := false }) = t) (hst : t.pair.st = .standby)
include ht hst

theorem exec_peerAliveFall_takesOver (hlost : t.pair.beatLost = true) : exec (.peerAliveFall dt) s₀ = .next (takeover 2 t) := by
  change execPeerAliveFall dt s₀ = _
  simp only [execPeerAliveFall, hs, ht, hst, hlost, bne_self_eq_false, Bool.false_eq_true, if_false, if_true]

theorem exec_peerAliveFall_linkDown (hbeats : t.pair.beatLost = false) : exec (.peerAliveFall dt) s₀ = .next (linkDown 2 t) := by
  change execPeerAliveFall dt s₀ = _
  simp only [execPeerAliveFall, hs, ht, hst, hbeats, bne_self_eq_false, Bool.false_eq_true, if_false]

end

theorem exec_peerAliveRise : exec (.peerAliveRise dt) s₀ = .next (s.onPair fun p => { p with peerAlive := true }) := by
  subst hs
  rfl

theorem exec_pairYieldNLow_standby (ht : (s.onPair fun p => { p with yieldIn := true }) = t) (hst : t.pair.st = .standby) :
    exec (.pairYieldNLow dt) s₀ = .next (takeover 1 t) := by
  change execPairYieldNLow dt s₀ = _
  simp only [execPairYieldNLow, hs, ht, hst, BEq.rfl, if_true]

/-- A device that is standby, detached or off lets go of the shared line, which returns high (log 79). -/
theorem exec_pairYieldNRelease_released (ht : drivePairYield false s = t)
    (hst : s.pair.st = .standby ∨ s.pair.st = .detached ∨ s.pair.st = .off) (hreleased : t.pair.yieldOut = false) :
    exec (.pairYieldNRelease dt) s₀ = .next (t.onPair fun p => { p with yieldIn := false }) := by
  have hreleases : (s.pair.st == .standby || s.pair.st == .detached || s.pair.st == .off) = true := by
    simpa only [Bool.or_eq_true, beq_iff_eq, or_assoc] using hst
  change execPairYieldNRelease dt s₀ = _
  simp only [execPairYieldNRelease, hs, hreleases, ht, hreleased, Bool.false_eq_true, if_false, if_true]

/-- Criterion 5: the web channel has been still for 10 ms while the standby's moves; its operands are the model's (log 37). -/
theorem exec_yieldCriterionTimer_webDead {peerUp : Nat} {peerMoves : Bool} {r : Run}
    (ht : (s.onPair fun p => { p with webDead := some (p.webDead.getD s.tb1) }) = t) (hst : s.pair.st = .active)
    (heligible : bit s.pair.peerFlags 2 = true) (hstill : s.webStill = true) (hmoves : peerMoves = true) (hrun : s.fire.run = some r)
    (hcourses : (List.range 10).any (fun l => bit r.bars l && !(t.course l).up && bit peerUp l && passed t (t.course l).tried 1 1000) = false)
    (hpassed : passed t (s.pair.webDead.getD s.tb1) 10 1000 = true) :
    exec (.yieldCriterionTimer dt peerUp peerMoves) s₀ = .next (yieldPair 0x05 t) := by
  have hrunT : t.fire.run = some r := by
    subst ht
    exact hrun
  have hdead : t.pair.webDead = some (s.pair.webDead.getD s.tb1) := by
    subst ht
    rfl
  change execYieldCriterionTimer dt peerUp peerMoves s₀ = _
  simp only [execYieldCriterionTimer, hs, hst, heligible, hstill, hmoves, hrun, ht, hrunT, hcourses, hdead, hpassed, bne_self_eq_false,
    Option.isSome_some, Option.any_some, Bool.not_true, Bool.and_self, Bool.or_self, Bool.false_eq_true, if_false, if_true]

/-! Packets of the peer: its yield, HELLO and time (R392, R394, R404). -/

section
variable (ht : heardPair s = t)
include ht

theorem exec_yieldReceive_standby {code : Nat} (hst : t.pair.st = .standby) (hcode : code < 256) :
    exec (.yieldReceive dt code) s₀ = .next (takeover 1 t) := by
  change execYieldReceive dt code s₀ = _
  simp only [execYieldReceive, hs, ht, hst, hcode, BEq.rfl, decide_true, Bool.and_self, if_true]

theorem exec_pairHello_linkUp {peer : Peer} {authentic : Bool} (hst : t.pair.st ≠ .off) (hup : (t.course 10).up = true) :
    exec (.pairHello dt peer authentic) s₀ = .next (judgeHello peer authentic (if t.pair.judged then sendPairHello t else t)) := by
  change execPairHello dt peer authentic s₀ = _
  simp only [execPairHello, hs, ht, beq_eq_false_iff_ne.2 hst, hup, Bool.not_true, Bool.or_self, Bool.false_eq_true, if_false]

theorem exec_ptimeSync_copies {t1 delay adj : Int} {valid : Bool} {syncId : Nat} (hcopies : t.copies = true) :
    exec (.ptimeSync dt t1 delay valid syncId adj) s₀ = .next (takePtime t1 delay valid syncId adj t) := by
  change execPtimeSync dt t1 delay valid syncId adj s₀ = _
  simp only [execPtimeSync, hs, ht, hcopies, if_true]

/-- The echo of the exchange that is open gives the pair link's delay. -/
theorem exec_ptimeEcho_open {syncId turn : Nat} {offset t1 : Int} {x : List Int × Int × Option Int}
    (hx : timeExchange ((t.tb3 - t1) - turn) (t.course 10).rtts = x) (hopen : (t.course 10).t1 = some (t1, syncId))
    (hleads : t.pair.st.leads = true) :
    exec (.ptimeEcho dt syncId turn offset) s₀ = .next ((t.onCourse 10 fun c => { c with
      t1 := none, rtts := x.1, delay := sar (x.2.1 + 1) 1, delayValid := decide (2 ≤ x.1.length) }).onPair
        fun p => { p with tb3Offset := offset }) := by
  change execPtimeEcho dt syncId turn offset s₀ = _
  simp only [execPtimeEcho, hs, ht, hx, hopen, hleads, ne_eq, not_true, decide_false, Bool.not_true, Bool.or_self, Bool.false_eq_true,
    if_false]

end

end

/-- Settles O38: a lost heartbeat and a fallen alive pin split on what the other of the two says; every other row acts where its
condition holds. The operands of the yield criteria are the model's (log 37), as is the release of PAIR_YIELD_N (log 79). -/
theorem pairWireRowsComplete : Obligations.PairWireRowsComplete := by
  refine ⟨?beatSend, ?beatReceive, ?lossTakeover, ?lossAlone, ?fallTakeover, ?fallDown, ?rise, ?yieldLow, ?yieldRelease, ?yieldReceive,
    ?criterion, ?hello, ?sync, ?echo⟩
  case beatSend => exact fun dt s₀ henable hready hp3 hp4 hpassed => exec_heartbeatSend_due rfl henable hready hp3 hp4 hpassed rfl
  case beatReceive => exact fun dt lane beat st flags s₀ x => exec_heartbeatReceive_pairLane rfl rfl
  case lossTakeover => exact fun dt s₀ b hseen hfirst hpassed => exec_heartbeatLoss_takesOver rfl hseen hfirst hpassed rfl
  case lossAlone => exact fun dt s₀ b hseen hfirst hpassed => exec_heartbeatLoss_standsAlone rfl hseen hfirst hpassed rfl
  case fallTakeover => exact fun dt s₀ => exec_peerAliveFall_takesOver rfl rfl
  case fallDown => exact fun dt s₀ => exec_peerAliveFall_linkDown rfl rfl
  case rise => exact fun dt s₀ => exec_peerAliveRise rfl
  case yieldLow => exact fun dt s₀ => exec_pairYieldNLow_standby rfl rfl
  case yieldRelease => exact fun dt s₀ => exec_pairYieldNRelease_released rfl rfl
  case yieldReceive => exact fun dt code s₀ => exec_yieldReceive_standby rfl rfl
  case criterion => exact fun dt peerUp peerMoves s₀ r => exec_yieldCriterionTimer_webDead rfl rfl
  case hello => exact fun dt peer authentic s₀ => exec_pairHello_linkUp rfl rfl
  case sync => exact fun dt t1 delay valid syncId adj s₀ => exec_ptimeSync_copies rfl rfl
  case echo => exact fun dt syncId turn offset s₀ t1 => exec_ptimeEcho_open rfl rfl rfl

end Sys2Proof.Machine
end

section
/-!
PROOFS. What keeps a standby a copy of its active, and its health (spec/15_redundancy_and_upgrade.md, R394 to R402, R412).
-/
namespace Sys2Proof.Machine

/-- What a mirrored container that is complete leaves: the job stored, or the event that it was not (R399). -/
def mirrorDone (job : Nat) (s : State) : Except Status State → State
  | .ok t => checkJoin t
  | .error st => post evPairMirror unitPair job st.code s

/-- R394 step 3: what comes before the baseline is complete waits for it; afterwards nothing does. -/
theorem not_awaitsBaseline {s : State} (h : s.pair.st ≠ .joining ∨ 3 ≤ s.pair.joinStep) :
    (s.pair.st == .joining && decide (s.pair.joinStep < 3)) = false :=
  Bool.and_eq_false_iff.2 (h.imp beq_eq_false_iff_ne.2 fun hstep => decide_eq_false (Nat.not_lt.2 hstep))

section
variable {dt : Nat} {s₀ s t : State} (hs : advance dt s₀ = s)
include hs

/-! The baseline (R394). -/

section
variable (hst : s.pair.st = .joining)
include hst

theorem exec_baselineReceive_last {recordSeq : Nat} {crcOk : Bool} :
    exec (.baselineReceive dt (.last recordSeq crcOk)) s₀ = .next (endBaseline recordSeq crcOk s) := by
  change execBaselineReceive dt (.last recordSeq crcOk) s₀ = _
  simp only [execBaselineReceive, hs, hst, bne_self_eq_false, Bool.false_eq_true, if_false]

theorem exec_baselineReceive_part {part : BaselinePart} (hpart : ∀ n c, part ≠ .last n c) :
    exec (.baselineReceive dt part) s₀ = .next (takePart part s) := by
  change execBaselineReceive dt part s₀ = _
  simp only [execBaselineReceive, hs, hst, bne_self_eq_false, Bool.false_eq_true, if_false]

end

/-! Records, their acknowledgements and frame notes (R396, R397). -/

section
variable (ht : heardPair s = t)
include ht

section
variable (hcopies : t.copies = true)
include hcopies

section
variable {seq ring tag cmdSeq : Nat} {body : RecordBody} {status : Status}

theorem exec_recordReceive_applied (hjoined : t.pair.st ≠ .joining ∨ 3 ≤ t.pair.joinStep) :
    exec (.recordReceive dt seq ring tag cmdSeq body status) s₀ = .next (applyRecord seq ring tag cmdSeq body status t) := by
  change execRecordReceive dt seq ring tag cmdSeq body status s₀ = _
  simp only [execRecordReceive, hs, ht, hcopies, not_awaitsBaseline hjoined, Bool.not_true, Bool.false_eq_true, if_false]

theorem exec_recordReceive_early (hst : t.pair.st = .joining) (hstep : t.pair.joinStep < 3) :
    exec (.recordReceive dt seq ring tag cmdSeq body status) s₀ = .next (t.onPair fun p => { p with
      early := p.early ++ [.record seq ring tag cmdSeq body status] }) := by
  change execRecordReceive dt seq ring tag cmdSeq body status s₀ = _
  simp only [execRecordReceive, hs, ht, hcopies, hst, hstep, BEq.rfl, decide_true, Bool.and_self, Bool.not_true, Bool.false_eq_true,
    if_false, if_true]

end

theorem exec_framePacketReceive_applied {note : FrameNote} (hjoined : t.pair.st ≠ .joining ∨ 3 ≤ t.pair.joinStep) :
    exec (.framePacketReceive dt note) s₀ = .next (takeFrame note t) := by
  change execFramePacketReceive dt note s₀ = _
  simp only [execFramePacketReceive, hs, ht, hcopies, not_awaitsBaseline hjoined, Bool.not_true, Bool.false_eq_true, if_false]

/-- In steps 1 and 2 of a join a checkpoint is passed over; at any other it is taken (R398). -/
theorem exec_checkpointReceive_taken {ckpt : Checkpoint} {w : State} (hw : keepCkpt ckpt (alignWeb ckpt (adoptRest ckpt t)) = w)
    (hstep1 : t.pair.joinStep ≠ 1) (hstep2 : t.pair.joinStep ≠ 2) :
    exec (.checkpointReceive dt ckpt) s₀ = .next (rejoined (checkJoin (if w.pair.handover.isSome then w else adoptRun ckpt w))) := by
  change execCheckpointReceive dt ckpt s₀ = _
  simp only [execCheckpointReceive, hs, ht, hw, hcopies, beq_eq_false_iff_ne.2 hstep1, beq_eq_false_iff_ne.2 hstep2, Bool.not_true,
    Bool.or_self, Bool.false_eq_true, if_false]

end

theorem exec_healthReceive_leads {health : Health} (hleads : t.pair.st.leads = true) :
    exec (.healthReceive dt health) s₀ = .next (keepHealth { health with time := t.tb1 } t) := by
  change execHealthReceive dt health s₀ = _
  simp only [execHealthReceive, hs, ht, hleads, if_true]

end

theorem exec_recordAck {seq : Nat} {status : Status} : exec (.recordAck dt seq status) s₀ = .next (takeRecordAck seq (heardPair s)) := by
  subst hs
  rfl

/-- R394: after 1 ms nothing waits any longer. -/
theorem exec_recordAckTimeout_due {w : RecordWait} {ws : List RecordWait} (holdest : s.pair.waits = w :: ws)
    (hpassed : passed s w.since 1 1000 = true) : exec (.recordAckTimeout dt) s₀ = .next (sendPairHello (releaseWaits s)) := by
  change execRecordAckTimeout dt s₀ = _
  simp only [execRecordAckTimeout, hs, holdest, hpassed, if_true]

/-- A checkpoint that goes out within 100 us of its millisecond of TB3 is on time (R398). -/
theorem exec_checkpointSend_onTime (hmirrors : s.mirrors = true)
    (hdue : (s.pair.ckptSent * 1000).fdiv (2 ^ 32) < (s.tb3 * 1000).fdiv (2 ^ 32))
    (honTime : (s.tb3 * 10000).fdiv (2 ^ 32) - 10 * (s.tb3 * 1000).fdiv (2 ^ 32) < 1) :
    exec (.checkpointSend dt) s₀ = .next (sendCheckpoint s) := by
  change execCheckpointSend dt s₀ = _
  simp only [execCheckpointSend, hs, hmirrors, not_le.2 hdue, not_le.2 honTime, decide_false, Bool.not_true, Bool.or_self,
    Bool.false_eq_true, if_false]

/-! Mirrored jobs (R399). -/

section
variable {job : Nat} {bytes : List Byte} (hcopies : s.copies = true) (hnone : s.pair.mirror = none)
include hcopies hnone

theorem exec_mirrorReceive_first :
    exec (.mirrorReceive dt job bytes none) s₀ = .next (s.onPair fun p => { p with mirror := some (job, bytes) }) := by
  change execMirrorReceive dt job bytes none s₀ = _
  simp only [execMirrorReceive, hs, hcopies, hnone, List.nil_append, Bool.not_true, Bool.false_eq_true, if_false]

theorem exec_mirrorReceive_whole {crc : Nat} (ht : (s.onPair fun p => { p with mirror := none }) = t) :
    exec (.mirrorReceive dt job bytes (some crc)) s₀ = .next (mirrorDone job t (storeMirror job crc bytes t)) := by
  change execMirrorReceive dt job bytes (some crc) s₀ = _
  simp only [execMirrorReceive, hs, hcopies, hnone, ht, List.nil_append, Bool.not_true, Bool.false_eq_true, if_false]
  cases storeMirror job crc bytes t with
  | ok u => rfl
  | error st => rfl

end

/-! The self tests and the health (R400, R402). -/

section
variable (hst : s.pair.st = .standby)
include hst

-- A unit that is neither retired nor about to be, and is not the last of its round.
section
variable (hpower : s.thm.power = .p2) (hpassed : passed s s.pair.testAt 100 1000 = true)
  (hretired : s.isRetired (testUnits.getD s.pair.testTurn 0x0600) = false)
  (hdoomed : s.isDoomed (testUnits.getD s.pair.testTurn 0x0600) = false) (hturn : s.pair.testTurn + 1 < testUnits.length)
include hpower hpassed hretired hdoomed hturn

theorem exec_standbySelfTest_passes :
    exec (.standbySelfTest dt true) s₀ = .next (s.onPair fun p => { p with
      testAt := s.tb1, testTurn := p.testTurn + 1, testCycle := p.testCycle + 1 }) := by
  change execStandbySelfTest dt true s₀ = _
  simp only [execStandbySelfTest, State.onPair, hs, hst, hpower, hpassed, hretired, hdoomed, Nat.not_le.2 hturn, b2n, bne_self_eq_false,
    decide_false, Bool.not_true, Bool.not_false, Bool.and_self, Bool.or_self, Bool.or_false, Bool.false_eq_true, if_false, if_true]

theorem exec_standbySelfTest_fails :
    exec (.standbySelfTest dt false) s₀ = .next (testFailed (testUnits.getD s.pair.testTurn 0x0600) (s.onPair fun p => { p with
      testAt := s.tb1, testTurn := p.testTurn + 1 })) := by
  change execStandbySelfTest dt false s₀ = _
  simp only [execStandbySelfTest, State.onPair, hs, hst, hpower, hpassed, hretired, hdoomed, Nat.not_le.2 hturn, b2n, bne_self_eq_false,
    decide_false, Bool.not_true, Bool.not_false, Bool.false_and, Bool.or_self, Bool.false_eq_true, if_false, Nat.add_zero]

end

theorem exec_pairHealthEvaluate_due (ht : keepHealth (makeHealth s) (s.onPair fun p => { p with healthAt := s.tb1 }) = t)
    (hpassed : passed s s.pair.healthAt 10 1000 = true) :
    exec (.pairHealthEvaluate dt) s₀ = .next (settleReady (pairSend .ctrl 0x44 ((makeHealth s).result t.tb1 ++ (makeHealth s).block) t)) := by
  change execPairHealthEvaluate dt s₀ = _
  simp only [execPairHealthEvaluate, hs, hst, hpassed, ht, bne_self_eq_false, Bool.not_true, Bool.or_self, Bool.false_eq_true, if_false]

end

theorem exec_pairRejoinTimeout_due {id : CmdId} {limit : Int} (hrejoin : s.pair.rejoin = some (id, limit)) (hpassed : limit ≤ s.tb1) :
    exec (.pairRejoinTimeout dt) s₀ = .next (finish id (.err .timeout) (s.onPair fun p => { p with rejoin := none })) := by
  change execPairRejoinTimeout dt s₀ = _
  simp only [execPairRejoinTimeout, hs, hrejoin, hpassed, if_true]

end

/-- Settles O39: the baseline splits on its last part, a record on whether the baseline is complete, a mirrored job on whether it is
whole and a self test on its result; every other row acts where its condition holds. -/
theorem pairCopyRowsComplete : Obligations.PairCopyRowsComplete := by
  refine ⟨?baselineLast, ?baselinePart, ?record, ?recordEarly, ?ack, ?ackTimeout, ?frame, ?ckptSend, ?ckptReceive, ?mirrorFirst,
    ?mirrorWhole, ?testPasses, ?testFails, ?health, ?healthReceive, ?rejoinTimeout⟩
  case baselineLast =>
    rintro dt _ s₀ recordSeq crcOk s hst rfl
    exact exec_baselineReceive_last rfl hst
  case baselinePart => exact fun dt part s₀ hst => exec_baselineReceive_part rfl hst
  case record => exact fun dt seq ring tag cmdSeq body status s₀ hcopies => exec_recordReceive_applied rfl rfl hcopies
  case recordEarly => exact fun dt seq ring tag cmdSeq body status s₀ hcopies => exec_recordReceive_early rfl rfl hcopies
  case ack => exact fun dt seq status s₀ => exec_recordAck rfl
  case ackTimeout => exact fun dt s₀ w ws => exec_recordAckTimeout_due rfl
  case frame => exact fun dt note s₀ hcopies => exec_framePacketReceive_applied rfl rfl hcopies
  case ckptSend => exact fun dt s₀ => exec_checkpointSend_onTime rfl
  case ckptReceive => exact fun dt ckpt s₀ hcopies => exec_checkpointReceive_taken rfl rfl hcopies rfl
  case mirrorFirst =>
    rintro dt job bytes _ s₀ s hcopies hnone rfl
    exact exec_mirrorReceive_first rfl hcopies hnone
  case mirrorWhole =>
    rintro dt job bytes _ s₀ crc s w hcopies hnone rfl
    exact exec_mirrorReceive_whole rfl hcopies hnone rfl
  case testPasses =>
    rintro dt _ s₀ s hst hpower hpassed rfl hretired hdoomed hturn
    exact exec_standbySelfTest_passes rfl hst hpower hpassed hretired hdoomed hturn
  case testFails =>
    rintro dt _ s₀ s hst hpower hpassed rfl hretired hdoomed hturn
    exact exec_standbySelfTest_fails rfl hst hpower hpassed hretired hdoomed hturn
  case health => exact fun dt s₀ hst => exec_pairHealthEvaluate_due rfl hst rfl
  case healthReceive => exact fun dt health s₀ => exec_healthReceive_leads rfl rfl
  case rejoinTimeout => exact fun dt s₀ id t => exec_pairRejoinTimeout_due rfl

end Sys2Proof.Machine
end

section
/-!
PROOFS. The messages of a planned handover (spec/15_redundancy_and_upgrade.md, R408).
-/
namespace Sys2Proof.Machine

section
variable {dt : Nat} {s₀ s t : State} {h : Handover} (hs : advance dt s₀ = s)
include hs

section
variable (ht : heardPair s = t)
include ht

theorem exec_handoverReq_noRun {w : State} (hsynced : t.synced = true)
    (hw : setPower .p0 (t.onPair fun p => { p with handover := some { since := t.tb1, stepSince := t.tb1, step := 2 } }) = w)
    (hrun : w.fire.run = none) : exec (.handoverReq dt) s₀ = .next w := by
  change execHandoverReq dt s₀ = _
  simp only [execHandoverReq, hs, ht, hw, hsynced, hrun, Bool.not_true, Bool.false_eq_true, if_false]

/-- Without a run H is 0 (log 91), and without a command nothing becomes unabortable. -/
theorem exec_handoverReady_noRun {w : State} (hw : (t.onRun fun r => { r with handover := some 0 }) = w)
    (hhandover : t.pair.handover = some h) (hst : t.pair.st = .active) (hstep : h.step = 1) (hrun : t.fire.run = none)
    (hcmd : h.cmd = none) :
    exec (.handoverReady dt) s₀ = .next (pairSend .ctrl 0x48 (toLe 8 0)
      (w.onPair fun p => { p with handover := some { h with step := 3, stepSince := w.tb1, h := some 0 } })) := by
  change execHandoverReady dt s₀ = _
  simp only [execHandoverReady, hs, ht, hw, hhandover, hst, hstep, hrun, hcmd, bne_self_eq_false, ne_eq, not_true, decide_false,
    Bool.or_self, Bool.false_eq_true, if_false]

/-- The standby claims with PLANNED every course of the last checkpoint that is up. -/
theorem exec_handoverGo_standby {line : Nat} {k : Ckpt} (hhandover : t.pair.handover = some h) (hckpt : t.pair.ckpt = some k)
    (hst : t.pair.st = .standby) (hstep : h.step = 3) :
    exec (.handoverGo dt line) s₀ = .next
      ((k.epochs.foldl (fun s e => if (s.course e.1).up then sendClaim e.1 (e.2 + 1) (some line) false s else s)
        ((drivePairActive true (setPair .active (t.onPair fun p => { p with
          handover := some { h with step := 4, stepSince := t.tb1, h := some line }, joinStep := 0 }))).onThm
            fun x => { x with wantP2 := false })).onRun (Run.startAt line)) := by
  change execHandoverGo dt line s₀ = _
  simp only [execHandoverGo, hs, ht, hhandover, hckpt, hst, hstep, bne_self_eq_false, ne_eq, not_true, decide_false, Bool.or_self,
    Bool.false_eq_true, if_false]

end

section
variable (hhandover : s.pair.handover = some h)
include hhandover

theorem exec_handoverDone_oldActive (hst : s.pair.st = .active) (hstep : h.step = 3) (hrun : s.fire.run = none) :
    exec (.handoverDone dt) s₀ = .next (handoverEnds h s) := by
  change execHandoverDone dt s₀ = _
  simp only [execHandoverDone, hs, hhandover, hst, hstep, hrun, bne_self_eq_false, Bool.false_eq_true, if_false, if_true]

theorem exec_handoverDone_newActive (hst : s.pair.st = .active) (hstep : h.step = 4) :
    exec (.handoverDone dt) s₀ = .next (claimAll ((heardPair s).onPair fun p => { p with handover := none, peerState := .standby })) := by
  have hstep3 : ¬ h.step = 3 := by omega
  change execHandoverDone dt s₀ = _
  simp only [execHandoverDone, hs, hhandover, hst, if_neg hstep3, if_pos hstep, bne_self_eq_false, Bool.false_eq_true, if_false]

section
variable (hpassed : passed s h.stepSince 5 1 = true)
include hpassed

theorem exec_handoverTimeout_active (hst : s.pair.st = .active) (hstep : h.step = 1) :
    exec (.handoverTimeout dt) s₀ = .next (endHandover (.err .timeout 0x01F3) s) := by
  change execHandoverTimeout dt s₀ = _
  simp only [execHandoverTimeout, hs, hhandover, hpassed, hst, hstep, BEq.rfl, decide_true, Bool.and_self, Bool.not_true,
    Bool.false_eq_true, if_false, if_true]

theorem exec_handoverTimeout_standby (hst : s.pair.st = .standby) (hstep : h.step = 2 ∨ h.step = 3) :
    exec (.handoverTimeout dt) s₀ = .next (backToP2 (s.onPair fun p => { p with handover := none })) := by
  have hnotActive : (s.pair.st == .active) = false := beq_eq_false_iff_ne.2 (hst ▸ by decide)
  have hbeforeGo : (decide (h.step = 2) || decide (h.step = 3)) = true := by
    simpa only [Bool.or_eq_true, decide_eq_true_eq] using hstep
  change execHandoverTimeout dt s₀ = _
  simp only [execHandoverTimeout, hs, hhandover, hpassed, hnotActive, hbeforeGo, beq_iff_eq.2 hst, Bool.false_and, Bool.and_self,
    Bool.not_true, Bool.false_eq_true, if_false, if_true]

end

end

end

/-- Settles O40: DONE and the timeout split on the role of the device and its step; every other message acts where its condition holds.
The handover without a run, whose line is 0, is the model's reading (log 91). -/
theorem handoverRowsComplete : Obligations.HandoverRowsComplete := by
  refine ⟨?req, ?ready, ?go, ?doneOld, ?doneNew, ?timeoutActive, ?timeoutStandby⟩
  case req => exact fun dt s₀ hsynced => exec_handoverReq_noRun rfl rfl hsynced rfl
  case ready => exact fun dt s₀ h => exec_handoverReady_noRun rfl rfl rfl
  case go => exact fun dt line s₀ h k => exec_handoverGo_standby rfl rfl
  case doneOld => exact fun dt s₀ h => exec_handoverDone_oldActive rfl
  case doneNew => exact fun dt s₀ h => exec_handoverDone_newActive rfl
  case timeoutActive => exact fun dt s₀ h => exec_handoverTimeout_active rfl
  case timeoutStandby => exact fun dt s₀ h => exec_handoverTimeout_standby rfl

end Sys2Proof.Machine
end
